-- ==== Sys2Proof/Word.lean ====
section
/-! DEFINITION. The word types of the block: 32-bit registers (R9) and bytes. -/
namespace Sys2Proof

/-- A register or ticket word: 32 bits. -/
abbrev Word := BitVec 32

/-- A byte of a frame or of a message. -/
abbrev Byte := BitVec 8

end Sys2Proof
end

