-- ==== Sys2Proof/Syntax.lean ====
section
/-! DEFINITION. The commands of the block, one constructor per row of the table of operations and events, in its order.
The table gives the rows no operands and no bits; the operands are the model's (log 5): which port, lane, unit, channel or
slot, the word or the bytes that the boundary carries, and the memory errors that the step met. -/
namespace Sys2Proof

/-- The memory error that a step met, where its rule speaks of one. -/
inductive Ecc where
  /-- the access was clean -/
  | ok
  /-- a correctable error, corrected -/
  | corr
  /-- an uncorrectable error -/
  | uncorr
  deriving DecidableEq, Repr

/-- The five table access engines of R430. -/
inductive Engine where
  | cls | nreg | pol | tpg | spi
  deriving DecidableEq, Repr

/-- The three kinds of policer of R231. -/
inductive PolKind where
  | node | flow | port
  deriving DecidableEq, Repr

/-- The rail states of R361. -/
inductive Rail where
  | ok | fault | wire
  deriving DecidableEq, Repr

/-- A command. -/
inductive Instr where
  /-- R66: Power-on reset is asserted; the always-on domain and the core domain are reset. -/
  | porstNAssert
  /-- R66: Power-on reset is released; the always-on domain leaves reset, and the core domain follows if BLK_RST_N is already high. -/
  | porstNRelease
  /-- R66: Block reset is asserted; the core domain is reset and its outputs take their reset values. -/
  | blkRstNAssert
  /-- R66: Block reset is released; the core domain leaves reset 3 cycles later and the fuse read starts. -/
  | blkRstNRelease
  /-- R67: The fuse block acknowledges a word; Ocora takes FUSE_DATA and requests the next word, or checks the CRC after word 63. -/
  | fuseAck (data : Word)
  /-- R67: A fuse word is not acknowledged within 256 cycles; the read ends with FUSE_ERR 0b01. -/
  | fuseTimeout
  /-- R400: Memory initialisation finishes and MEM_INIT_DONE is set. -/
  | memInitDone
  /-- R48: A register slave write to a register that has no row of its own, including access checks and the ERROR response. -/
  | registerWrite (addr : Nat) (data : Word) (strobes : Nat)
  /-- R15: A write of zero clears a counter and re-arms its counter-saturated event. -/
  | counterClear (addr : Nat)
  /-- R16: A read of the low half of a 64-bit counter copies its high half into the shadow. -/
  | counterLowRead (addr : Nat)
  /-- R20: A received frame starts and its head cell is written, if the floor allows; the frame takes its version and parse graph. -/
  | rxFrameStart (p : Nat) (sfdOk : Bool) (bytes : List Byte)
  /-- R100: Byte MAX_FRAME + 1 arrives; Ocora stops writing the frame and frees its cells. -/
  | rxOversizeDetect (p : Nat) (bytes : List Byte)
  /-- R100: A reception reaches 16,384 bytes; it is treated as ended, counted as oversize and as a jabber event. -/
  | rxJabber (p : Nat) (rxErr : Bool)
  /-- R173: The parser walks the headers once 192 bytes have arrived or the frame has ended, and starts the lookups. -/
  | parseStart (p : Nat) (bytes : List Byte) (bad : List (Nat × Nat))
  /-- R21: A received frame ends; it is checked, and it is then bound, learned, policed and ticketed, diverted or discarded. -/
  | rxFrameEnd (p : Nat) (bytes : List Byte) (fcs : Word) (rxErr : Bool) (coll : Bool) (bad : List (Nat × Nat))
  /-- R112: A received MAC control frame is consumed and classified as PAUSE, PFC or other. -/
  | macControlFrame (p : Nat) (bytes : List Byte) (fcs : Word) (rxErr : Bool)
  /-- R114: The port's pause timer reaches zero and RX_PAUSED falls. -/
  | pauseTimerExpire (p : Nat)
  /-- R115: A class pause timer reaches zero and its RX_PFC_PAUSED bit falls. -/
  | pfcTimerExpire (t : Nat) (c : Nat)
  /-- R40: An ingress ticket is transferred to the switch core in a cycle with VALID and READY at 1. -/
  | itkTransfer (lane : Nat)
  /-- R44: An egress ticket is accepted into a lane's input buffer. -/
  | etkTransfer (lane : Nat) (w0 : Word) (w1 : Word) (w2 : Word) (w3 : Word)
  /-- R27: An egress ticket is checked, its queue is chosen, it is admitted and enqueued or rejected, and any release is applied. -/
  | egressTicketProcess (lane : Nat) (more : Bool)
  /-- R45: A release on the release interface takes one reference from the frame's count. -/
  | referenceRelease (lane : Nat) (head : Nat) (more : Bool)
  /-- R255: A port's scheduler chooses its next copy by strict band, then DRR and WFQ, and sets the virtual time. -/
  | schedChoose (p : Nat)
  /-- R31: A copy finishes transmission or is dropped; its reference is released and the counters are updated. -/
  | copyEnd (p : Nat) (ecc : Ecc)
  /-- R109: MAC_CFG.EN is written 1 and the trunk PCS starts to acquire lock. -/
  | trunkEnable (t : Nat)
  /-- R109: MAC_CFG.EN is written 0; the frame in transmission completes and a frame in reception is discarded. -/
  | trunkDisable (t : Nat)
  /-- R111: A write of MAC_CFG.LOOP changes the loopback at once. -/
  | loopbackChange (p : Nat) (loop : Nat)
  /-- R108: A trunk PCS gains or loses block lock and alignment, and LINK changes and raises the port source. -/
  | trunkLinkChange (t : Nat) (up : Bool)
  /-- R108: FLD_LINK of a lane changes; the field port's LINK follows it and the port source is raised. -/
  | fldLinkChange (lane : Nat) (up : Bool)
  /-- R107: An RS-FEC codeword at 100 Gb/s is counted as corrected or uncorrectable. -/
  | fecCodeword (t : Nat) (correctable : Bool)
  /-- R119: Half of TX_QUANTA passes while XOFF holds, and the PAUSE is sent again. -/
  | pauseRefresh (t : Nat) (mask : Nat)
  /-- R120: A write of MAC_FC_FORCE.GO sends one forced PAUSE or PFC frame. -/
  | fcForce (p : Nat) (w : Word)
  /-- R117: A held generated MAC control frame is sent at the next frame boundary at which the port can send. -/
  | macControlTx (p : Nat)
  /-- R122: The idle time passes with nothing eligible; the transmitter enters low-power idle. -/
  | lpiEnter (p : Nat)
  /-- R122: A copy becomes eligible or a control frame falls due; the transmitter leaves low-power idle and starts the wake time. -/
  | lpiExit (p : Nat)
  /-- R122: The wake time TW_TX ends and the waiting frame may start. -/
  | lpiWakeEnd (p : Nat)
  /-- R124: Received low-power idle sets RX_LPI and is counted. -/
  | rxLpiEnter (p : Nat)
  /-- R131: SEG_CFG.EN is written 1; the port leaves DISABLED once LINK is 1. -/
  | fieldPortEnable (p : Nat)
  /-- R132: SEG_CFG.EN is written 0; the transmission completes, the candidate returns and the port becomes DISABLED. -/
  | fieldPortDisable (p : Nat)
  /-- R146: SERVICE is written 1 and the port moves towards segment service mode. -/
  | serviceRequest (p : Nat)
  /-- R146: SERVICE is written 0 and the port moves towards NORMAL. -/
  | serviceRelease (p : Nat)
  /-- R146: The medium has been quiet for 2,048 bit times in TO_SERVICE; the port enters SERVICE with FORCED 0. -/
  | serviceQuiet (p : Nat)
  /-- R146: 65,536 bit times pass in TO_SERVICE; the port enters SERVICE with FORCED 1. -/
  | serviceForced (p : Nat)
  /-- R146: SEG_STATUS.BABBLE is cleared; a quarantined port with SERVICE 0 returns to NORMAL. -/
  | babbleClear (p : Nat)
  /-- R134: Carrier has been absent for 96 bit times and the candidate fits its window; a transmission attempt starts. -/
  | csmaAttempt (p : Nat) (waited : Bool)
  /-- R134: A collision on a transmission sends jam, and the copy is ended or backs off. -/
  | csmaCollision (p : Nat) (late : Bool)
  /-- R134: The back-off slots run out and the copy defers again. -/
  | backoffExpire (p : Nat)
  /-- R137: Ocora sends a BEACON and starts a new PLCA cycle. -/
  | plcaBeacon (p : Nat)
  /-- R139: Opportunity 0 starts; Ocora sends its eligible candidate or returns it. -/
  | plcaOwnOpportunity (p : Nat)
  /-- R137: An empty opportunity's timer expires and the next opportunity begins. -/
  | plcaToTimerExpire (p : Nat)
  /-- R140: Carrier rises in an opportunity and the reception is bound to cur_id. -/
  | plcaCarrierRise (p : Nat)
  /-- R137: Carrier has been absent for 96 bit times after a transmission and the opportunity ends. -/
  | plcaOppEnd (p : Nat)
  /-- R139: BURST_TIMER runs out before the next burst frame; COMMIT is dropped and the burst ends. -/
  | burstTimerExpire (p : Nat)
  /-- R143: A BEACON that Ocora did not send is heard; it is counted as a violation. -/
  | foreignBeacon (p : Nat)
  /-- R144: A babble window expires without reaching THRESH and ends. -/
  | babbleWindowExpire (p : Nat)
  /-- R141: The scheduler fills an empty candidate slot of a field port. -/
  | candidateFill (p : Nat)
  /-- R262: A candidate is returned and replaced by an eligible copy of a higher strict class. -/
  | candidateReplace (p : Nat)
  /-- R159: The DISCOVER period expires, or discovery starts, and a DISCOVER is sent. -/
  | extDiscover (e : Nat)
  /-- R159: JOIN_EN is written 1 and the slot begins discovery when its trunk is up. -/
  | extJoinEnable (e : Nat)
  /-- R159: JOIN_EN is written 0; the slot returns to IDLE, sending LEAVE and losing the extender if it was JOINED. -/
  | extJoinDisable (e : Nat)
  /-- R159: A HELLO is received; a slot accepts it, negotiates a version and sends CHALLENGE, or refuses it. -/
  | extHello (t : Nat) (frame : List Byte)
  /-- R160: A RESPONSE is received; a correct RESP_W joins the extender, a wrong one returns the slot to discovery. -/
  | extResponse (t : Nat) (frame : List Byte)
  /-- R159: No RESPONSE arrives within 100 ms and the slot returns to DISCOVERING. -/
  | extChallengeTimeout (e : Nat)
  /-- R159: The 1 s during which HELLOs from a failed unit are ignored ends. -/
  | extHelloHoldoffExpire (unit : Nat)
  /-- R159: A LEAVE is received from a JOINED extender; the extender is lost. -/
  | extLeave (t : Nat) (frame : List Byte)
  /-- R165: The poll interval expires; a POLL is sent and a miss is counted if the REPORTs did not arrive. -/
  | extPoll (e : Nat)
  /-- R166: A REPORT is received; its status records update port status and counters. -/
  | extReport (t : Nat) (frame : List Byte)
  /-- R165: A version 3 EVENT applies its status record at once. -/
  | extEvent (t : Nat) (frame : List Byte)
  /-- R165: EXT_PUSH.GO starts a configuration push, or queues one if a push is in progress. -/
  | extPushGo (e : Nat)
  /-- R165: A CONFIG_ACK ends the push as acknowledged or failed. -/
  | extConfigAck (t : Nat) (frame : List Byte)
  /-- R165: PUSH_TIMEOUT passes without a CONFIG_ACK; the CONFIG is resent, or the push fails after the last retry. -/
  | extPushTimeout (e : Nat)
  /-- R168: A CREDIT message adds bytes to each port's credit, up to BUF_BYTES. -/
  | extCredit (t : Nat) (frame : List Byte)
  /-- R394: An extender's PODL_REQ message requests or withdraws power for a segment. -/
  | extPodlReq (t : Nat) (frame : List Byte)
  /-- R263: At an extender trunk's frame boundary, one copy is served by round robin among the trunk and its extended ports. -/
  | extTrunkRoundRobin (t : Nat)
  /-- R201: A staged add of a flow or prefix entry is placed in the staging version. -/
  | clsStageAdd (ecc : Ecc)
  /-- R201: A staged delete frees or marks an entry in the staging version. -/
  | clsStageDel (ecc : Ecc)
  /-- R201: A staged write sets the staging copy of a port entry, profile or policer profile. -/
  | clsStageWrite (ecc : Ecc)
  /-- R207: A classifier table entry is read into DATA. -/
  | clsRead (ecc : Ecc)
  /-- R207: A key is looked up as a frame of VIEW would be, and the hit is returned. -/
  | clsSearch (ecc : Ecc)
  /-- R431: A table access engine command ends; BUSY falls and RESULT, POS and DATA are written. -/
  | taeCommandDone (engine : Engine)
  /-- R203: A COMMIT write starts the classifier commit, or waits for the drain. -/
  | clsCommit
  /-- R204: An ABORT write discards the staging, or sets ABORT_LATE if the switch has taken place. -/
  | clsAbort
  /-- R203: The switch cycle makes the staging version active and starts draining the old one. -/
  | clsCommitSwitch
  /-- R203: An uncorrectable error in staged data before the switch cycle fails the commit. -/
  | clsCommitEcc
  /-- R203: The draining version's last in-flight frame leaves and cleanup begins. -/
  | clsDrainEmpty
  /-- R203: The cleanup walk ends and the old version is retired; a waiting commit proceeds. -/
  | clsCleanupEnd
  /-- R203: The discard walk ends and DONE rises with ABORTED or FAILED. -/
  | clsDiscardEnd
  /-- R206: A drain lasts LIMIT µs; FIRED is set and the commit source is raised. -/
  | clsDrainWarn
  /-- R220: The sweeper visits a node context, clears HIT, sets SEEN or removes the node. -/
  | ageingVisit (ecc : Ecc)
  /-- R222: A write of NREG_AGE.PERIOD stops, restarts or re-times the sweeper. -/
  | nregAgeWrite (w : Word)
  /-- R225: Software inserts a node into a context. -/
  | nregInsert (ecc : Ecc)
  /-- R225: Software deletes a node, with reason DELETED. -/
  | nregDelete (ecc : Ecc)
  /-- R225: Software writes PIN and the configuration words of a registered node. -/
  | nregWriteCfg (ecc : Ecc)
  /-- R225: A node context or its counters are read into DATA. -/
  | nregRead (ecc : Ecc)
  /-- R225: The node index registered with an address on a port is found. -/
  | nregSearch (ecc : Ecc)
  /-- R225: The four counters of a node are cleared together. -/
  | nregClear (ecc : Ecc)
  /-- R235: The refresher refills a policer with no frame, once every 60 s. -/
  | policerRefresh (kind : PolKind) (idx : Nat) (ecc : Ecc)
  /-- R240: A write of POL_PORT_CFG that changes PROFILE or raises EN resets the port policer. -/
  | polPortCfgWrite (n : Nat) (w : Word)
  /-- R248: Flow or port policer state is read into DATA. -/
  | polRead (ecc : Ecc)
  /-- R240: A POL_TAE RESET command resets a flow or port policer. -/
  | polReset (ecc : Ecc)
  /-- R246: The adaptive loop period ends and α of each adaptive class is stepped. -/
  | domeLoopTick
  /-- R246: A write of DOME_CLASS_CUR sets α, clamped to the class's bounds. -/
  | domeAlphaWrite (k : Nat) (w : Word)
  /-- R260: At the port's next frame boundary, pending shaper writes take effect and the credit is reset. -/
  | shaperConfigApply (p : Nat)
  /-- R261: A node queue moves to its new class once it holds no copy. -/
  | nodeQueueClassMove (i : Nat)
  /-- R264: A write of OCU_CTRL starts or stops the sweep and watch engines. -/
  | ocuCtrlWrite (w : Word)
  /-- R264: The sweep samples the next queues and updates the maxima, histograms and stream. -/
  | ocuSweepSample
  /-- R264: The watch samples a watch-list entry and updates its records. -/
  | ocuWatchSample
  /-- R270: A write of OCU_WATCH clears the entry's maxima and last delay. -/
  | ocuWatchWrite (v : Nat) (w : Word)
  /-- R273: The low half of TIME_INCR is held. -/
  | tpgIncrLoWrite (w : Word)
  /-- R273: Both halves are taken into TIME_INCR together, or the pair is discarded. -/
  | tpgIncrHiWrite (w : Word)
  /-- R274: A read of TPG_TIME_FRAC copies SEC and NS into the shadows. -/
  | tpgTimeFracRead
  /-- R275: SET loads the time base, and the loops and gate lists follow the step. -/
  | timeSet (bad : List Nat)
  /-- R275: ADJ adds a signed nanosecond step to the time base. -/
  | timeAdj (bad : List Nat)
  /-- R276: A clock comparison count starts or restarts. -/
  | clkcmpGo (w : Word)
  /-- R276: The comparison window ends; COUNT is written and DONE is set. -/
  | clkcmpDone (count : Word)
  /-- R57: A rising edge on a phase input is timestamped, or rejected as a glitch. -/
  | phrefEdge (a : Nat) (bad : List Nat)
  /-- R280: The angle passes a half cycle without an edge; the source moves towards HOLDOVER, LOST or ACQUIRE. -/
  | phaseMiss (a : Nat)
  /-- R280: TPG_PH_CFG.EN is written 1 and the source enters ACQUIRE. -/
  | phaseEnable (a : Nat)
  /-- R280: TPG_PH_CFG.EN is written 0 and the source enters OFF. -/
  | phaseDisable (a : Nat)
  /-- R298: A read of TPG_PH_STATUS copies the cycle count into the TPG_PH_CYCLES shadow. -/
  | phStatusRead (a : Nat)
  /-- R287: EN written 1 validates the admin list and schedules its start. -/
  | gclStart (n : Nat) (bad : List Nat)
  /-- R287: EN written 0 stops the list, opens every gate and drops a pending change. -/
  | gclStop (n : Nat)
  /-- R287: CHANGE validates and snapshots the admin list for a change at T. -/
  | gclChange (n : Nat)
  /-- R287: Time T is reached; the admin list becomes operating at entry 0 and TPG_GCL_DONE is set. -/
  | gclListStart (n : Nat) (bad : List Nat)
  /-- R285: A list reaches an entry boundary and applies the entry's GATES. -/
  | gclEntryBoundary (n : Nat) (ecc : Ecc)
  /-- R289: At the locked source's first whole-cycle crossing, the list leaves fallback at entry 0. -/
  | gclFallbackExit (n : Nat) (bad : List Nat)
  /-- R300: A gate control memory entry is written, or refused as IN_USE. -/
  | tpgWriteEntry (ecc : Ecc)
  /-- R300: A gate control memory entry is read. -/
  | tpgReadEntry (ecc : Ecc)
  /-- R306: At byte 32 plus the match time, the Spire claims the egress trunk or falls back. -/
  | spireDecision (t : Nat) (bad : List Nat)
  /-- R307: A cut-through frame ends, with its FCS inverted if the reception was bad. -/
  | spireCutEnd (t : Nat) (bytes : List Byte) (fcs : Word) (rxErr : Bool)
  /-- R308: A fallback frame ends and is enqueued green in the egress class queue. -/
  | spireFallbackEnd (t : Nat) (bytes : List Byte) (fcs : Word) (rxErr : Bool)
  /-- R310: An express table entry is written. -/
  | spiWriteEntry (ecc : Ecc)
  /-- R310: An express table entry is read. -/
  | spiReadEntry (ecc : Ecc)
  /-- R46: The fabric returns a request credit or a write-data credit. -/
  | fabricCredit (m : Nat) (wd : Bool)
  /-- R46: A read-data beat or write completion arrives with its tag and status. -/
  | fabricCompletion (m : Nat) (tag : Nat) (data : List Byte) (err : Bool)
  /-- R47: A transaction is not complete 1,048,576 cycles after its request and is a bus error. -/
  | fabricTimeout (m : Nat) (tag : Nat)
  /-- R329: No transaction remains outstanding after the halt, and QUIESCED is set. -/
  | dmaQuiesced
  /-- R330: CLEAR completes the interrupted descriptors as ABORTED and moves the channels to STOPPED. -/
  | dmaClear
  /-- R319: DMA_CH_CFG.EN is written 1 and the channel moves from OFF to IDLE. -/
  | dmaChannelEnable (c : Nat)
  /-- R319: DMA_CH_CFG.EN is written 0 and an idle or stopped channel moves to OFF. -/
  | dmaChannelDisable (c : Nat)
  /-- R319: DOORBELL starts the channel's run or sets DB_PEND. -/
  | dmaDoorbell (c : Nat)
  /-- R324: STOP asks the channel to stop at the next descriptor boundary. -/
  | dmaStop (c : Nat)
  /-- R324: A stopping channel reaches a boundary, enters STOPPED and records STOP_STATUS. -/
  | dmaStopped (c : Nat)
  /-- R320: A descriptor read arrives and is used, set aside, or ends the chain. -/
  | dmaDescriptorFetch (c : Nat) (n : Nat)
  /-- R321: A descriptor completes; its status and OWN are written, IDX advances and LIMIT is checked. -/
  | dmaDescriptorComplete (c : Nat)
  /-- R326: The paced queue's fill crosses a watermark and the channel is held. -/
  | dmaPaceHold (c : Nat)
  /-- R326: The paced queue's fill crosses the other watermark and the hold ends. -/
  | dmaPaceRelease (c : Nat)
  /-- R326: PACE_TIMEOUT ends a batch hold. -/
  | dmaPaceTimeout (c : Nat)
  /-- R335: STREAM_FLUSH µs after its first record, a stream descriptor completes. -/
  | dmaStreamFlush (c : Nat)
  /-- R333: A waiting host-queue frame is delivered into an owned HOST_RX descriptor. -/
  | hostRxDeliver (c : Nat) (ecc : Ecc)
  /-- R334: The free count rises above the floor and a waiting inject descriptor gathers its data and forms its ticket. -/
  | injectFloorClear (c : Nat)
  /-- R345: A descriptor waiting for a claimed check unit begins once the unit is free. -/
  | chkUnitClaim (c : Nat)
  /-- R349: A source event is counted towards a batch, and the source becomes pending when the batch ends. -/
  | belSourceEvent (s : Nat)
  /-- R350: The input of a level source changes and its pending state follows. -/
  | belLevelChange (s : Nat) (level : Bool)
  /-- R54: FLD_PHY_INT_N of a lane changes and drives its level-sensed Belfry source. -/
  | phyIntChange (lane : Nat) (level : Bool)
  /-- R349: A coalescing timer expires and the batch becomes pending. -/
  | belBatchTimer (s : Nat)
  /-- R355: The core takes the presented vector; it is pushed onto the stack and claimed. -/
  | vecTaken (t : Nat)
  /-- R356: An end-of-interrupt pops the stack, or is out of order and raises STACK_ORDER. -/
  | belEoi (t : Nat) (w : Word)
  /-- R359: A write of BEL_SWI raises one event of each selected software source. -/
  | belSwi (w : Word)
  /-- R353: A write of BEL_SRC_CFG changes the sense, targets or priority and clears pending state as stated. -/
  | belSrcCfgWrite (s : Nat) (w : Word)
  /-- R353: A W1C write clears pending bits of a source. -/
  | belPendClear (s : Nat) (w : Word)
  /-- R364: A fault source's rail leaves OK and fires as a leading, merged or shadowed firing. -/
  | faultCapture (i : Nat) (wire : Bool) (syn : Word)
  /-- R371: A block reset's 64 cycles end and the block runs its recovery. -/
  | blockResetRelease (b : Nat)
  /-- R372: A reset shadow ends and sources not OK fire again. -/
  | resetShadowEnd (b : Nat)
  /-- R366: A fault episode ends and a new leading fault becomes possible. -/
  | episodeEnd
  /-- R59: BLK_RST_N has been low for 16 cycles after the latest request and CHIP_RST_REQ falls. -/
  | chipRstReqRelease
  /-- R383: No CORE_CLK edge is seen for 64 cycles and fault source 0 fires. -/
  | coreClkStop
  /-- R372: Software clears DOME_HOLD and the ticket interfaces resume. -/
  | domeHoldClear (w : Word)
  /-- R368: Software ends a fault's interrupt reaction by writing 1 to IRQ. -/
  | fltIrqClear (i : Nat)
  /-- R369: Software clears a trap bit in FLT_NMT.PEND. -/
  | nmtClear (mask : Nat)
  /-- R365: Clearing FLT_FIRST_SRC.VALID re-arms the first-error record. -/
  | firstErrorClear
  /-- R370: Clearing FIRED zeroes the source's FIRE_CNT. -/
  | firedClear (i : Nat)
  /-- R374: ARM with the key starts the Lantern toggling, or is rejected. -/
  | lanternArm (key : Nat)
  /-- R374: STOP with the key stops a running Lantern. -/
  | lanternStop (key : Nat)
  /-- R375: PIN_HOLD is cleared with its key. -/
  | pinHoldClear (w : Word)
  /-- R376: Fault injection is armed for the next matching memory write. -/
  | fltInjArm (w : Word)
  /-- R378: A queued event record is written into the log ring, overwriting or dropping as stated. -/
  | logRecordWrite
  /-- R381: The log freezes after a severity-3 record or a software FREEZE. -/
  | logFreeze
  /-- R381: UNFREEZE ends a freeze. -/
  | logUnfreeze
  /-- R382: A write of LOG_ACC_IDX starts reading a record. -/
  | logAccIdxWrite (w : Word)
  /-- R382: The record is in LOG_ACC_DATA and READY rises. -/
  | logAccessReady
  /-- R63: A maintenance read frame reads an always-on register at clock 32 and shifts out the data and status. -/
  | maintRead (wordAddr : Nat)
  /-- R63: A maintenance write frame writes an always-on register at clock 64. -/
  | maintWrite (wordAddr : Nat) (data : Word)
  /-- R61: A maintenance frame with an unknown opcode does nothing and returns BAD_OP. -/
  | maintBadOp (op : Nat)
  /-- R63: MAINT_SEL_N rises before clock 80 and the frame is cut short. -/
  | maintFrameCut (op : Nat) (wordAddr : Nat) (data : Word) (clock : Nat)
  /-- R64: MNT_RST_REQ.CHIP with the key raises the chip reset request. -/
  | mntChipReset (key : Nat)
  /-- R64: MNT_RST_REQ.BLOCK_GO with the key resets the named block, or is refused. -/
  | mntBlockReset (key : Nat) (block : Nat)
  /-- R389: At each epoch boundary, activity credits are granted to the background engines. -/
  | epochGrant
  /-- R392: The voltage loop period ends and REQ is stepped from the least margin. -/
  | avsPeriod (m : Nat)
  /-- R393: A margin sample below CRIT raises REQ and starts an emergency. -/
  | avsEmergency (m : Nat)
  /-- R56: A PODL_REQ value has been stable for 1 µs and becomes a request or withdrawal. -/
  | podlReqStable (lane : Nat) (valid : Bool) (cls : Nat)
  /-- R395: The 1 ms PoDL tick releases, revokes and grants power under the budget. -/
  | podlTick
  /-- R402: A keyed WRITE stores SES_KEY_DATA in the slot and closes its sessions. -/
  | keyWrite (slot : Nat) (key : Nat)
  /-- R402: A keyed ERASE zeroes the slot and closes its sessions. -/
  | keyErase (slot : Nat) (key : Nat)
  /-- R402: A keyed LOCK refuses later writes and erases of the slot. -/
  | keyLock (slot : Nat) (key : Nat)
  /-- R406: KEEP_CTRL.GO starts Keep production, or is rejected if the producer is busy. -/
  | keepGo
  /-- R406: The Keep period expires and production starts, or is skipped. -/
  | keepPeriod
  /-- R408: A Keep image is complete; DONE, KEEP_LEN and KEEP_SEQ are updated. -/
  | keepProductionEnd
  /-- R408: Production has waited OUT_TIMEOUT ms and is abandoned with OUT_STALL. -/
  | keepOutTimeout
  /-- R409: KEEP_CTRL.LOAD starts loading a Keep image, or is refused with STATE. -/
  | keepLoad
  /-- R410: The 64 header bytes have arrived and are checked. -/
  | keepHeaderCheck
  /-- R410: CRC and TAG pass; the held sections are applied and the staging version is committed. -/
  | keepLoadApply
  /-- R424: KEEP_CTRL.ABORT abandons the production or load in progress. -/
  | keepAbort
  /-- R414: KEEP_MIR_CFG.EN starts mirror mode, or it is refused. -/
  | mirrorEnable (w : Word)
  /-- R412: A mirror cycle ends; the active partner sends a delta set, and missed cycles are counted. -/
  | mirrorCycle
  /-- R412: The standby receives CYCLE_END, applies the set whole and answers ACK. -/
  | mirrorCycleEnd (t : Nat) (frame : List Byte)
  /-- R414: The active partner receives an ACK for a set. -/
  | mirrorAck (t : Nat) (frame : List Byte)
  /-- R414: A full Keep image is sent or loaded as RESYNC. -/
  | mirrorResync (t : Nat) (frame : List Byte)
  /-- R414: A partner's mirror HELLO is received. -/
  | mirrorHello (t : Nat) (frame : List Byte)
  /-- R417: An OPEN allocates a session and sends CHALLENGE, or is rejected. -/
  | sesOpen (t : Nat) (frame : List Byte)
  /-- R417: A PROOF opens the session with ACCEPT, or fails it and may lock out the slot. -/
  | sesProof (t : Nat) (frame : List Byte)
  /-- R417: No PROOF arrives within 1 s and the session returns to FREE. -/
  | sesChallengeTimeout (i : Nat)
  /-- R417: A slot's lock-out time ends. -/
  | sesLockoutExpire (slot : Nat)
  /-- R419: A session is idle for IDLE s and closes. -/
  | sesIdleTimeout (i : Nat)
  /-- R419: A CLOSE command closes the session. -/
  | sesClose (t : Nat) (frame : List Byte)
  /-- R421: A session READ reads registers through its windows, or is DENIED. -/
  | sesRead (t : Nat) (frame : List Byte)
  /-- R421: A session WRITE writes registers through its windows, or is DENIED. -/
  | sesWrite (t : Nat) (frame : List Byte)
  /-- R435: A session TAE command drives CLS_TAE, or answers BUSY. -/
  | sesTae (t : Nat) (frame : List Byte)
  /-- R420: A session COMMIT starts the classifier commit. -/
  | sesCommit (t : Nat) (frame : List Byte)
  /-- R420: A session ABORT aborts the classifier staging. -/
  | sesAbort (t : Nat) (frame : List Byte)
  /-- R420: A KEEP_FETCH starts production or returns the next image bytes. -/
  | sesKeepFetch (t : Nat) (frame : List Byte)
  /-- R420: A session begins a structure image load. -/
  | sesStiStart (t : Nat) (frame : List Byte)
  /-- R420: A session loads structure image words. -/
  | sesStiData (t : Nat) (frame : List Byte)
  /-- R420: A session starts structure image validation. -/
  | sesStiValidate (t : Nat) (frame : List Byte)
  /-- R420: A session starts the structure commit. -/
  | sesStiCommit (t : Nat) (frame : List Byte)
  /-- R420: A session aborts the structure image path. -/
  | sesStiAbort (t : Nat) (frame : List Byte)
  /-- R420: When BUSY falls or DONE rises, the waiting command's response is sent. -/
  | sesDeferredResponse (i : Nat)
  /-- R87: LOAD_START discards the staging and begins a new load. -/
  | stiLoadStart
  /-- R87: An image word is stored, or discarded with OVERRUN. -/
  | stiLoadData (w : Word)
  /-- R87: VALIDATE starts validation of the loaded image. -/
  | stiValidate
  /-- R85: Validation ends, passing to VALID or failing with a code and offset. -/
  | stiValidationEnd (ecc : Ecc)
  /-- R89: COMMIT starts the structure commit, or refuses it after a failed live-commit check. -/
  | stiCommit
  /-- R90: The switch cycle replaces the running structure and makes the commit writes. -/
  | stiCommitSwitch
  /-- R87: An uncorrectable error before the switch cycle fails the commit. -/
  | stiCommitEcc
  /-- R87: ABORT discards the staging and returns the path to IDLE. -/
  | stiAbort
  /-- R371: CORE_CLK starts running again after a stop, so a block reset that was waiting for it proceeds and the always-on domain's view of the core clock recovers. -/
  | coreClkReturn
  /-- R65: PTP_REFCLK stops, the always-on domain stops with it, the Lantern stops toggling and the guarantees of R37 lapse. -/
  | ptpRefclkStop
  /-- R65: PTP_REFCLK runs again and the always-on domain resumes its operation. -/
  | ptpRefclkReturn
  /-- R374: A half period of HALF PTP_REFCLK cycles ends and a running Lantern toggles LANTERN_OUT, taking any new HALF from that edge. -/
  | lanternHalfPeriod
  /-- R360: A fault source's filtered rail state returns to OK, or changes between FAULT and WIRE, without firing, and FLT_SRC_STATUS.RAIL follows it. -/
  | railStateChange (i : Nat) (st : Rail)
  /-- R414: KEEP_MIR_CFG.EN is written 0, and mirror mode stops with STATE OFF, as in a standby's fail-over after LOST. -/
  | mirrorDisable
  /-- R412: The standby receives a NODE_DELTA, JOURNAL or TIME mirror frame and holds it as part of the current set until CYCLE_END. -/
  | mirrorDeltaReceive (t : Nat) (frame : List Byte)
  deriving DecidableEq, Repr

end Sys2Proof
end

