-- ==== Sys2Proof/Config.lean ====
section
/-! DEFINITION. What the silicon fixes (R3 to R7) and the values that the manual leaves open: opaque constants, so that no
proof can see what they are. -/
namespace Sys2Proof.Config

/-- Cells of the Dome (R5). -/
def domeCells : Nat := 131072

/-- Free value number `n`: a value that the manual leaves open, unknown and fixed for each `n` (log 1). -/
opaque freeNat : Nat → Nat

/-- The factory calibration value that the fuse words give to calibration slot `k`: the fuse layout is not in the manual
(R277 names the values, not their places), log 8. -/
opaque factoryCal : List Word → Nat → Nat

end Sys2Proof.Config
end

