-- ==== Sys2Proof/Machine/Bits.lean ====
section
/-! DEFINITION. Helpers that the rest of the machine is written with: bit fields of numbers, bytes in either order, and
sparse tables in one canonical form. -/
namespace Sys2Proof.Machine

/-- Bits `hi` down to `lo` of a number. -/
def bits (n hi lo : Nat) : Nat := (n >>> lo) % 2 ^ (hi + 1 - lo)

/-- Bit `i` of a number. -/
def bit (n i : Nat) : Bool := n.testBit i

/-- A number with bit `i` set. -/
def orBit (n i : Nat) : Nat := n ||| (1 <<< i)

/-- A number with bit `i` clear. -/
def clrBit (n i : Nat) : Nat := if n.testBit i then n ^^^ (1 <<< i) else n

/-- One or zero. -/
def b2n (b : Bool) : Nat := if b then 1 else 0

/-- The bits of `a` that are clear in `m`. -/
def andNot (a m : Nat) : Nat := a ^^^ (a &&& m)

/-- The number of ones among the low `k` bits. -/
def popcount : Nat → Nat → Nat
  | 0, _ => 0
  | k + 1, n => popcount k n + b2n (n.testBit k)

/-- The indexes of the ones among the low `k` bits, rising. -/
def bitList (k n : Nat) : List Nat := (List.range k).filter fun i => n.testBit i

/-- Ceiling of a quotient. -/
def ceilDiv (a b : Nat) : Nat := (a + b - 1) / b

/-- A word from a number, its low 32 bits. -/
def word (n : Nat) : Word := BitVec.ofNat 32 n

/-- A byte from a number, its low 8 bits. -/
def byte (n : Nat) : Byte := BitVec.ofNat 8 n

/-- Bits `hi` down to `lo` of a word. -/
def wbits (w : Word) (hi lo : Nat) : Nat := bits w.toNat hi lo

/-- Bit `i` of a word. -/
def wbit (w : Word) (i : Nat) : Bool := w.toNat.testBit i

/-- The number that bytes give, most significant first. -/
def beNat (l : List Byte) : Nat := l.foldl (fun a b => a * 256 + b.toNat) 0

/-- The number that bytes give, least significant first. -/
def leNat (l : List Byte) : Nat := l.foldr (fun b a => a * 256 + b.toNat) 0

/-- `k` bytes of a number, least significant first. -/
def leBytes : Nat → Nat → List Byte
  | 0, _ => []
  | k + 1, n => byte n :: leBytes k (n / 256)

/-- `k` bytes of a number, most significant first. -/
def beBytes (k n : Nat) : List Byte := (leBytes k n).reverse

/-- `len` bytes at offset `off`. -/
def slice {α : Type} (l : List α) (off len : Nat) : List α := (l.drop off).take len

/-- The number in the `k` bytes at offset `off`, most significant first. -/
def beAt (l : List Byte) (off k : Nat) : Nat := beNat (slice l off k)

/-- The number in the `k` bytes at offset `off`, least significant first. -/
def leAt (l : List Byte) (off k : Nat) : Nat := leNat (slice l off k)

/-- The bytes with those at `off` replaced. -/
def splice {α : Type} (l : List α) (off : Nat) (new : List α) : List α :=
  l.take off ++ new ++ l.drop (off + new.length)

/-- Bytes cut into words, least significant byte first (R17). -/
def wordsOf (l : List Byte) : List Word :=
  (List.range (ceilDiv l.length 4)).map fun i => word (leAt l (4 * i) 4)

/-- Words laid out as bytes, least significant byte first (R17). -/
def bytesOf (l : List Word) : List Byte := l.flatMap fun w => leBytes 4 w.toNat

/-- The number that words give, first word least significant. -/
def wordsNat (l : List Word) : Nat := l.foldr (fun w a => a * 2 ^ 32 + w.toNat) 0

/-- `k` words of a number, first word least significant. -/
def natWords (k n : Nat) : List Word := (List.range k).map fun i => word (n >>> (32 * i))

/-- An entry of a list, or a default past its end. -/
def nth {α : Type} (l : List α) (i : Nat) (d : α) : α := l.getD i d

/-- Bytes padded with zeros to a length. -/
def padTo (n : Nat) (l : List Byte) : List Byte := l ++ List.replicate (n - l.length) 0

/-- `n` put into a list before the first element that it precedes. -/
def insertBy (before : Nat → Nat → Bool) (n : Nat) : List Nat → List Nat
  | [] => [n]
  | m :: t => if before n m then n :: m :: t else m :: insertBy before n t

/-- A list sorted by a relation, equals in their order. -/
def sortBy (before : Nat → Nat → Bool) (l : List Nat) : List Nat := l.foldl (fun a n => insertBy before n a) []

/-! Sparse tables: a list of keys and entries, the keys strictly rising; a key that is not listed has its default entry,
and no listed entry equals it. -/

/-- The listed entry of a key. -/
def tfind {α : Type} : List (Nat × α) → Nat → Option α
  | [], _ => none
  | (j, v) :: t, k => if j = k then some v else tfind t k

/-- The table with entry `x` at key `k`, before the first greater key. -/
def tins {α : Type} : List (Nat × α) → Nat → α → List (Nat × α)
  | [], k, x => [(k, x)]
  | (j, w) :: t, k, x =>
    if k < j then (k, x) :: (j, w) :: t
    else if k = j then (k, x) :: t
    else (j, w) :: tins t k x

/-- The table without key `k`. -/
def tdel {α : Type} : List (Nat × α) → Nat → List (Nat × α)
  | [], _ => []
  | (j, w) :: t, k => if j = k then tdel t k else (j, w) :: tdel t k

/-- The table with a key's entry listed (`some`) or unlisted (`none`). -/
def tset {α : Type} (m : List (Nat × α)) (k : Nat) (v : Option α) : List (Nat × α) :=
  match v with
  | some x => tins m k x
  | none => tdel m k

/-- An entry, with the default `d` for a key that is not listed. -/
def tget {α : Type} (d : α) (m : List (Nat × α)) (k : Nat) : α := (tfind m k).getD d

/-- The table with entry `v` at key `k`, in canonical form. -/
def tput {α : Type} [DecidableEq α] (d : α) (m : List (Nat × α)) (k : Nat) (v : α) : List (Nat × α) :=
  tset m k (if v = d then none else some v)

/-- The table without the keys that satisfy `p`. -/
def tdrop {α : Type} (p : Nat → Bool) (m : List (Nat × α)) : List (Nat × α) := m.filter fun e => !p e.1

/-- The keys rise strictly and no entry equals its default: the one canonical form of a table. -/
def Canonical {α : Type} (d : Nat → α) : List (Nat × α) → Prop
  | [] => True
  | (k, v) :: t => v ≠ d k ∧ (∀ e ∈ t, k < e.1) ∧ Canonical d t

end Sys2Proof.Machine
end

