-- ==== Sys2Proof/Machine/Crypto.lean ====
section
/-! DEFINITION. The check functions of the manual: the Ethernet CRC-32, the CRC-32C of R70, SHA-256 and HMAC-SHA-256. -/
namespace Sys2Proof.Machine

/-- One bit of a reflected CRC division by `poly`. -/
def crcBit (poly c : Nat) : Nat := if c % 2 = 1 then (c / 2) ^^^ poly else c / 2

/-- One byte of a reflected 32-bit CRC. -/
def crcByte (poly c b : Nat) : Nat :=
  crcBit poly (crcBit poly (crcBit poly (crcBit poly (crcBit poly (crcBit poly (crcBit poly (crcBit poly (c ^^^ b))))))))

/-- A reflected CRC with initial value and output mask of all ones. -/
def crcReflected (poly : Nat) (l : List Byte) : Nat :=
  (l.foldl (fun c b => crcByte poly c b.toNat) 0xFFFFFFFF) ^^^ 0xFFFFFFFF

/-- The CRC-32 of IEEE 802.3, the frame check sequence of R95. -/
def crc32 (l : List Byte) : Nat := crcReflected 0xEDB88320 l

/-- The CRC-32C of R70. -/
def crc32c (l : List Byte) : Nat := crcReflected 0x82F63B78 l

/-- Rotate a 32-bit number right. -/
def rotr (n x : Nat) : Nat := (x >>> n) ||| ((x <<< (32 - n)) % 2 ^ 32)

/-- The eight 32-bit words of a 256-bit number, highest first. -/
def words8 (n : Nat) : List Nat := (List.range 8).map fun i => n >>> (224 - 32 * i) % 2 ^ 32

/-- The round constants of SHA-256, eight to a number. -/
def sha256K : List Nat :=
  [0x428a2f9871374491b5c0fbcfe9b5dba53956c25b59f111f1923f82a4ab1c5ed5,
   0xd807aa9812835b01243185be550c7dc372be5d7480deb1fe9bdc06a7c19bf174,
   0xe49b69c1efbe47860fc19dc6240ca1cc2de92c6f4a7484aa5cb0a9dc76f988da,
   0x983e5152a831c66db00327c8bf597fc7c6e00bf3d5a7914706ca635114292967,
   0x27b70a852e1b21384d2c6dfc53380d13650a7354766a0abb81c2c92e92722c85,
   0xa2bfe8a1a81a664bc24b8b70c76c51a3d192e819d6990624f40e3585106aa070,
   0x19a4c1161e376c082748774c34b0bcb5391c0cb34ed8aa4a5b9cca4f682e6ff3,
   0x748f82ee78a5636f84c878148cc7020890befffaa4506cebbef9a3f7c67178f2]

/-- The initial hash value of SHA-256. -/
def sha256H : Nat := 0x6a09e667bb67ae853c6ef372a54ff53a510e527f9b05688c1f83d9ab5be0cd19

/-- The exclusive or of a word's rotations. -/
def rotations (l : List Nat) (x : Nat) : Nat := l.foldl (fun y n => y ^^^ rotr n x) 0

/-- The message schedule from its last 16 words, newest first, for the rounds that remain. -/
def sha256W : Nat → List Nat → List Nat
  | 0, w => w.reverse
  | k + 1, w =>
    let old := nth w 14 0
    let new := nth w 1 0
    let x := nth w 15 0 + nth w 6 0 + (rotations [7, 18] old ^^^ old >>> 3) + (rotations [17, 19] new ^^^ new >>> 10)
    sha256W k (x % 2 ^ 32 :: w)

/-- The working variables of SHA-256: the last four values of each of its two sequences, newest first. -/
structure ShaVars where
  a : List Nat
  e : List Nat

/-- One round of SHA-256. -/
def ShaVars.round (v : ShaVars) (kw : Nat × Nat) : ShaVars :=
  let a := fun i => nth v.a i 0
  let e := fun i => nth v.e i 0
  let pick := (e 0 &&& e 1) ||| (andNot (e 2) (e 0))
  let vote := (a 0 &&& a 1) ||| (a 2 &&& (a 0 ||| a 1))
  let t := e 3 + rotations [6, 11, 25] (e 0) + pick + kw.1 + kw.2
  ⟨(t + rotations [2, 13, 22] (a 0) + vote) % 2 ^ 32 :: v.a.take 3, (a 3 + t) % 2 ^ 32 :: v.e.take 3⟩

/-- The hash value after one 64-byte block. -/
def sha256Block (h : List Nat) (blk : List Byte) : List Nat :=
  let w := sha256W 48 (((List.range 16).map fun i => beAt blk (4 * i) 4).reverse)
  let v := ((sha256K.flatMap words8).zip w).foldl ShaVars.round ⟨h.take 4, h.drop 4⟩
  (h.zip (v.a ++ v.e)).map fun p => (p.1 + p.2) % 2 ^ 32

/-- The hash value after `n` blocks. -/
def sha256Blocks : Nat → List Nat → List Byte → List Nat
  | 0, h, _ => h
  | n + 1, h, l => sha256Blocks n (sha256Block h (l.take 64)) (l.drop 64)

/-- A message padded to whole blocks. -/
def sha256Pad (l : List Byte) : List Byte :=
  let z := (119 - l.length % 64) % 64
  l ++ [byte 0x80] ++ List.replicate z (byte 0) ++ beBytes 8 (8 * l.length)

/-- SHA-256. -/
def sha256 (l : List Byte) : List Byte :=
  let p := sha256Pad l
  (sha256Blocks (p.length / 64) (words8 sha256H) p).flatMap fun x => beBytes 4 x

/-- HMAC-SHA-256 with a key of at most 64 bytes. -/
def hmac (key msg : List Byte) : List Byte :=
  let k := key ++ List.replicate (64 - key.length) (byte 0)
  let x := fun n => k.map fun b => b ^^^ byte n
  sha256 (x 0x5C ++ sha256 (x 0x36 ++ msg))

end Sys2Proof.Machine
end

