-- ==== Sys2Proof/Machine/RegNames.lean ====
section
/-! DEFINITION. The names of the 404 registers of the register window (R442) and the shape of one register's entry. -/
namespace Sys2Proof.Machine

/-- The 404 register names of R427 and R442; an array is one name. -/
inductive Reg where
  | BEL_EOI
  | BEL_SPURIOUS_AFTER_CLAIM
  | BEL_STACK_ORDER
  | BEL_TGT_CFG
  | BEL_TGT_ORDER
  | BEL_TGT_STATUS
  | BEL_GLB_CFG
  | BEL_SWI
  | BEL_SRC_CFG
  | BEL_SRC_COAL
  | BEL_SRC_STATUS
  | BEL_SRC_VEC_HI
  | BEL_SRC_VEC_LO
  | BEL_STACK
  | CHK_CFG
  | CHK_DONE_HI
  | CHK_DONE_LO
  | CHK_FAIL
  | CHK_INIT_HI
  | CHK_INIT_LO
  | CHK_POLY_HI
  | CHK_POLY_LO
  | CHK_REGION
  | CHK_RUN_HI
  | CHK_RUN_LO
  | CHK_SKIP
  | CHK_XOR_HI
  | CHK_XOR_LO
  | CLS_ACT_DROP
  | CLS_ACT_SLOW
  | CLS_COMMIT_CTRL
  | CLS_COMMIT_STATUS
  | CLS_DRAIN_WARN
  | CLS_ECC_MISS
  | CLS_FLOW_HITS_HI
  | CLS_FLOW_HITS_LO
  | CLS_FLOW_SEED0
  | CLS_FLOW_SEED1
  | CLS_FLOW_USED
  | CLS_INFLIGHT_ACT
  | CLS_INFLIGHT_DRN
  | CLS_JOURNAL
  | CLS_LOOKUPS_HI
  | CLS_LOOKUPS_LO
  | CLS_PFX_CFG
  | CLS_PFX_HITS_HI
  | CLS_PFX_HITS_LO
  | CLS_PFX_USED
  | CLS_STAGE_REJ
  | CLS_STASH_USED
  | CLS_SYM_SEED
  | CLS_TAE_ADDR
  | CLS_TAE_CMD
  | CLS_TAE_DATA
  | CLS_TAE_STATUS
  | CLS_VERSION
  | DMA_BUS_ERRORS
  | DMA_ERR_ADDR_HI
  | DMA_ERR_ADDR_LO
  | DMA_GLB_CTRL
  | DMA_GLB_STATUS
  | DMA_SLOW_NOSET
  | DMA_SLOW_SET_HI
  | DMA_SLOW_SET_LO
  | DMA_CH_BYTES_HI
  | DMA_CH_BYTES_LO
  | DMA_CH_CFG
  | DMA_CH_CTRL
  | DMA_CH_DESC
  | DMA_CH_IDX
  | DMA_CH_LIMITS
  | DMA_CH_PACE
  | DMA_CH_PACE_WM
  | DMA_CH_POS
  | DMA_CH_RING_HI
  | DMA_CH_RING_LO
  | DMA_CH_STATUS
  | DMA_CH_STOP_STATUS
  | DMA_CH_TIMERS
  | DOME_CFG
  | DOME_ECC_CORR
  | DOME_ECC_UNCORR
  | DOME_FREE
  | DOME_LOOP
  | DOME_LOST_CELLS
  | DOME_TARGET
  | DOME_USED_PEAK
  | DOME_CLASS_ALPHA
  | DOME_CLASS_CELLS
  | DOME_CLASS_CFG
  | DOME_CLASS_CUR
  | DOME_CLASS_DROP
  | DOME_HOST_CFG
  | DOME_HOST_DROP
  | DOME_DROP_G
  | DOME_DROP_R
  | DOME_DROP_Y
  | DOME_RX_NOCELL
  | DOME_EDIT
  | EXT_ADDR_HI
  | EXT_ADDR_LO
  | EXT_AUTH_FAIL
  | EXT_CFG
  | EXT_CFG_VER
  | EXT_INFO
  | EXT_LOSSES
  | EXT_MGMT_REJ
  | EXT_POLL_MISS
  | EXT_PUSH
  | EXT_PUSH_FAIL
  | EXT_STATUS
  | EXT_UNIT_HI
  | EXT_UNIT_LO
  | EXT_CREDIT
  | EXT_PACE
  | EXT_GLB_CFG
  | EXT_MGR_SA_HI
  | EXT_MGR_SA_LO
  | EXT_TIMERS
  | EXT_TRK_UNKNOWN
  | EXT_TRK_UNTAGGED
  | EXT_TRUNK_CFG
  | FLT_BLK_RESETS
  | FLT_CFG
  | FLT_CHIP_REQ_CNT
  | FLT_FIRST_SRC
  | FLT_FIRST_SYN
  | FLT_FIRST_TS_HI
  | FLT_FIRST_TS_LO
  | FLT_INJ_ADDR
  | FLT_INJ_CTRL
  | FLT_INJ_DATA
  | FLT_LANTERN
  | FLT_NMT
  | FLT_RST_FRAMES
  | FLT_SHADOWED
  | FLT_STATUS
  | FLT_SRC_CFG
  | FLT_SRC_STATUS
  | GLB_BOOT
  | GLB_EGT_ERR
  | GLB_EGT_ERR_CAUSE
  | GLB_ID
  | GLB_REV
  | GLB_SLV_ERR
  | KEEP_CFG
  | KEEP_CTRL
  | KEEP_LD_TS_HI
  | KEEP_LD_TS_LO
  | KEEP_LEN
  | KEEP_MIR_CFG
  | KEEP_MIR_CYCLE
  | KEEP_MIR_MISSES
  | KEEP_MIR_RESYNCS
  | KEEP_MIR_STATUS
  | KEEP_PRODUCED
  | KEEP_SEQ
  | KEEP_SKIPPED
  | KEEP_STATUS
  | KEEP_TIMERS
  | LOG_ACC_DATA
  | LOG_ACC_IDX
  | LOG_CFG
  | LOG_CTRL
  | LOG_DROPPED
  | LOG_OVERWRITES
  | LOG_RD_IDX
  | LOG_STATUS
  | LOG_WR_IDX
  | MAC_CFG
  | MAC_EEE
  | MAC_FC_FORCE
  | MAC_FC_THR
  | MAC_FC_TX
  | MAC_SA_HI
  | MAC_SA_LO
  | MAC_STATUS
  | MAC_FEC_CORR
  | MAC_FEC_UNCORR
  | MAC_RX_CTRL_OTHER
  | MAC_RX_DISABLED
  | MAC_RX_FCS_ERR
  | MAC_RX_FRAMES_HI
  | MAC_RX_FRAMES_LO
  | MAC_RX_LPI
  | MAC_RX_OCTETS_HI
  | MAC_RX_OCTETS_LO
  | MAC_RX_OVERSIZE
  | MAC_RX_PAUSE
  | MAC_RX_PFC
  | MAC_RX_PREAMBLE
  | MAC_RX_RUNT
  | MAC_RX_SYMBOL
  | MAC_RX_TKT_OVF
  | MAC_TX_FRAMES_HI
  | MAC_TX_FRAMES_LO
  | MAC_TX_LINK_DOWN
  | MAC_TX_LPI
  | MAC_TX_OCTETS_HI
  | MAC_TX_OCTETS_LO
  | MAC_TX_OVERSIZE
  | MAC_TX_PAUSE
  | MAC_TX_PFC
  | MNT_RST_REQ
  | MNT_RST_STATUS
  | NREG_AGE
  | NREG_ECC
  | NREG_LEARNED
  | NREG_REMOVED
  | NREG_STATUS
  | NREG_TAE_ADDR
  | NREG_TAE_CMD
  | NREG_TAE_DATA
  | NREG_TAE_STATUS
  | NREG_BAD_SA
  | NREG_LIMIT_DROP
  | NREG_LIMIT_FLOOD
  | NREG_NODE_GONE
  | NREG_PORT_CFG
  | NREG_PORT_DEF
  | NREG_PORT_POL
  | NREG_PORT_STATUS
  | OCU_CTRL
  | OCU_HIST
  | OCU_HIST_CFG
  | OCU_LATE
  | OCU_STATUS
  | OCU_STREAM_CFG
  | OCU_STREAM_DROP
  | OCU_SWEEPS
  | OCU_MAX_CELLS
  | OCU_MAX_DELAY
  | OCU_MAX_QUEUE
  | OCU_WATCH
  | OCU_WATCH_LAST
  | OCU_WATCH_MAXC
  | OCU_WATCH_MAXD
  | POL_COLOUR_INV
  | POL_DSCP_MAP
  | POL_ECC
  | POL_RESET_MODE
  | POL_TAE_ADDR
  | POL_TAE_CMD
  | POL_TAE_DATA
  | POL_TAE_STATUS
  | POL_DROP_FLOW
  | POL_DROP_NODE
  | POL_DROP_PORT
  | POL_GREEN
  | POL_RED
  | POL_YELLOW
  | POL_PORT_CFG
  | PRS_DEPTH
  | PRS_DEPTH_CAP
  | PRS_FRAGMENT
  | PRS_HSR_SUP
  | PRS_MALF_CAP
  | PRS_MALF_DROP
  | PRS_MALF_SLOW
  | PRS_UNPARSED
  | PRS_MALFORMED
  | PRS_PORT_CFG
  | PWR_AVS_CFG
  | PWR_AVS_EMERGS
  | PWR_AVS_STATUS
  | PWR_AVS_THR
  | PWR_ENG_CFG
  | PWR_ENG_STATUS
  | PWR_PODL_BUDGET
  | PWR_PODL_CFG
  | PWR_PODL_CLASS
  | PWR_PODL_REVOKES
  | PWR_PODL_USED
  | PWR_POOL
  | PWR_STATUS
  | PWR_PODL_SEG
  | SCH_CAND_REPL
  | SCH_NODEQ_OFF
  | SCH_TAG_REJ
  | SCH_CBS_CREDIT
  | SCH_CBS_HI
  | SCH_CBS_SLOPE
  | SCH_CLASS_CFG
  | SCH_CQ_CELLS
  | SCH_CQ_COPIES
  | SCH_DEFICIT
  | SCH_VTIME
  | SCH_GLB_CFG
  | SCH_PORT_CFG
  | SCH_PORT_COPIES
  | SCH_PORT_STATUS
  | SEG_BABBLE
  | SEG_CFG
  | SEG_PLCA
  | SEG_STATUS
  | SEG_TXSTATE
  | SEG_BABBLE_EVENTS
  | SEG_COLLISIONS
  | SEG_CYCLES_HI
  | SEG_CYCLES_LO
  | SEG_DEFERRED
  | SEG_EXCESS_COLL
  | SEG_LATE_COLL
  | SEG_OPP_RX_ERR
  | SEG_OWN_OPP_IDLE
  | SEG_PLCA_ERR
  | SEG_QUAR_RX
  | SEG_RX_COLL
  | SEG_XCHK_ERR
  | SES_AUTH_FAIL
  | SES_CFG
  | SES_DENIED
  | SES_KEY_CTRL
  | SES_KEY_DATA
  | SES_KEY_STATUS
  | SES_REJ
  | SES_RSP_DROP
  | SES_SA_HI
  | SES_SA_LO
  | SES_STATUS
  | SES_TIMERS
  | SES_SESS
  | SES_SESS_SA_HI
  | SES_SESS_SA_LO
  | SES_WIN_BASE
  | SES_WIN_CFG
  | SES_WIN_LIMIT
  | SPI_CUT_BAD
  | SPI_CUT_HI
  | SPI_CUT_LO
  | SPI_FALLBACK
  | SPI_FB_DROP
  | SPI_FB_NOCELL
  | SPI_HSR_DUP
  | SPI_HSR_OWN
  | SPI_ECC
  | SPI_HSR_SA_HI
  | SPI_HSR_SA_LO
  | SPI_TAE_ADDR
  | SPI_TAE_CMD
  | SPI_TAE_DATA
  | SPI_TAE_STATUS
  | SPI_HSR_EVICT
  | SPI_PAIR_CFG
  | SPI_PAIR_STATUS
  | STI_ACTIVE
  | STI_ACTIVE_SERIAL
  | STI_CTRL
  | STI_ERR_OFFSET
  | STI_FLUSHED
  | STI_LOAD_COUNT
  | STI_LOAD_DATA
  | STI_STATUS
  | TPG_ADJ
  | TPG_CLKCMP
  | TPG_CLKCMP_COUNT
  | TPG_GCL_DONE
  | TPG_INCR_HI
  | TPG_INCR_LO
  | TPG_SET_NS
  | TPG_SET_SEC_HI
  | TPG_SET_SEC_LO
  | TPG_STAMP_CFG
  | TPG_STAMP_SKIP
  | TPG_TAE_ADDR
  | TPG_TAE_CMD
  | TPG_TAE_DATA
  | TPG_TAE_STATUS
  | TPG_TIME_CTRL
  | TPG_TIME_FRAC
  | TPG_TIME_NS
  | TPG_TIME_SEC_HI
  | TPG_TIME_SEC_LO
  | TPG_FCAL
  | TPG_UCAL
  | TPG_GCL_ADMIN_BASE_NS
  | TPG_GCL_ADMIN_BASE_SEC_HI
  | TPG_GCL_ADMIN_BASE_SEC_LO
  | TPG_GCL_ADMIN_CYCLE
  | TPG_GCL_ADMIN_LIST
  | TPG_GCL_CFG
  | TPG_GCL_ENTRY
  | TPG_GCL_NOFIT
  | TPG_GCL_OPER_BASE_NS
  | TPG_GCL_OPER_BASE_SEC_HI
  | TPG_GCL_OPER_BASE_SEC_LO
  | TPG_GCL_OPER_CYCLE
  | TPG_GCL_OPER_LIST
  | TPG_GCL_OVERRUN
  | TPG_GCL_SKIP
  | TPG_GCL_STATUS
  | TPG_PH_CFG
  | TPG_PH_CYCLES
  | TPG_PH_EDGES
  | TPG_PH_ERR
  | TPG_PH_FCAL
  | TPG_PH_FREQ
  | TPG_PH_GLITCH
  | TPG_PH_LOSSES
  | TPG_PH_OUTLIER
  | TPG_PH_RANGE
  | TPG_PH_STATUS
  | TPG_PH_THR
  | TPG_PH_UCAL
  deriving DecidableEq, Repr

/-- The access codes of register fields, R10. A reserved bit (RSV) belongs to no field. -/
inductive Access where
  /-- read and write -/
  | rw
  /-- read only -/
  | ro
  /-- writing 1 clears -/
  | w1c
  /-- writing 1 sets -/
  | w1s
  /-- write only, reads 0 -/
  | wo
  /-- writable until the structure commit -/
  | rwl
  /-- counter that stops at all-ones -/
  | sat
  /-- counter that wraps to zero -/
  | wrap
  deriving DecidableEq, Repr

/-- One field of a register: its bits, its access code and its Reset column. -/
structure FieldInfo where
  hi : Nat
  lo : Nat
  acc : Access
  rst : Nat
  deriving DecidableEq, Repr

/-- One row of R442: base offset, the strides and counts of up to two instance indexes, the first
instance that exists, whether the register is in the always-on domain (R427), and its fields. -/
structure RegInfo where
  base : Nat
  stride : Nat
  count : Nat
  stride2 : Nat
  count2 : Nat
  first : Nat
  aon : Bool
  fields : List FieldInfo
  deriving DecidableEq, Repr

/-- A field by its place: the register that holds it and its bit range. -/
structure Fld where
  reg : Reg
  hi : Nat
  lo : Nat
  deriving DecidableEq, Repr

end Sys2Proof.Machine
end

