-- ==== Sys2Proof/Machine/Fields.lean ====
section
/-! DEFINITION. The named fields of every register, generated from the register tables of the chapters. -/
namespace Sys2Proof.Machine

/-- 16 R359 -/
def Fld.BEL_EOI_SOURCE : Fld := ⟨.BEL_EOI, 10, 0⟩
/-- 16 R359 -/
def Fld.BEL_SPURIOUS_AFTER_CLAIM_COUNT : Fld := ⟨.BEL_SPURIOUS_AFTER_CLAIM, 31, 0⟩
/-- 16 R359 -/
def Fld.BEL_STACK_ORDER_COUNT : Fld := ⟨.BEL_STACK_ORDER, 31, 0⟩
/-- 16 R359 -/
def Fld.BEL_TGT_CFG_EN : Fld := ⟨.BEL_TGT_CFG, 31, 31⟩
/-- 16 R359 -/
def Fld.BEL_TGT_ORDER_EOI_SRC : Fld := ⟨.BEL_TGT_ORDER, 26, 16⟩
/-- 16 R359 -/
def Fld.BEL_TGT_ORDER_EMPTY : Fld := ⟨.BEL_TGT_ORDER, 15, 15⟩
/-- 16 R359 -/
def Fld.BEL_TGT_ORDER_TOP_SRC : Fld := ⟨.BEL_TGT_ORDER, 10, 0⟩
/-- 16 R359 -/
def Fld.BEL_TGT_STATUS_ORDER_ERR : Fld := ⟨.BEL_TGT_STATUS, 31, 31⟩
/-- 16 R359 -/
def Fld.BEL_TGT_STATUS_VALID : Fld := ⟨.BEL_TGT_STATUS, 30, 30⟩
/-- 16 R359 -/
def Fld.BEL_TGT_STATUS_DEPTH : Fld := ⟨.BEL_TGT_STATUS, 29, 24⟩
/-- 16 R359 -/
def Fld.BEL_TGT_STATUS_TOP_PRIO : Fld := ⟨.BEL_TGT_STATUS, 20, 16⟩
/-- 16 R359 -/
def Fld.BEL_TGT_STATUS_TOP_SRC : Fld := ⟨.BEL_TGT_STATUS, 10, 0⟩
/-- 16 R359 -/
def Fld.BEL_GLB_CFG_SPUR_WIN : Fld := ⟨.BEL_GLB_CFG, 15, 0⟩
/-- 16 R359 -/
def Fld.BEL_SWI_SET : Fld := ⟨.BEL_SWI, 15, 0⟩
/-- 16 R359 -/
def Fld.BEL_SRC_CFG_EN : Fld := ⟨.BEL_SRC_CFG, 31, 31⟩
/-- 16 R359 -/
def Fld.BEL_SRC_CFG_SENSE : Fld := ⟨.BEL_SRC_CFG, 30, 28⟩
/-- 16 R359 -/
def Fld.BEL_SRC_CFG_TARGETS : Fld := ⟨.BEL_SRC_CFG, 23, 16⟩
/-- 16 R359 -/
def Fld.BEL_SRC_CFG_PRIO : Fld := ⟨.BEL_SRC_CFG, 12, 8⟩
/-- 16 R359 -/
def Fld.BEL_SRC_COAL_COUNT : Fld := ⟨.BEL_SRC_COAL, 31, 16⟩
/-- 16 R359 -/
def Fld.BEL_SRC_COAL_TIME : Fld := ⟨.BEL_SRC_COAL, 15, 0⟩
/-- 16 R359 -/
def Fld.BEL_SRC_STATUS_PEND : Fld := ⟨.BEL_SRC_STATUS, 31, 24⟩
/-- 16 R359 -/
def Fld.BEL_SRC_STATUS_CLAIMED : Fld := ⟨.BEL_SRC_STATUS, 23, 16⟩
/-- 16 R359 -/
def Fld.BEL_SRC_STATUS_HELD : Fld := ⟨.BEL_SRC_STATUS, 15, 0⟩
/-- 16 R359 -/
def Fld.BEL_SRC_VEC_HI_ADDR_HI : Fld := ⟨.BEL_SRC_VEC_HI, 31, 0⟩
/-- 16 R359 -/
def Fld.BEL_SRC_VEC_LO_ADDR_LO : Fld := ⟨.BEL_SRC_VEC_LO, 31, 0⟩
/-- 16 R359 -/
def Fld.BEL_STACK_VALID : Fld := ⟨.BEL_STACK, 31, 31⟩
/-- 16 R359 -/
def Fld.BEL_STACK_PRIO : Fld := ⟨.BEL_STACK, 20, 16⟩
/-- 16 R359 -/
def Fld.BEL_STACK_SOURCE : Fld := ⟨.BEL_STACK, 10, 0⟩
/-- 15 R346 -/
def Fld.CHK_CFG_REFIN : Fld := ⟨.CHK_CFG, 31, 31⟩
/-- 15 R346 -/
def Fld.CHK_CFG_REFOUT : Fld := ⟨.CHK_CFG, 30, 30⟩
/-- 15 R346 -/
def Fld.CHK_CFG_BYTE_ORDER : Fld := ⟨.CHK_CFG, 29, 29⟩
/-- 15 R346 -/
def Fld.CHK_CFG_DMA_DIR : Fld := ⟨.CHK_CFG, 28, 27⟩
/-- 15 R346 -/
def Fld.CHK_CFG_CONT : Fld := ⟨.CHK_CFG, 26, 26⟩
/-- 15 R346 -/
def Fld.CHK_CFG_FAIL_ACT : Fld := ⟨.CHK_CFG, 25, 25⟩
/-- 15 R346 -/
def Fld.CHK_CFG_BUSY : Fld := ⟨.CHK_CFG, 24, 24⟩
/-- 15 R346 -/
def Fld.CHK_CFG_WIDTH_M1 : Fld := ⟨.CHK_CFG, 21, 16⟩
/-- 15 R346 -/
def Fld.CHK_DONE_HI_COUNT : Fld := ⟨.CHK_DONE_HI, 31, 0⟩
/-- 15 R346 -/
def Fld.CHK_DONE_LO_COUNT : Fld := ⟨.CHK_DONE_LO, 31, 0⟩
/-- 15 R346 -/
def Fld.CHK_FAIL_COUNT : Fld := ⟨.CHK_FAIL, 31, 0⟩
/-- 15 R346 -/
def Fld.CHK_INIT_HI_INIT_HI : Fld := ⟨.CHK_INIT_HI, 31, 0⟩
/-- 15 R346 -/
def Fld.CHK_INIT_LO_INIT_LO : Fld := ⟨.CHK_INIT_LO, 31, 0⟩
/-- 15 R346 -/
def Fld.CHK_POLY_HI_POLY_HI : Fld := ⟨.CHK_POLY_HI, 31, 0⟩
/-- 15 R346 -/
def Fld.CHK_POLY_LO_POLY_LO : Fld := ⟨.CHK_POLY_LO, 31, 0⟩
/-- 15 R346 -/
def Fld.CHK_REGION_REGION_LEN : Fld := ⟨.CHK_REGION, 26, 16⟩
/-- 15 R346 -/
def Fld.CHK_REGION_REGION_OFS : Fld := ⟨.CHK_REGION, 8, 0⟩
/-- 15 R346 -/
def Fld.CHK_RUN_HI_RUN_HI : Fld := ⟨.CHK_RUN_HI, 31, 0⟩
/-- 15 R346 -/
def Fld.CHK_RUN_LO_RUN_LO : Fld := ⟨.CHK_RUN_LO, 31, 0⟩
/-- 15 R346 -/
def Fld.CHK_SKIP_COUNT : Fld := ⟨.CHK_SKIP, 31, 0⟩
/-- 15 R346 -/
def Fld.CHK_XOR_HI_XOR_HI : Fld := ⟨.CHK_XOR_HI, 31, 0⟩
/-- 15 R346 -/
def Fld.CHK_XOR_LO_XOR_LO : Fld := ⟨.CHK_XOR_LO, 31, 0⟩
/-- 08 R211 -/
def Fld.CLS_ACT_DROP_COUNT : Fld := ⟨.CLS_ACT_DROP, 31, 0⟩
/-- 08 R211 -/
def Fld.CLS_ACT_SLOW_COUNT : Fld := ⟨.CLS_ACT_SLOW, 31, 0⟩
/-- 08 R210 -/
def Fld.CLS_COMMIT_CTRL_ABORT : Fld := ⟨.CLS_COMMIT_CTRL, 31, 31⟩
/-- 08 R210 -/
def Fld.CLS_COMMIT_CTRL_COMMIT : Fld := ⟨.CLS_COMMIT_CTRL, 0, 0⟩
/-- 08 R210 -/
def Fld.CLS_COMMIT_STATUS_STATE : Fld := ⟨.CLS_COMMIT_STATUS, 31, 29⟩
/-- 08 R210 -/
def Fld.CLS_COMMIT_STATUS_COMMIT_BUSY : Fld := ⟨.CLS_COMMIT_STATUS, 28, 28⟩
/-- 08 R210 -/
def Fld.CLS_COMMIT_STATUS_DRAIN : Fld := ⟨.CLS_COMMIT_STATUS, 27, 26⟩
/-- 08 R210 -/
def Fld.CLS_COMMIT_STATUS_STAGE_FAIL : Fld := ⟨.CLS_COMMIT_STATUS, 25, 25⟩
/-- 08 R210 -/
def Fld.CLS_COMMIT_STATUS_ABORT_LATE : Fld := ⟨.CLS_COMMIT_STATUS, 24, 24⟩
/-- 08 R210 -/
def Fld.CLS_COMMIT_STATUS_FAIL_CAUSE : Fld := ⟨.CLS_COMMIT_STATUS, 19, 16⟩
/-- 08 R210 -/
def Fld.CLS_COMMIT_STATUS_RESULT : Fld := ⟨.CLS_COMMIT_STATUS, 10, 8⟩
/-- 08 R210 -/
def Fld.CLS_COMMIT_STATUS_DONE : Fld := ⟨.CLS_COMMIT_STATUS, 0, 0⟩
/-- 08 R210 -/
def Fld.CLS_DRAIN_WARN_FIRED : Fld := ⟨.CLS_DRAIN_WARN, 31, 31⟩
/-- 08 R210 -/
def Fld.CLS_DRAIN_WARN_LIMIT : Fld := ⟨.CLS_DRAIN_WARN, 15, 0⟩
/-- 08 R211 -/
def Fld.CLS_ECC_MISS_COUNT : Fld := ⟨.CLS_ECC_MISS, 31, 0⟩
/-- 08 R211 -/
def Fld.CLS_FLOW_HITS_HI_COUNT : Fld := ⟨.CLS_FLOW_HITS_HI, 31, 0⟩
/-- 08 R211 -/
def Fld.CLS_FLOW_HITS_LO_COUNT : Fld := ⟨.CLS_FLOW_HITS_LO, 31, 0⟩
/-- 08 R210 -/
def Fld.CLS_FLOW_SEED0_SEED : Fld := ⟨.CLS_FLOW_SEED0, 31, 0⟩
/-- 08 R210 -/
def Fld.CLS_FLOW_SEED1_SEED : Fld := ⟨.CLS_FLOW_SEED1, 31, 0⟩
/-- 08 R210 -/
def Fld.CLS_FLOW_USED_COUNT : Fld := ⟨.CLS_FLOW_USED, 19, 0⟩
/-- 08 R210 -/
def Fld.CLS_INFLIGHT_ACT_COUNT : Fld := ⟨.CLS_INFLIGHT_ACT, 16, 0⟩
/-- 08 R210 -/
def Fld.CLS_INFLIGHT_DRN_COUNT : Fld := ⟨.CLS_INFLIGHT_DRN, 16, 0⟩
/-- 08 R210 -/
def Fld.CLS_JOURNAL_COUNT : Fld := ⟨.CLS_JOURNAL, 16, 0⟩
/-- 08 R211 -/
def Fld.CLS_LOOKUPS_HI_COUNT : Fld := ⟨.CLS_LOOKUPS_HI, 31, 0⟩
/-- 08 R211 -/
def Fld.CLS_LOOKUPS_LO_COUNT : Fld := ⟨.CLS_LOOKUPS_LO, 31, 0⟩
/-- 08 R210 -/
def Fld.CLS_PFX_CFG_WIDE : Fld := ⟨.CLS_PFX_CFG, 0, 0⟩
/-- 08 R211 -/
def Fld.CLS_PFX_HITS_HI_COUNT : Fld := ⟨.CLS_PFX_HITS_HI, 31, 0⟩
/-- 08 R211 -/
def Fld.CLS_PFX_HITS_LO_COUNT : Fld := ⟨.CLS_PFX_HITS_LO, 31, 0⟩
/-- 08 R210 -/
def Fld.CLS_PFX_USED_COUNT : Fld := ⟨.CLS_PFX_USED, 14, 0⟩
/-- 08 R211 -/
def Fld.CLS_STAGE_REJ_COUNT : Fld := ⟨.CLS_STAGE_REJ, 31, 0⟩
/-- 08 R210 -/
def Fld.CLS_STASH_USED_COUNT : Fld := ⟨.CLS_STASH_USED, 12, 0⟩
/-- 08 R210 -/
def Fld.CLS_SYM_SEED_SEED : Fld := ⟨.CLS_SYM_SEED, 31, 0⟩
/-- 08 R210 -/
def Fld.CLS_TAE_ADDR_INDEX : Fld := ⟨.CLS_TAE_ADDR, 19, 0⟩
/-- 08 R210 -/
def Fld.CLS_TAE_CMD_GO : Fld := ⟨.CLS_TAE_CMD, 31, 31⟩
/-- 08 R210 -/
def Fld.CLS_TAE_CMD_TARGET : Fld := ⟨.CLS_TAE_CMD, 27, 24⟩
/-- 08 R210 -/
def Fld.CLS_TAE_CMD_OP : Fld := ⟨.CLS_TAE_CMD, 19, 16⟩
/-- 08 R210 -/
def Fld.CLS_TAE_CMD_VIEW : Fld := ⟨.CLS_TAE_CMD, 13, 12⟩
/-- 08 R210 -/
def Fld.CLS_TAE_DATA_DATA : Fld := ⟨.CLS_TAE_DATA, 31, 0⟩
/-- 08 R210 -/
def Fld.CLS_TAE_STATUS_BUSY : Fld := ⟨.CLS_TAE_STATUS, 31, 31⟩
/-- 08 R210 -/
def Fld.CLS_TAE_STATUS_RESULT : Fld := ⟨.CLS_TAE_STATUS, 23, 20⟩
/-- 08 R210 -/
def Fld.CLS_TAE_STATUS_POS : Fld := ⟨.CLS_TAE_STATUS, 19, 0⟩
/-- 08 R210 -/
def Fld.CLS_VERSION_ACTIVE : Fld := ⟨.CLS_VERSION, 15, 0⟩
/-- 14 R339 -/
def Fld.DMA_BUS_ERRORS_COUNT : Fld := ⟨.DMA_BUS_ERRORS, 31, 0⟩
/-- 14 R337 -/
def Fld.DMA_ERR_ADDR_HI_ADDR : Fld := ⟨.DMA_ERR_ADDR_HI, 15, 0⟩
/-- 14 R337 -/
def Fld.DMA_ERR_ADDR_LO_ADDR : Fld := ⟨.DMA_ERR_ADDR_LO, 31, 0⟩
/-- 14 R337 -/
def Fld.DMA_GLB_CTRL_CLEAR : Fld := ⟨.DMA_GLB_CTRL, 31, 31⟩
/-- 14 R337 -/
def Fld.DMA_GLB_STATUS_BUS_ERR : Fld := ⟨.DMA_GLB_STATUS, 31, 31⟩
/-- 14 R337 -/
def Fld.DMA_GLB_STATUS_QUIESCED : Fld := ⟨.DMA_GLB_STATUS, 30, 30⟩
/-- 14 R337 -/
def Fld.DMA_GLB_STATUS_KIND : Fld := ⟨.DMA_GLB_STATUS, 29, 28⟩
/-- 14 R337 -/
def Fld.DMA_GLB_STATUS_PORT : Fld := ⟨.DMA_GLB_STATUS, 27, 27⟩
/-- 14 R337 -/
def Fld.DMA_GLB_STATUS_TIMEOUT : Fld := ⟨.DMA_GLB_STATUS, 26, 26⟩
/-- 14 R339 -/
def Fld.DMA_SLOW_NOSET_COUNT : Fld := ⟨.DMA_SLOW_NOSET, 31, 0⟩
/-- 14 R337 -/
def Fld.DMA_SLOW_SET_HI_SET : Fld := ⟨.DMA_SLOW_SET_HI, 31, 0⟩
/-- 14 R337 -/
def Fld.DMA_SLOW_SET_LO_SET : Fld := ⟨.DMA_SLOW_SET_LO, 31, 0⟩
/-- 14 R339 -/
def Fld.DMA_CH_BYTES_HI_COUNT : Fld := ⟨.DMA_CH_BYTES_HI, 31, 0⟩
/-- 14 R339 -/
def Fld.DMA_CH_BYTES_LO_COUNT : Fld := ⟨.DMA_CH_BYTES_LO, 31, 0⟩
/-- 14 R338 -/
def Fld.DMA_CH_CFG_EN : Fld := ⟨.DMA_CH_CFG, 31, 31⟩
/-- 14 R338 -/
def Fld.DMA_CH_CFG_MODE : Fld := ⟨.DMA_CH_CFG, 30, 28⟩
/-- 14 R338 -/
def Fld.DMA_CH_CFG_PRIO : Fld := ⟨.DMA_CH_CFG, 27, 26⟩
/-- 14 R338 -/
def Fld.DMA_CH_CFG_PORT : Fld := ⟨.DMA_CH_CFG, 25, 25⟩
/-- 14 R338 -/
def Fld.DMA_CH_CFG_DESC_COHERENT : Fld := ⟨.DMA_CH_CFG, 24, 24⟩
/-- 14 R338 -/
def Fld.DMA_CH_CFG_CHK_ATTACH : Fld := ⟨.DMA_CH_CFG, 21, 21⟩
/-- 14 R338 -/
def Fld.DMA_CH_CFG_CHK_UNIT : Fld := ⟨.DMA_CH_CFG, 20, 16⟩
/-- 14 R338 -/
def Fld.DMA_CH_CFG_LIMIT : Fld := ⟨.DMA_CH_CFG, 15, 0⟩
/-- 14 R338 -/
def Fld.DMA_CH_CTRL_DOORBELL : Fld := ⟨.DMA_CH_CTRL, 31, 31⟩
/-- 14 R338 -/
def Fld.DMA_CH_CTRL_STOP : Fld := ⟨.DMA_CH_CTRL, 30, 30⟩
/-- 14 R339 -/
def Fld.DMA_CH_DESC_COUNT : Fld := ⟨.DMA_CH_DESC, 31, 0⟩
/-- 14 R338 -/
def Fld.DMA_CH_IDX_IDX : Fld := ⟨.DMA_CH_IDX, 15, 0⟩
/-- 14 R339 -/
def Fld.DMA_CH_LIMITS_COUNT : Fld := ⟨.DMA_CH_LIMITS, 31, 0⟩
/-- 14 R338 -/
def Fld.DMA_CH_PACE_PACE_MODE : Fld := ⟨.DMA_CH_PACE, 31, 30⟩
/-- 14 R338 -/
def Fld.DMA_CH_PACE_QKIND : Fld := ⟨.DMA_CH_PACE, 29, 29⟩
/-- 14 R338 -/
def Fld.DMA_CH_PACE_QUEUE : Fld := ⟨.DMA_CH_PACE, 18, 0⟩
/-- 14 R338 -/
def Fld.DMA_CH_PACE_WM_HIGH : Fld := ⟨.DMA_CH_PACE_WM, 31, 16⟩
/-- 14 R338 -/
def Fld.DMA_CH_PACE_WM_LOW : Fld := ⟨.DMA_CH_PACE_WM, 15, 0⟩
/-- 14 R338 -/
def Fld.DMA_CH_POS_BYTES_DONE : Fld := ⟨.DMA_CH_POS, 27, 0⟩
/-- 14 R338 -/
def Fld.DMA_CH_RING_HI_SIZE_M1 : Fld := ⟨.DMA_CH_RING_HI, 31, 16⟩
/-- 14 R338 -/
def Fld.DMA_CH_RING_HI_BASE_HI : Fld := ⟨.DMA_CH_RING_HI, 15, 0⟩
/-- 14 R338 -/
def Fld.DMA_CH_RING_LO_BASE_LO : Fld := ⟨.DMA_CH_RING_LO, 31, 5⟩
/-- 14 R338 -/
def Fld.DMA_CH_STATUS_STATE : Fld := ⟨.DMA_CH_STATUS, 31, 29⟩
/-- 14 R338 -/
def Fld.DMA_CH_STATUS_REASON : Fld := ⟨.DMA_CH_STATUS, 28, 26⟩
/-- 14 R338 -/
def Fld.DMA_CH_STATUS_DB_PEND : Fld := ⟨.DMA_CH_STATUS, 25, 25⟩
/-- 14 R338 -/
def Fld.DMA_CH_STATUS_PACED : Fld := ⟨.DMA_CH_STATUS, 24, 24⟩
/-- 14 R338 -/
def Fld.DMA_CH_STOP_STATUS_VALID : Fld := ⟨.DMA_CH_STOP_STATUS, 31, 31⟩
/-- 14 R338 -/
def Fld.DMA_CH_STOP_STATUS_NONE : Fld := ⟨.DMA_CH_STOP_STATUS, 30, 30⟩
/-- 14 R338 -/
def Fld.DMA_CH_STOP_STATUS_LAST_IDX : Fld := ⟨.DMA_CH_STOP_STATUS, 15, 0⟩
/-- 14 R338 -/
def Fld.DMA_CH_TIMERS_STREAM_FLUSH : Fld := ⟨.DMA_CH_TIMERS, 31, 16⟩
/-- 14 R338 -/
def Fld.DMA_CH_TIMERS_PACE_TIMEOUT : Fld := ⟨.DMA_CH_TIMERS, 15, 0⟩
/-- 10 R249 -/
def Fld.DOME_CFG_INGRESS_FLOOR : Fld := ⟨.DOME_CFG, 16, 0⟩
/-- 10 R250 -/
def Fld.DOME_ECC_CORR_COUNT : Fld := ⟨.DOME_ECC_CORR, 31, 0⟩
/-- 10 R250 -/
def Fld.DOME_ECC_UNCORR_COUNT : Fld := ⟨.DOME_ECC_UNCORR, 31, 0⟩
/-- 10 R249 -/
def Fld.DOME_FREE_COUNT : Fld := ⟨.DOME_FREE, 17, 0⟩
/-- 10 R249 -/
def Fld.DOME_LOOP_STEP : Fld := ⟨.DOME_LOOP, 31, 16⟩
/-- 10 R249 -/
def Fld.DOME_LOOP_PERIOD : Fld := ⟨.DOME_LOOP, 15, 0⟩
/-- 10 R250 -/
def Fld.DOME_LOST_CELLS_COUNT : Fld := ⟨.DOME_LOST_CELLS, 31, 0⟩
/-- 10 R249 -/
def Fld.DOME_TARGET_TARGET : Fld := ⟨.DOME_TARGET, 31, 15⟩
/-- 10 R249 -/
def Fld.DOME_TARGET_BAND : Fld := ⟨.DOME_TARGET, 14, 0⟩
/-- 10 R249 -/
def Fld.DOME_USED_PEAK_ALL_FREE : Fld := ⟨.DOME_USED_PEAK, 31, 31⟩
/-- 10 R249 -/
def Fld.DOME_USED_PEAK_PEAK : Fld := ⟨.DOME_USED_PEAK, 17, 0⟩
/-- 10 R249 -/
def Fld.DOME_CLASS_ALPHA_ALPHA_MAX : Fld := ⟨.DOME_CLASS_ALPHA, 31, 16⟩
/-- 10 R249 -/
def Fld.DOME_CLASS_ALPHA_ALPHA_MIN : Fld := ⟨.DOME_CLASS_ALPHA, 15, 0⟩
/-- 10 R249 -/
def Fld.DOME_CLASS_CELLS_CELLS : Fld := ⟨.DOME_CLASS_CELLS, 31, 0⟩
/-- 10 R249 -/
def Fld.DOME_CLASS_CFG_ADAPT : Fld := ⟨.DOME_CLASS_CFG, 31, 31⟩
/-- 10 R249 -/
def Fld.DOME_CLASS_CFG_YELLOW_PCT : Fld := ⟨.DOME_CLASS_CFG, 30, 24⟩
/-- 10 R249 -/
def Fld.DOME_CLASS_CFG_RED_PCT : Fld := ⟨.DOME_CLASS_CFG, 23, 17⟩
/-- 10 R249 -/
def Fld.DOME_CLASS_CFG_MIN_CELLS : Fld := ⟨.DOME_CLASS_CFG, 16, 0⟩
/-- 10 R249 -/
def Fld.DOME_CLASS_CUR_ALPHA : Fld := ⟨.DOME_CLASS_CUR, 15, 0⟩
/-- 10 R250 -/
def Fld.DOME_CLASS_DROP_COUNT : Fld := ⟨.DOME_CLASS_DROP, 31, 0⟩
/-- 10 R249 -/
def Fld.DOME_HOST_CFG_LIMIT : Fld := ⟨.DOME_HOST_CFG, 16, 0⟩
/-- 10 R250 -/
def Fld.DOME_HOST_DROP_COUNT : Fld := ⟨.DOME_HOST_DROP, 31, 0⟩
/-- 10 R250 -/
def Fld.DOME_DROP_G_COUNT : Fld := ⟨.DOME_DROP_G, 31, 0⟩
/-- 10 R250 -/
def Fld.DOME_DROP_R_COUNT : Fld := ⟨.DOME_DROP_R, 31, 0⟩
/-- 10 R250 -/
def Fld.DOME_DROP_Y_COUNT : Fld := ⟨.DOME_DROP_Y, 31, 0⟩
/-- 10 R250 -/
def Fld.DOME_RX_NOCELL_COUNT : Fld := ⟨.DOME_RX_NOCELL, 31, 0⟩
/-- 01 R29 -/
def Fld.DOME_EDIT_DEI : Fld := ⟨.DOME_EDIT, 10, 10⟩
/-- 01 R29 -/
def Fld.DOME_EDIT_PCP_FROM_CLASS : Fld := ⟨.DOME_EDIT, 9, 9⟩
/-- 01 R29 -/
def Fld.DOME_EDIT_PCP : Fld := ⟨.DOME_EDIT, 8, 6⟩
/-- 01 R29 -/
def Fld.DOME_EDIT_TPID_SEL : Fld := ⟨.DOME_EDIT, 5, 4⟩
/-- 01 R29 -/
def Fld.DOME_EDIT_OP : Fld := ⟨.DOME_EDIT, 3, 0⟩
/-- 06 R169 -/
def Fld.EXT_ADDR_HI_SA_HI : Fld := ⟨.EXT_ADDR_HI, 15, 0⟩
/-- 06 R169 -/
def Fld.EXT_ADDR_LO_SA_LO : Fld := ⟨.EXT_ADDR_LO, 31, 0⟩
/-- 06 R169 -/
def Fld.EXT_AUTH_FAIL_COUNT : Fld := ⟨.EXT_AUTH_FAIL, 31, 0⟩
/-- 06 R169 -/
def Fld.EXT_CFG_JOIN_EN : Fld := ⟨.EXT_CFG, 31, 31⟩
/-- 06 R169 -/
def Fld.EXT_CFG_VER_SENT : Fld := ⟨.EXT_CFG_VER, 31, 16⟩
/-- 06 R169 -/
def Fld.EXT_CFG_VER_ACKED : Fld := ⟨.EXT_CFG_VER, 15, 0⟩
/-- 06 R169 -/
def Fld.EXT_INFO_VERSIONS : Fld := ⟨.EXT_INFO, 27, 24⟩
/-- 06 R169 -/
def Fld.EXT_INFO_PORTS : Fld := ⟨.EXT_INFO, 23, 16⟩
/-- 06 R169 -/
def Fld.EXT_INFO_BUF_BYTES : Fld := ⟨.EXT_INFO, 15, 0⟩
/-- 06 R169 -/
def Fld.EXT_LOSSES_COUNT : Fld := ⟨.EXT_LOSSES, 31, 0⟩
/-- 06 R169 -/
def Fld.EXT_MGMT_REJ_COUNT : Fld := ⟨.EXT_MGMT_REJ, 31, 0⟩
/-- 06 R169 -/
def Fld.EXT_POLL_MISS_COUNT : Fld := ⟨.EXT_POLL_MISS, 31, 0⟩
/-- 06 R169 -/
def Fld.EXT_PUSH_GO : Fld := ⟨.EXT_PUSH, 31, 31⟩
/-- 06 R169 -/
def Fld.EXT_PUSH_FAIL_COUNT : Fld := ⟨.EXT_PUSH_FAIL, 31, 0⟩
/-- 06 R169 -/
def Fld.EXT_STATUS_STATE : Fld := ⟨.EXT_STATUS, 31, 29⟩
/-- 06 R169 -/
def Fld.EXT_STATUS_CONFIG_STALE : Fld := ⟨.EXT_STATUS, 28, 28⟩
/-- 06 R169 -/
def Fld.EXT_STATUS_PUSH_BUSY : Fld := ⟨.EXT_STATUS, 27, 27⟩
/-- 06 R169 -/
def Fld.EXT_STATUS_PUSH_PEND : Fld := ⟨.EXT_STATUS, 26, 26⟩
/-- 06 R169 -/
def Fld.EXT_STATUS_VERSION : Fld := ⟨.EXT_STATUS, 25, 24⟩
/-- 06 R169 -/
def Fld.EXT_STATUS_REFUSE : Fld := ⟨.EXT_STATUS, 23, 20⟩
/-- 06 R169 -/
def Fld.EXT_STATUS_LOST : Fld := ⟨.EXT_STATUS, 19, 19⟩
/-- 06 R169 -/
def Fld.EXT_UNIT_HI_SA_HI : Fld := ⟨.EXT_UNIT_HI, 15, 0⟩
/-- 06 R169 -/
def Fld.EXT_UNIT_LO_SA_LO : Fld := ⟨.EXT_UNIT_LO, 31, 0⟩
/-- 06 R169 -/
def Fld.EXT_CREDIT_ACTIVE : Fld := ⟨.EXT_CREDIT, 31, 31⟩
/-- 06 R169 -/
def Fld.EXT_CREDIT_CREDIT : Fld := ⟨.EXT_CREDIT, 15, 0⟩
/-- 06 R169 -/
def Fld.EXT_PACE_RATE : Fld := ⟨.EXT_PACE, 15, 0⟩
/-- 06 R169 -/
def Fld.EXT_GLB_CFG_ETYPE : Fld := ⟨.EXT_GLB_CFG, 31, 16⟩
/-- 06 R169 -/
def Fld.EXT_GLB_CFG_DISC_PERIOD : Fld := ⟨.EXT_GLB_CFG, 15, 8⟩
/-- 06 R169 -/
def Fld.EXT_MGR_SA_HI_SA_HI : Fld := ⟨.EXT_MGR_SA_HI, 15, 0⟩
/-- 06 R169 -/
def Fld.EXT_MGR_SA_LO_SA_LO : Fld := ⟨.EXT_MGR_SA_LO, 31, 0⟩
/-- 06 R169 -/
def Fld.EXT_TIMERS_POLL : Fld := ⟨.EXT_TIMERS, 31, 24⟩
/-- 06 R169 -/
def Fld.EXT_TIMERS_MISS_LIMIT : Fld := ⟨.EXT_TIMERS, 23, 20⟩
/-- 06 R169 -/
def Fld.EXT_TIMERS_PUSH_RETRY : Fld := ⟨.EXT_TIMERS, 19, 16⟩
/-- 06 R169 -/
def Fld.EXT_TIMERS_PUSH_TIMEOUT : Fld := ⟨.EXT_TIMERS, 15, 8⟩
/-- 06 R169 -/
def Fld.EXT_TRK_UNKNOWN_COUNT : Fld := ⟨.EXT_TRK_UNKNOWN, 31, 0⟩
/-- 06 R169 -/
def Fld.EXT_TRK_UNTAGGED_COUNT : Fld := ⟨.EXT_TRK_UNTAGGED, 31, 0⟩
/-- 06 R169 -/
def Fld.EXT_TRUNK_CFG_UNKNOWN_ACT : Fld := ⟨.EXT_TRUNK_CFG, 31, 31⟩
/-- 17 R386 -/
def Fld.FLT_BLK_RESETS_COUNT : Fld := ⟨.FLT_BLK_RESETS, 31, 0⟩
/-- 17 R385 -/
def Fld.FLT_CFG_NMT_TARGETS : Fld := ⟨.FLT_CFG, 31, 24⟩
/-- 17 R385 -/
def Fld.FLT_CFG_REPEAT_LIMIT : Fld := ⟨.FLT_CFG, 23, 20⟩
/-- 17 R385 -/
def Fld.FLT_CFG_MERGE_TIME : Fld := ⟨.FLT_CFG, 7, 0⟩
/-- 17 R386 -/
def Fld.FLT_CHIP_REQ_CNT_COUNT : Fld := ⟨.FLT_CHIP_REQ_CNT, 31, 0⟩
/-- 17 R385 -/
def Fld.FLT_FIRST_SRC_VALID : Fld := ⟨.FLT_FIRST_SRC, 31, 31⟩
/-- 17 R385 -/
def Fld.FLT_FIRST_SRC_OVERFLOW : Fld := ⟨.FLT_FIRST_SRC, 30, 30⟩
/-- 17 R385 -/
def Fld.FLT_FIRST_SRC_WIRE : Fld := ⟨.FLT_FIRST_SRC, 29, 29⟩
/-- 17 R385 -/
def Fld.FLT_FIRST_SRC_SEVERITY : Fld := ⟨.FLT_FIRST_SRC, 28, 27⟩
/-- 17 R385 -/
def Fld.FLT_FIRST_SRC_MERGED : Fld := ⟨.FLT_FIRST_SRC, 23, 12⟩
/-- 17 R385 -/
def Fld.FLT_FIRST_SRC_SOURCE : Fld := ⟨.FLT_FIRST_SRC, 8, 0⟩
/-- 17 R385 -/
def Fld.FLT_FIRST_SYN_SYN : Fld := ⟨.FLT_FIRST_SYN, 31, 0⟩
/-- 17 R385 -/
def Fld.FLT_FIRST_TS_HI_TS : Fld := ⟨.FLT_FIRST_TS_HI, 31, 0⟩
/-- 17 R385 -/
def Fld.FLT_FIRST_TS_LO_TS : Fld := ⟨.FLT_FIRST_TS_LO, 31, 0⟩
/-- 17 R385 -/
def Fld.FLT_INJ_ADDR_ADDR : Fld := ⟨.FLT_INJ_ADDR, 27, 0⟩
/-- 17 R385 -/
def Fld.FLT_INJ_DATA_ARM : Fld := ⟨.FLT_INJ_DATA, 31, 31⟩
/-- 17 R385 -/
def Fld.FLT_INJ_DATA_ADDR_EN : Fld := ⟨.FLT_INJ_DATA, 30, 30⟩
/-- 17 R385 -/
def Fld.FLT_INJ_DATA_BITS : Fld := ⟨.FLT_INJ_DATA, 29, 28⟩
/-- 17 R385 -/
def Fld.FLT_INJ_DATA_MEM : Fld := ⟨.FLT_INJ_DATA, 3, 0⟩
/-- 17 R385 -/
def Fld.FLT_LANTERN_ARM : Fld := ⟨.FLT_LANTERN, 31, 31⟩
/-- 17 R385 -/
def Fld.FLT_LANTERN_STOP : Fld := ⟨.FLT_LANTERN, 30, 30⟩
/-- 17 R385 -/
def Fld.FLT_LANTERN_STATE : Fld := ⟨.FLT_LANTERN, 29, 28⟩
/-- 17 R385 -/
def Fld.FLT_LANTERN_KEY : Fld := ⟨.FLT_LANTERN, 23, 16⟩
/-- 17 R385 -/
def Fld.FLT_LANTERN_HALF : Fld := ⟨.FLT_LANTERN, 15, 0⟩
/-- 17 R385 -/
def Fld.FLT_NMT_PEND : Fld := ⟨.FLT_NMT, 7, 0⟩
/-- 17 R386 -/
def Fld.FLT_RST_FRAMES_COUNT : Fld := ⟨.FLT_RST_FRAMES, 31, 0⟩
/-- 17 R386 -/
def Fld.FLT_SHADOWED_COUNT : Fld := ⟨.FLT_SHADOWED, 31, 0⟩
/-- 17 R385 -/
def Fld.FLT_STATUS_PIN_HOLD : Fld := ⟨.FLT_STATUS, 31, 31⟩
/-- 17 R385 -/
def Fld.FLT_STATUS_DOME_HOLD : Fld := ⟨.FLT_STATUS, 30, 30⟩
/-- 17 R385 -/
def Fld.FLT_STATUS_EPISODE : Fld := ⟨.FLT_STATUS, 29, 29⟩
/-- 17 R385 -/
def Fld.FLT_STATUS_FACTORY : Fld := ⟨.FLT_STATUS, 28, 28⟩
/-- 17 R385 -/
def Fld.FLT_STATUS_INJ_REJ : Fld := ⟨.FLT_STATUS, 27, 27⟩
/-- 17 R385 -/
def Fld.FLT_STATUS_LANTERN_REJ : Fld := ⟨.FLT_STATUS, 26, 26⟩
/-- 17 R385 -/
def Fld.FLT_STATUS_KEY : Fld := ⟨.FLT_STATUS, 7, 0⟩
/-- 17 R385 -/
def Fld.FLT_SRC_CFG_MASK_EN : Fld := ⟨.FLT_SRC_CFG, 31, 31⟩
/-- 17 R385 -/
def Fld.FLT_SRC_CFG_REACT : Fld := ⟨.FLT_SRC_CFG, 30, 26⟩
/-- 17 R385 -/
def Fld.FLT_SRC_CFG_SEVERITY : Fld := ⟨.FLT_SRC_CFG, 25, 24⟩
/-- 17 R385 -/
def Fld.FLT_SRC_CFG_LOCK : Fld := ⟨.FLT_SRC_CFG, 23, 23⟩
/-- 17 R385 -/
def Fld.FLT_SRC_STATUS_FIRED : Fld := ⟨.FLT_SRC_STATUS, 31, 31⟩
/-- 17 R385 -/
def Fld.FLT_SRC_STATUS_IRQ : Fld := ⟨.FLT_SRC_STATUS, 30, 30⟩
/-- 17 R385 -/
def Fld.FLT_SRC_STATUS_RAIL : Fld := ⟨.FLT_SRC_STATUS, 29, 28⟩
/-- 17 R385 -/
def Fld.FLT_SRC_STATUS_SHADOW : Fld := ⟨.FLT_SRC_STATUS, 27, 27⟩
/-- 17 R385 -/
def Fld.FLT_SRC_STATUS_FIRE_CNT : Fld := ⟨.FLT_SRC_STATUS, 19, 16⟩
/-- 02 R67 -/
def Fld.GLB_BOOT_FUSE_DONE : Fld := ⟨.GLB_BOOT, 31, 31⟩
/-- 02 R67 -/
def Fld.GLB_BOOT_MEM_INIT_DONE : Fld := ⟨.GLB_BOOT, 30, 30⟩
/-- 02 R67 -/
def Fld.GLB_BOOT_FUSE_ERR : Fld := ⟨.GLB_BOOT, 1, 0⟩
/-- 01 R30 -/
def Fld.GLB_EGT_ERR_COUNT : Fld := ⟨.GLB_EGT_ERR, 31, 0⟩
/-- 01 R30 -/
def Fld.GLB_EGT_ERR_CAUSE_VALID : Fld := ⟨.GLB_EGT_ERR_CAUSE, 31, 31⟩
/-- 01 R30 -/
def Fld.GLB_EGT_ERR_CAUSE_REL : Fld := ⟨.GLB_EGT_ERR_CAUSE, 19, 19⟩
/-- 01 R30 -/
def Fld.GLB_EGT_ERR_CAUSE_CAUSE : Fld := ⟨.GLB_EGT_ERR_CAUSE, 18, 16⟩
/-- 01 R30 -/
def Fld.GLB_EGT_ERR_CAUSE_DST_PORT : Fld := ⟨.GLB_EGT_ERR_CAUSE, 10, 0⟩
/-- 00 R3 -/
def Fld.GLB_ID_BLOCK : Fld := ⟨.GLB_ID, 31, 16⟩
/-- 00 R3 -/
def Fld.GLB_ID_SIZE : Fld := ⟨.GLB_ID, 15, 8⟩
/-- 00 R3 -/
def Fld.GLB_ID_VARIANT : Fld := ⟨.GLB_ID, 7, 0⟩
/-- 00 R4 -/
def Fld.GLB_REV_STEP : Fld := ⟨.GLB_REV, 7, 4⟩
/-- 00 R4 -/
def Fld.GLB_REV_METAL : Fld := ⟨.GLB_REV, 3, 0⟩
/-- 02 R49 -/
def Fld.GLB_SLV_ERR_COUNT : Fld := ⟨.GLB_SLV_ERR, 31, 0⟩
/-- 19 R424 -/
def Fld.KEEP_CFG_PERIOD : Fld := ⟨.KEEP_CFG, 31, 16⟩
/-- 19 R424 -/
def Fld.KEEP_CFG_KEY_SLOT : Fld := ⟨.KEEP_CFG, 14, 12⟩
/-- 19 R424 -/
def Fld.KEEP_CFG_IN_CH : Fld := ⟨.KEEP_CFG, 11, 6⟩
/-- 19 R424 -/
def Fld.KEEP_CFG_OUT_CH : Fld := ⟨.KEEP_CFG, 5, 0⟩
/-- 19 R424 -/
def Fld.KEEP_CTRL_GO : Fld := ⟨.KEEP_CTRL, 31, 31⟩
/-- 19 R424 -/
def Fld.KEEP_CTRL_LOAD : Fld := ⟨.KEEP_CTRL, 30, 30⟩
/-- 19 R424 -/
def Fld.KEEP_CTRL_ABORT : Fld := ⟨.KEEP_CTRL, 29, 29⟩
/-- 19 R424 -/
def Fld.KEEP_LD_TS_HI_LD_TS_HI : Fld := ⟨.KEEP_LD_TS_HI, 31, 0⟩
/-- 19 R424 -/
def Fld.KEEP_LD_TS_LO_LD_TS_LO : Fld := ⟨.KEEP_LD_TS_LO, 31, 0⟩
/-- 19 R424 -/
def Fld.KEEP_LEN_LEN : Fld := ⟨.KEEP_LEN, 31, 0⟩
/-- 19 R424 -/
def Fld.KEEP_MIR_CFG_EN : Fld := ⟨.KEEP_MIR_CFG, 31, 31⟩
/-- 19 R424 -/
def Fld.KEEP_MIR_CFG_ROLE : Fld := ⟨.KEEP_MIR_CFG, 30, 30⟩
/-- 19 R424 -/
def Fld.KEEP_MIR_CFG_KIND : Fld := ⟨.KEEP_MIR_CFG, 29, 29⟩
/-- 19 R424 -/
def Fld.KEEP_MIR_CFG_MISS_LIMIT : Fld := ⟨.KEEP_MIR_CFG, 23, 20⟩
/-- 19 R424 -/
def Fld.KEEP_MIR_CFG_CYCLE : Fld := ⟨.KEEP_MIR_CFG, 7, 0⟩
/-- 19 R424 -/
def Fld.KEEP_MIR_CYCLE_MIR_CYCLE : Fld := ⟨.KEEP_MIR_CYCLE, 31, 0⟩
/-- 19 R424 -/
def Fld.KEEP_MIR_MISSES_COUNT : Fld := ⟨.KEEP_MIR_MISSES, 31, 0⟩
/-- 19 R424 -/
def Fld.KEEP_MIR_RESYNCS_COUNT : Fld := ⟨.KEEP_MIR_RESYNCS, 31, 0⟩
/-- 19 R424 -/
def Fld.KEEP_MIR_STATUS_STATE : Fld := ⟨.KEEP_MIR_STATUS, 31, 29⟩
/-- 19 R424 -/
def Fld.KEEP_MIR_STATUS_UNACKED : Fld := ⟨.KEEP_MIR_STATUS, 27, 24⟩
/-- 19 R424 -/
def Fld.KEEP_PRODUCED_COUNT : Fld := ⟨.KEEP_PRODUCED, 31, 0⟩
/-- 19 R424 -/
def Fld.KEEP_SEQ_SEQ : Fld := ⟨.KEEP_SEQ, 31, 0⟩
/-- 19 R424 -/
def Fld.KEEP_SKIPPED_COUNT : Fld := ⟨.KEEP_SKIPPED, 31, 0⟩
/-- 19 R424 -/
def Fld.KEEP_STATUS_STATE : Fld := ⟨.KEEP_STATUS, 31, 29⟩
/-- 19 R424 -/
def Fld.KEEP_STATUS_DONE : Fld := ⟨.KEEP_STATUS, 28, 28⟩
/-- 19 R424 -/
def Fld.KEEP_STATUS_FAIL : Fld := ⟨.KEEP_STATUS, 27, 27⟩
/-- 19 R424 -/
def Fld.KEEP_STATUS_GO_REJ : Fld := ⟨.KEEP_STATUS, 26, 26⟩
/-- 19 R424 -/
def Fld.KEEP_STATUS_MIR_EVT : Fld := ⟨.KEEP_STATUS, 25, 25⟩
/-- 19 R424 -/
def Fld.KEEP_STATUS_SAT : Fld := ⟨.KEEP_STATUS, 24, 24⟩
/-- 19 R424 -/
def Fld.KEEP_STATUS_ERR : Fld := ⟨.KEEP_STATUS, 7, 0⟩
/-- 19 R424 -/
def Fld.KEEP_TIMERS_OUT_TIMEOUT : Fld := ⟨.KEEP_TIMERS, 15, 0⟩
/-- 17 R387 -/
def Fld.LOG_ACC_DATA_DATA : Fld := ⟨.LOG_ACC_DATA, 31, 0⟩
/-- 17 R387 -/
def Fld.LOG_ACC_IDX_READY : Fld := ⟨.LOG_ACC_IDX, 31, 31⟩
/-- 17 R387 -/
def Fld.LOG_ACC_IDX_INDEX : Fld := ⟨.LOG_ACC_IDX, 14, 0⟩
/-- 17 R387 -/
def Fld.LOG_CFG_THRESH : Fld := ⟨.LOG_CFG, 15, 0⟩
/-- 17 R387 -/
def Fld.LOG_CTRL_FREEZE : Fld := ⟨.LOG_CTRL, 31, 31⟩
/-- 17 R387 -/
def Fld.LOG_CTRL_UNFREEZE : Fld := ⟨.LOG_CTRL, 30, 30⟩
/-- 17 R386 -/
def Fld.LOG_DROPPED_COUNT : Fld := ⟨.LOG_DROPPED, 31, 0⟩
/-- 17 R386 -/
def Fld.LOG_OVERWRITES_COUNT : Fld := ⟨.LOG_OVERWRITES, 31, 0⟩
/-- 17 R387 -/
def Fld.LOG_RD_IDX_IDX : Fld := ⟨.LOG_RD_IDX, 15, 0⟩
/-- 17 R387 -/
def Fld.LOG_STATUS_FROZEN : Fld := ⟨.LOG_STATUS, 31, 31⟩
/-- 17 R387 -/
def Fld.LOG_STATUS_FREEZE_SW : Fld := ⟨.LOG_STATUS, 30, 30⟩
/-- 17 R387 -/
def Fld.LOG_STATUS_OVERRUN : Fld := ⟨.LOG_STATUS, 29, 29⟩
/-- 17 R387 -/
def Fld.LOG_STATUS_THRESH_HIT : Fld := ⟨.LOG_STATUS, 28, 28⟩
/-- 17 R387 -/
def Fld.LOG_STATUS_SAT : Fld := ⟨.LOG_STATUS, 27, 27⟩
/-- 17 R387 -/
def Fld.LOG_STATUS_FILL : Fld := ⟨.LOG_STATUS, 15, 0⟩
/-- 17 R387 -/
def Fld.LOG_WR_IDX_IDX : Fld := ⟨.LOG_WR_IDX, 15, 0⟩
/-- 04 R127 -/
def Fld.MAC_CFG_EN : Fld := ⟨.MAC_CFG, 31, 31⟩
/-- 04 R127 -/
def Fld.MAC_CFG_DOWN_DROP : Fld := ⟨.MAC_CFG, 30, 30⟩
/-- 04 R127 -/
def Fld.MAC_CFG_LOOP : Fld := ⟨.MAC_CFG, 29, 28⟩
/-- 04 R127 -/
def Fld.MAC_CFG_FC_MODE : Fld := ⟨.MAC_CFG, 27, 26⟩
/-- 04 R127 -/
def Fld.MAC_CFG_MAX_FRAME : Fld := ⟨.MAC_CFG, 13, 0⟩
/-- 04 R127 -/
def Fld.MAC_EEE_EN : Fld := ⟨.MAC_EEE, 31, 31⟩
/-- 04 R127 -/
def Fld.MAC_EEE_IDLE_TIME : Fld := ⟨.MAC_EEE, 30, 16⟩
/-- 04 R127 -/
def Fld.MAC_EEE_TW_TX : Fld := ⟨.MAC_EEE, 15, 0⟩
/-- 04 R127 -/
def Fld.MAC_FC_FORCE_GO : Fld := ⟨.MAC_FC_FORCE, 31, 31⟩
/-- 04 R127 -/
def Fld.MAC_FC_FORCE_CLASS_VEC : Fld := ⟨.MAC_FC_FORCE, 23, 16⟩
/-- 04 R127 -/
def Fld.MAC_FC_FORCE_QUANTA : Fld := ⟨.MAC_FC_FORCE, 15, 0⟩
/-- 04 R127 -/
def Fld.MAC_FC_THR_XOFF_CELLS : Fld := ⟨.MAC_FC_THR, 31, 16⟩
/-- 04 R127 -/
def Fld.MAC_FC_THR_XON_CELLS : Fld := ⟨.MAC_FC_THR, 15, 0⟩
/-- 04 R127 -/
def Fld.MAC_FC_TX_TX_QUANTA : Fld := ⟨.MAC_FC_TX, 31, 16⟩
/-- 04 R127 -/
def Fld.MAC_FC_TX_PFC_CLASSES : Fld := ⟨.MAC_FC_TX, 15, 8⟩
/-- 04 R127 -/
def Fld.MAC_SA_HI_SA_HI : Fld := ⟨.MAC_SA_HI, 15, 0⟩
/-- 04 R127 -/
def Fld.MAC_SA_LO_SA_LO : Fld := ⟨.MAC_SA_LO, 31, 0⟩
/-- 04 R127 -/
def Fld.MAC_STATUS_LINK : Fld := ⟨.MAC_STATUS, 31, 31⟩
/-- 04 R127 -/
def Fld.MAC_STATUS_RX_LPI : Fld := ⟨.MAC_STATUS, 30, 30⟩
/-- 04 R127 -/
def Fld.MAC_STATUS_TX_LPI : Fld := ⟨.MAC_STATUS, 29, 29⟩
/-- 04 R127 -/
def Fld.MAC_STATUS_RX_PAUSED : Fld := ⟨.MAC_STATUS, 28, 28⟩
/-- 04 R127 -/
def Fld.MAC_STATUS_XOFF : Fld := ⟨.MAC_STATUS, 27, 27⟩
/-- 04 R127 -/
def Fld.MAC_STATUS_RATE : Fld := ⟨.MAC_STATUS, 26, 24⟩
/-- 04 R127 -/
def Fld.MAC_STATUS_RX_PFC_PAUSED : Fld := ⟨.MAC_STATUS, 23, 16⟩
/-- 04 R127 -/
def Fld.MAC_STATUS_XOFF_CLASSES : Fld := ⟨.MAC_STATUS, 15, 8⟩
/-- 04 R126 -/
def Fld.MAC_FEC_CORR_COUNT : Fld := ⟨.MAC_FEC_CORR, 31, 0⟩
/-- 04 R126 -/
def Fld.MAC_FEC_UNCORR_COUNT : Fld := ⟨.MAC_FEC_UNCORR, 31, 0⟩
/-- 04 R126 -/
def Fld.MAC_RX_CTRL_OTHER_COUNT : Fld := ⟨.MAC_RX_CTRL_OTHER, 31, 0⟩
/-- 04 R126 -/
def Fld.MAC_RX_DISABLED_COUNT : Fld := ⟨.MAC_RX_DISABLED, 31, 0⟩
/-- 04 R126 -/
def Fld.MAC_RX_FCS_ERR_COUNT : Fld := ⟨.MAC_RX_FCS_ERR, 31, 0⟩
/-- 04 R126 -/
def Fld.MAC_RX_FRAMES_HI_COUNT : Fld := ⟨.MAC_RX_FRAMES_HI, 31, 0⟩
/-- 04 R126 -/
def Fld.MAC_RX_FRAMES_LO_COUNT : Fld := ⟨.MAC_RX_FRAMES_LO, 31, 0⟩
/-- 04 R126 -/
def Fld.MAC_RX_LPI_COUNT : Fld := ⟨.MAC_RX_LPI, 31, 0⟩
/-- 04 R126 -/
def Fld.MAC_RX_OCTETS_HI_COUNT : Fld := ⟨.MAC_RX_OCTETS_HI, 31, 0⟩
/-- 04 R126 -/
def Fld.MAC_RX_OCTETS_LO_COUNT : Fld := ⟨.MAC_RX_OCTETS_LO, 31, 0⟩
/-- 04 R126 -/
def Fld.MAC_RX_OVERSIZE_COUNT : Fld := ⟨.MAC_RX_OVERSIZE, 31, 0⟩
/-- 04 R126 -/
def Fld.MAC_RX_PAUSE_COUNT : Fld := ⟨.MAC_RX_PAUSE, 31, 0⟩
/-- 04 R126 -/
def Fld.MAC_RX_PFC_COUNT : Fld := ⟨.MAC_RX_PFC, 31, 0⟩
/-- 04 R126 -/
def Fld.MAC_RX_PREAMBLE_COUNT : Fld := ⟨.MAC_RX_PREAMBLE, 31, 0⟩
/-- 04 R126 -/
def Fld.MAC_RX_RUNT_COUNT : Fld := ⟨.MAC_RX_RUNT, 31, 0⟩
/-- 04 R126 -/
def Fld.MAC_RX_SYMBOL_COUNT : Fld := ⟨.MAC_RX_SYMBOL, 31, 0⟩
/-- 04 R126 -/
def Fld.MAC_RX_TKT_OVF_COUNT : Fld := ⟨.MAC_RX_TKT_OVF, 31, 0⟩
/-- 04 R126 -/
def Fld.MAC_TX_FRAMES_HI_COUNT : Fld := ⟨.MAC_TX_FRAMES_HI, 31, 0⟩
/-- 04 R126 -/
def Fld.MAC_TX_FRAMES_LO_COUNT : Fld := ⟨.MAC_TX_FRAMES_LO, 31, 0⟩
/-- 04 R126 -/
def Fld.MAC_TX_LINK_DOWN_COUNT : Fld := ⟨.MAC_TX_LINK_DOWN, 31, 0⟩
/-- 04 R126 -/
def Fld.MAC_TX_LPI_COUNT : Fld := ⟨.MAC_TX_LPI, 31, 0⟩
/-- 04 R126 -/
def Fld.MAC_TX_OCTETS_HI_COUNT : Fld := ⟨.MAC_TX_OCTETS_HI, 31, 0⟩
/-- 04 R126 -/
def Fld.MAC_TX_OCTETS_LO_COUNT : Fld := ⟨.MAC_TX_OCTETS_LO, 31, 0⟩
/-- 04 R126 -/
def Fld.MAC_TX_OVERSIZE_COUNT : Fld := ⟨.MAC_TX_OVERSIZE, 31, 0⟩
/-- 04 R126 -/
def Fld.MAC_TX_PAUSE_COUNT : Fld := ⟨.MAC_TX_PAUSE, 31, 0⟩
/-- 04 R126 -/
def Fld.MAC_TX_PFC_COUNT : Fld := ⟨.MAC_TX_PFC, 31, 0⟩
/-- 02 R63 -/
def Fld.MNT_RST_REQ_CHIP : Fld := ⟨.MNT_RST_REQ, 31, 31⟩
/-- 02 R63 -/
def Fld.MNT_RST_REQ_BLOCK_GO : Fld := ⟨.MNT_RST_REQ, 30, 30⟩
/-- 02 R63 -/
def Fld.MNT_RST_REQ_KEY : Fld := ⟨.MNT_RST_REQ, 23, 16⟩
/-- 02 R63 -/
def Fld.MNT_RST_REQ_BLOCK : Fld := ⟨.MNT_RST_REQ, 4, 0⟩
/-- 02 R64 -/
def Fld.MNT_RST_STATUS_CHIP_REQ : Fld := ⟨.MNT_RST_STATUS, 31, 31⟩
/-- 02 R64 -/
def Fld.MNT_RST_STATUS_KEY_ERR : Fld := ⟨.MNT_RST_STATUS, 2, 2⟩
/-- 02 R64 -/
def Fld.MNT_RST_STATUS_BLOCK_BUSY : Fld := ⟨.MNT_RST_STATUS, 1, 1⟩
/-- 02 R64 -/
def Fld.MNT_RST_STATUS_BLOCK_REJ : Fld := ⟨.MNT_RST_STATUS, 0, 0⟩
/-- 09 R229 -/
def Fld.NREG_AGE_PERIOD : Fld := ⟨.NREG_AGE, 15, 0⟩
/-- 09 R230 -/
def Fld.NREG_ECC_COUNT : Fld := ⟨.NREG_ECC, 31, 0⟩
/-- 09 R230 -/
def Fld.NREG_LEARNED_COUNT : Fld := ⟨.NREG_LEARNED, 31, 0⟩
/-- 09 R230 -/
def Fld.NREG_REMOVED_COUNT : Fld := ⟨.NREG_REMOVED, 31, 0⟩
/-- 09 R229 -/
def Fld.NREG_STATUS_EVEN_PASS : Fld := ⟨.NREG_STATUS, 31, 31⟩
/-- 09 R229 -/
def Fld.NREG_STATUS_TOTAL : Fld := ⟨.NREG_STATUS, 17, 0⟩
/-- 09 R229 -/
def Fld.NREG_TAE_ADDR_INDEX : Fld := ⟨.NREG_TAE_ADDR, 17, 0⟩
/-- 09 R229 -/
def Fld.NREG_TAE_CMD_GO : Fld := ⟨.NREG_TAE_CMD, 31, 31⟩
/-- 09 R229 -/
def Fld.NREG_TAE_CMD_TARGET : Fld := ⟨.NREG_TAE_CMD, 27, 24⟩
/-- 09 R229 -/
def Fld.NREG_TAE_CMD_OP : Fld := ⟨.NREG_TAE_CMD, 19, 16⟩
/-- 09 R229 -/
def Fld.NREG_TAE_DATA_DATA : Fld := ⟨.NREG_TAE_DATA, 31, 0⟩
/-- 09 R229 -/
def Fld.NREG_TAE_STATUS_BUSY : Fld := ⟨.NREG_TAE_STATUS, 31, 31⟩
/-- 09 R229 -/
def Fld.NREG_TAE_STATUS_RESULT : Fld := ⟨.NREG_TAE_STATUS, 23, 20⟩
/-- 09 R229 -/
def Fld.NREG_TAE_STATUS_POS : Fld := ⟨.NREG_TAE_STATUS, 17, 0⟩
/-- 09 R230 -/
def Fld.NREG_BAD_SA_COUNT : Fld := ⟨.NREG_BAD_SA, 31, 0⟩
/-- 09 R230 -/
def Fld.NREG_LIMIT_DROP_COUNT : Fld := ⟨.NREG_LIMIT_DROP, 31, 0⟩
/-- 09 R230 -/
def Fld.NREG_LIMIT_FLOOD_COUNT : Fld := ⟨.NREG_LIMIT_FLOOD, 31, 0⟩
/-- 09 R230 -/
def Fld.NREG_NODE_GONE_COUNT : Fld := ⟨.NREG_NODE_GONE, 31, 0⟩
/-- 09 R229 -/
def Fld.NREG_PORT_CFG_LEARN_EN : Fld := ⟨.NREG_PORT_CFG, 31, 31⟩
/-- 09 R229 -/
def Fld.NREG_PORT_CFG_AGE_EN : Fld := ⟨.NREG_PORT_CFG, 30, 30⟩
/-- 09 R229 -/
def Fld.NREG_PORT_CFG_EXCESS_ACT : Fld := ⟨.NREG_PORT_CFG, 29, 29⟩
/-- 09 R229 -/
def Fld.NREG_PORT_CFG_LIMIT : Fld := ⟨.NREG_PORT_CFG, 7, 0⟩
/-- 09 R229 -/
def Fld.NREG_PORT_DEF_DEF_POL_EN : Fld := ⟨.NREG_PORT_DEF, 31, 31⟩
/-- 09 R229 -/
def Fld.NREG_PORT_DEF_DEF_QCLASS_EN : Fld := ⟨.NREG_PORT_DEF, 30, 30⟩
/-- 09 R229 -/
def Fld.NREG_PORT_DEF_DEF_QCLASS : Fld := ⟨.NREG_PORT_DEF, 29, 27⟩
/-- 09 R229 -/
def Fld.NREG_PORT_DEF_DEF_WEIGHT : Fld := ⟨.NREG_PORT_DEF, 15, 0⟩
/-- 09 R229 -/
def Fld.NREG_PORT_POL_DEF_POL_PROFILE : Fld := ⟨.NREG_PORT_POL, 15, 0⟩
/-- 09 R229 -/
def Fld.NREG_PORT_STATUS_FULL : Fld := ⟨.NREG_PORT_STATUS, 31, 31⟩
/-- 09 R229 -/
def Fld.NREG_PORT_STATUS_COUNT : Fld := ⟨.NREG_PORT_STATUS, 7, 0⟩
/-- 11 R270 -/
def Fld.OCU_CTRL_SWEEP_EN : Fld := ⟨.OCU_CTRL, 31, 31⟩
/-- 11 R270 -/
def Fld.OCU_CTRL_WATCH_EN : Fld := ⟨.OCU_CTRL, 30, 30⟩
/-- 11 R270 -/
def Fld.OCU_HIST_COUNT : Fld := ⟨.OCU_HIST, 31, 0⟩
/-- 11 R270 -/
def Fld.OCU_HIST_CFG_METRIC : Fld := ⟨.OCU_HIST_CFG, 31, 31⟩
/-- 11 R270 -/
def Fld.OCU_HIST_CFG_SRC : Fld := ⟨.OCU_HIST_CFG, 30, 29⟩
/-- 11 R270 -/
def Fld.OCU_HIST_CFG_KIND : Fld := ⟨.OCU_HIST_CFG, 28, 27⟩
/-- 11 R270 -/
def Fld.OCU_HIST_CFG_SHIFT : Fld := ⟨.OCU_HIST_CFG, 26, 22⟩
/-- 11 R270 -/
def Fld.OCU_HIST_CFG_PORT_HI : Fld := ⟨.OCU_HIST_CFG, 21, 11⟩
/-- 11 R270 -/
def Fld.OCU_HIST_CFG_PORT_LO : Fld := ⟨.OCU_HIST_CFG, 10, 0⟩
/-- 11 R271 -/
def Fld.OCU_LATE_COUNT : Fld := ⟨.OCU_LATE, 31, 0⟩
/-- 11 R270 -/
def Fld.OCU_STATUS_SWEEP_POS : Fld := ⟨.OCU_STATUS, 18, 0⟩
/-- 11 R270 -/
def Fld.OCU_STREAM_CFG_EN : Fld := ⟨.OCU_STREAM_CFG, 31, 31⟩
/-- 11 R270 -/
def Fld.OCU_STREAM_CFG_SWEEP : Fld := ⟨.OCU_STREAM_CFG, 30, 30⟩
/-- 11 R270 -/
def Fld.OCU_STREAM_CFG_WATCH : Fld := ⟨.OCU_STREAM_CFG, 29, 29⟩
/-- 11 R270 -/
def Fld.OCU_STREAM_CFG_NONEMPTY : Fld := ⟨.OCU_STREAM_CFG, 28, 28⟩
/-- 11 R270 -/
def Fld.OCU_STREAM_CFG_CHANNEL : Fld := ⟨.OCU_STREAM_CFG, 5, 0⟩
/-- 11 R271 -/
def Fld.OCU_STREAM_DROP_COUNT : Fld := ⟨.OCU_STREAM_DROP, 31, 0⟩
/-- 11 R271 -/
def Fld.OCU_SWEEPS_COUNT : Fld := ⟨.OCU_SWEEPS, 31, 0⟩
/-- 11 R270 -/
def Fld.OCU_MAX_CELLS_MAX : Fld := ⟨.OCU_MAX_CELLS, 24, 0⟩
/-- 11 R270 -/
def Fld.OCU_MAX_DELAY_MAX : Fld := ⟨.OCU_MAX_DELAY, 31, 0⟩
/-- 11 R270 -/
def Fld.OCU_MAX_QUEUE_QUEUE : Fld := ⟨.OCU_MAX_QUEUE, 18, 0⟩
/-- 11 R270 -/
def Fld.OCU_WATCH_EN : Fld := ⟨.OCU_WATCH, 31, 31⟩
/-- 11 R270 -/
def Fld.OCU_WATCH_QUEUE : Fld := ⟨.OCU_WATCH, 18, 0⟩
/-- 11 R270 -/
def Fld.OCU_WATCH_LAST_DELAY : Fld := ⟨.OCU_WATCH_LAST, 31, 0⟩
/-- 11 R270 -/
def Fld.OCU_WATCH_MAXC_MAX : Fld := ⟨.OCU_WATCH_MAXC, 24, 0⟩
/-- 11 R270 -/
def Fld.OCU_WATCH_MAXD_MAX : Fld := ⟨.OCU_WATCH_MAXD, 31, 0⟩
/-- 10 R250 -/
def Fld.POL_COLOUR_INV_COUNT : Fld := ⟨.POL_COLOUR_INV, 31, 0⟩
/-- 10 R248 -/
def Fld.POL_DSCP_MAP_COLOURS : Fld := ⟨.POL_DSCP_MAP, 31, 0⟩
/-- 10 R250 -/
def Fld.POL_ECC_COUNT : Fld := ⟨.POL_ECC, 31, 0⟩
/-- 10 R248 -/
def Fld.POL_RESET_MODE_FLOW : Fld := ⟨.POL_RESET_MODE, 2, 2⟩
/-- 10 R248 -/
def Fld.POL_RESET_MODE_NODE : Fld := ⟨.POL_RESET_MODE, 1, 1⟩
/-- 10 R248 -/
def Fld.POL_RESET_MODE_PORT : Fld := ⟨.POL_RESET_MODE, 0, 0⟩
/-- 10 R248 -/
def Fld.POL_TAE_ADDR_INDEX : Fld := ⟨.POL_TAE_ADDR, 15, 0⟩
/-- 10 R248 -/
def Fld.POL_TAE_CMD_GO : Fld := ⟨.POL_TAE_CMD, 31, 31⟩
/-- 10 R248 -/
def Fld.POL_TAE_CMD_TARGET : Fld := ⟨.POL_TAE_CMD, 27, 24⟩
/-- 10 R248 -/
def Fld.POL_TAE_CMD_OP : Fld := ⟨.POL_TAE_CMD, 19, 16⟩
/-- 10 R248 -/
def Fld.POL_TAE_DATA_DATA : Fld := ⟨.POL_TAE_DATA, 31, 0⟩
/-- 10 R248 -/
def Fld.POL_TAE_STATUS_BUSY : Fld := ⟨.POL_TAE_STATUS, 31, 31⟩
/-- 10 R248 -/
def Fld.POL_TAE_STATUS_RESULT : Fld := ⟨.POL_TAE_STATUS, 23, 20⟩
/-- 10 R250 -/
def Fld.POL_DROP_FLOW_COUNT : Fld := ⟨.POL_DROP_FLOW, 31, 0⟩
/-- 10 R250 -/
def Fld.POL_DROP_NODE_COUNT : Fld := ⟨.POL_DROP_NODE, 31, 0⟩
/-- 10 R250 -/
def Fld.POL_DROP_PORT_COUNT : Fld := ⟨.POL_DROP_PORT, 31, 0⟩
/-- 10 R250 -/
def Fld.POL_GREEN_COUNT : Fld := ⟨.POL_GREEN, 31, 0⟩
/-- 10 R250 -/
def Fld.POL_RED_COUNT : Fld := ⟨.POL_RED, 31, 0⟩
/-- 10 R250 -/
def Fld.POL_YELLOW_COUNT : Fld := ⟨.POL_YELLOW, 31, 0⟩
/-- 10 R248 -/
def Fld.POL_PORT_CFG_EN : Fld := ⟨.POL_PORT_CFG, 31, 31⟩
/-- 10 R248 -/
def Fld.POL_PORT_CFG_PRE_SRC : Fld := ⟨.POL_PORT_CFG, 30, 29⟩
/-- 10 R248 -/
def Fld.POL_PORT_CFG_PROFILE : Fld := ⟨.POL_PORT_CFG, 15, 0⟩
/-- 07 R187 -/
def Fld.PRS_DEPTH_COUNT : Fld := ⟨.PRS_DEPTH, 31, 0⟩
/-- 07 R186 -/
def Fld.PRS_DEPTH_CAP_VALID : Fld := ⟨.PRS_DEPTH_CAP, 31, 31⟩
/-- 07 R186 -/
def Fld.PRS_DEPTH_CAP_CAUSE : Fld := ⟨.PRS_DEPTH_CAP, 26, 24⟩
/-- 07 R186 -/
def Fld.PRS_DEPTH_CAP_LAYER : Fld := ⟨.PRS_DEPTH_CAP, 23, 20⟩
/-- 07 R186 -/
def Fld.PRS_DEPTH_CAP_OFFSET : Fld := ⟨.PRS_DEPTH_CAP, 19, 12⟩
/-- 07 R186 -/
def Fld.PRS_DEPTH_CAP_SRC_PORT : Fld := ⟨.PRS_DEPTH_CAP, 10, 0⟩
/-- 07 R187 -/
def Fld.PRS_FRAGMENT_COUNT : Fld := ⟨.PRS_FRAGMENT, 31, 0⟩
/-- 07 R187 -/
def Fld.PRS_HSR_SUP_COUNT : Fld := ⟨.PRS_HSR_SUP, 31, 0⟩
/-- 07 R186 -/
def Fld.PRS_MALF_CAP_VALID : Fld := ⟨.PRS_MALF_CAP, 31, 31⟩
/-- 07 R186 -/
def Fld.PRS_MALF_CAP_CAUSE : Fld := ⟨.PRS_MALF_CAP, 27, 24⟩
/-- 07 R186 -/
def Fld.PRS_MALF_CAP_LAYER : Fld := ⟨.PRS_MALF_CAP, 23, 20⟩
/-- 07 R186 -/
def Fld.PRS_MALF_CAP_OFFSET : Fld := ⟨.PRS_MALF_CAP, 19, 12⟩
/-- 07 R186 -/
def Fld.PRS_MALF_CAP_SRC_PORT : Fld := ⟨.PRS_MALF_CAP, 10, 0⟩
/-- 07 R187 -/
def Fld.PRS_MALF_DROP_COUNT : Fld := ⟨.PRS_MALF_DROP, 31, 0⟩
/-- 07 R187 -/
def Fld.PRS_MALF_SLOW_COUNT : Fld := ⟨.PRS_MALF_SLOW, 31, 0⟩
/-- 07 R187 -/
def Fld.PRS_UNPARSED_COUNT : Fld := ⟨.PRS_UNPARSED, 31, 0⟩
/-- 07 R187 -/
def Fld.PRS_MALFORMED_COUNT : Fld := ⟨.PRS_MALFORMED, 31, 0⟩
/-- 07 R186 -/
def Fld.PRS_PORT_CFG_MALF_ACT : Fld := ⟨.PRS_PORT_CFG, 1, 0⟩
/-- 18 R399 -/
def Fld.PWR_AVS_CFG_EN : Fld := ⟨.PWR_AVS_CFG, 31, 31⟩
/-- 18 R399 -/
def Fld.PWR_AVS_CFG_PERIOD : Fld := ⟨.PWR_AVS_CFG, 23, 16⟩
/-- 18 R399 -/
def Fld.PWR_AVS_CFG_TRIM_MAX : Fld := ⟨.PWR_AVS_CFG, 15, 8⟩
/-- 18 R399 -/
def Fld.PWR_AVS_CFG_TRIM_MIN : Fld := ⟨.PWR_AVS_CFG, 7, 0⟩
/-- 18 R399 -/
def Fld.PWR_AVS_EMERGS_COUNT : Fld := ⟨.PWR_AVS_EMERGS, 31, 0⟩
/-- 18 R399 -/
def Fld.PWR_AVS_STATUS_REQ : Fld := ⟨.PWR_AVS_STATUS, 31, 24⟩
/-- 18 R399 -/
def Fld.PWR_AVS_STATUS_MARGIN : Fld := ⟨.PWR_AVS_STATUS, 7, 0⟩
/-- 18 R399 -/
def Fld.PWR_AVS_THR_HIGH : Fld := ⟨.PWR_AVS_THR, 23, 16⟩
/-- 18 R399 -/
def Fld.PWR_AVS_THR_LOW : Fld := ⟨.PWR_AVS_THR, 15, 8⟩
/-- 18 R399 -/
def Fld.PWR_AVS_THR_CRIT : Fld := ⟨.PWR_AVS_THR, 7, 0⟩
/-- 18 R399 -/
def Fld.PWR_ENG_CFG_PRIO : Fld := ⟨.PWR_ENG_CFG, 31, 30⟩
/-- 18 R399 -/
def Fld.PWR_ENG_CFG_FLOOR : Fld := ⟨.PWR_ENG_CFG, 26, 16⟩
/-- 18 R399 -/
def Fld.PWR_ENG_CFG_MAX : Fld := ⟨.PWR_ENG_CFG, 10, 0⟩
/-- 18 R399 -/
def Fld.PWR_ENG_STATUS_GRANT : Fld := ⟨.PWR_ENG_STATUS, 26, 16⟩
/-- 18 R399 -/
def Fld.PWR_ENG_STATUS_USED : Fld := ⟨.PWR_ENG_STATUS, 10, 0⟩
/-- 18 R399 -/
def Fld.PWR_PODL_BUDGET_BUDGET : Fld := ⟨.PWR_PODL_BUDGET, 23, 0⟩
/-- 18 R399 -/
def Fld.PWR_PODL_CFG_EN : Fld := ⟨.PWR_PODL_CFG, 31, 31⟩
/-- 18 R399 -/
def Fld.PWR_PODL_CFG_REVOKE : Fld := ⟨.PWR_PODL_CFG, 29, 28⟩
/-- 18 R399 -/
def Fld.PWR_PODL_CFG_SETTLE : Fld := ⟨.PWR_PODL_CFG, 7, 0⟩
/-- 18 R399 -/
def Fld.PWR_PODL_CLASS_MW : Fld := ⟨.PWR_PODL_CLASS, 23, 0⟩
/-- 18 R399 -/
def Fld.PWR_PODL_REVOKES_COUNT : Fld := ⟨.PWR_PODL_REVOKES, 31, 0⟩
/-- 18 R399 -/
def Fld.PWR_PODL_USED_USED : Fld := ⟨.PWR_PODL_USED, 23, 0⟩
/-- 18 R399 -/
def Fld.PWR_POOL_POOL : Fld := ⟨.PWR_POOL, 12, 0⟩
/-- 18 R399 -/
def Fld.PWR_STATUS_EMERG : Fld := ⟨.PWR_STATUS, 31, 31⟩
/-- 18 R399 -/
def Fld.PWR_STATUS_EMERG_HIT : Fld := ⟨.PWR_STATUS, 30, 30⟩
/-- 18 R399 -/
def Fld.PWR_STATUS_PODL_EVT : Fld := ⟨.PWR_STATUS, 29, 29⟩
/-- 18 R399 -/
def Fld.PWR_STATUS_OVER : Fld := ⟨.PWR_STATUS, 28, 28⟩
/-- 18 R399 -/
def Fld.PWR_STATUS_REQ_CHG : Fld := ⟨.PWR_STATUS, 27, 27⟩
/-- 18 R399 -/
def Fld.PWR_STATUS_SAT : Fld := ⟨.PWR_STATUS, 26, 26⟩
/-- 18 R399 -/
def Fld.PWR_PODL_SEG_FORCE_OFF : Fld := ⟨.PWR_PODL_SEG, 31, 31⟩
/-- 18 R399 -/
def Fld.PWR_PODL_SEG_NOREVOKE : Fld := ⟨.PWR_PODL_SEG, 30, 30⟩
/-- 18 R399 -/
def Fld.PWR_PODL_SEG_PRIO : Fld := ⟨.PWR_PODL_SEG, 29, 28⟩
/-- 18 R399 -/
def Fld.PWR_PODL_SEG_GRANTED : Fld := ⟨.PWR_PODL_SEG, 27, 27⟩
/-- 18 R399 -/
def Fld.PWR_PODL_SEG_WAIT : Fld := ⟨.PWR_PODL_SEG, 26, 26⟩
/-- 18 R399 -/
def Fld.PWR_PODL_SEG_CLASS : Fld := ⟨.PWR_PODL_SEG, 19, 16⟩
/-- 11 R269 -/
def Fld.SCH_CAND_REPL_COUNT : Fld := ⟨.SCH_CAND_REPL, 31, 0⟩
/-- 11 R269 -/
def Fld.SCH_NODEQ_OFF_COUNT : Fld := ⟨.SCH_NODEQ_OFF, 31, 0⟩
/-- 11 R269 -/
def Fld.SCH_TAG_REJ_COUNT : Fld := ⟨.SCH_TAG_REJ, 31, 0⟩
/-- 11 R268 -/
def Fld.SCH_CBS_CREDIT_CREDIT : Fld := ⟨.SCH_CBS_CREDIT, 31, 0⟩
/-- 11 R268 -/
def Fld.SCH_CBS_HI_HI_CREDIT : Fld := ⟨.SCH_CBS_HI, 23, 0⟩
/-- 11 R268 -/
def Fld.SCH_CBS_SLOPE_IDLE_SLOPE : Fld := ⟨.SCH_CBS_SLOPE, 23, 0⟩
/-- 11 R268 -/
def Fld.SCH_CLASS_CFG_CBS_EN : Fld := ⟨.SCH_CLASS_CFG, 31, 31⟩
/-- 11 R268 -/
def Fld.SCH_CLASS_CFG_QUANTUM : Fld := ⟨.SCH_CLASS_CFG, 23, 16⟩
/-- 11 R268 -/
def Fld.SCH_CLASS_CFG_CQ_WEIGHT : Fld := ⟨.SCH_CLASS_CFG, 15, 0⟩
/-- 11 R268 -/
def Fld.SCH_CQ_CELLS_CELLS : Fld := ⟨.SCH_CQ_CELLS, 31, 0⟩
/-- 11 R268 -/
def Fld.SCH_CQ_COPIES_COPIES : Fld := ⟨.SCH_CQ_COPIES, 31, 0⟩
/-- 11 R268 -/
def Fld.SCH_DEFICIT_FRESH : Fld := ⟨.SCH_DEFICIT, 31, 31⟩
/-- 11 R268 -/
def Fld.SCH_DEFICIT_DEFICIT : Fld := ⟨.SCH_DEFICIT, 19, 0⟩
/-- 11 R268 -/
def Fld.SCH_VTIME_V : Fld := ⟨.SCH_VTIME, 31, 0⟩
/-- 11 R268 -/
def Fld.SCH_GLB_CFG_SHAPER_RESET_MODE : Fld := ⟨.SCH_GLB_CFG, 0, 0⟩
/-- 11 R268 -/
def Fld.SCH_PORT_CFG_CAND_REPL : Fld := ⟨.SCH_PORT_CFG, 31, 31⟩
/-- 11 R268 -/
def Fld.SCH_PORT_CFG_OVERHEAD : Fld := ⟨.SCH_PORT_CFG, 7, 0⟩
/-- 11 R268 -/
def Fld.SCH_PORT_COPIES_COPIES : Fld := ⟨.SCH_PORT_COPIES, 31, 0⟩
/-- 11 R268 -/
def Fld.SCH_PORT_STATUS_BUSY : Fld := ⟨.SCH_PORT_STATUS, 31, 31⟩
/-- 11 R268 -/
def Fld.SCH_PORT_STATUS_TX_CLASS : Fld := ⟨.SCH_PORT_STATUS, 30, 28⟩
/-- 11 R268 -/
def Fld.SCH_PORT_STATUS_ELIG : Fld := ⟨.SCH_PORT_STATUS, 23, 16⟩
/-- 11 R268 -/
def Fld.SCH_PORT_STATUS_BACKLOG : Fld := ⟨.SCH_PORT_STATUS, 15, 8⟩
/-- 05 R150 -/
def Fld.SEG_BABBLE_THRESH : Fld := ⟨.SEG_BABBLE, 31, 24⟩
/-- 05 R150 -/
def Fld.SEG_BABBLE_WINDOW : Fld := ⟨.SEG_BABBLE, 15, 0⟩
/-- 05 R150 -/
def Fld.SEG_CFG_EN : Fld := ⟨.SEG_CFG, 31, 31⟩
/-- 05 R150 -/
def Fld.SEG_CFG_SERVICE : Fld := ⟨.SEG_CFG, 30, 30⟩
/-- 05 R150 -/
def Fld.SEG_CFG_ACCESS : Fld := ⟨.SEG_CFG, 29, 28⟩
/-- 05 R150 -/
def Fld.SEG_CFG_XCHK_ACT : Fld := ⟨.SEG_CFG, 27, 26⟩
/-- 05 R150 -/
def Fld.SEG_CFG_BABBLE_ACT : Fld := ⟨.SEG_CFG, 25, 25⟩
/-- 05 R150 -/
def Fld.SEG_CFG_SERVICE_NODE : Fld := ⟨.SEG_CFG, 23, 16⟩
/-- 05 R150 -/
def Fld.SEG_PLCA_NODE_COUNT : Fld := ⟨.SEG_PLCA, 31, 24⟩
/-- 05 R150 -/
def Fld.SEG_PLCA_TO_TIMER : Fld := ⟨.SEG_PLCA, 23, 16⟩
/-- 05 R150 -/
def Fld.SEG_PLCA_MAX_BURST : Fld := ⟨.SEG_PLCA, 15, 8⟩
/-- 05 R150 -/
def Fld.SEG_PLCA_BURST_TIMER : Fld := ⟨.SEG_PLCA, 7, 0⟩
/-- 05 R150 -/
def Fld.SEG_STATUS_STATE : Fld := ⟨.SEG_STATUS, 31, 29⟩
/-- 05 R150 -/
def Fld.SEG_STATUS_PLCA_ACTIVE : Fld := ⟨.SEG_STATUS, 28, 28⟩
/-- 05 R150 -/
def Fld.SEG_STATUS_BABBLE : Fld := ⟨.SEG_STATUS, 27, 27⟩
/-- 05 R150 -/
def Fld.SEG_STATUS_FORCED : Fld := ⟨.SEG_STATUS, 26, 26⟩
/-- 05 R150 -/
def Fld.SEG_STATUS_CAND : Fld := ⟨.SEG_STATUS, 25, 25⟩
/-- 05 R150 -/
def Fld.SEG_STATUS_LAST_VIOL_ID : Fld := ⟨.SEG_STATUS, 23, 16⟩
/-- 05 R150 -/
def Fld.SEG_STATUS_CUR_ID : Fld := ⟨.SEG_STATUS, 15, 8⟩
/-- 05 R150 -/
def Fld.SEG_TXSTATE_ATTEMPTS : Fld := ⟨.SEG_TXSTATE, 31, 28⟩
/-- 05 R150 -/
def Fld.SEG_TXSTATE_BACKOFF : Fld := ⟨.SEG_TXSTATE, 27, 18⟩
/-- 05 R151 -/
def Fld.SEG_BABBLE_EVENTS_COUNT : Fld := ⟨.SEG_BABBLE_EVENTS, 31, 0⟩
/-- 05 R151 -/
def Fld.SEG_COLLISIONS_COUNT : Fld := ⟨.SEG_COLLISIONS, 31, 0⟩
/-- 05 R151 -/
def Fld.SEG_CYCLES_HI_COUNT : Fld := ⟨.SEG_CYCLES_HI, 31, 0⟩
/-- 05 R151 -/
def Fld.SEG_CYCLES_LO_COUNT : Fld := ⟨.SEG_CYCLES_LO, 31, 0⟩
/-- 05 R151 -/
def Fld.SEG_DEFERRED_COUNT : Fld := ⟨.SEG_DEFERRED, 31, 0⟩
/-- 05 R151 -/
def Fld.SEG_EXCESS_COLL_COUNT : Fld := ⟨.SEG_EXCESS_COLL, 31, 0⟩
/-- 05 R151 -/
def Fld.SEG_LATE_COLL_COUNT : Fld := ⟨.SEG_LATE_COLL, 31, 0⟩
/-- 05 R151 -/
def Fld.SEG_OPP_RX_ERR_COUNT : Fld := ⟨.SEG_OPP_RX_ERR, 31, 0⟩
/-- 05 R151 -/
def Fld.SEG_OWN_OPP_IDLE_COUNT : Fld := ⟨.SEG_OWN_OPP_IDLE, 31, 0⟩
/-- 05 R151 -/
def Fld.SEG_PLCA_ERR_COUNT : Fld := ⟨.SEG_PLCA_ERR, 31, 0⟩
/-- 05 R151 -/
def Fld.SEG_QUAR_RX_COUNT : Fld := ⟨.SEG_QUAR_RX, 31, 0⟩
/-- 05 R151 -/
def Fld.SEG_RX_COLL_COUNT : Fld := ⟨.SEG_RX_COLL, 31, 0⟩
/-- 05 R151 -/
def Fld.SEG_XCHK_ERR_COUNT : Fld := ⟨.SEG_XCHK_ERR, 31, 0⟩
/-- 19 R425 -/
def Fld.SES_AUTH_FAIL_COUNT : Fld := ⟨.SES_AUTH_FAIL, 31, 0⟩
/-- 19 R425 -/
def Fld.SES_CFG_ETYPE : Fld := ⟨.SES_CFG, 31, 16⟩
/-- 19 R425 -/
def Fld.SES_CFG_TRUNKS : Fld := ⟨.SES_CFG, 15, 0⟩
/-- 19 R425 -/
def Fld.SES_DENIED_COUNT : Fld := ⟨.SES_DENIED, 31, 0⟩
/-- 19 R425 -/
def Fld.SES_KEY_CTRL_WRITE : Fld := ⟨.SES_KEY_CTRL, 31, 31⟩
/-- 19 R425 -/
def Fld.SES_KEY_CTRL_ERASE : Fld := ⟨.SES_KEY_CTRL, 30, 30⟩
/-- 19 R425 -/
def Fld.SES_KEY_CTRL_LOCK : Fld := ⟨.SES_KEY_CTRL, 29, 29⟩
/-- 19 R425 -/
def Fld.SES_KEY_CTRL_KEY : Fld := ⟨.SES_KEY_CTRL, 15, 8⟩
/-- 19 R425 -/
def Fld.SES_KEY_CTRL_SLOT : Fld := ⟨.SES_KEY_CTRL, 2, 0⟩
/-- 19 R425 -/
def Fld.SES_KEY_DATA_DATA : Fld := ⟨.SES_KEY_DATA, 31, 0⟩
/-- 19 R425 -/
def Fld.SES_KEY_STATUS_LOCKED : Fld := ⟨.SES_KEY_STATUS, 15, 8⟩
/-- 19 R425 -/
def Fld.SES_KEY_STATUS_WRITTEN : Fld := ⟨.SES_KEY_STATUS, 7, 0⟩
/-- 19 R425 -/
def Fld.SES_REJ_COUNT : Fld := ⟨.SES_REJ, 31, 0⟩
/-- 19 R425 -/
def Fld.SES_RSP_DROP_COUNT : Fld := ⟨.SES_RSP_DROP, 31, 0⟩
/-- 19 R425 -/
def Fld.SES_SA_HI_SA_HI : Fld := ⟨.SES_SA_HI, 15, 0⟩
/-- 19 R425 -/
def Fld.SES_SA_LO_SA_LO : Fld := ⟨.SES_SA_LO, 31, 0⟩
/-- 19 R425 -/
def Fld.SES_STATUS_OPENED : Fld := ⟨.SES_STATUS, 31, 31⟩
/-- 19 R425 -/
def Fld.SES_STATUS_CLOSED : Fld := ⟨.SES_STATUS, 30, 30⟩
/-- 19 R425 -/
def Fld.SES_STATUS_AUTH_FAIL : Fld := ⟨.SES_STATUS, 29, 29⟩
/-- 19 R425 -/
def Fld.SES_STATUS_LOCKED_EVT : Fld := ⟨.SES_STATUS, 28, 28⟩
/-- 19 R425 -/
def Fld.SES_STATUS_KEY_REJ : Fld := ⟨.SES_STATUS, 27, 27⟩
/-- 19 R425 -/
def Fld.SES_STATUS_SAT : Fld := ⟨.SES_STATUS, 26, 26⟩
/-- 19 R425 -/
def Fld.SES_STATUS_SLOT_OUT : Fld := ⟨.SES_STATUS, 7, 0⟩
/-- 19 R425 -/
def Fld.SES_TIMERS_IDLE : Fld := ⟨.SES_TIMERS, 31, 24⟩
/-- 19 R425 -/
def Fld.SES_TIMERS_LOCK_TIME : Fld := ⟨.SES_TIMERS, 23, 16⟩
/-- 19 R425 -/
def Fld.SES_TIMERS_FAIL_LIMIT : Fld := ⟨.SES_TIMERS, 15, 12⟩
/-- 19 R425 -/
def Fld.SES_TIMERS_CLASS : Fld := ⟨.SES_TIMERS, 10, 8⟩
/-- 19 R425 -/
def Fld.SES_SESS_STATE : Fld := ⟨.SES_SESS, 31, 30⟩
/-- 19 R425 -/
def Fld.SES_SESS_SLOT : Fld := ⟨.SES_SESS, 26, 24⟩
/-- 19 R425 -/
def Fld.SES_SESS_TRUNK : Fld := ⟨.SES_SESS, 19, 16⟩
/-- 19 R425 -/
def Fld.SES_SESS_SID : Fld := ⟨.SES_SESS, 15, 0⟩
/-- 19 R425 -/
def Fld.SES_SESS_SA_HI_SA_HI : Fld := ⟨.SES_SESS_SA_HI, 15, 0⟩
/-- 19 R425 -/
def Fld.SES_SESS_SA_LO_SA_LO : Fld := ⟨.SES_SESS_SA_LO, 31, 0⟩
/-- 19 R425 -/
def Fld.SES_WIN_BASE_OFFSET : Fld := ⟨.SES_WIN_BASE, 24, 2⟩
/-- 19 R425 -/
def Fld.SES_WIN_CFG_EN : Fld := ⟨.SES_WIN_CFG, 31, 31⟩
/-- 19 R425 -/
def Fld.SES_WIN_CFG_RD : Fld := ⟨.SES_WIN_CFG, 30, 30⟩
/-- 19 R425 -/
def Fld.SES_WIN_CFG_WR : Fld := ⟨.SES_WIN_CFG, 29, 29⟩
/-- 19 R425 -/
def Fld.SES_WIN_CFG_CMD : Fld := ⟨.SES_WIN_CFG, 28, 28⟩
/-- 19 R425 -/
def Fld.SES_WIN_CFG_SLOTS : Fld := ⟨.SES_WIN_CFG, 23, 16⟩
/-- 19 R425 -/
def Fld.SES_WIN_LIMIT_OFFSET : Fld := ⟨.SES_WIN_LIMIT, 24, 2⟩
/-- 13 R311 -/
def Fld.SPI_CUT_BAD_COUNT : Fld := ⟨.SPI_CUT_BAD, 31, 0⟩
/-- 13 R311 -/
def Fld.SPI_CUT_HI_COUNT : Fld := ⟨.SPI_CUT_HI, 31, 0⟩
/-- 13 R311 -/
def Fld.SPI_CUT_LO_COUNT : Fld := ⟨.SPI_CUT_LO, 31, 0⟩
/-- 13 R311 -/
def Fld.SPI_FALLBACK_COUNT : Fld := ⟨.SPI_FALLBACK, 31, 0⟩
/-- 13 R311 -/
def Fld.SPI_FB_DROP_COUNT : Fld := ⟨.SPI_FB_DROP, 31, 0⟩
/-- 13 R311 -/
def Fld.SPI_FB_NOCELL_COUNT : Fld := ⟨.SPI_FB_NOCELL, 31, 0⟩
/-- 13 R311 -/
def Fld.SPI_HSR_DUP_COUNT : Fld := ⟨.SPI_HSR_DUP, 31, 0⟩
/-- 13 R311 -/
def Fld.SPI_HSR_OWN_COUNT : Fld := ⟨.SPI_HSR_OWN, 31, 0⟩
/-- 13 R311 -/
def Fld.SPI_ECC_COUNT : Fld := ⟨.SPI_ECC, 31, 0⟩
/-- 13 R310 -/
def Fld.SPI_HSR_SA_HI_SA_HI : Fld := ⟨.SPI_HSR_SA_HI, 15, 0⟩
/-- 13 R310 -/
def Fld.SPI_HSR_SA_LO_SA_LO : Fld := ⟨.SPI_HSR_SA_LO, 31, 0⟩
/-- 13 R310 -/
def Fld.SPI_TAE_ADDR_INDEX : Fld := ⟨.SPI_TAE_ADDR, 7, 0⟩
/-- 13 R310 -/
def Fld.SPI_TAE_CMD_GO : Fld := ⟨.SPI_TAE_CMD, 31, 31⟩
/-- 13 R310 -/
def Fld.SPI_TAE_CMD_OP : Fld := ⟨.SPI_TAE_CMD, 19, 16⟩
/-- 13 R310 -/
def Fld.SPI_TAE_DATA_DATA : Fld := ⟨.SPI_TAE_DATA, 31, 0⟩
/-- 13 R310 -/
def Fld.SPI_TAE_STATUS_BUSY : Fld := ⟨.SPI_TAE_STATUS, 31, 31⟩
/-- 13 R310 -/
def Fld.SPI_TAE_STATUS_RESULT : Fld := ⟨.SPI_TAE_STATUS, 23, 20⟩
/-- 13 R311 -/
def Fld.SPI_HSR_EVICT_COUNT : Fld := ⟨.SPI_HSR_EVICT, 31, 0⟩
/-- 13 R310 -/
def Fld.SPI_PAIR_CFG_EN : Fld := ⟨.SPI_PAIR_CFG, 31, 31⟩
/-- 13 R310 -/
def Fld.SPI_PAIR_CFG_HSR_EN : Fld := ⟨.SPI_PAIR_CFG, 30, 30⟩
/-- 13 R310 -/
def Fld.SPI_PAIR_CFG_DUP_EN : Fld := ⟨.SPI_PAIR_CFG, 29, 29⟩
/-- 13 R310 -/
def Fld.SPI_PAIR_CFG_HSR_CLASS : Fld := ⟨.SPI_PAIR_CFG, 28, 26⟩
/-- 13 R310 -/
def Fld.SPI_PAIR_CFG_MAX_RUN : Fld := ⟨.SPI_PAIR_CFG, 23, 16⟩
/-- 13 R310 -/
def Fld.SPI_PAIR_CFG_DUP_AGE : Fld := ⟨.SPI_PAIR_CFG, 15, 0⟩
/-- 13 R310 -/
def Fld.SPI_PAIR_STATUS_VALID : Fld := ⟨.SPI_PAIR_STATUS, 31, 31⟩
/-- 13 R310 -/
def Fld.SPI_PAIR_STATUS_DUP_USED : Fld := ⟨.SPI_PAIR_STATUS, 28, 16⟩
/-- 13 R310 -/
def Fld.SPI_PAIR_STATUS_TRUNK_B : Fld := ⟨.SPI_PAIR_STATUS, 11, 8⟩
/-- 13 R310 -/
def Fld.SPI_PAIR_STATUS_TRUNK_A : Fld := ⟨.SPI_PAIR_STATUS, 3, 0⟩
/-- 03 R93 -/
def Fld.STI_ACTIVE_MAJOR : Fld := ⟨.STI_ACTIVE, 31, 24⟩
/-- 03 R93 -/
def Fld.STI_ACTIVE_MINOR : Fld := ⟨.STI_ACTIVE, 23, 16⟩
/-- 03 R93 -/
def Fld.STI_ACTIVE_TARGET_REV : Fld := ⟨.STI_ACTIVE, 15, 8⟩
/-- 03 R93 -/
def Fld.STI_ACTIVE_SERIAL_SERIAL : Fld := ⟨.STI_ACTIVE_SERIAL, 31, 0⟩
/-- 03 R93 -/
def Fld.STI_CTRL_ABORT : Fld := ⟨.STI_CTRL, 31, 31⟩
/-- 03 R93 -/
def Fld.STI_CTRL_COMMIT : Fld := ⟨.STI_CTRL, 2, 2⟩
/-- 03 R93 -/
def Fld.STI_CTRL_VALIDATE : Fld := ⟨.STI_CTRL, 1, 1⟩
/-- 03 R93 -/
def Fld.STI_CTRL_LOAD_START : Fld := ⟨.STI_CTRL, 0, 0⟩
/-- 03 R93 -/
def Fld.STI_ERR_OFFSET_OFFSET : Fld := ⟨.STI_ERR_OFFSET, 19, 0⟩
/-- 03 R93 -/
def Fld.STI_FLUSHED_COUNT : Fld := ⟨.STI_FLUSHED, 31, 0⟩
/-- 03 R93 -/
def Fld.STI_LOAD_COUNT_COUNT : Fld := ⟨.STI_LOAD_COUNT, 19, 0⟩
/-- 03 R93 -/
def Fld.STI_LOAD_DATA_DATA : Fld := ⟨.STI_LOAD_DATA, 31, 0⟩
/-- 03 R93 -/
def Fld.STI_STATUS_STATE : Fld := ⟨.STI_STATUS, 31, 29⟩
/-- 03 R93 -/
def Fld.STI_STATUS_OWNER : Fld := ⟨.STI_STATUS, 28, 28⟩
/-- 03 R93 -/
def Fld.STI_STATUS_COMMITTED : Fld := ⟨.STI_STATUS, 27, 27⟩
/-- 03 R93 -/
def Fld.STI_STATUS_OVERRUN : Fld := ⟨.STI_STATUS, 26, 26⟩
/-- 03 R93 -/
def Fld.STI_STATUS_SEQ_ERR : Fld := ⟨.STI_STATUS, 25, 25⟩
/-- 03 R93 -/
def Fld.STI_STATUS_VAL_ERR : Fld := ⟨.STI_STATUS, 23, 16⟩
/-- 03 R93 -/
def Fld.STI_STATUS_COMMIT_ERR : Fld := ⟨.STI_STATUS, 11, 8⟩
/-- 03 R93 -/
def Fld.STI_STATUS_DONE : Fld := ⟨.STI_STATUS, 0, 0⟩
/-- 12 R296 -/
def Fld.TPG_ADJ_ADJ : Fld := ⟨.TPG_ADJ, 31, 0⟩
/-- 12 R296 -/
def Fld.TPG_CLKCMP_GO : Fld := ⟨.TPG_CLKCMP, 31, 31⟩
/-- 12 R296 -/
def Fld.TPG_CLKCMP_DONE : Fld := ⟨.TPG_CLKCMP, 30, 30⟩
/-- 12 R296 -/
def Fld.TPG_CLKCMP_WINDOW_LOG2 : Fld := ⟨.TPG_CLKCMP, 4, 0⟩
/-- 12 R296 -/
def Fld.TPG_CLKCMP_COUNT_COUNT : Fld := ⟨.TPG_CLKCMP_COUNT, 31, 0⟩
/-- 12 R299 -/
def Fld.TPG_GCL_DONE_DONE : Fld := ⟨.TPG_GCL_DONE, 31, 0⟩
/-- 12 R296 -/
def Fld.TPG_INCR_HI_INCR_HI : Fld := ⟨.TPG_INCR_HI, 15, 0⟩
/-- 12 R296 -/
def Fld.TPG_INCR_LO_INCR_LO : Fld := ⟨.TPG_INCR_LO, 31, 0⟩
/-- 12 R296 -/
def Fld.TPG_SET_NS_NS : Fld := ⟨.TPG_SET_NS, 31, 0⟩
/-- 12 R296 -/
def Fld.TPG_SET_SEC_HI_SEC_HI : Fld := ⟨.TPG_SET_SEC_HI, 15, 0⟩
/-- 12 R296 -/
def Fld.TPG_SET_SEC_LO_SEC_LO : Fld := ⟨.TPG_SET_SEC_LO, 31, 0⟩
/-- 12 R296 -/
def Fld.TPG_STAMP_CFG_SRC : Fld := ⟨.TPG_STAMP_CFG, 0, 0⟩
/-- 12 R300 -/
def Fld.TPG_STAMP_SKIP_COUNT : Fld := ⟨.TPG_STAMP_SKIP, 31, 0⟩
/-- 12 R300 -/
def Fld.TPG_TAE_ADDR_INDEX : Fld := ⟨.TPG_TAE_ADDR, 15, 0⟩
/-- 12 R300 -/
def Fld.TPG_TAE_CMD_GO : Fld := ⟨.TPG_TAE_CMD, 31, 31⟩
/-- 12 R300 -/
def Fld.TPG_TAE_CMD_OP : Fld := ⟨.TPG_TAE_CMD, 19, 16⟩
/-- 12 R300 -/
def Fld.TPG_TAE_DATA_DATA : Fld := ⟨.TPG_TAE_DATA, 31, 0⟩
/-- 12 R300 -/
def Fld.TPG_TAE_STATUS_BUSY : Fld := ⟨.TPG_TAE_STATUS, 31, 31⟩
/-- 12 R300 -/
def Fld.TPG_TAE_STATUS_RESULT : Fld := ⟨.TPG_TAE_STATUS, 23, 20⟩
/-- 12 R296 -/
def Fld.TPG_TIME_CTRL_SET : Fld := ⟨.TPG_TIME_CTRL, 31, 31⟩
/-- 12 R296 -/
def Fld.TPG_TIME_CTRL_ADJ : Fld := ⟨.TPG_TIME_CTRL, 30, 30⟩
/-- 12 R296 -/
def Fld.TPG_TIME_FRAC_FRAC : Fld := ⟨.TPG_TIME_FRAC, 15, 0⟩
/-- 12 R296 -/
def Fld.TPG_TIME_NS_NS : Fld := ⟨.TPG_TIME_NS, 31, 0⟩
/-- 12 R296 -/
def Fld.TPG_TIME_SEC_HI_SEC_HI : Fld := ⟨.TPG_TIME_SEC_HI, 15, 0⟩
/-- 12 R296 -/
def Fld.TPG_TIME_SEC_LO_SEC_LO : Fld := ⟨.TPG_TIME_SEC_LO, 31, 0⟩
/-- 12 R297 -/
def Fld.TPG_FCAL_TX : Fld := ⟨.TPG_FCAL, 31, 16⟩
/-- 12 R297 -/
def Fld.TPG_FCAL_RX : Fld := ⟨.TPG_FCAL, 15, 0⟩
/-- 12 R297 -/
def Fld.TPG_UCAL_TX_OFS : Fld := ⟨.TPG_UCAL, 31, 16⟩
/-- 12 R297 -/
def Fld.TPG_UCAL_RX_OFS : Fld := ⟨.TPG_UCAL, 15, 0⟩
/-- 12 R299 -/
def Fld.TPG_GCL_ADMIN_BASE_NS_NS : Fld := ⟨.TPG_GCL_ADMIN_BASE_NS, 31, 0⟩
/-- 12 R299 -/
def Fld.TPG_GCL_ADMIN_BASE_SEC_HI_SEC_HI : Fld := ⟨.TPG_GCL_ADMIN_BASE_SEC_HI, 15, 0⟩
/-- 12 R299 -/
def Fld.TPG_GCL_ADMIN_BASE_SEC_LO_SEC_LO : Fld := ⟨.TPG_GCL_ADMIN_BASE_SEC_LO, 31, 0⟩
/-- 12 R299 -/
def Fld.TPG_GCL_ADMIN_CYCLE_CYCLE : Fld := ⟨.TPG_GCL_ADMIN_CYCLE, 31, 0⟩
/-- 12 R299 -/
def Fld.TPG_GCL_ADMIN_LIST_BASE : Fld := ⟨.TPG_GCL_ADMIN_LIST, 31, 16⟩
/-- 12 R299 -/
def Fld.TPG_GCL_ADMIN_LIST_LEN : Fld := ⟨.TPG_GCL_ADMIN_LIST, 12, 0⟩
/-- 12 R299 -/
def Fld.TPG_GCL_CFG_EN : Fld := ⟨.TPG_GCL_CFG, 31, 31⟩
/-- 12 R299 -/
def Fld.TPG_GCL_CFG_FALLBACK : Fld := ⟨.TPG_GCL_CFG, 30, 30⟩
/-- 12 R299 -/
def Fld.TPG_GCL_CFG_CHANGE : Fld := ⟨.TPG_GCL_CFG, 29, 29⟩
/-- 12 R299 -/
def Fld.TPG_GCL_CFG_ADMIN_MODE : Fld := ⟨.TPG_GCL_CFG, 28, 28⟩
/-- 12 R299 -/
def Fld.TPG_GCL_CFG_ADMIN_SRC : Fld := ⟨.TPG_GCL_CFG, 27, 27⟩
/-- 12 R299 -/
def Fld.TPG_GCL_CFG_GUARD : Fld := ⟨.TPG_GCL_CFG, 15, 0⟩
/-- 12 R299 -/
def Fld.TPG_GCL_ENTRY_INDEX : Fld := ⟨.TPG_GCL_ENTRY, 15, 0⟩
/-- 12 R299 -/
def Fld.TPG_GCL_NOFIT_COUNT : Fld := ⟨.TPG_GCL_NOFIT, 31, 0⟩
/-- 12 R299 -/
def Fld.TPG_GCL_OPER_BASE_NS_NS : Fld := ⟨.TPG_GCL_OPER_BASE_NS, 31, 0⟩
/-- 12 R299 -/
def Fld.TPG_GCL_OPER_BASE_SEC_HI_SEC_HI : Fld := ⟨.TPG_GCL_OPER_BASE_SEC_HI, 15, 0⟩
/-- 12 R299 -/
def Fld.TPG_GCL_OPER_BASE_SEC_LO_SEC_LO : Fld := ⟨.TPG_GCL_OPER_BASE_SEC_LO, 31, 0⟩
/-- 12 R299 -/
def Fld.TPG_GCL_OPER_CYCLE_CYCLE : Fld := ⟨.TPG_GCL_OPER_CYCLE, 31, 0⟩
/-- 12 R299 -/
def Fld.TPG_GCL_OPER_LIST_BASE : Fld := ⟨.TPG_GCL_OPER_LIST, 31, 16⟩
/-- 12 R299 -/
def Fld.TPG_GCL_OPER_LIST_LEN : Fld := ⟨.TPG_GCL_OPER_LIST, 12, 0⟩
/-- 12 R299 -/
def Fld.TPG_GCL_OVERRUN_COUNT : Fld := ⟨.TPG_GCL_OVERRUN, 31, 0⟩
/-- 12 R299 -/
def Fld.TPG_GCL_SKIP_COUNT : Fld := ⟨.TPG_GCL_SKIP, 31, 0⟩
/-- 12 R299 -/
def Fld.TPG_GCL_STATUS_STATE : Fld := ⟨.TPG_GCL_STATUS, 31, 29⟩
/-- 12 R299 -/
def Fld.TPG_GCL_STATUS_OPER_MODE : Fld := ⟨.TPG_GCL_STATUS, 28, 28⟩
/-- 12 R299 -/
def Fld.TPG_GCL_STATUS_OPER_SRC : Fld := ⟨.TPG_GCL_STATUS, 27, 27⟩
/-- 12 R299 -/
def Fld.TPG_GCL_STATUS_CHANGE_PEND : Fld := ⟨.TPG_GCL_STATUS, 26, 26⟩
/-- 12 R299 -/
def Fld.TPG_GCL_STATUS_CHANGE_ERR : Fld := ⟨.TPG_GCL_STATUS, 25, 25⟩
/-- 12 R299 -/
def Fld.TPG_GCL_STATUS_ERR_CAUSE : Fld := ⟨.TPG_GCL_STATUS, 24, 22⟩
/-- 12 R299 -/
def Fld.TPG_GCL_STATUS_GATES : Fld := ⟨.TPG_GCL_STATUS, 7, 0⟩
/-- 12 R298 -/
def Fld.TPG_PH_CFG_EN : Fld := ⟨.TPG_PH_CFG, 31, 31⟩
/-- 12 R298 -/
def Fld.TPG_PH_CFG_NOM : Fld := ⟨.TPG_PH_CFG, 30, 30⟩
/-- 12 R298 -/
def Fld.TPG_PH_CFG_KP_SHIFT : Fld := ⟨.TPG_PH_CFG, 29, 27⟩
/-- 12 R298 -/
def Fld.TPG_PH_CFG_KI_SHIFT : Fld := ⟨.TPG_PH_CFG, 26, 24⟩
/-- 12 R298 -/
def Fld.TPG_PH_CFG_HOLD_CYCLES : Fld := ⟨.TPG_PH_CFG, 23, 16⟩
/-- 12 R298 -/
def Fld.TPG_PH_CFG_LOCK_CNT : Fld := ⟨.TPG_PH_CFG, 15, 8⟩
/-- 12 R298 -/
def Fld.TPG_PH_CYCLES_CYCLES : Fld := ⟨.TPG_PH_CYCLES, 31, 0⟩
/-- 12 R298 -/
def Fld.TPG_PH_EDGES_COUNT : Fld := ⟨.TPG_PH_EDGES, 31, 0⟩
/-- 12 R298 -/
def Fld.TPG_PH_ERR_ERR : Fld := ⟨.TPG_PH_ERR, 15, 0⟩
/-- 12 R298 -/
def Fld.TPG_PH_FCAL_FCAL : Fld := ⟨.TPG_PH_FCAL, 15, 0⟩
/-- 12 R298 -/
def Fld.TPG_PH_FREQ_FREQ : Fld := ⟨.TPG_PH_FREQ, 16, 0⟩
/-- 12 R298 -/
def Fld.TPG_PH_GLITCH_COUNT : Fld := ⟨.TPG_PH_GLITCH, 31, 0⟩
/-- 12 R298 -/
def Fld.TPG_PH_LOSSES_COUNT : Fld := ⟨.TPG_PH_LOSSES, 31, 0⟩
/-- 12 R298 -/
def Fld.TPG_PH_OUTLIER_COUNT : Fld := ⟨.TPG_PH_OUTLIER, 31, 0⟩
/-- 12 R298 -/
def Fld.TPG_PH_RANGE_COUNT : Fld := ⟨.TPG_PH_RANGE, 31, 0⟩
/-- 12 R298 -/
def Fld.TPG_PH_STATUS_STATE : Fld := ⟨.TPG_PH_STATUS, 31, 29⟩
/-- 12 R298 -/
def Fld.TPG_PH_STATUS_MISSES : Fld := ⟨.TPG_PH_STATUS, 23, 16⟩
/-- 12 R298 -/
def Fld.TPG_PH_STATUS_ANGLE : Fld := ⟨.TPG_PH_STATUS, 15, 0⟩
/-- 12 R298 -/
def Fld.TPG_PH_THR_UNLOCK_THR : Fld := ⟨.TPG_PH_THR, 31, 16⟩
/-- 12 R298 -/
def Fld.TPG_PH_THR_LOCK_THR : Fld := ⟨.TPG_PH_THR, 15, 0⟩
/-- 12 R298 -/
def Fld.TPG_PH_UCAL_UCAL : Fld := ⟨.TPG_PH_UCAL, 31, 0⟩

end Sys2Proof.Machine
end

