-- ==== Sys2Proof/Machine/RegMap.lean ====
section
/-! DEFINITION. The register map: every register's offsets, fields, access codes and reset values (R442 and the
register tables of the chapters), and the named fields. -/
namespace Sys2Proof.Machine

/-- The entry of each register name in R442, with the field table of its defining chapter. -/
def regInfo : Reg → RegInfo
  | .BEL_EOI => ⟨0x1300104, 32, 8, 0, 1, 0, false, [⟨10, 0, .wo, 0⟩]⟩
  | .BEL_SPURIOUS_AFTER_CLAIM => ⟨0x1300110, 32, 8, 0, 1, 0, false, [⟨31, 0, .sat, 0⟩]⟩
  | .BEL_STACK_ORDER => ⟨0x1300114, 32, 8, 0, 1, 0, false, [⟨31, 0, .sat, 0⟩]⟩
  | .BEL_TGT_CFG => ⟨0x1300100, 32, 8, 0, 1, 0, false, [⟨31, 31, .rw, 0⟩]⟩
  | .BEL_TGT_ORDER => ⟨0x130010C, 32, 8, 0, 1, 0, false, [⟨26, 16, .ro, 0⟩, ⟨15, 15, .ro, 0⟩, ⟨10, 0, .ro, 0⟩]⟩
  | .BEL_TGT_STATUS => ⟨0x1300108, 32, 8, 0, 1, 0, false, [⟨31, 31, .w1c, 0⟩, ⟨30, 30, .ro, 0⟩, ⟨29, 24, .ro, 0⟩, ⟨20, 16, .ro, 0⟩, ⟨10, 0, .ro, 0⟩]⟩
  | .BEL_GLB_CFG => ⟨0x1300000, 0, 1, 0, 1, 0, false, [⟨15, 0, .rw, 256⟩]⟩
  | .BEL_SWI => ⟨0x1300004, 0, 1, 0, 1, 0, false, [⟨15, 0, .w1s, 0⟩]⟩
  | .BEL_SRC_CFG => ⟨0x1304000, 4, 2048, 0, 1, 0, false, [⟨31, 31, .rw, 0⟩, ⟨30, 28, .rw, 0⟩, ⟨23, 16, .rw, 0⟩, ⟨12, 8, .rw, 0⟩]⟩
  | .BEL_SRC_COAL => ⟨0x130C000, 4, 2048, 0, 1, 0, false, [⟨31, 16, .rw, 1⟩, ⟨15, 0, .rw, 1000⟩]⟩
  | .BEL_SRC_STATUS => ⟨0x130E000, 4, 2048, 0, 1, 0, false, [⟨31, 24, .w1c, 0⟩, ⟨23, 16, .ro, 0⟩, ⟨15, 0, .ro, 0⟩]⟩
  | .BEL_SRC_VEC_HI => ⟨0x1308004, 8, 2048, 0, 1, 0, false, [⟨31, 0, .rw, 0⟩]⟩
  | .BEL_SRC_VEC_LO => ⟨0x1308000, 8, 2048, 0, 1, 0, false, [⟨31, 0, .rw, 0⟩]⟩
  | .BEL_STACK => ⟨0x1301000, 128, 8, 4, 32, 0, false, [⟨31, 31, .ro, 0⟩, ⟨20, 16, .ro, 0⟩, ⟨10, 0, .ro, 0⟩]⟩
  | .CHK_CFG => ⟨0x1280000, 64, 32, 0, 1, 0, false, [⟨31, 31, .rw, 0⟩, ⟨30, 30, .rw, 0⟩, ⟨29, 29, .rw, 0⟩, ⟨28, 27, .rw, 0⟩, ⟨26, 26, .rw, 0⟩, ⟨25, 25, .rw, 0⟩, ⟨24, 24, .ro, 0⟩, ⟨21, 16, .rw, 31⟩]⟩
  | .CHK_DONE_HI => ⟨0x1280034, 64, 32, 0, 1, 0, false, [⟨31, 0, .wrap, 0⟩]⟩
  | .CHK_DONE_LO => ⟨0x1280030, 64, 32, 0, 1, 0, false, [⟨31, 0, .wrap, 0⟩]⟩
  | .CHK_FAIL => ⟨0x1280028, 64, 32, 0, 1, 0, false, [⟨31, 0, .sat, 0⟩]⟩
  | .CHK_INIT_HI => ⟨0x1280014, 64, 32, 0, 1, 0, false, [⟨31, 0, .rw, 0⟩]⟩
  | .CHK_INIT_LO => ⟨0x1280010, 64, 32, 0, 1, 0, false, [⟨31, 0, .rw, 4294967295⟩]⟩
  | .CHK_POLY_HI => ⟨0x128000C, 64, 32, 0, 1, 0, false, [⟨31, 0, .rw, 0⟩]⟩
  | .CHK_POLY_LO => ⟨0x1280008, 64, 32, 0, 1, 0, false, [⟨31, 0, .rw, 79764919⟩]⟩
  | .CHK_REGION => ⟨0x1280004, 64, 32, 0, 1, 0, false, [⟨26, 16, .rw, 0⟩, ⟨8, 0, .rw, 0⟩]⟩
  | .CHK_RUN_HI => ⟨0x1280024, 64, 32, 0, 1, 0, false, [⟨31, 0, .rw, 0⟩]⟩
  | .CHK_RUN_LO => ⟨0x1280020, 64, 32, 0, 1, 0, false, [⟨31, 0, .rw, 0⟩]⟩
  | .CHK_SKIP => ⟨0x128002C, 64, 32, 0, 1, 0, false, [⟨31, 0, .sat, 0⟩]⟩
  | .CHK_XOR_HI => ⟨0x128001C, 64, 32, 0, 1, 0, false, [⟨31, 0, .rw, 0⟩]⟩
  | .CHK_XOR_LO => ⟨0x1280018, 64, 32, 0, 1, 0, false, [⟨31, 0, .rw, 4294967295⟩]⟩
  | .CLS_ACT_DROP => ⟨0x0B00218, 0, 1, 0, 1, 0, false, [⟨31, 0, .sat, 0⟩]⟩
  | .CLS_ACT_SLOW => ⟨0x0B0021C, 0, 1, 0, 1, 0, false, [⟨31, 0, .sat, 0⟩]⟩
  | .CLS_COMMIT_CTRL => ⟨0x0B00000, 0, 1, 0, 1, 0, false, [⟨31, 31, .w1s, 0⟩, ⟨0, 0, .w1s, 0⟩]⟩
  | .CLS_COMMIT_STATUS => ⟨0x0B00004, 0, 1, 0, 1, 0, false, [⟨31, 29, .ro, 0⟩, ⟨28, 28, .ro, 0⟩, ⟨27, 26, .ro, 0⟩, ⟨25, 25, .w1c, 0⟩, ⟨24, 24, .w1c, 0⟩, ⟨19, 16, .ro, 0⟩, ⟨10, 8, .ro, 0⟩, ⟨0, 0, .w1c, 0⟩]⟩
  | .CLS_DRAIN_WARN => ⟨0x0B00018, 0, 1, 0, 1, 0, false, [⟨31, 31, .w1c, 0⟩, ⟨15, 0, .rw, 10000⟩]⟩
  | .CLS_ECC_MISS => ⟨0x0B00220, 0, 1, 0, 1, 0, false, [⟨31, 0, .sat, 0⟩]⟩
  | .CLS_FLOW_HITS_HI => ⟨0x0B0020C, 0, 1, 0, 1, 0, false, [⟨31, 0, .wrap, 0⟩]⟩
  | .CLS_FLOW_HITS_LO => ⟨0x0B00208, 0, 1, 0, 1, 0, false, [⟨31, 0, .wrap, 0⟩]⟩
  | .CLS_FLOW_SEED0 => ⟨0x0B00020, 0, 1, 0, 1, 0, false, [⟨31, 0, .rwl, 1⟩]⟩
  | .CLS_FLOW_SEED1 => ⟨0x0B00024, 0, 1, 0, 1, 0, false, [⟨31, 0, .rwl, 2⟩]⟩
  | .CLS_FLOW_USED => ⟨0x0B0002C, 0, 1, 0, 1, 0, false, [⟨19, 0, .ro, 0⟩]⟩
  | .CLS_INFLIGHT_ACT => ⟨0x0B0000C, 0, 1, 0, 1, 0, false, [⟨16, 0, .ro, 0⟩]⟩
  | .CLS_INFLIGHT_DRN => ⟨0x0B00010, 0, 1, 0, 1, 0, false, [⟨16, 0, .ro, 0⟩]⟩
  | .CLS_JOURNAL => ⟨0x0B00014, 0, 1, 0, 1, 0, false, [⟨16, 0, .ro, 0⟩]⟩
  | .CLS_LOOKUPS_HI => ⟨0x0B00204, 0, 1, 0, 1, 0, false, [⟨31, 0, .wrap, 0⟩]⟩
  | .CLS_LOOKUPS_LO => ⟨0x0B00200, 0, 1, 0, 1, 0, false, [⟨31, 0, .wrap, 0⟩]⟩
  | .CLS_PFX_CFG => ⟨0x0B00028, 0, 1, 0, 1, 0, false, [⟨0, 0, .rwl, 0⟩]⟩
  | .CLS_PFX_HITS_HI => ⟨0x0B00214, 0, 1, 0, 1, 0, false, [⟨31, 0, .wrap, 0⟩]⟩
  | .CLS_PFX_HITS_LO => ⟨0x0B00210, 0, 1, 0, 1, 0, false, [⟨31, 0, .wrap, 0⟩]⟩
  | .CLS_PFX_USED => ⟨0x0B00034, 0, 1, 0, 1, 0, false, [⟨14, 0, .ro, 0⟩]⟩
  | .CLS_STAGE_REJ => ⟨0x0B00224, 0, 1, 0, 1, 0, false, [⟨31, 0, .sat, 0⟩]⟩
  | .CLS_STASH_USED => ⟨0x0B00030, 0, 1, 0, 1, 0, false, [⟨12, 0, .ro, 0⟩]⟩
  | .CLS_SYM_SEED => ⟨0x0B0001C, 0, 1, 0, 1, 0, false, [⟨31, 0, .rw, 0⟩]⟩
  | .CLS_TAE_ADDR => ⟨0x0B00108, 0, 1, 0, 1, 0, false, [⟨19, 0, .rw, 0⟩]⟩
  | .CLS_TAE_CMD => ⟨0x0B00100, 0, 1, 0, 1, 0, false, [⟨31, 31, .w1s, 0⟩, ⟨27, 24, .rw, 0⟩, ⟨19, 16, .rw, 0⟩, ⟨13, 12, .rw, 0⟩]⟩
  | .CLS_TAE_DATA => ⟨0x0B00180, 4, 32, 0, 1, 0, false, [⟨31, 0, .rw, 0⟩]⟩
  | .CLS_TAE_STATUS => ⟨0x0B00104, 0, 1, 0, 1, 0, false, [⟨31, 31, .ro, 0⟩, ⟨23, 20, .ro, 0⟩, ⟨19, 0, .ro, 0⟩]⟩
  | .CLS_VERSION => ⟨0x0B00008, 0, 1, 0, 1, 0, false, [⟨15, 0, .ro, 0⟩]⟩
  | .DMA_BUS_ERRORS => ⟨0x1200024, 0, 1, 0, 1, 0, false, [⟨31, 0, .sat, 0⟩]⟩
  | .DMA_ERR_ADDR_HI => ⟨0x120000C, 0, 1, 0, 1, 0, false, [⟨15, 0, .ro, 0⟩]⟩
  | .DMA_ERR_ADDR_LO => ⟨0x1200008, 0, 1, 0, 1, 0, false, [⟨31, 0, .ro, 0⟩]⟩
  | .DMA_GLB_CTRL => ⟨0x1200000, 0, 1, 0, 1, 0, false, [⟨31, 31, .w1s, 0⟩]⟩
  | .DMA_GLB_STATUS => ⟨0x1200004, 0, 1, 0, 1, 0, false, [⟨31, 31, .ro, 0⟩, ⟨30, 30, .ro, 0⟩, ⟨29, 28, .ro, 0⟩, ⟨27, 27, .ro, 0⟩, ⟨26, 26, .ro, 0⟩]⟩
  | .DMA_SLOW_NOSET => ⟨0x1200020, 0, 1, 0, 1, 0, false, [⟨31, 0, .sat, 0⟩]⟩
  | .DMA_SLOW_SET_HI => ⟨0x1200014, 0, 1, 0, 1, 0, false, [⟨31, 0, .rw, 0⟩]⟩
  | .DMA_SLOW_SET_LO => ⟨0x1200010, 0, 1, 0, 1, 0, false, [⟨31, 0, .rw, 0⟩]⟩
  | .DMA_CH_BYTES_HI => ⟨0x1201034, 64, 64, 0, 1, 0, false, [⟨31, 0, .wrap, 0⟩]⟩
  | .DMA_CH_BYTES_LO => ⟨0x1201030, 64, 64, 0, 1, 0, false, [⟨31, 0, .wrap, 0⟩]⟩
  | .DMA_CH_CFG => ⟨0x1201000, 64, 64, 0, 1, 0, false, [⟨31, 31, .rw, 0⟩, ⟨30, 28, .rw, 0⟩, ⟨27, 26, .rw, 0⟩, ⟨25, 25, .rw, 0⟩, ⟨24, 24, .rw, 0⟩, ⟨21, 21, .rw, 0⟩, ⟨20, 16, .rw, 0⟩, ⟨15, 0, .rw, 1024⟩]⟩
  | .DMA_CH_CTRL => ⟨0x120100C, 64, 64, 0, 1, 0, false, [⟨31, 31, .w1s, 0⟩, ⟨30, 30, .w1s, 0⟩]⟩
  | .DMA_CH_DESC => ⟨0x120102C, 64, 64, 0, 1, 0, false, [⟨31, 0, .sat, 0⟩]⟩
  | .DMA_CH_IDX => ⟨0x1201014, 64, 64, 0, 1, 0, false, [⟨15, 0, .rw, 0⟩]⟩
  | .DMA_CH_LIMITS => ⟨0x1201038, 64, 64, 0, 1, 0, false, [⟨31, 0, .sat, 0⟩]⟩
  | .DMA_CH_PACE => ⟨0x1201020, 64, 64, 0, 1, 0, false, [⟨31, 30, .rw, 0⟩, ⟨29, 29, .rw, 0⟩, ⟨18, 0, .rw, 0⟩]⟩
  | .DMA_CH_PACE_WM => ⟨0x1201024, 64, 64, 0, 1, 0, false, [⟨31, 16, .rw, 65535⟩, ⟨15, 0, .rw, 0⟩]⟩
  | .DMA_CH_POS => ⟨0x120101C, 64, 64, 0, 1, 0, false, [⟨27, 0, .ro, 0⟩]⟩
  | .DMA_CH_RING_HI => ⟨0x1201008, 64, 64, 0, 1, 0, false, [⟨31, 16, .rw, 0⟩, ⟨15, 0, .rw, 0⟩]⟩
  | .DMA_CH_RING_LO => ⟨0x1201004, 64, 64, 0, 1, 0, false, [⟨31, 5, .rw, 0⟩]⟩
  | .DMA_CH_STATUS => ⟨0x1201010, 64, 64, 0, 1, 0, false, [⟨31, 29, .ro, 0⟩, ⟨28, 26, .ro, 0⟩, ⟨25, 25, .ro, 0⟩, ⟨24, 24, .ro, 0⟩]⟩
  | .DMA_CH_STOP_STATUS => ⟨0x1201018, 64, 64, 0, 1, 0, false, [⟨31, 31, .w1c, 0⟩, ⟨30, 30, .ro, 0⟩, ⟨15, 0, .ro, 0⟩]⟩
  | .DMA_CH_TIMERS => ⟨0x1201028, 64, 64, 0, 1, 0, false, [⟨31, 16, .rw, 100⟩, ⟨15, 0, .rw, 0⟩]⟩
  | .DOME_CFG => ⟨0x0D03000, 0, 1, 0, 1, 0, false, [⟨16, 0, .rw, 1024⟩]⟩
  | .DOME_ECC_CORR => ⟨0x0D03018, 0, 1, 0, 1, 0, false, [⟨31, 0, .sat, 0⟩]⟩
  | .DOME_ECC_UNCORR => ⟨0x0D0301C, 0, 1, 0, 1, 0, false, [⟨31, 0, .sat, 0⟩]⟩
  | .DOME_FREE => ⟨0x0D0300C, 0, 1, 0, 1, 0, false, [⟨17, 0, .ro, 0⟩]⟩
  | .DOME_LOOP => ⟨0x0D03008, 0, 1, 0, 1, 0, false, [⟨31, 16, .rw, 8⟩, ⟨15, 0, .rw, 10⟩]⟩
  | .DOME_LOST_CELLS => ⟨0x0D03014, 0, 1, 0, 1, 0, false, [⟨31, 0, .sat, 0⟩]⟩
  | .DOME_TARGET => ⟨0x0D03004, 0, 1, 0, 1, 0, false, [⟨31, 15, .rw, 65536⟩, ⟨14, 0, .rw, 4096⟩]⟩
  | .DOME_USED_PEAK => ⟨0x0D03010, 0, 1, 0, 1, 0, false, [⟨31, 31, .ro, 0⟩, ⟨17, 0, .w1c, 0⟩]⟩
  | .DOME_CLASS_ALPHA => ⟨0x0D03104, 16, 8, 0, 1, 0, false, [⟨31, 16, .rw, 2048⟩, ⟨15, 0, .rw, 16⟩]⟩
  | .DOME_CLASS_CELLS => ⟨0x0D0310C, 16, 8, 0, 1, 0, false, [⟨31, 0, .ro, 0⟩]⟩
  | .DOME_CLASS_CFG => ⟨0x0D03100, 16, 8, 0, 1, 0, false, [⟨31, 31, .rw, 0⟩, ⟨30, 24, .rw, 50⟩, ⟨23, 17, .rw, 25⟩, ⟨16, 0, .rw, 16⟩]⟩
  | .DOME_CLASS_CUR => ⟨0x0D03108, 16, 8, 0, 1, 0, false, [⟨15, 0, .rw, 256⟩]⟩
  | .DOME_CLASS_DROP => ⟨0x0D03200, 4, 8, 0, 1, 0, false, [⟨31, 0, .sat, 0⟩]⟩
  | .DOME_HOST_CFG => ⟨0x0D03400, 4, 64, 0, 1, 0, false, [⟨16, 0, .rw, 2048⟩]⟩
  | .DOME_HOST_DROP => ⟨0x0D03500, 4, 64, 0, 1, 0, false, [⟨31, 0, .sat, 0⟩]⟩
  | .DOME_DROP_G => ⟨0x0D20004, 16, 1040, 0, 1, 0, false, [⟨31, 0, .sat, 0⟩]⟩
  | .DOME_DROP_R => ⟨0x0D2000C, 16, 1040, 0, 1, 0, false, [⟨31, 0, .sat, 0⟩]⟩
  | .DOME_DROP_Y => ⟨0x0D20008, 16, 1040, 0, 1, 0, false, [⟨31, 0, .sat, 0⟩]⟩
  | .DOME_RX_NOCELL => ⟨0x0D20000, 16, 1040, 0, 1, 0, false, [⟨31, 0, .sat, 0⟩]⟩
  | .DOME_EDIT => ⟨0x0D04000, 4, 256, 0, 1, 0, false, [⟨10, 10, .rw, 0⟩, ⟨9, 9, .rw, 0⟩, ⟨8, 6, .rw, 0⟩, ⟨5, 4, .rw, 0⟩, ⟨3, 0, .rw, 0⟩]⟩
  | .EXT_ADDR_HI => ⟨0x0801008, 64, 48, 0, 1, 0, false, [⟨15, 0, .rw, 0⟩]⟩
  | .EXT_ADDR_LO => ⟨0x0801004, 64, 48, 0, 1, 0, false, [⟨31, 0, .rw, 0⟩]⟩
  | .EXT_AUTH_FAIL => ⟨0x080102C, 64, 48, 0, 1, 0, false, [⟨31, 0, .sat, 0⟩]⟩
  | .EXT_CFG => ⟨0x0801000, 64, 48, 0, 1, 0, false, [⟨31, 31, .rw, 0⟩]⟩
  | .EXT_CFG_VER => ⟨0x0801010, 64, 48, 0, 1, 0, false, [⟨31, 16, .ro, 0⟩, ⟨15, 0, .ro, 0⟩]⟩
  | .EXT_INFO => ⟨0x0801020, 64, 48, 0, 1, 0, false, [⟨27, 24, .ro, 0⟩, ⟨23, 16, .ro, 0⟩, ⟨15, 0, .ro, 0⟩]⟩
  | .EXT_LOSSES => ⟨0x0801030, 64, 48, 0, 1, 0, false, [⟨31, 0, .sat, 0⟩]⟩
  | .EXT_MGMT_REJ => ⟨0x0801038, 64, 48, 0, 1, 0, false, [⟨31, 0, .sat, 0⟩]⟩
  | .EXT_POLL_MISS => ⟨0x080103C, 64, 48, 0, 1, 0, false, [⟨31, 0, .sat, 0⟩]⟩
  | .EXT_PUSH => ⟨0x0801014, 64, 48, 0, 1, 0, false, [⟨31, 31, .w1s, 0⟩]⟩
  | .EXT_PUSH_FAIL => ⟨0x0801034, 64, 48, 0, 1, 0, false, [⟨31, 0, .sat, 0⟩]⟩
  | .EXT_STATUS => ⟨0x080100C, 64, 48, 0, 1, 0, false, [⟨31, 29, .ro, 0⟩, ⟨28, 28, .ro, 0⟩, ⟨27, 27, .ro, 0⟩, ⟨26, 26, .ro, 0⟩, ⟨25, 24, .ro, 0⟩, ⟨23, 20, .ro, 0⟩, ⟨19, 19, .w1c, 0⟩]⟩
  | .EXT_UNIT_HI => ⟨0x080101C, 64, 48, 0, 1, 0, false, [⟨15, 0, .ro, 0⟩]⟩
  | .EXT_UNIT_LO => ⟨0x0801018, 64, 48, 0, 1, 0, false, [⟨31, 0, .ro, 0⟩]⟩
  | .EXT_CREDIT => ⟨0x0810004, 8, 1024, 0, 1, 0, false, [⟨31, 31, .ro, 0⟩, ⟨15, 0, .ro, 0⟩]⟩
  | .EXT_PACE => ⟨0x0810000, 8, 1024, 0, 1, 0, false, [⟨15, 0, .rw, 0⟩]⟩
  | .EXT_GLB_CFG => ⟨0x0800000, 0, 1, 0, 1, 0, false, [⟨31, 16, .rw, 34997⟩, ⟨15, 8, .rw, 100⟩]⟩
  | .EXT_MGR_SA_HI => ⟨0x080000C, 0, 1, 0, 1, 0, false, [⟨15, 0, .rw, 0⟩]⟩
  | .EXT_MGR_SA_LO => ⟨0x0800008, 0, 1, 0, 1, 0, false, [⟨31, 0, .rw, 0⟩]⟩
  | .EXT_TIMERS => ⟨0x0800004, 0, 1, 0, 1, 0, false, [⟨31, 24, .rw, 10⟩, ⟨23, 20, .rw, 3⟩, ⟨19, 16, .rw, 3⟩, ⟨15, 8, .rw, 20⟩]⟩
  | .EXT_TRK_UNKNOWN => ⟨0x0800200, 8, 16, 0, 1, 0, false, [⟨31, 0, .sat, 0⟩]⟩
  | .EXT_TRK_UNTAGGED => ⟨0x0800204, 8, 16, 0, 1, 0, false, [⟨31, 0, .sat, 0⟩]⟩
  | .EXT_TRUNK_CFG => ⟨0x0800100, 4, 16, 0, 1, 0, false, [⟨31, 31, .rw, 0⟩]⟩
  | .FLT_BLK_RESETS => ⟨0x140003C, 0, 1, 0, 1, 0, true, [⟨31, 0, .sat, 0⟩]⟩
  | .FLT_CFG => ⟨0x1400000, 0, 1, 0, 1, 0, true, [⟨31, 24, .rw, 255⟩, ⟨23, 20, .rw, 3⟩, ⟨7, 0, .rw, 10⟩]⟩
  | .FLT_CHIP_REQ_CNT => ⟨0x1400030, 0, 1, 0, 1, 0, true, [⟨31, 0, .sat, 0⟩]⟩
  | .FLT_FIRST_SRC => ⟨0x1400010, 0, 1, 0, 1, 0, true, [⟨31, 31, .w1c, 0⟩, ⟨30, 30, .ro, 0⟩, ⟨29, 29, .ro, 0⟩, ⟨28, 27, .ro, 0⟩, ⟨23, 12, .ro, 0⟩, ⟨8, 0, .ro, 0⟩]⟩
  | .FLT_FIRST_SYN => ⟨0x1400014, 0, 1, 0, 1, 0, true, [⟨31, 0, .ro, 0⟩]⟩
  | .FLT_FIRST_TS_HI => ⟨0x140001C, 0, 1, 0, 1, 0, true, [⟨31, 0, .ro, 0⟩]⟩
  | .FLT_FIRST_TS_LO => ⟨0x1400018, 0, 1, 0, 1, 0, true, [⟨31, 0, .ro, 0⟩]⟩
  | .FLT_INJ_ADDR => ⟨0x1400054, 0, 1, 0, 1, 0, true, [⟨27, 0, .rw, 0⟩]⟩
  | .FLT_INJ_CTRL => ⟨0x1400058, 0, 1, 0, 1, 0, true, []⟩
  | .FLT_INJ_DATA => ⟨0x1400050, 0, 1, 0, 1, 0, true, [⟨31, 31, .w1s, 0⟩, ⟨30, 30, .rw, 0⟩, ⟨29, 28, .rw, 1⟩, ⟨3, 0, .rw, 1⟩]⟩
  | .FLT_LANTERN => ⟨0x1400040, 0, 1, 0, 1, 0, true, [⟨31, 31, .w1s, 0⟩, ⟨30, 30, .w1s, 0⟩, ⟨29, 28, .ro, 0⟩, ⟨23, 16, .wo, 0⟩, ⟨15, 0, .rw, 12500⟩]⟩
  | .FLT_NMT => ⟨0x1400020, 0, 1, 0, 1, 0, true, [⟨7, 0, .w1c, 0⟩]⟩
  | .FLT_RST_FRAMES => ⟨0x1400038, 0, 1, 0, 1, 0, true, [⟨31, 0, .sat, 0⟩]⟩
  | .FLT_SHADOWED => ⟨0x1400034, 0, 1, 0, 1, 0, true, [⟨31, 0, .sat, 0⟩]⟩
  | .FLT_STATUS => ⟨0x1400004, 0, 1, 0, 1, 0, true, [⟨31, 31, .w1c, 0⟩, ⟨30, 30, .w1c, 0⟩, ⟨29, 29, .ro, 0⟩, ⟨28, 28, .ro, 0⟩, ⟨27, 27, .w1c, 0⟩, ⟨26, 26, .w1c, 0⟩, ⟨7, 0, .wo, 0⟩]⟩
  | .FLT_SRC_CFG => ⟨0x1401000, 4, 512, 0, 1, 0, true, [⟨31, 31, .rw, 0⟩, ⟨30, 26, .rw, 0⟩, ⟨25, 24, .rw, 0⟩, ⟨23, 23, .ro, 0⟩]⟩
  | .FLT_SRC_STATUS => ⟨0x1401800, 4, 512, 0, 1, 0, true, [⟨31, 31, .w1c, 0⟩, ⟨30, 30, .w1c, 0⟩, ⟨29, 28, .ro, 0⟩, ⟨27, 27, .ro, 0⟩, ⟨19, 16, .ro, 0⟩]⟩
  | .GLB_BOOT => ⟨0x0000010, 0, 1, 0, 1, 0, false, [⟨31, 31, .ro, 0⟩, ⟨30, 30, .ro, 0⟩, ⟨1, 0, .ro, 0⟩]⟩
  | .GLB_EGT_ERR => ⟨0x0000100, 0, 1, 0, 1, 0, false, [⟨31, 0, .sat, 0⟩]⟩
  | .GLB_EGT_ERR_CAUSE => ⟨0x0000104, 0, 1, 0, 1, 0, false, [⟨31, 31, .w1c, 0⟩, ⟨19, 19, .ro, 0⟩, ⟨18, 16, .ro, 0⟩, ⟨10, 0, .ro, 0⟩]⟩
  | .GLB_ID => ⟨0x0000000, 0, 1, 0, 1, 0, true, [⟨31, 16, .ro, 20291⟩, ⟨15, 8, .ro, 4⟩, ⟨7, 0, .ro, 0⟩]⟩
  | .GLB_REV => ⟨0x0000004, 0, 1, 0, 1, 0, true, [⟨7, 4, .ro, 1⟩, ⟨3, 0, .ro, 0⟩]⟩
  | .GLB_SLV_ERR => ⟨0x0000108, 0, 1, 0, 1, 0, false, [⟨31, 0, .sat, 0⟩]⟩
  | .KEEP_CFG => ⟨0x1600004, 0, 1, 0, 1, 0, false, [⟨31, 16, .rw, 0⟩, ⟨14, 12, .rw, 0⟩, ⟨11, 6, .rw, 0⟩, ⟨5, 0, .rw, 0⟩]⟩
  | .KEEP_CTRL => ⟨0x1600000, 0, 1, 0, 1, 0, false, [⟨31, 31, .w1s, 0⟩, ⟨30, 30, .w1s, 0⟩, ⟨29, 29, .w1s, 0⟩]⟩
  | .KEEP_LD_TS_HI => ⟨0x160001C, 0, 1, 0, 1, 0, false, [⟨31, 0, .ro, 0⟩]⟩
  | .KEEP_LD_TS_LO => ⟨0x1600018, 0, 1, 0, 1, 0, false, [⟨31, 0, .ro, 0⟩]⟩
  | .KEEP_LEN => ⟨0x1600010, 0, 1, 0, 1, 0, false, [⟨31, 0, .ro, 0⟩]⟩
  | .KEEP_MIR_CFG => ⟨0x1600100, 0, 1, 0, 1, 0, false, [⟨31, 31, .rw, 0⟩, ⟨30, 30, .rw, 0⟩, ⟨29, 29, .rw, 0⟩, ⟨23, 20, .rw, 3⟩, ⟨7, 0, .rw, 1⟩]⟩
  | .KEEP_MIR_CYCLE => ⟨0x1600108, 0, 1, 0, 1, 0, false, [⟨31, 0, .ro, 0⟩]⟩
  | .KEEP_MIR_MISSES => ⟨0x160020C, 0, 1, 0, 1, 0, false, [⟨31, 0, .sat, 0⟩]⟩
  | .KEEP_MIR_RESYNCS => ⟨0x1600208, 0, 1, 0, 1, 0, false, [⟨31, 0, .sat, 0⟩]⟩
  | .KEEP_MIR_STATUS => ⟨0x1600104, 0, 1, 0, 1, 0, false, [⟨31, 29, .ro, 0⟩, ⟨27, 24, .ro, 0⟩]⟩
  | .KEEP_PRODUCED => ⟨0x1600200, 0, 1, 0, 1, 0, false, [⟨31, 0, .sat, 0⟩]⟩
  | .KEEP_SEQ => ⟨0x160000C, 0, 1, 0, 1, 0, false, [⟨31, 0, .ro, 0⟩]⟩
  | .KEEP_SKIPPED => ⟨0x1600204, 0, 1, 0, 1, 0, false, [⟨31, 0, .sat, 0⟩]⟩
  | .KEEP_STATUS => ⟨0x1600008, 0, 1, 0, 1, 0, false, [⟨31, 29, .ro, 0⟩, ⟨28, 28, .w1c, 0⟩, ⟨27, 27, .w1c, 0⟩, ⟨26, 26, .w1c, 0⟩, ⟨25, 25, .w1c, 0⟩, ⟨24, 24, .w1c, 0⟩, ⟨7, 0, .ro, 0⟩]⟩
  | .KEEP_TIMERS => ⟨0x1600014, 0, 1, 0, 1, 0, false, [⟨15, 0, .rw, 100⟩]⟩
  | .LOG_ACC_DATA => ⟨0x1408040, 4, 8, 0, 1, 0, true, [⟨31, 0, .ro, 0⟩]⟩
  | .LOG_ACC_IDX => ⟨0x1408020, 0, 1, 0, 1, 0, true, [⟨31, 31, .ro, 0⟩, ⟨14, 0, .rw, 0⟩]⟩
  | .LOG_CFG => ⟨0x1408000, 0, 1, 0, 1, 0, true, [⟨15, 0, .rw, 16384⟩]⟩
  | .LOG_CTRL => ⟨0x1408004, 0, 1, 0, 1, 0, true, [⟨31, 31, .w1s, 0⟩, ⟨30, 30, .w1s, 0⟩]⟩
  | .LOG_DROPPED => ⟨0x1408014, 0, 1, 0, 1, 0, true, [⟨31, 0, .sat, 0⟩]⟩
  | .LOG_OVERWRITES => ⟨0x1408018, 0, 1, 0, 1, 0, true, [⟨31, 0, .sat, 0⟩]⟩
  | .LOG_RD_IDX => ⟨0x1408010, 0, 1, 0, 1, 0, true, [⟨15, 0, .rw, 0⟩]⟩
  | .LOG_STATUS => ⟨0x1408008, 0, 1, 0, 1, 0, true, [⟨31, 31, .ro, 0⟩, ⟨30, 30, .ro, 0⟩, ⟨29, 29, .w1c, 0⟩, ⟨28, 28, .w1c, 0⟩, ⟨27, 27, .w1c, 0⟩, ⟨15, 0, .ro, 0⟩]⟩
  | .LOG_WR_IDX => ⟨0x140800C, 0, 1, 0, 1, 0, true, [⟨15, 0, .ro, 0⟩]⟩
  | .MAC_CFG => ⟨0x0200000, 64, 1040, 0, 1, 0, false, [⟨31, 31, .rw, 0⟩, ⟨30, 30, .rw, 1⟩, ⟨29, 28, .rw, 0⟩, ⟨27, 26, .rw, 0⟩, ⟨13, 0, .rw, 1522⟩]⟩
  | .MAC_EEE => ⟨0x020000C, 64, 1040, 0, 1, 0, false, [⟨31, 31, .rw, 0⟩, ⟨30, 16, .rw, 100⟩, ⟨15, 0, .rw, 0⟩]⟩
  | .MAC_FC_FORCE => ⟨0x020001C, 64, 1040, 0, 1, 0, false, [⟨31, 31, .w1s, 0⟩, ⟨23, 16, .rw, 0⟩, ⟨15, 0, .rw, 0⟩]⟩
  | .MAC_FC_THR => ⟨0x0200014, 64, 1040, 0, 1, 1024, false, [⟨31, 16, .rw, 0⟩, ⟨15, 0, .rw, 0⟩]⟩
  | .MAC_FC_TX => ⟨0x0200018, 64, 1040, 0, 1, 1024, false, [⟨31, 16, .rw, 65535⟩, ⟨15, 8, .rw, 0⟩]⟩
  | .MAC_SA_HI => ⟨0x0200008, 64, 1040, 0, 1, 0, false, [⟨15, 0, .rw, 0⟩]⟩
  | .MAC_SA_LO => ⟨0x0200004, 64, 1040, 0, 1, 0, false, [⟨31, 0, .rw, 0⟩]⟩
  | .MAC_STATUS => ⟨0x0200010, 64, 1040, 0, 1, 0, false, [⟨31, 31, .ro, 0⟩, ⟨30, 30, .ro, 0⟩, ⟨29, 29, .ro, 0⟩, ⟨28, 28, .ro, 0⟩, ⟨27, 27, .ro, 0⟩, ⟨26, 24, .ro, 7⟩, ⟨23, 16, .ro, 0⟩, ⟨15, 8, .ro, 0⟩]⟩
  | .MAC_FEC_CORR => ⟨0x0220060, 256, 1040, 0, 1, 0, false, [⟨31, 0, .sat, 0⟩]⟩
  | .MAC_FEC_UNCORR => ⟨0x0220064, 256, 1040, 0, 1, 0, false, [⟨31, 0, .sat, 0⟩]⟩
  | .MAC_RX_CTRL_OTHER => ⟨0x0220044, 256, 1040, 0, 1, 0, false, [⟨31, 0, .sat, 0⟩]⟩
  | .MAC_RX_DISABLED => ⟨0x0220038, 256, 1040, 0, 1, 0, false, [⟨31, 0, .sat, 0⟩]⟩
  | .MAC_RX_FCS_ERR => ⟨0x0220020, 256, 1040, 0, 1, 0, false, [⟨31, 0, .sat, 0⟩]⟩
  | .MAC_RX_FRAMES_HI => ⟨0x022000C, 256, 1040, 0, 1, 0, false, [⟨31, 0, .wrap, 0⟩]⟩
  | .MAC_RX_FRAMES_LO => ⟨0x0220008, 256, 1040, 0, 1, 0, false, [⟨31, 0, .wrap, 0⟩]⟩
  | .MAC_RX_LPI => ⟨0x0220058, 256, 1040, 0, 1, 0, false, [⟨31, 0, .sat, 0⟩]⟩
  | .MAC_RX_OCTETS_HI => ⟨0x0220004, 256, 1040, 0, 1, 0, false, [⟨31, 0, .wrap, 0⟩]⟩
  | .MAC_RX_OCTETS_LO => ⟨0x0220000, 256, 1040, 0, 1, 0, false, [⟨31, 0, .wrap, 0⟩]⟩
  | .MAC_RX_OVERSIZE => ⟨0x0220028, 256, 1040, 0, 1, 0, false, [⟨31, 0, .sat, 0⟩]⟩
  | .MAC_RX_PAUSE => ⟨0x022003C, 256, 1040, 0, 1, 0, false, [⟨31, 0, .sat, 0⟩]⟩
  | .MAC_RX_PFC => ⟨0x0220040, 256, 1040, 0, 1, 0, false, [⟨31, 0, .sat, 0⟩]⟩
  | .MAC_RX_PREAMBLE => ⟨0x0220030, 256, 1040, 0, 1, 0, false, [⟨31, 0, .sat, 0⟩]⟩
  | .MAC_RX_RUNT => ⟨0x0220024, 256, 1040, 0, 1, 0, false, [⟨31, 0, .sat, 0⟩]⟩
  | .MAC_RX_SYMBOL => ⟨0x022002C, 256, 1040, 0, 1, 0, false, [⟨31, 0, .sat, 0⟩]⟩
  | .MAC_RX_TKT_OVF => ⟨0x0220034, 256, 1040, 0, 1, 0, false, [⟨31, 0, .sat, 0⟩]⟩
  | .MAC_TX_FRAMES_HI => ⟨0x022001C, 256, 1040, 0, 1, 0, false, [⟨31, 0, .wrap, 0⟩]⟩
  | .MAC_TX_FRAMES_LO => ⟨0x0220018, 256, 1040, 0, 1, 0, false, [⟨31, 0, .wrap, 0⟩]⟩
  | .MAC_TX_LINK_DOWN => ⟨0x0220054, 256, 1040, 0, 1, 0, false, [⟨31, 0, .sat, 0⟩]⟩
  | .MAC_TX_LPI => ⟨0x022005C, 256, 1040, 0, 1, 0, false, [⟨31, 0, .sat, 0⟩]⟩
  | .MAC_TX_OCTETS_HI => ⟨0x0220014, 256, 1040, 0, 1, 0, false, [⟨31, 0, .wrap, 0⟩]⟩
  | .MAC_TX_OCTETS_LO => ⟨0x0220010, 256, 1040, 0, 1, 0, false, [⟨31, 0, .wrap, 0⟩]⟩
  | .MAC_TX_OVERSIZE => ⟨0x0220050, 256, 1040, 0, 1, 0, false, [⟨31, 0, .sat, 0⟩]⟩
  | .MAC_TX_PAUSE => ⟨0x0220048, 256, 1040, 0, 1, 0, false, [⟨31, 0, .sat, 0⟩]⟩
  | .MAC_TX_PFC => ⟨0x022004C, 256, 1040, 0, 1, 0, false, [⟨31, 0, .sat, 0⟩]⟩
  | .MNT_RST_REQ => ⟨0x1F0F000, 0, 1, 0, 1, 0, true, [⟨31, 31, .w1s, 0⟩, ⟨30, 30, .w1s, 0⟩, ⟨23, 16, .wo, 0⟩, ⟨4, 0, .rw, 0⟩]⟩
  | .MNT_RST_STATUS => ⟨0x1F0F004, 0, 1, 0, 1, 0, true, [⟨31, 31, .ro, 0⟩, ⟨2, 2, .w1c, 0⟩, ⟨1, 1, .ro, 0⟩, ⟨0, 0, .w1c, 0⟩]⟩
  | .NREG_AGE => ⟨0x0C00000, 0, 1, 0, 1, 0, false, [⟨15, 0, .rw, 3000⟩]⟩
  | .NREG_ECC => ⟨0x0C00208, 0, 1, 0, 1, 0, false, [⟨31, 0, .sat, 0⟩]⟩
  | .NREG_LEARNED => ⟨0x0C00204, 0, 1, 0, 1, 0, false, [⟨31, 0, .sat, 0⟩]⟩
  | .NREG_REMOVED => ⟨0x0C00200, 0, 1, 0, 1, 0, false, [⟨31, 0, .sat, 0⟩]⟩
  | .NREG_STATUS => ⟨0x0C00004, 0, 1, 0, 1, 0, false, [⟨31, 31, .ro, 0⟩, ⟨17, 0, .ro, 0⟩]⟩
  | .NREG_TAE_ADDR => ⟨0x0C00108, 0, 1, 0, 1, 0, false, [⟨17, 0, .rw, 0⟩]⟩
  | .NREG_TAE_CMD => ⟨0x0C00100, 0, 1, 0, 1, 0, false, [⟨31, 31, .w1s, 0⟩, ⟨27, 24, .rw, 0⟩, ⟨19, 16, .rw, 0⟩]⟩
  | .NREG_TAE_DATA => ⟨0x0C00180, 4, 16, 0, 1, 0, false, [⟨31, 0, .rw, 0⟩]⟩
  | .NREG_TAE_STATUS => ⟨0x0C00104, 0, 1, 0, 1, 0, false, [⟨31, 31, .ro, 0⟩, ⟨23, 20, .ro, 0⟩, ⟨17, 0, .ro, 0⟩]⟩
  | .NREG_BAD_SA => ⟨0x0C0800C, 16, 1024, 0, 1, 0, false, [⟨31, 0, .sat, 0⟩]⟩
  | .NREG_LIMIT_DROP => ⟨0x0C08000, 16, 1024, 0, 1, 0, false, [⟨31, 0, .sat, 0⟩]⟩
  | .NREG_LIMIT_FLOOD => ⟨0x0C08004, 16, 1024, 0, 1, 0, false, [⟨31, 0, .sat, 0⟩]⟩
  | .NREG_NODE_GONE => ⟨0x0C08008, 16, 1024, 0, 1, 0, false, [⟨31, 0, .sat, 0⟩]⟩
  | .NREG_PORT_CFG => ⟨0x0C01000, 16, 1024, 0, 1, 0, false, [⟨31, 31, .rw, 1⟩, ⟨30, 30, .rw, 1⟩, ⟨29, 29, .rw, 0⟩, ⟨7, 0, .rw, 254⟩]⟩
  | .NREG_PORT_DEF => ⟨0x0C01004, 16, 1024, 0, 1, 0, false, [⟨31, 31, .rw, 0⟩, ⟨30, 30, .rw, 0⟩, ⟨29, 27, .rw, 0⟩, ⟨15, 0, .rw, 1⟩]⟩
  | .NREG_PORT_POL => ⟨0x0C01008, 16, 1024, 0, 1, 0, false, [⟨15, 0, .rw, 0⟩]⟩
  | .NREG_PORT_STATUS => ⟨0x0C0100C, 16, 1024, 0, 1, 0, false, [⟨31, 31, .w1c, 0⟩, ⟨7, 0, .ro, 0⟩]⟩
  | .OCU_CTRL => ⟨0x0F00000, 0, 1, 0, 1, 0, false, [⟨31, 31, .rw, 0⟩, ⟨30, 30, .rw, 0⟩]⟩
  | .OCU_HIST => ⟨0x0F00200, 64, 8, 4, 16, 0, false, [⟨31, 0, .sat, 0⟩]⟩
  | .OCU_HIST_CFG => ⟨0x0F00100, 4, 8, 0, 1, 0, false, [⟨31, 31, .rw, 0⟩, ⟨30, 29, .rw, 0⟩, ⟨28, 27, .rw, 0⟩, ⟨26, 22, .rw, 0⟩, ⟨21, 11, .rw, 0⟩, ⟨10, 0, .rw, 0⟩]⟩
  | .OCU_LATE => ⟨0x0F00018, 0, 1, 0, 1, 0, false, [⟨31, 0, .sat, 0⟩]⟩
  | .OCU_STATUS => ⟨0x0F00004, 0, 1, 0, 1, 0, false, [⟨18, 0, .ro, 0⟩]⟩
  | .OCU_STREAM_CFG => ⟨0x0F00008, 0, 1, 0, 1, 0, false, [⟨31, 31, .rw, 0⟩, ⟨30, 30, .rw, 0⟩, ⟨29, 29, .rw, 0⟩, ⟨28, 28, .rw, 0⟩, ⟨5, 0, .rw, 0⟩]⟩
  | .OCU_STREAM_DROP => ⟨0x0F00010, 0, 1, 0, 1, 0, false, [⟨31, 0, .sat, 0⟩]⟩
  | .OCU_SWEEPS => ⟨0x0F00014, 0, 1, 0, 1, 0, false, [⟨31, 0, .sat, 0⟩]⟩
  | .OCU_MAX_CELLS => ⟨0x0F10000, 16, 1040, 0, 1, 0, false, [⟨24, 0, .w1c, 0⟩]⟩
  | .OCU_MAX_DELAY => ⟨0x0F10004, 16, 1040, 0, 1, 0, false, [⟨31, 0, .w1c, 0⟩]⟩
  | .OCU_MAX_QUEUE => ⟨0x0F10008, 16, 1040, 0, 1, 0, false, [⟨18, 0, .ro, 0⟩]⟩
  | .OCU_WATCH => ⟨0x0F20000, 16, 1024, 0, 1, 0, false, [⟨31, 31, .rw, 0⟩, ⟨18, 0, .rw, 0⟩]⟩
  | .OCU_WATCH_LAST => ⟨0x0F2000C, 16, 1024, 0, 1, 0, false, [⟨31, 0, .ro, 0⟩]⟩
  | .OCU_WATCH_MAXC => ⟨0x0F20004, 16, 1024, 0, 1, 0, false, [⟨24, 0, .w1c, 0⟩]⟩
  | .OCU_WATCH_MAXD => ⟨0x0F20008, 16, 1024, 0, 1, 0, false, [⟨31, 0, .w1c, 0⟩]⟩
  | .POL_COLOUR_INV => ⟨0x0D00020, 0, 1, 0, 1, 0, false, [⟨31, 0, .sat, 0⟩]⟩
  | .POL_DSCP_MAP => ⟨0x0D00010, 4, 4, 0, 1, 0, false, [⟨31, 0, .rw, 0⟩]⟩
  | .POL_ECC => ⟨0x0D00024, 0, 1, 0, 1, 0, false, [⟨31, 0, .sat, 0⟩]⟩
  | .POL_RESET_MODE => ⟨0x0D00000, 0, 1, 0, 1, 0, false, [⟨2, 2, .rw, 0⟩, ⟨1, 1, .rw, 0⟩, ⟨0, 0, .rw, 0⟩]⟩
  | .POL_TAE_ADDR => ⟨0x0D00108, 0, 1, 0, 1, 0, false, [⟨15, 0, .rw, 0⟩]⟩
  | .POL_TAE_CMD => ⟨0x0D00100, 0, 1, 0, 1, 0, false, [⟨31, 31, .w1s, 0⟩, ⟨27, 24, .rw, 0⟩, ⟨19, 16, .rw, 0⟩]⟩
  | .POL_TAE_DATA => ⟨0x0D00180, 4, 3, 0, 1, 0, false, [⟨31, 0, .ro, 0⟩]⟩
  | .POL_TAE_STATUS => ⟨0x0D00104, 0, 1, 0, 1, 0, false, [⟨31, 31, .ro, 0⟩, ⟨23, 20, .ro, 0⟩]⟩
  | .POL_DROP_FLOW => ⟨0x0D10014, 32, 1040, 0, 1, 0, false, [⟨31, 0, .sat, 0⟩]⟩
  | .POL_DROP_NODE => ⟨0x0D10010, 32, 1040, 0, 1, 0, false, [⟨31, 0, .sat, 0⟩]⟩
  | .POL_DROP_PORT => ⟨0x0D1000C, 32, 1040, 0, 1, 0, false, [⟨31, 0, .sat, 0⟩]⟩
  | .POL_GREEN => ⟨0x0D10000, 32, 1040, 0, 1, 0, false, [⟨31, 0, .sat, 0⟩]⟩
  | .POL_RED => ⟨0x0D10008, 32, 1040, 0, 1, 0, false, [⟨31, 0, .sat, 0⟩]⟩
  | .POL_YELLOW => ⟨0x0D10004, 32, 1040, 0, 1, 0, false, [⟨31, 0, .sat, 0⟩]⟩
  | .POL_PORT_CFG => ⟨0x0D01000, 4, 1040, 0, 1, 0, false, [⟨31, 31, .rw, 0⟩, ⟨30, 29, .rw, 0⟩, ⟨15, 0, .rw, 0⟩]⟩
  | .PRS_DEPTH => ⟨0x0A00104, 0, 1, 0, 1, 0, false, [⟨31, 0, .sat, 0⟩]⟩
  | .PRS_DEPTH_CAP => ⟨0x0A00204, 0, 1, 0, 1, 0, false, [⟨31, 31, .w1c, 0⟩, ⟨26, 24, .ro, 0⟩, ⟨23, 20, .ro, 0⟩, ⟨19, 12, .ro, 0⟩, ⟨10, 0, .ro, 0⟩]⟩
  | .PRS_FRAGMENT => ⟨0x0A00100, 0, 1, 0, 1, 0, false, [⟨31, 0, .sat, 0⟩]⟩
  | .PRS_HSR_SUP => ⟨0x0A00108, 0, 1, 0, 1, 0, false, [⟨31, 0, .sat, 0⟩]⟩
  | .PRS_MALF_CAP => ⟨0x0A00200, 0, 1, 0, 1, 0, false, [⟨31, 31, .w1c, 0⟩, ⟨27, 24, .ro, 0⟩, ⟨23, 20, .ro, 0⟩, ⟨19, 12, .ro, 0⟩, ⟨10, 0, .ro, 0⟩]⟩
  | .PRS_MALF_DROP => ⟨0x0A0010C, 0, 1, 0, 1, 0, false, [⟨31, 0, .sat, 0⟩]⟩
  | .PRS_MALF_SLOW => ⟨0x0A00110, 0, 1, 0, 1, 0, false, [⟨31, 0, .sat, 0⟩]⟩
  | .PRS_UNPARSED => ⟨0x0A00114, 0, 1, 0, 1, 0, false, [⟨31, 0, .sat, 0⟩]⟩
  | .PRS_MALFORMED => ⟨0x0A03000, 4, 1040, 0, 1, 0, false, [⟨31, 0, .sat, 0⟩]⟩
  | .PRS_PORT_CFG => ⟨0x0A01000, 4, 1040, 0, 1, 0, false, [⟨1, 0, .rw, 0⟩]⟩
  | .PWR_AVS_CFG => ⟨0x1500080, 0, 1, 0, 1, 0, false, [⟨31, 31, .rw, 0⟩, ⟨23, 16, .rw, 10⟩, ⟨15, 8, .rw, 10⟩, ⟨7, 0, .rw, 246⟩]⟩
  | .PWR_AVS_EMERGS => ⟨0x1500114, 0, 1, 0, 1, 0, false, [⟨31, 0, .sat, 0⟩]⟩
  | .PWR_AVS_STATUS => ⟨0x1500088, 0, 1, 0, 1, 0, false, [⟨31, 24, .ro, 0⟩, ⟨7, 0, .ro, 0⟩]⟩
  | .PWR_AVS_THR => ⟨0x1500084, 0, 1, 0, 1, 0, false, [⟨23, 16, .rw, 40⟩, ⟨15, 8, .rw, 20⟩, ⟨7, 0, .rw, 8⟩]⟩
  | .PWR_ENG_CFG => ⟨0x1500010, 4, 5, 0, 1, 0, false, [⟨31, 30, .rw, 0⟩, ⟨26, 16, .rw, 0⟩, ⟨10, 0, .rw, 1500⟩]⟩
  | .PWR_ENG_STATUS => ⟨0x1500030, 4, 5, 0, 1, 0, false, [⟨26, 16, .ro, 0⟩, ⟨10, 0, .ro, 0⟩]⟩
  | .PWR_PODL_BUDGET => ⟨0x1500104, 0, 1, 0, 1, 0, false, [⟨23, 0, .rw, 0⟩]⟩
  | .PWR_PODL_CFG => ⟨0x1500100, 0, 1, 0, 1, 0, false, [⟨31, 31, .rw, 0⟩, ⟨29, 28, .rw, 1⟩, ⟨7, 0, .rw, 10⟩]⟩
  | .PWR_PODL_CLASS => ⟨0x1500140, 4, 10, 0, 1, 0, false, [⟨23, 0, .rw, 0⟩]⟩
  | .PWR_PODL_REVOKES => ⟨0x1500110, 0, 1, 0, 1, 0, false, [⟨31, 0, .sat, 0⟩]⟩
  | .PWR_PODL_USED => ⟨0x1500108, 0, 1, 0, 1, 0, false, [⟨23, 0, .ro, 0⟩]⟩
  | .PWR_POOL => ⟨0x1500000, 0, 1, 0, 1, 0, false, [⟨12, 0, .rw, 7500⟩]⟩
  | .PWR_STATUS => ⟨0x1500004, 0, 1, 0, 1, 0, false, [⟨31, 31, .ro, 0⟩, ⟨30, 30, .w1c, 0⟩, ⟨29, 29, .w1c, 0⟩, ⟨28, 28, .ro, 0⟩, ⟨27, 27, .w1c, 0⟩, ⟨26, 26, .w1c, 0⟩]⟩
  | .PWR_PODL_SEG => ⟨0x1501000, 4, 1024, 0, 1, 0, false, [⟨31, 31, .rw, 0⟩, ⟨30, 30, .rw, 0⟩, ⟨29, 28, .rw, 0⟩, ⟨27, 27, .ro, 0⟩, ⟨26, 26, .ro, 0⟩, ⟨19, 16, .ro, 0⟩]⟩
  | .SCH_CAND_REPL => ⟨0x0E11008, 16, 1040, 0, 1, 0, false, [⟨31, 0, .sat, 0⟩]⟩
  | .SCH_NODEQ_OFF => ⟨0x0E11004, 16, 1040, 0, 1, 0, false, [⟨31, 0, .sat, 0⟩]⟩
  | .SCH_TAG_REJ => ⟨0x0E11000, 16, 1040, 0, 1, 0, false, [⟨31, 0, .sat, 0⟩]⟩
  | .SCH_CBS_CREDIT => ⟨0x0E2000C, 256, 1040, 32, 8, 0, false, [⟨31, 0, .ro, 0⟩]⟩
  | .SCH_CBS_HI => ⟨0x0E20008, 256, 1040, 32, 8, 0, false, [⟨23, 0, .rw, 1522⟩]⟩
  | .SCH_CBS_SLOPE => ⟨0x0E20004, 256, 1040, 32, 8, 0, false, [⟨23, 0, .rw, 0⟩]⟩
  | .SCH_CLASS_CFG => ⟨0x0E20000, 256, 1040, 32, 8, 0, false, [⟨31, 31, .rw, 0⟩, ⟨23, 16, .rw, 8⟩, ⟨15, 0, .rw, 1⟩]⟩
  | .SCH_CQ_CELLS => ⟨0x0E20018, 256, 1040, 32, 8, 0, false, [⟨31, 0, .ro, 0⟩]⟩
  | .SCH_CQ_COPIES => ⟨0x0E2001C, 256, 1040, 32, 8, 0, false, [⟨31, 0, .ro, 0⟩]⟩
  | .SCH_DEFICIT => ⟨0x0E20014, 256, 1040, 32, 8, 0, false, [⟨31, 31, .ro, 1⟩, ⟨19, 0, .ro, 0⟩]⟩
  | .SCH_VTIME => ⟨0x0E20010, 256, 1040, 32, 8, 0, false, [⟨31, 0, .ro, 0⟩]⟩
  | .SCH_GLB_CFG => ⟨0x0E10800, 0, 1, 0, 1, 0, false, [⟨0, 0, .rw, 1⟩]⟩
  | .SCH_PORT_CFG => ⟨0x0E00000, 64, 1040, 0, 1, 0, false, [⟨31, 31, .rw, 1⟩, ⟨7, 0, .rw, 20⟩]⟩
  | .SCH_PORT_COPIES => ⟨0x0E00008, 64, 1040, 0, 1, 0, false, [⟨31, 0, .ro, 0⟩]⟩
  | .SCH_PORT_STATUS => ⟨0x0E00004, 64, 1040, 0, 1, 0, false, [⟨31, 31, .ro, 0⟩, ⟨30, 28, .ro, 0⟩, ⟨23, 16, .ro, 0⟩, ⟨15, 8, .ro, 0⟩]⟩
  | .SEG_BABBLE => ⟨0x0400008, 64, 1024, 0, 1, 0, false, [⟨31, 24, .rw, 8⟩, ⟨15, 0, .rw, 100⟩]⟩
  | .SEG_CFG => ⟨0x0400000, 64, 1024, 0, 1, 0, false, [⟨31, 31, .rw, 0⟩, ⟨30, 30, .rw, 0⟩, ⟨29, 28, .rw, 1⟩, ⟨27, 26, .rw, 0⟩, ⟨25, 25, .rw, 0⟩, ⟨23, 16, .rw, 1⟩]⟩
  | .SEG_PLCA => ⟨0x0400004, 64, 1024, 0, 1, 0, false, [⟨31, 24, .rw, 8⟩, ⟨23, 16, .rw, 32⟩, ⟨15, 8, .rw, 0⟩, ⟨7, 0, .rw, 128⟩]⟩
  | .SEG_STATUS => ⟨0x040000C, 64, 1024, 0, 1, 0, false, [⟨31, 29, .ro, 0⟩, ⟨28, 28, .ro, 0⟩, ⟨27, 27, .w1c, 0⟩, ⟨26, 26, .ro, 0⟩, ⟨25, 25, .ro, 0⟩, ⟨23, 16, .ro, 255⟩, ⟨15, 8, .ro, 255⟩]⟩
  | .SEG_TXSTATE => ⟨0x0400010, 64, 1024, 0, 1, 0, false, [⟨31, 28, .ro, 0⟩, ⟨27, 18, .ro, 0⟩]⟩
  | .SEG_BABBLE_EVENTS => ⟨0x0410024, 64, 1024, 0, 1, 0, false, [⟨31, 0, .sat, 0⟩]⟩
  | .SEG_COLLISIONS => ⟨0x0410000, 64, 1024, 0, 1, 0, false, [⟨31, 0, .sat, 0⟩]⟩
  | .SEG_CYCLES_HI => ⟨0x0410030, 64, 1024, 0, 1, 0, false, [⟨31, 0, .wrap, 0⟩]⟩
  | .SEG_CYCLES_LO => ⟨0x041002C, 64, 1024, 0, 1, 0, false, [⟨31, 0, .wrap, 0⟩]⟩
  | .SEG_DEFERRED => ⟨0x041000C, 64, 1024, 0, 1, 0, false, [⟨31, 0, .sat, 0⟩]⟩
  | .SEG_EXCESS_COLL => ⟨0x0410008, 64, 1024, 0, 1, 0, false, [⟨31, 0, .sat, 0⟩]⟩
  | .SEG_LATE_COLL => ⟨0x0410004, 64, 1024, 0, 1, 0, false, [⟨31, 0, .sat, 0⟩]⟩
  | .SEG_OPP_RX_ERR => ⟨0x0410014, 64, 1024, 0, 1, 0, false, [⟨31, 0, .sat, 0⟩]⟩
  | .SEG_OWN_OPP_IDLE => ⟨0x0410020, 64, 1024, 0, 1, 0, false, [⟨31, 0, .sat, 0⟩]⟩
  | .SEG_PLCA_ERR => ⟨0x041001C, 64, 1024, 0, 1, 0, false, [⟨31, 0, .sat, 0⟩]⟩
  | .SEG_QUAR_RX => ⟨0x0410028, 64, 1024, 0, 1, 0, false, [⟨31, 0, .sat, 0⟩]⟩
  | .SEG_RX_COLL => ⟨0x0410010, 64, 1024, 0, 1, 0, false, [⟨31, 0, .sat, 0⟩]⟩
  | .SEG_XCHK_ERR => ⟨0x0410018, 64, 1024, 0, 1, 0, false, [⟨31, 0, .sat, 0⟩]⟩
  | .SES_AUTH_FAIL => ⟨0x1601300, 0, 1, 0, 1, 0, false, [⟨31, 0, .sat, 0⟩]⟩
  | .SES_CFG => ⟨0x1601000, 0, 1, 0, 1, 0, false, [⟨31, 16, .rw, 34997⟩, ⟨15, 0, .rw, 0⟩]⟩
  | .SES_DENIED => ⟨0x1601308, 0, 1, 0, 1, 0, false, [⟨31, 0, .sat, 0⟩]⟩
  | .SES_KEY_CTRL => ⟨0x1601020, 0, 1, 0, 1, 0, false, [⟨31, 31, .w1s, 0⟩, ⟨30, 30, .w1s, 0⟩, ⟨29, 29, .w1s, 0⟩, ⟨15, 8, .wo, 0⟩, ⟨2, 0, .rw, 0⟩]⟩
  | .SES_KEY_DATA => ⟨0x1601040, 4, 8, 0, 1, 0, false, [⟨31, 0, .wo, 0⟩]⟩
  | .SES_KEY_STATUS => ⟨0x1601024, 0, 1, 0, 1, 0, false, [⟨15, 8, .ro, 0⟩, ⟨7, 0, .ro, 0⟩]⟩
  | .SES_REJ => ⟨0x1601304, 0, 1, 0, 1, 0, false, [⟨31, 0, .sat, 0⟩]⟩
  | .SES_RSP_DROP => ⟨0x160130C, 0, 1, 0, 1, 0, false, [⟨31, 0, .sat, 0⟩]⟩
  | .SES_SA_HI => ⟨0x160100C, 0, 1, 0, 1, 0, false, [⟨15, 0, .rw, 0⟩]⟩
  | .SES_SA_LO => ⟨0x1601008, 0, 1, 0, 1, 0, false, [⟨31, 0, .rw, 0⟩]⟩
  | .SES_STATUS => ⟨0x1601010, 0, 1, 0, 1, 0, false, [⟨31, 31, .w1c, 0⟩, ⟨30, 30, .w1c, 0⟩, ⟨29, 29, .w1c, 0⟩, ⟨28, 28, .w1c, 0⟩, ⟨27, 27, .w1c, 0⟩, ⟨26, 26, .w1c, 0⟩, ⟨7, 0, .ro, 0⟩]⟩
  | .SES_TIMERS => ⟨0x1601004, 0, 1, 0, 1, 0, false, [⟨31, 24, .rw, 30⟩, ⟨23, 16, .rw, 60⟩, ⟨15, 12, .rw, 5⟩, ⟨10, 8, .rw, 6⟩]⟩
  | .SES_SESS => ⟨0x1601200, 16, 4, 0, 1, 0, false, [⟨31, 30, .ro, 0⟩, ⟨26, 24, .ro, 0⟩, ⟨19, 16, .ro, 0⟩, ⟨15, 0, .ro, 0⟩]⟩
  | .SES_SESS_SA_HI => ⟨0x1601208, 16, 4, 0, 1, 0, false, [⟨15, 0, .ro, 0⟩]⟩
  | .SES_SESS_SA_LO => ⟨0x1601204, 16, 4, 0, 1, 0, false, [⟨31, 0, .ro, 0⟩]⟩
  | .SES_WIN_BASE => ⟨0x1601104, 16, 16, 0, 1, 0, false, [⟨24, 2, .rw, 0⟩]⟩
  | .SES_WIN_CFG => ⟨0x1601100, 16, 16, 0, 1, 0, false, [⟨31, 31, .rw, 0⟩, ⟨30, 30, .rw, 0⟩, ⟨29, 29, .rw, 0⟩, ⟨28, 28, .rw, 0⟩, ⟨23, 16, .rw, 0⟩]⟩
  | .SES_WIN_LIMIT => ⟨0x1601108, 16, 16, 0, 1, 0, false, [⟨24, 2, .rw, 0⟩]⟩
  | .SPI_CUT_BAD => ⟨0x1101014, 64, 8, 32, 2, 0, false, [⟨31, 0, .sat, 0⟩]⟩
  | .SPI_CUT_HI => ⟨0x1101004, 64, 8, 32, 2, 0, false, [⟨31, 0, .wrap, 0⟩]⟩
  | .SPI_CUT_LO => ⟨0x1101000, 64, 8, 32, 2, 0, false, [⟨31, 0, .wrap, 0⟩]⟩
  | .SPI_FALLBACK => ⟨0x1101008, 64, 8, 32, 2, 0, false, [⟨31, 0, .sat, 0⟩]⟩
  | .SPI_FB_DROP => ⟨0x110100C, 64, 8, 32, 2, 0, false, [⟨31, 0, .sat, 0⟩]⟩
  | .SPI_FB_NOCELL => ⟨0x1101010, 64, 8, 32, 2, 0, false, [⟨31, 0, .sat, 0⟩]⟩
  | .SPI_HSR_DUP => ⟨0x1101018, 64, 8, 32, 2, 0, false, [⟨31, 0, .sat, 0⟩]⟩
  | .SPI_HSR_OWN => ⟨0x110101C, 64, 8, 32, 2, 0, false, [⟨31, 0, .sat, 0⟩]⟩
  | .SPI_ECC => ⟨0x1100408, 0, 1, 0, 1, 0, false, [⟨31, 0, .sat, 0⟩]⟩
  | .SPI_HSR_SA_HI => ⟨0x1100404, 0, 1, 0, 1, 0, false, [⟨15, 0, .rw, 0⟩]⟩
  | .SPI_HSR_SA_LO => ⟨0x1100400, 0, 1, 0, 1, 0, false, [⟨31, 0, .rw, 0⟩]⟩
  | .SPI_TAE_ADDR => ⟨0x1100808, 0, 1, 0, 1, 0, false, [⟨7, 0, .rw, 0⟩]⟩
  | .SPI_TAE_CMD => ⟨0x1100800, 0, 1, 0, 1, 0, false, [⟨31, 31, .w1s, 0⟩, ⟨19, 16, .rw, 0⟩]⟩
  | .SPI_TAE_DATA => ⟨0x1100880, 4, 4, 0, 1, 0, false, [⟨31, 0, .rw, 0⟩]⟩
  | .SPI_TAE_STATUS => ⟨0x1100804, 0, 1, 0, 1, 0, false, [⟨31, 31, .ro, 0⟩, ⟨23, 20, .ro, 0⟩]⟩
  | .SPI_HSR_EVICT => ⟨0x1100008, 64, 8, 0, 1, 0, false, [⟨31, 0, .sat, 0⟩]⟩
  | .SPI_PAIR_CFG => ⟨0x1100000, 64, 8, 0, 1, 0, false, [⟨31, 31, .rw, 0⟩, ⟨30, 30, .rw, 0⟩, ⟨29, 29, .rw, 1⟩, ⟨28, 26, .rw, 7⟩, ⟨23, 16, .rw, 0⟩, ⟨15, 0, .rw, 400⟩]⟩
  | .SPI_PAIR_STATUS => ⟨0x1100004, 64, 8, 0, 1, 0, false, [⟨31, 31, .ro, 0⟩, ⟨28, 16, .ro, 0⟩, ⟨11, 8, .ro, 0⟩, ⟨3, 0, .ro, 0⟩]⟩
  | .STI_ACTIVE => ⟨0x0100014, 0, 1, 0, 1, 0, false, [⟨31, 24, .ro, 0⟩, ⟨23, 16, .ro, 0⟩, ⟨15, 8, .ro, 0⟩]⟩
  | .STI_ACTIVE_SERIAL => ⟨0x0100018, 0, 1, 0, 1, 0, false, [⟨31, 0, .ro, 0⟩]⟩
  | .STI_CTRL => ⟨0x0100000, 0, 1, 0, 1, 0, false, [⟨31, 31, .w1s, 0⟩, ⟨2, 2, .w1s, 0⟩, ⟨1, 1, .w1s, 0⟩, ⟨0, 0, .w1s, 0⟩]⟩
  | .STI_ERR_OFFSET => ⟨0x0100008, 0, 1, 0, 1, 0, false, [⟨19, 0, .ro, 0⟩]⟩
  | .STI_FLUSHED => ⟨0x0100020, 0, 1, 0, 1, 0, false, [⟨31, 0, .sat, 0⟩]⟩
  | .STI_LOAD_COUNT => ⟨0x0100010, 0, 1, 0, 1, 0, false, [⟨19, 0, .ro, 0⟩]⟩
  | .STI_LOAD_DATA => ⟨0x010000C, 0, 1, 0, 1, 0, false, [⟨31, 0, .wo, 0⟩]⟩
  | .STI_STATUS => ⟨0x0100004, 0, 1, 0, 1, 0, false, [⟨31, 29, .ro, 0⟩, ⟨28, 28, .ro, 0⟩, ⟨27, 27, .ro, 0⟩, ⟨26, 26, .ro, 0⟩, ⟨25, 25, .w1c, 0⟩, ⟨23, 16, .ro, 0⟩, ⟨11, 8, .ro, 0⟩, ⟨0, 0, .w1c, 0⟩]⟩
  | .TPG_ADJ => ⟨0x100002C, 0, 1, 0, 1, 0, false, [⟨31, 0, .rw, 0⟩]⟩
  | .TPG_CLKCMP => ⟨0x1000030, 0, 1, 0, 1, 0, false, [⟨31, 31, .w1s, 0⟩, ⟨30, 30, .w1c, 0⟩, ⟨4, 0, .rw, 27⟩]⟩
  | .TPG_CLKCMP_COUNT => ⟨0x1000034, 0, 1, 0, 1, 0, false, [⟨31, 0, .ro, 0⟩]⟩
  | .TPG_GCL_DONE => ⟨0x1000900, 4, 33, 0, 1, 0, false, [⟨31, 0, .w1c, 0⟩]⟩
  | .TPG_INCR_HI => ⟨0x1000008, 0, 1, 0, 1, 0, false, [⟨15, 0, .rw, 170⟩]⟩
  | .TPG_INCR_LO => ⟨0x1000004, 0, 1, 0, 1, 0, false, [⟨31, 0, .rw, 2863311531⟩]⟩
  | .TPG_SET_NS => ⟨0x1000020, 0, 1, 0, 1, 0, false, [⟨31, 0, .rw, 0⟩]⟩
  | .TPG_SET_SEC_HI => ⟨0x1000028, 0, 1, 0, 1, 0, false, [⟨15, 0, .rw, 0⟩]⟩
  | .TPG_SET_SEC_LO => ⟨0x1000024, 0, 1, 0, 1, 0, false, [⟨31, 0, .rw, 0⟩]⟩
  | .TPG_STAMP_CFG => ⟨0x1000040, 0, 1, 0, 1, 0, false, [⟨0, 0, .rw, 0⟩]⟩
  | .TPG_STAMP_SKIP => ⟨0x1000044, 0, 1, 0, 1, 0, false, [⟨31, 0, .sat, 0⟩]⟩
  | .TPG_TAE_ADDR => ⟨0x1000808, 0, 1, 0, 1, 0, false, [⟨15, 0, .rw, 0⟩]⟩
  | .TPG_TAE_CMD => ⟨0x1000800, 0, 1, 0, 1, 0, false, [⟨31, 31, .w1s, 0⟩, ⟨19, 16, .rw, 0⟩]⟩
  | .TPG_TAE_DATA => ⟨0x1000880, 4, 4, 0, 1, 0, false, [⟨31, 0, .rw, 0⟩]⟩
  | .TPG_TAE_STATUS => ⟨0x1000804, 0, 1, 0, 1, 0, false, [⟨31, 31, .ro, 0⟩, ⟨23, 20, .ro, 0⟩]⟩
  | .TPG_TIME_CTRL => ⟨0x1000000, 0, 1, 0, 1, 0, false, [⟨31, 31, .w1s, 0⟩, ⟨30, 30, .w1s, 0⟩]⟩
  | .TPG_TIME_FRAC => ⟨0x1000010, 0, 1, 0, 1, 0, false, [⟨15, 0, .ro, 0⟩]⟩
  | .TPG_TIME_NS => ⟨0x1000014, 0, 1, 0, 1, 0, false, [⟨31, 0, .ro, 0⟩]⟩
  | .TPG_TIME_SEC_HI => ⟨0x100001C, 0, 1, 0, 1, 0, false, [⟨15, 0, .ro, 0⟩]⟩
  | .TPG_TIME_SEC_LO => ⟨0x1000018, 0, 1, 0, 1, 0, false, [⟨31, 0, .ro, 0⟩]⟩
  | .TPG_FCAL => ⟨0x1004000, 8, 1040, 0, 1, 0, false, [⟨31, 16, .ro, 0⟩, ⟨15, 0, .ro, 0⟩]⟩
  | .TPG_UCAL => ⟨0x1004004, 8, 1040, 0, 1, 0, false, [⟨31, 16, .rw, 0⟩, ⟨15, 0, .rw, 0⟩]⟩
  | .TPG_GCL_ADMIN_BASE_NS => ⟨0x101000C, 64, 1040, 0, 1, 0, false, [⟨31, 0, .rw, 0⟩]⟩
  | .TPG_GCL_ADMIN_BASE_SEC_HI => ⟨0x1010014, 64, 1040, 0, 1, 0, false, [⟨15, 0, .rw, 0⟩]⟩
  | .TPG_GCL_ADMIN_BASE_SEC_LO => ⟨0x1010010, 64, 1040, 0, 1, 0, false, [⟨31, 0, .rw, 0⟩]⟩
  | .TPG_GCL_ADMIN_CYCLE => ⟨0x1010008, 64, 1040, 0, 1, 0, false, [⟨31, 0, .rw, 0⟩]⟩
  | .TPG_GCL_ADMIN_LIST => ⟨0x1010004, 64, 1040, 0, 1, 0, false, [⟨31, 16, .rw, 0⟩, ⟨12, 0, .rw, 0⟩]⟩
  | .TPG_GCL_CFG => ⟨0x1010000, 64, 1040, 0, 1, 0, false, [⟨31, 31, .rw, 0⟩, ⟨30, 30, .rw, 0⟩, ⟨29, 29, .w1s, 0⟩, ⟨28, 28, .rw, 0⟩, ⟨27, 27, .rw, 0⟩, ⟨15, 0, .rw, 0⟩]⟩
  | .TPG_GCL_ENTRY => ⟨0x101001C, 64, 1040, 0, 1, 0, false, [⟨15, 0, .ro, 0⟩]⟩
  | .TPG_GCL_NOFIT => ⟨0x101002C, 64, 1040, 0, 1, 0, false, [⟨31, 0, .sat, 0⟩]⟩
  | .TPG_GCL_OPER_BASE_NS => ⟨0x1010034, 64, 1040, 0, 1, 0, false, [⟨31, 0, .ro, 0⟩]⟩
  | .TPG_GCL_OPER_BASE_SEC_HI => ⟨0x101003C, 64, 1040, 0, 1, 0, false, [⟨15, 0, .ro, 0⟩]⟩
  | .TPG_GCL_OPER_BASE_SEC_LO => ⟨0x1010038, 64, 1040, 0, 1, 0, false, [⟨31, 0, .ro, 0⟩]⟩
  | .TPG_GCL_OPER_CYCLE => ⟨0x1010024, 64, 1040, 0, 1, 0, false, [⟨31, 0, .ro, 0⟩]⟩
  | .TPG_GCL_OPER_LIST => ⟨0x1010020, 64, 1040, 0, 1, 0, false, [⟨31, 16, .ro, 0⟩, ⟨12, 0, .ro, 0⟩]⟩
  | .TPG_GCL_OVERRUN => ⟨0x1010030, 64, 1040, 0, 1, 0, false, [⟨31, 0, .sat, 0⟩]⟩
  | .TPG_GCL_SKIP => ⟨0x1010028, 64, 1040, 0, 1, 0, false, [⟨31, 0, .sat, 0⟩]⟩
  | .TPG_GCL_STATUS => ⟨0x1010018, 64, 1040, 0, 1, 0, false, [⟨31, 29, .ro, 0⟩, ⟨28, 28, .ro, 0⟩, ⟨27, 27, .ro, 0⟩, ⟨26, 26, .ro, 0⟩, ⟨25, 25, .w1c, 0⟩, ⟨24, 22, .ro, 0⟩, ⟨7, 0, .ro, 255⟩]⟩
  | .TPG_PH_CFG => ⟨0x1000200, 64, 2, 0, 1, 0, false, [⟨31, 31, .rw, 0⟩, ⟨30, 30, .rw, 0⟩, ⟨29, 27, .rw, 1⟩, ⟨26, 24, .rw, 3⟩, ⟨23, 16, .rw, 10⟩, ⟨15, 8, .rw, 8⟩]⟩
  | .TPG_PH_CYCLES => ⟨0x1000210, 64, 2, 0, 1, 0, false, [⟨31, 0, .ro, 0⟩]⟩
  | .TPG_PH_EDGES => ⟨0x1000220, 64, 2, 0, 1, 0, false, [⟨31, 0, .sat, 0⟩]⟩
  | .TPG_PH_ERR => ⟨0x1000218, 64, 2, 0, 1, 0, false, [⟨15, 0, .ro, 0⟩]⟩
  | .TPG_PH_FCAL => ⟨0x100021C, 64, 2, 0, 1, 0, false, [⟨15, 0, .ro, 0⟩]⟩
  | .TPG_PH_FREQ => ⟨0x1000214, 64, 2, 0, 1, 0, false, [⟨16, 0, .ro, 0⟩]⟩
  | .TPG_PH_GLITCH => ⟨0x1000224, 64, 2, 0, 1, 0, false, [⟨31, 0, .sat, 0⟩]⟩
  | .TPG_PH_LOSSES => ⟨0x1000230, 64, 2, 0, 1, 0, false, [⟨31, 0, .sat, 0⟩]⟩
  | .TPG_PH_OUTLIER => ⟨0x1000228, 64, 2, 0, 1, 0, false, [⟨31, 0, .sat, 0⟩]⟩
  | .TPG_PH_RANGE => ⟨0x100022C, 64, 2, 0, 1, 0, false, [⟨31, 0, .sat, 0⟩]⟩
  | .TPG_PH_STATUS => ⟨0x100020C, 64, 2, 0, 1, 0, false, [⟨31, 29, .ro, 0⟩, ⟨23, 16, .ro, 0⟩, ⟨15, 0, .ro, 0⟩]⟩
  | .TPG_PH_THR => ⟨0x1000204, 64, 2, 0, 1, 0, false, [⟨31, 16, .rw, 1311⟩, ⟨15, 0, .rw, 328⟩]⟩
  | .TPG_PH_UCAL => ⟨0x1000208, 64, 2, 0, 1, 0, false, [⟨31, 0, .rw, 0⟩]⟩

/-- Register names 0 onward, in the order of R442. -/
def allRegs0 : List Reg :=
  [.BEL_EOI, .BEL_SPURIOUS_AFTER_CLAIM, .BEL_STACK_ORDER, .BEL_TGT_CFG, .BEL_TGT_ORDER, .BEL_TGT_STATUS, .BEL_GLB_CFG, .BEL_SWI, .BEL_SRC_CFG, .BEL_SRC_COAL, .BEL_SRC_STATUS, .BEL_SRC_VEC_HI, .BEL_SRC_VEC_LO, .BEL_STACK, .CHK_CFG, .CHK_DONE_HI, .CHK_DONE_LO, .CHK_FAIL, .CHK_INIT_HI, .CHK_INIT_LO, .CHK_POLY_HI, .CHK_POLY_LO, .CHK_REGION, .CHK_RUN_HI, .CHK_RUN_LO, .CHK_SKIP, .CHK_XOR_HI, .CHK_XOR_LO, .CLS_ACT_DROP, .CLS_ACT_SLOW, .CLS_COMMIT_CTRL, .CLS_COMMIT_STATUS, .CLS_DRAIN_WARN, .CLS_ECC_MISS, .CLS_FLOW_HITS_HI, .CLS_FLOW_HITS_LO, .CLS_FLOW_SEED0, .CLS_FLOW_SEED1, .CLS_FLOW_USED, .CLS_INFLIGHT_ACT, .CLS_INFLIGHT_DRN, .CLS_JOURNAL, .CLS_LOOKUPS_HI, .CLS_LOOKUPS_LO, .CLS_PFX_CFG, .CLS_PFX_HITS_HI, .CLS_PFX_HITS_LO, .CLS_PFX_USED, .CLS_STAGE_REJ, .CLS_STASH_USED]

/-- Register names 50 onward, in the order of R442. -/
def allRegs1 : List Reg :=
  [.CLS_SYM_SEED, .CLS_TAE_ADDR, .CLS_TAE_CMD, .CLS_TAE_DATA, .CLS_TAE_STATUS, .CLS_VERSION, .DMA_BUS_ERRORS, .DMA_ERR_ADDR_HI, .DMA_ERR_ADDR_LO, .DMA_GLB_CTRL, .DMA_GLB_STATUS, .DMA_SLOW_NOSET, .DMA_SLOW_SET_HI, .DMA_SLOW_SET_LO, .DMA_CH_BYTES_HI, .DMA_CH_BYTES_LO, .DMA_CH_CFG, .DMA_CH_CTRL, .DMA_CH_DESC, .DMA_CH_IDX, .DMA_CH_LIMITS, .DMA_CH_PACE, .DMA_CH_PACE_WM, .DMA_CH_POS, .DMA_CH_RING_HI, .DMA_CH_RING_LO, .DMA_CH_STATUS, .DMA_CH_STOP_STATUS, .DMA_CH_TIMERS, .DOME_CFG, .DOME_ECC_CORR, .DOME_ECC_UNCORR, .DOME_FREE, .DOME_LOOP, .DOME_LOST_CELLS, .DOME_TARGET, .DOME_USED_PEAK, .DOME_CLASS_ALPHA, .DOME_CLASS_CELLS, .DOME_CLASS_CFG, .DOME_CLASS_CUR, .DOME_CLASS_DROP, .DOME_HOST_CFG, .DOME_HOST_DROP, .DOME_DROP_G, .DOME_DROP_R, .DOME_DROP_Y, .DOME_RX_NOCELL, .DOME_EDIT, .EXT_ADDR_HI]

/-- Register names 100 onward, in the order of R442. -/
def allRegs2 : List Reg :=
  [.EXT_ADDR_LO, .EXT_AUTH_FAIL, .EXT_CFG, .EXT_CFG_VER, .EXT_INFO, .EXT_LOSSES, .EXT_MGMT_REJ, .EXT_POLL_MISS, .EXT_PUSH, .EXT_PUSH_FAIL, .EXT_STATUS, .EXT_UNIT_HI, .EXT_UNIT_LO, .EXT_CREDIT, .EXT_PACE, .EXT_GLB_CFG, .EXT_MGR_SA_HI, .EXT_MGR_SA_LO, .EXT_TIMERS, .EXT_TRK_UNKNOWN, .EXT_TRK_UNTAGGED, .EXT_TRUNK_CFG, .FLT_BLK_RESETS, .FLT_CFG, .FLT_CHIP_REQ_CNT, .FLT_FIRST_SRC, .FLT_FIRST_SYN, .FLT_FIRST_TS_HI, .FLT_FIRST_TS_LO, .FLT_INJ_ADDR, .FLT_INJ_CTRL, .FLT_INJ_DATA, .FLT_LANTERN, .FLT_NMT, .FLT_RST_FRAMES, .FLT_SHADOWED, .FLT_STATUS, .FLT_SRC_CFG, .FLT_SRC_STATUS, .GLB_BOOT, .GLB_EGT_ERR, .GLB_EGT_ERR_CAUSE, .GLB_ID, .GLB_REV, .GLB_SLV_ERR, .KEEP_CFG, .KEEP_CTRL, .KEEP_LD_TS_HI, .KEEP_LD_TS_LO, .KEEP_LEN]

/-- Register names 150 onward, in the order of R442. -/
def allRegs3 : List Reg :=
  [.KEEP_MIR_CFG, .KEEP_MIR_CYCLE, .KEEP_MIR_MISSES, .KEEP_MIR_RESYNCS, .KEEP_MIR_STATUS, .KEEP_PRODUCED, .KEEP_SEQ, .KEEP_SKIPPED, .KEEP_STATUS, .KEEP_TIMERS, .LOG_ACC_DATA, .LOG_ACC_IDX, .LOG_CFG, .LOG_CTRL, .LOG_DROPPED, .LOG_OVERWRITES, .LOG_RD_IDX, .LOG_STATUS, .LOG_WR_IDX, .MAC_CFG, .MAC_EEE, .MAC_FC_FORCE, .MAC_FC_THR, .MAC_FC_TX, .MAC_SA_HI, .MAC_SA_LO, .MAC_STATUS, .MAC_FEC_CORR, .MAC_FEC_UNCORR, .MAC_RX_CTRL_OTHER, .MAC_RX_DISABLED, .MAC_RX_FCS_ERR, .MAC_RX_FRAMES_HI, .MAC_RX_FRAMES_LO, .MAC_RX_LPI, .MAC_RX_OCTETS_HI, .MAC_RX_OCTETS_LO, .MAC_RX_OVERSIZE, .MAC_RX_PAUSE, .MAC_RX_PFC, .MAC_RX_PREAMBLE, .MAC_RX_RUNT, .MAC_RX_SYMBOL, .MAC_RX_TKT_OVF, .MAC_TX_FRAMES_HI, .MAC_TX_FRAMES_LO, .MAC_TX_LINK_DOWN, .MAC_TX_LPI, .MAC_TX_OCTETS_HI, .MAC_TX_OCTETS_LO]

/-- Register names 200 onward, in the order of R442. -/
def allRegs4 : List Reg :=
  [.MAC_TX_OVERSIZE, .MAC_TX_PAUSE, .MAC_TX_PFC, .MNT_RST_REQ, .MNT_RST_STATUS, .NREG_AGE, .NREG_ECC, .NREG_LEARNED, .NREG_REMOVED, .NREG_STATUS, .NREG_TAE_ADDR, .NREG_TAE_CMD, .NREG_TAE_DATA, .NREG_TAE_STATUS, .NREG_BAD_SA, .NREG_LIMIT_DROP, .NREG_LIMIT_FLOOD, .NREG_NODE_GONE, .NREG_PORT_CFG, .NREG_PORT_DEF, .NREG_PORT_POL, .NREG_PORT_STATUS, .OCU_CTRL, .OCU_HIST, .OCU_HIST_CFG, .OCU_LATE, .OCU_STATUS, .OCU_STREAM_CFG, .OCU_STREAM_DROP, .OCU_SWEEPS, .OCU_MAX_CELLS, .OCU_MAX_DELAY, .OCU_MAX_QUEUE, .OCU_WATCH, .OCU_WATCH_LAST, .OCU_WATCH_MAXC, .OCU_WATCH_MAXD, .POL_COLOUR_INV, .POL_DSCP_MAP, .POL_ECC, .POL_RESET_MODE, .POL_TAE_ADDR, .POL_TAE_CMD, .POL_TAE_DATA, .POL_TAE_STATUS, .POL_DROP_FLOW, .POL_DROP_NODE, .POL_DROP_PORT, .POL_GREEN, .POL_RED]

/-- Register names 250 onward, in the order of R442. -/
def allRegs5 : List Reg :=
  [.POL_YELLOW, .POL_PORT_CFG, .PRS_DEPTH, .PRS_DEPTH_CAP, .PRS_FRAGMENT, .PRS_HSR_SUP, .PRS_MALF_CAP, .PRS_MALF_DROP, .PRS_MALF_SLOW, .PRS_UNPARSED, .PRS_MALFORMED, .PRS_PORT_CFG, .PWR_AVS_CFG, .PWR_AVS_EMERGS, .PWR_AVS_STATUS, .PWR_AVS_THR, .PWR_ENG_CFG, .PWR_ENG_STATUS, .PWR_PODL_BUDGET, .PWR_PODL_CFG, .PWR_PODL_CLASS, .PWR_PODL_REVOKES, .PWR_PODL_USED, .PWR_POOL, .PWR_STATUS, .PWR_PODL_SEG, .SCH_CAND_REPL, .SCH_NODEQ_OFF, .SCH_TAG_REJ, .SCH_CBS_CREDIT, .SCH_CBS_HI, .SCH_CBS_SLOPE, .SCH_CLASS_CFG, .SCH_CQ_CELLS, .SCH_CQ_COPIES, .SCH_DEFICIT, .SCH_VTIME, .SCH_GLB_CFG, .SCH_PORT_CFG, .SCH_PORT_COPIES, .SCH_PORT_STATUS, .SEG_BABBLE, .SEG_CFG, .SEG_PLCA, .SEG_STATUS, .SEG_TXSTATE, .SEG_BABBLE_EVENTS, .SEG_COLLISIONS, .SEG_CYCLES_HI, .SEG_CYCLES_LO]

/-- Register names 300 onward, in the order of R442. -/
def allRegs6 : List Reg :=
  [.SEG_DEFERRED, .SEG_EXCESS_COLL, .SEG_LATE_COLL, .SEG_OPP_RX_ERR, .SEG_OWN_OPP_IDLE, .SEG_PLCA_ERR, .SEG_QUAR_RX, .SEG_RX_COLL, .SEG_XCHK_ERR, .SES_AUTH_FAIL, .SES_CFG, .SES_DENIED, .SES_KEY_CTRL, .SES_KEY_DATA, .SES_KEY_STATUS, .SES_REJ, .SES_RSP_DROP, .SES_SA_HI, .SES_SA_LO, .SES_STATUS, .SES_TIMERS, .SES_SESS, .SES_SESS_SA_HI, .SES_SESS_SA_LO, .SES_WIN_BASE, .SES_WIN_CFG, .SES_WIN_LIMIT, .SPI_CUT_BAD, .SPI_CUT_HI, .SPI_CUT_LO, .SPI_FALLBACK, .SPI_FB_DROP, .SPI_FB_NOCELL, .SPI_HSR_DUP, .SPI_HSR_OWN, .SPI_ECC, .SPI_HSR_SA_HI, .SPI_HSR_SA_LO, .SPI_TAE_ADDR, .SPI_TAE_CMD, .SPI_TAE_DATA, .SPI_TAE_STATUS, .SPI_HSR_EVICT, .SPI_PAIR_CFG, .SPI_PAIR_STATUS, .STI_ACTIVE, .STI_ACTIVE_SERIAL, .STI_CTRL, .STI_ERR_OFFSET, .STI_FLUSHED]

/-- Register names 350 onward, in the order of R442. -/
def allRegs7 : List Reg :=
  [.STI_LOAD_COUNT, .STI_LOAD_DATA, .STI_STATUS, .TPG_ADJ, .TPG_CLKCMP, .TPG_CLKCMP_COUNT, .TPG_GCL_DONE, .TPG_INCR_HI, .TPG_INCR_LO, .TPG_SET_NS, .TPG_SET_SEC_HI, .TPG_SET_SEC_LO, .TPG_STAMP_CFG, .TPG_STAMP_SKIP, .TPG_TAE_ADDR, .TPG_TAE_CMD, .TPG_TAE_DATA, .TPG_TAE_STATUS, .TPG_TIME_CTRL, .TPG_TIME_FRAC, .TPG_TIME_NS, .TPG_TIME_SEC_HI, .TPG_TIME_SEC_LO, .TPG_FCAL, .TPG_UCAL, .TPG_GCL_ADMIN_BASE_NS, .TPG_GCL_ADMIN_BASE_SEC_HI, .TPG_GCL_ADMIN_BASE_SEC_LO, .TPG_GCL_ADMIN_CYCLE, .TPG_GCL_ADMIN_LIST, .TPG_GCL_CFG, .TPG_GCL_ENTRY, .TPG_GCL_NOFIT, .TPG_GCL_OPER_BASE_NS, .TPG_GCL_OPER_BASE_SEC_HI, .TPG_GCL_OPER_BASE_SEC_LO, .TPG_GCL_OPER_CYCLE, .TPG_GCL_OPER_LIST, .TPG_GCL_OVERRUN, .TPG_GCL_SKIP, .TPG_GCL_STATUS, .TPG_PH_CFG, .TPG_PH_CYCLES, .TPG_PH_EDGES, .TPG_PH_ERR, .TPG_PH_FCAL, .TPG_PH_FREQ, .TPG_PH_GLITCH, .TPG_PH_LOSSES, .TPG_PH_OUTLIER]

/-- Register names 400 onward, in the order of R442. -/
def allRegs8 : List Reg :=
  [.TPG_PH_RANGE, .TPG_PH_STATUS, .TPG_PH_THR, .TPG_PH_UCAL]

/-- Every register name, in the order of R442. -/
def allRegs : List Reg :=
  allRegs0 ++ allRegs1 ++ allRegs2 ++ allRegs3 ++ allRegs4 ++ allRegs5 ++ allRegs6 ++ allRegs7 ++ allRegs8

/-- The Belfry source of the counter-saturated event of a register that holds a counter of 32 bits or fewer (R15,
R347, R386); 0 for a register that holds none. -/
def satSource : Reg → Nat
  | .MAC_FEC_CORR | .MAC_FEC_UNCORR | .MAC_RX_CTRL_OTHER | .MAC_RX_DISABLED | .MAC_RX_FCS_ERR | .MAC_RX_LPI | .MAC_RX_OVERSIZE | .MAC_RX_PAUSE | .MAC_RX_PFC | .MAC_RX_PREAMBLE | .MAC_RX_RUNT | .MAC_RX_SYMBOL | .MAC_RX_TKT_OVF | .MAC_TX_LINK_DOWN | .MAC_TX_LPI | .MAC_TX_OVERSIZE | .MAC_TX_PAUSE | .MAC_TX_PFC => 1450
  | .SEG_BABBLE_EVENTS | .SEG_COLLISIONS | .SEG_DEFERRED | .SEG_EXCESS_COLL | .SEG_LATE_COLL | .SEG_OPP_RX_ERR | .SEG_OWN_OPP_IDLE | .SEG_PLCA_ERR | .SEG_QUAR_RX | .SEG_RX_COLL | .SEG_XCHK_ERR => 1451
  | .PRS_DEPTH | .PRS_FRAGMENT | .PRS_HSR_SUP | .PRS_MALF_DROP | .PRS_MALF_SLOW | .PRS_UNPARSED | .PRS_MALFORMED => 1452
  | .CLS_ACT_DROP | .CLS_ACT_SLOW | .CLS_ECC_MISS | .CLS_STAGE_REJ => 1453
  | .NREG_ECC | .NREG_LEARNED | .NREG_REMOVED | .NREG_BAD_SA | .NREG_LIMIT_DROP | .NREG_LIMIT_FLOOD | .NREG_NODE_GONE => 1454
  | .POL_COLOUR_INV | .POL_ECC | .POL_DROP_FLOW | .POL_DROP_NODE | .POL_DROP_PORT | .POL_GREEN | .POL_RED | .POL_YELLOW => 1455
  | .DOME_ECC_CORR | .DOME_ECC_UNCORR | .DOME_LOST_CELLS | .DOME_CLASS_DROP | .DOME_HOST_DROP | .DOME_DROP_G | .DOME_DROP_R | .DOME_DROP_Y | .DOME_RX_NOCELL => 1456
  | .SCH_CAND_REPL | .SCH_NODEQ_OFF | .SCH_TAG_REJ => 1457
  | .OCU_HIST | .OCU_LATE | .OCU_STREAM_DROP | .OCU_SWEEPS => 1458
  | .TPG_STAMP_SKIP | .TPG_GCL_NOFIT | .TPG_GCL_OVERRUN | .TPG_GCL_SKIP | .TPG_PH_EDGES | .TPG_PH_GLITCH | .TPG_PH_LOSSES | .TPG_PH_OUTLIER | .TPG_PH_RANGE => 1459
  | .SPI_CUT_BAD | .SPI_FALLBACK | .SPI_FB_DROP | .SPI_FB_NOCELL | .SPI_HSR_DUP | .SPI_HSR_OWN | .SPI_ECC | .SPI_HSR_EVICT => 1460
  | .DMA_BUS_ERRORS | .DMA_SLOW_NOSET | .DMA_CH_DESC | .DMA_CH_LIMITS => 1461
  | .CHK_FAIL | .CHK_SKIP => 1462
  | .BEL_SPURIOUS_AFTER_CLAIM | .BEL_STACK_ORDER => 1463
  | .KEEP_MIR_MISSES | .KEEP_MIR_RESYNCS | .KEEP_PRODUCED | .KEEP_SKIPPED => 1464
  | .SES_AUTH_FAIL | .SES_DENIED | .SES_REJ | .SES_RSP_DROP => 1465
  | .PWR_AVS_EMERGS | .PWR_PODL_REVOKES => 1466
  | .FLT_BLK_RESETS | .FLT_CHIP_REQ_CNT | .FLT_RST_FRAMES | .FLT_SHADOWED | .LOG_DROPPED | .LOG_OVERWRITES => 1467
  | .EXT_AUTH_FAIL | .EXT_LOSSES | .EXT_MGMT_REJ | .EXT_POLL_MISS | .EXT_PUSH_FAIL | .EXT_TRK_UNKNOWN | .EXT_TRK_UNTAGGED => 1468
  | .GLB_EGT_ERR | .GLB_SLV_ERR | .STI_FLUSHED => 1469
  | _ => 0

end Sys2Proof.Machine
end

