-- ==== Sys2Proof/Machine/State.lean ====
section
/-! DEFINITION. The state of the block: its registers, its tables and buffers, its pins and clocks, and the queue of the
commands that wait. Plain data. -/
namespace Sys2Proof.Machine

/-- Why the machine stops: never. The spec gives Ocora no state in which it stops, so no command raises a fault; a command that
names a unit the hardware does not have is no event of it and changes nothing (log 40). -/
inductive Fault
  deriving DecidableEq, Repr

/-- Why a command has no meaning. -/
inductive Refusal where
  /-- A command whose meaning has not been written; raised by `exec` only. Safe. -/
  | notModelled (mnemonic : String)
  /-- Raised by a write of FLT_INJ_CTRL in factory test mode: its layout is described only in Loanaron's factory test
  documentation (R385, R377). Safe. -/
  | factoryInjection
  deriving DecidableEq, Repr

/-- What Ocora has put on its output interfaces (R39), log 4. -/
inductive Output where
  /-- a frame sent on a port, from the first preamble byte to its FCS; `good` is false for an inverted FCS -/
  | frame (port : Nat) (bytes : List Byte) (good : Bool)
  /-- TPMA_TXEN of a trunk takes a level (R109, R111) -/
  | txen (port : Nat) (on : Bool)
  /-- an ingress ticket transferred on a lane (R41) -/
  | ticket (lane : Nat) (words : List Word)
  /-- a PLCA beacon (R137) -/
  | beacon (port : Nat)
  /-- the medium is held with COMMIT from now on, or no longer (R54, R139) -/
  | commit (port : Nat) (on : Bool)
  /-- a jam after a collision (R134) -/
  | jam (port : Nat)
  /-- a request on a fabric master port (R46) -/
  | request (m : Nat) (addr : Nat) (write : Bool) (beats : Nat) (tag : Nat) (snoop : Bool)
  /-- the write data of a request (R46) -/
  | writeData (m : Nat) (tag : Nat) (data : List Byte)
  /-- the vector address and priority that a core has taken from a target's interface (R50) -/
  | vector (t : Nat) (addr : Nat) (prio : Nat)
  deriving DecidableEq, Repr

/-- The last answer of the register slave port (R48). -/
structure SlaveAnswer where
  data : Word
  error : Bool
  deriving DecidableEq, Repr

/-- Belfry's bits of one source (R348 to R351). -/
structure BelSrc where
  /-- bit t: pending on target t (edge sources) -/
  pend : Nat := 0
  /-- bit t: claimed on target t -/
  claimed : Nat := 0
  /-- events counted towards the current batch -/
  held : Nat := 0
  deriving DecidableEq, Repr

/-- What Belfry drives on a target's vector interface: the source, its vector address and its priority (R50, R354). -/
structure Vec where
  src : Nat
  addr : Nat
  prio : Nat
  deriving DecidableEq, Repr

/-- The claim of a level source on a target, while its window of R358 is open. -/
structure Claim where
  target : Nat
  src : Nat
  /-- cycle of the take -/
  at' : Nat
  /-- the input has not asserted the source in some cycle of the window -/
  withdrawn : Bool := false
  deriving DecidableEq, Repr

/-- A fault that a part of Ocora has reported and the collector has not captured (R360). -/
structure Raised where
  source : Nat
  wire : Bool
  syndrome : Word
  deriving DecidableEq, Repr

/-- An injected memory error (R376). -/
structure Injected where
  mem : Nat
  addr : Nat
  double : Bool
  deriving DecidableEq, Repr

/-- A parse graph: header-type, parse-node and transition entries of four words each (R80). -/
structure Graph where
  types : List (List Word) := []
  nodes : List (List Word) := []
  trans : List (List Word) := []
  deriving DecidableEq, Repr

/-- A decoded structure image (R69 to R84). -/
structure Image where
  /-- LANE_MAP word of each global port index (R74, R75) -/
  lanes : List (Nat × Word) := []
  /-- the two words of each extender slot (R77) -/
  ext : List (Nat × (Word × Word)) := []
  /-- transit pair words (R78) -/
  pairs : List (Nat × Word) := []
  /-- partition word 0 (R79) -/
  part : Word := 0
  graph : Graph := {}
  /-- word 0 of each queue template (R82) -/
  templates : List (Nat × Word) := []
  /-- severity byte of each fault source (R83) -/
  severity : List (Nat × Byte) := []
  /-- offset and value pairs (R84) -/
  presets : List (Word × Word) := []
  major : Nat := 0
  minor : Nat := 0
  rev : Nat := 0
  serial : Nat := 0
  deriving DecidableEq, Repr

/-- A live frame of the Dome, held at its head cell (R31, R194). -/
structure DFrame where
  /-- LENGTH of the ticket: the data and four bytes of FCS -/
  length : Nat
  cells : Nat
  refs : Nat
  data : List Byte
  /-- tag-present bit (R253) -/
  tagged : Bool := false
  /-- receiving port whose ingress counts hold the cells (R118); none for an injected frame -/
  port : Option Nat := none
  /-- CLASS whose ingress count holds the cells, from the ticket on (R118) -/
  ingress : Option Nat := none
  chkOp : Nat := 0
  chkUnit : Nat := 0
  stamp : Option Nat := none
  /-- NO_FCS_APPEND of an injected frame (R35) -/
  noFcs : Bool := false
  /-- the inject channel and descriptor index that wait for the copy's end, and whether a transmit timestamp is asked for -/
  inject : Option (Nat × Nat × Bool) := none
  deriving DecidableEq, Repr

/-- A copy: one queued reference to a frame (R252, R253). -/
structure Copy where
  head : Nat
  cells : Nat
  /-- queue number of R251 -/
  q : Nat
  /-- class of the queue -/
  cls : Nat
  /-- finish tag -/
  tag : Nat
  /-- scheduling length wl -/
  wl : Nat
  /-- time at which it joined, in 64 ns units -/
  join : Nat
  edit : Nat
  handle : Nat
  /-- CLASS of its ticket -/
  tcls : Nat
  /-- counted in TPG_GCL_NOFIT (R290) -/
  nofit : Bool := false
  /-- a fallback copy of the Spire: 2 × pair + direction (R306, R308) -/
  spi : Option Nat := none
  /-- collisions so far while it contends (R134, R143) -/
  tries : Nat := 0
  deriving DecidableEq, Repr

/-- A transmission in progress on a port. -/
structure Tx where
  /-- the copy; none for a MAC control frame or a frame of the manager -/
  copy : Option Copy
  /-- the bytes on the wire, FCS included -/
  bytes : List Byte
  good : Bool
  cls : Nat
  /-- octets that count: destination address to FCS, E-TAG excluded -/
  octets : Nat
  /-- 1: PAUSE, 2: PFC, 0: any other -/
  ctrl : Nat := 0
  /-- transmit timestamp in ns (R125) -/
  ts : Nat := 0
  /-- the port whose copy it is: the trunk itself or an extended field port -/
  owner : Nat
  /-- an express frame being cut through: it ends with its reception (R307) -/
  cut : Bool := false
  deriving DecidableEq, Repr

/-- A generated MAC control frame that waits to be sent (R117): PFC or PAUSE, class vector, time of each class. -/
structure Ctrl where
  pfc : Bool
  vec : Nat
  times : List Nat
  deriving DecidableEq, Repr

/-- The MAC of a port beside its registers. -/
structure Mac where
  /-- quanta loaded into the pause timer (R114) -/
  pause : Nat := 0
  /-- quanta loaded into the class pause timers (R115) -/
  pfc : List (Nat × Nat) := []
  autoHeld : Option Ctrl := none
  forcedHeld : Option Ctrl := none
  /-- deficit idle count d (R94) -/
  deficit : Nat := 0
  /-- stream position of the byte after the last FCS byte, modulo 8 (R94) -/
  pos : Nat := 0
  /-- cycle of the last frame end, for back-to-back starts (R94) -/
  endAt : Option Nat := none
  /-- gap before the last frame, in bytes (R94) -/
  gap : Nat := 12
  /-- waking from low-power idle (R122) -/
  waking : Bool := false
  /-- frames of the manager or of the mirror that wait to be sent, oldest first (R162, R413; log 45) -/
  own : List (List Byte) := []
  /-- frames that near-end loopback has returned to the receive path, oldest first (R111) -/
  back : List (List Byte) := []
  deriving DecidableEq, Repr

/-- The segment side of a field port beside its registers (R134 to R147). -/
structure Seg where
  /-- frames of Ocora's own opportunity that have followed the first -/
  burst : Nat := 0
  /-- the medium is held with COMMIT, or a first frame may start, in the own opportunity (R139) -/
  mine : Bool := false
  /-- cur_id at the rise of the carrier (R140) -/
  carrier : Option Nat := none
  /-- events in the open babble window; 0 for none open (R144) -/
  babble : Nat := 0
  /-- level of FLD_PLCA_EN (R137) -/
  plcaEn : Bool := false
  /-- the medium is held with COMMIT (R139) -/
  commit : Bool := false
  /-- the carrier in progress rose while EN was 0: nothing of it is received (R132) -/
  deaf : Bool := false
  deriving DecidableEq, Repr

/-- What a parse walk gives (R173, R181). -/
structure Parsed where
  /-- the field vector of 144 bytes (R185) -/
  vec : List Byte
  /-- 0 parsed, 1 fragment, 2 depth, 3 malformed, 4 HSR supervision -/
  stop : Nat
  /-- DEPTH: cause, layer, offset -/
  depth : Nat × Nat × Nat := (0, 0, 0)
  /-- first malformed condition: cause, layer, offset -/
  mal : Option (Nat × Nat × Nat) := none
  /-- an HSR tag was walked -/
  hsr : Bool := false
  deriving DecidableEq, Repr

/-- The merged result of a frame's lookups (R198). -/
structure Lookup where
  fwd : Nat
  cls : Nat
  pol : Option Nat
  flow : Nat
  chkOp : Nat := 0
  chkUnit : Nat := 0
  stamp : Option Nat := none
  /-- lookups that the frame has made (R198), and what they count: flow hits, prefix hits, entries in error -/
  n : Nat := 0
  flowHits : Nat := 0
  pfxHits : Nat := 0
  eccMiss : Nat := 0
  deriving DecidableEq, Repr

/-- What the Spire has decided for a reception (R301 to R306). -/
structure SpiRx where
  pair : Nat
  /-- direction 0 or 1 -/
  dir : Nat
  cls : Nat
  /-- cut through to the egress trunk; else written into the Dome as a fallback frame, or not forwarded -/
  cut : Bool := false
  fallback : Bool := false
  /-- the frame is also taken by the frame path (R304) -/
  own : Bool := false
  /-- source address and sequence number of an HSR frame, and the flag that its passing sets: 0 FWD0, 1 FWD1 (R305) -/
  key : Option (Nat × Nat) := none
  deriving DecidableEq, Repr

/-- A reception in progress on a port. -/
structure Rx where
  /-- the bytes so far, destination address first, as received -/
  bytes : List Byte
  /-- the port that the frame belongs to: the MAC port, or the field port that an E-TAG resolves to (R154) -/
  port : Nat
  badStart : Bool := false
  /-- head cell, while the Dome stores the frame -/
  head : Option Nat := none
  /-- head cell of the fallback frame of the Spire (R308) -/
  fbHead : Option Nat := none
  /-- cells at each of the two -/
  cells : Nat := 0
  /-- the frame path's copy lacked a cell (R243) -/
  noCell : Bool := false
  /-- the fallback frame lacked a cell after its first (R243, R308) -/
  fbNoCell : Bool := false
  oversize : Bool := false
  version : Nat := 0
  inflight : Bool := false
  graph : Graph := {}
  /-- receive timestamp in ns (R24, R125) -/
  ts : Nat := 0
  maxFrame : Nat := 0
  /-- PLCA opportunity at the rise of the carrier (R140) -/
  opp : Option Nat := none
  /-- at its start the port was half duplex (R135) -/
  half : Bool := false
  /-- at its start the port ran PLCA on the medium (R140) -/
  plca : Bool := false
  /-- at its start the port was in QUARANTINE (R145) -/
  quar : Bool := false
  /-- an uncorrectable codeword or a cut medium has touched it (R107, R111) -/
  symbol : Bool := false
  /-- the frame that near-end loopback returns, with its FCS (R111) -/
  back : Option (List Byte) := none
  /-- the reception lost its frame to a block reset (R371) -/
  cut : Bool := false
  parsed : Option Parsed := none
  lookup : Option Lookup := none
  /-- the frame is an express frame until the Spire's decision: it takes no cell (R301) -/
  express : Bool := false
  spi : Option SpiRx := none
  deriving DecidableEq, Repr

/-- A table access engine's command in progress (R431), and its outcome once it has been executed. -/
structure Tae where
  target : Nat
  op : Nat
  view : Nat
  addr : Nat
  data : List Word
  /-- result, POS and returned data words -/
  done : Option (Nat × Option Nat × List Word) := none
  /-- a session command's engine use (R435) -/
  session : Option Nat := none
  /-- the staging was open at its GO (R203) -/
  opened : Bool := true
  deriving DecidableEq, Repr

/-- State of one policer (R233): levels in units of 1/(16 × 15,625) byte. -/
structure Pol where
  levelC : Nat := 0
  levelE : Nat := 0
  last : Nat := 0
  gen : Nat := 0
  deriving DecidableEq, Repr

/-- A node context (R212), its queue words apart. -/
structure Ctx where
  valid : Bool := false
  pin : Bool := false
  hit : Bool := false
  seen : Bool := false
  origin : Nat := 0
  addr : Nat := 0
  learnTs : Nat := 0
  /-- word 4: QCLASS_EN, QCLASS, WEIGHT -/
  cfg4 : Word := 0
  /-- word 5: POL_EN, POL_PROFILE -/
  cfg5 : Word := 0
  pol : Pol := {}
  deriving DecidableEq, Repr

/-- A frame or ticket image in a host queue (R34). -/
structure HostItem where
  head : Nat
  cells : Nat
  /-- the eight words of the ticket image -/
  image : List Word
  deriving DecidableEq, Repr

/-- A tracking loop of a grid phase source (R279, R280), beside its registers. -/
structure Phase where
  /-- phase θ at the reference time, in 2^-32 cycle: whole cycles and fraction as one number -/
  theta : Nat := 0
  /-- frequency in 2^-24 Hz -/
  freq : Nat := 0
  /-- reference time, in 2^-40 ns of the time base -/
  tRef : Int := 0
  /-- the edge before, since ACQUIRE or LOST was entered -/
  tPrev : Option Int := none
  /-- consecutive good edges -/
  good : Nat := 0
  /-- time of the last accepted edge (R57) -/
  lastEdge : Option Int := none
  deriving DecidableEq, Repr

/-- A gate control list's settings (R282, R285, R286). -/
structure GclPlan where
  /-- angle mode -/
  angle : Bool := false
  src : Nat := 0
  base : Nat := 0
  len : Nat := 0
  cycle : Nat := 0
  /-- BASE_TIME as seconds and nanoseconds -/
  sec : Nat := 0
  ns : Nat := 0
  deriving DecidableEq, Repr

/-- A start or change that waits for its time T (R287): the list, and B as a time in 2^-40 ns or as a source's cycle count. -/
structure GclPend where
  plan : GclPlan
  bTime : Int
  bCount : Option Nat := none
  deriving DecidableEq, Repr

/-- A port's gate list beside its registers (R285 to R289). -/
structure Gcl where
  pend : Option GclPend := none
  /-- angle mode: the source's count at the first start, and the furthest position since, in 2^-32 cycle -/
  count0 : Nat := 0
  high : Nat := 0
  /-- the entry in force -/
  idx : Nat := 0
  /-- time fallback: when it began and at which position -/
  fbRef : Int := 0
  fbPos : Nat := 0
  deriving DecidableEq, Repr

/-- A slot's extender beside its registers (R159 to R165). -/
structure Ext where
  nonceM : List Byte := []
  /-- session key -/
  sk : List Byte := []
  /-- last SEQ sent and last SEQ accepted (R163) -/
  seqOut : Nat := 0
  seqIn : Nat := 0
  /-- consecutive polls missed -/
  miss : Nat := 0
  /-- a POLL has been sent since the join -/
  polled : Bool := false
  /-- REPORTs since the last POLL: bit 0 FIRST 0, bit 1 FIRST 8 -/
  reports : Nat := 0
  /-- body of the CONFIG in progress -/
  config : List Byte := []
  retries : Nat := 0
  /-- CLR_BABBLE of the next POLL -/
  clrBabble : Nat := 0
  deriving DecidableEq, Repr

/-- An extended field port beside its registers (R166, R168). -/
structure ExtPort where
  /-- running totals of the last status record -/
  prev : Option (List Nat) := none
  lpi : Bool := false
  /-- next start time, in 1/65,536 of a cycle -/
  nextStart : Nat := 0
  /-- class of the copy started last: it is being sent until the next start time (R259) -/
  cls : Option Nat := none
  deriving DecidableEq, Repr

/-- An entry of a duplicate table (R305). -/
structure Dup where
  sa : Nat
  seq : Nat
  fwd0 : Bool
  fwd1 : Bool
  own : Bool
  /-- time at which it was made, in ns -/
  made : Nat
  deriving DecidableEq, Repr

/-- A fabric transaction outstanding (R46). -/
structure Txn where
  m : Nat
  tag : Nat
  /-- KIND of R337: 0 data read, 1 data write, 2 descriptor read, 3 status write -/
  kind : Nat
  c : Nat
  addr : Nat
  /-- place in the channel's byte stream -/
  pos : Nat
  len : Nat
  data : List Byte := []
  /-- bytes in a beat -/
  w : Nat := 32
  /-- the channel's descriptor that it serves, counted as `Chan.serial` -/
  serial : Nat := 0
  /-- a descriptor read ahead of IDX (R320) -/
  early : Bool := false
  /-- its channel has let go of it -/
  dead : Bool := false
  /-- it has had an ERROR (R47) -/
  err : Bool := false
  /-- it has not completed in the time of R47: it is awaited no longer, and its tag stays in use (R46) -/
  lost : Bool := false
  deriving DecidableEq, Repr

/-- A DMA channel beside its registers (R312 to R335). -/
structure Chan where
  /-- descriptors completed since the last doorbell -/
  count : Nat := 0
  /-- last descriptor completed since the doorbell that began the run -/
  last : Option Nat := none
  /-- a descriptor read is due -/
  want : Bool := false
  /-- a descriptor read has arrived -/
  arrived : Option (List Word) := none
  /-- the descriptor in progress -/
  desc : Option (List Word) := none
  /-- why the descriptor does not move: 0 it moves, 1 its check unit is claimed, 2 the floor, 3 its copy's end, 4 it has no frame or
  no image yet -/
  waits : Nat := 0
  /-- source bytes requested -/
  rdPos : Nat := 0
  /-- pieces read and out of order -/
  rdBuf : List (Nat × List Byte) := []
  /-- source bytes taken in order -/
  fed : Nat := 0
  /-- bytes gathered and not yet written -/
  fifo : List Byte := []
  /-- no more bytes will be gathered -/
  ended : Bool := false
  /-- destination bytes issued -/
  wrPos : Nat := 0
  /-- the first destination byte of a write that failed -/
  failPos : Option Nat := none
  /-- CODE decided -/
  code : Option Nat := none
  /-- status writes to make, in order: address and bytes (R321) -/
  post : List (Nat × List Byte) := []
  /-- the status writes have been queued -/
  posted : Bool := false
  /-- check unit claimed by the descriptor (R345) -/
  unit : Option Nat := none
  /-- last bytes fed, for an incoming check -/
  tail : List Byte := []
  /-- head cell of the frame that an injection gathers -/
  head : Option Nat := none
  /-- cells that an injection gathers into (R35) -/
  cells : Nat := 0
  /-- transmit timestamp to return (R321) -/
  ts : Option Nat := none
  /-- descriptors completed, ever: it tells the transactions and frames of one descriptor from those of another -/
  serial : Nat := 0
  /-- BYTES_DONE as written to word 7 (R321) -/
  bytes : Nat := 0
  /-- descriptors read ahead of IDX with OWN = 1: index and words (R320) -/
  ahead : List (Nat × List Word) := []
  /-- descriptors still to be read ahead -/
  more : List Nat := []
  /-- host frames in delivery: the descriptor of each and its head cell (R333) -/
  out : List (Nat × Nat) := []
  /-- a status write has failed -/
  stFail : Bool := false
  /-- the descriptor is being completed with ABORTED (R330) -/
  abort : Bool := false
  deriving DecidableEq, Repr

/-- The DMA engine and its fabric ports. -/
structure Dma where
  /-- request and write-data credits of each port (R46) -/
  req : List (Nat × Nat) := []
  wd : List (Nat × Nat) := []
  txns : List Txn := []
  /-- write beats waiting for credit: port, tag, data -/
  wdq : List (Nat × Nat × List Byte) := []
  /-- channel after the last one served, for each port and direction (R325) -/
  next : List (Nat × Nat) := []
  chans : List (Nat × Chan) := []
  /-- CLEAR has been accepted, and aborted descriptors are being completed (R330) -/
  clearing : Bool := false
  deriving DecidableEq, Repr

/-- A PoDL segment beside its registers (R394 to R397). -/
structure Podl where
  /-- class requested, and the age of the request -/
  req : Option Nat := none
  age : Nat := 0
  /-- class granted, and the age of the grant -/
  grant : Option Nat := none
  since : Nat := 0
  deriving DecidableEq, Repr

/-- A revoked charge still in USED: mW, ticks left, the port for whose request it was revoked (R396, R397). -/
structure Settling where
  mw : Nat
  left : Nat
  dest : Option Nat
  deriving DecidableEq, Repr

/-- The Keep producer and loader (R406 to R411). -/
structure Keep where
  /-- the image in production and how much of it has been taken -/
  image : List Byte := []
  pos : Nat := 0
  /-- end of the PREFIX section -/
  prefixEnd : Nat := 0
  /-- the snapshot version while the producer counts as a frame in flight on it (R407) -/
  pin : Option Nat := none
  /-- the session that fetches -/
  session : Option Nat := none
  /-- bytes arrived for a load -/
  loaded : List Byte := []
  checked : Bool := false
  /-- the key slots as they stood when the load began, and which of them had been written (R403) -/
  keys : List (Nat × List Byte) := []
  written : Nat := 0
  deriving DecidableEq, Repr

/-- Mirror mode beside its registers (R412 to R414). -/
structure Mirror where
  /-- the node records as they were at the last set sent -/
  nodes : List (Nat × List Word) := []
  /-- the journal items of the versions committed since the last set sent -/
  items : List (List Word) := []
  /-- frames of the set being received: message and body -/
  held : List (Nat × List Byte) := []
  /-- the cycle of that set -/
  heldCycle : Nat := 0
  /-- an ACK or a set has come since the last cycle -/
  heard : Bool := false
  /-- consecutive cycles missed -/
  missed : Nat := 0
  /-- bytes of the RESYNC image so far, and the key slots as they stood at its first (R403) -/
  resync : List Byte := []
  keys : List (Nat × List Byte) := []
  written : Nat := 0
  /-- CYCLE of the RESYNC loaded last: sets are applied from the cycle after it on (R414) -/
  since : Nat := 0
  deriving DecidableEq, Repr

/-- A management session beside its registers (R416 to R420). -/
structure Session where
  nonceC : List Byte := []
  nonceO : List Byte := []
  sk : List Byte := []
  /-- SEQ of the last accepted command -/
  seq : Nat := 0
  /-- the stored response -/
  resp : List Byte := []
  /-- the offset that the next KEEP_FETCH must name -/
  fetch : Option Nat := none
  /-- message of a command whose response waits -/
  waits : Option Nat := none
  /-- cause of a close that waits for the command in execution (R419) -/
  closing : Option Nat := none
  deriving DecidableEq, Repr

/-- The structure image path beside its registers (R87, R88). -/
structure Sti where
  /-- words stored -/
  words : List Word := []
  /-- the session that owns the path -/
  owner : Option Nat := none
  /-- the key of the image's slot as it stood at VALIDATE, if the slot was written (R403) -/
  key : Option (List Byte) := none
  deriving DecidableEq, Repr

/-- The whole state. -/
structure State where
  /-- the commands that wait, first in, first out -/
  pending : List Instr := []
  /-- registers away from their reset value, by key (R9, R439) -/
  regs : List (Nat × Word) := []
  /-- shadows of the high halves of 64-bit counters, by the low half's key (R16) -/
  shadows : List (Nat × Word) := []
  /-- free values used so far (log 1) -/
  fresh : Nat := 0
  /-- CORE_CLK cycles that have passed on idle steps (log 3) -/
  now : Nat := 0
  /-- what the outputs have carried, newest first (log 4) -/
  out : List Output := []
  /-- last answer of the register slave port (R48) -/
  rsResp : Option SlaveAnswer := none
  /-- last answer of the maintenance port: data and status byte (R60, R61) -/
  mntResp : Option (Word × Byte) := none
  /-- the bits that MAINT_DO carried of a frame that was cut, first bit first (R63) -/
  mntCut : List Bool := []
  /-- PORST_N is low (R66) -/
  porstLow : Bool := false
  /-- BLK_RST_N is low (R66) -/
  blkLow : Bool := false
  /-- CORE_CLK runs (R65) -/
  coreClk : Bool := true
  /-- PTP_REFCLK runs (R65) -/
  refClk : Bool := true
  /-- the fuse read is in progress (R67) -/
  fusing : Bool := true
  /-- the fuse words taken so far (R67) -/
  fuse : List Word := []
  /-- memory initialisation is in progress (R400) -/
  memInit : Bool := false
  /-- the time base (R272), in units of 2^-40 ns: seconds, nanoseconds, FRAC and the hidden bits as one number -/
  time : Nat := 0
  /-- held low half of TIME_INCR (R273) -/
  incrHeld : Option Word := none
  /-- the always-on copy of the time while the core domain does not run, in ns (R379) -/
  logCopy : Nat := 0
  /-- Belfry's sources (R349 to R351) -/
  bel : List (Nat × BelSrc) := []
  /-- Belfry inputs away from their rest level (R347) -/
  belLvl : List (Nat × Bool) := []
  /-- priority stack of each target, top first: source and priority (R354) -/
  belStack : List (Nat × List (Nat × Nat)) := []
  /-- the vector driven to each target; VECt_VALID is 1 while there is one (R50, R354) -/
  vec : List (Nat × Option Vec) := []
  /-- claims of level sources inside their window (R358) -/
  belClaims : List Claim := []
  /-- pulse sources whose input the step in progress has raised (R347); empty between steps -/
  pulsed : List Nat := []
  /-- faults reported and not yet captured (R360) -/
  raised : List Raised := []
  /-- syndrome that each source gave when its rail last left OK (R379) -/
  faultSyn : List (Nat × Word) := []
  /-- the leading fault of the open episode, and the blocks whose shadow keeps it open (R366) -/
  episode : Option (Nat × List Nat) := none
  /-- whether the open episode's leading fault is the one in the first-error record (R366) -/
  episodeFirst : Bool := false
  /-- blocks held in reset (R371) -/
  blkReset : List Nat := []
  /-- blocks in their reset shadow (R372) -/
  shadowed : List Nat := []
  /-- injected errors stored in data-class memories (R376) -/
  injected : List Injected := []
  /-- level of LANTERN_OUT (R374) -/
  lantern : Bool := false
  /-- half period in force (R374) -/
  halfNow : Nat := 12500
  /-- event log records by ring place (R378) -/
  logRing : List (Nat × List Word) := []
  /-- records waiting to be written: kind, flags, time, body, whether it freezes the log (R378) -/
  logQ : List (Nat × Nat × Nat × List Word × Bool) := []
  /-- the committed structure; empty before the first commit (R69, R90) -/
  img : Image := {}
  /-- live frames by head cell (R27, R31) -/
  frames : List (Nat × DFrame) := []
  /-- references taken in the cycle in progress, by head cell, while more changes of that cycle are to come (R32) -/
  taken : List (Nat × Nat) := []
  /-- cells lost to errors (R247) -/
  lost : Nat := 0
  /-- scheduled queues by queue number, oldest copy first (R251) -/
  queues : List (Nat × List Copy) := []
  /-- F_LAST of each queue (R253) -/
  fLast : List (Nat × Nat) := []
  /-- node queues that have held a copy since their context was cleared (R213) -/
  qUsed : List (Nat × Bool) := []
  /-- class in force of a node queue whose class move waits (R261) -/
  oldClass : List (Nat × Option Nat) := []
  /-- candidate slot of each field port (R141) -/
  cand : List (Nat × Option Copy) := []
  /-- transmission in progress on each port -/
  tx : List (Nat × Option Tx) := []
  /-- reception in progress on each port -/
  rx : List (Nat × Option Rx) := []
  /-- how the copy of an inject channel's timestamped frame ended: sent with its timestamp, or unsent (R334) -/
  injEnd : List (Nat × Option (Option Nat)) := []
  /-- segment side of each field port -/
  seg : List (Nat × Seg) := []
  /-- FLD_LINK of the lanes (R54) -/
  fldLink : List (Nat × Bool) := []
  /-- MAC of each port -/
  mac : List (Nat × Mac) := []
  /-- class of the weighted band at which the scheduler of a port stands (R256) -/
  drrPtr : List (Nat × Nat) := []
  /-- shaper and quantum settings in force, by regKey of the class's register, while a write waits for a boundary (R260) -/
  shaper : List (Nat × Option Word) := []
  /-- credit of a class, by 8 × port + class, in 1/3,000,000 of 1/16 byte (R259, log 18) -/
  credit : List (Nat × Int) := []
  /-- host queues of the DMA channels, oldest first (R34, R245) -/
  hostQ : List (Nat × List HostItem) := []
  /-- ingress tickets that wait for transfer, by lane: receiving port and words (R43) -/
  itkQ : List (Nat × List (List Word)) := []
  /-- egress tickets accepted and not processed, by lane (R44) -/
  etkQ : List (Nat × List (List Word)) := []
  /-- flow table and stash entries by position (R191, R192) -/
  flow : List (Nat × List Word) := []
  /-- prefix table entries by row (R195) -/
  pfx : List (Nat × List Word) := []
  /-- indexed versioned tables, active copy: port entries, profiles, policer profiles (R200) -/
  clsA : List (Nat × List Word) := []
  /-- the copies written in the staging version (R200) -/
  clsS : List (Nat × List Word) := []
  /-- the items of the staging journal, oldest first (R201): operation, target and index, entry (R413) -/
  journal : List (List Word) := []
  /-- the values that the draining version still sees (R200) -/
  clsD : List (Nat × List Word) := []
  /-- the discard in progress began with a staging failure (R203) -/
  discardFailed : Bool := false
  /-- the draining version has fired its warning (R206) -/
  drainWarned : Bool := false
  /-- table access engines with a command in progress: 0 CLS, 1 NREG, 2 POL, 3 TPG, 4 SPI (R431) -/
  tae : List (Nat × Option Tae) := []
  /-- node contexts by node index (R212) -/
  ctx : List (Nat × Ctx) := []
  /-- node counters by node index times 4: RX_FRAMES, RX_OCTETS, TX_FRAMES, TX_OCTETS (R228) -/
  nodeCnt : List (Nat × Nat) := []
  /-- pass of the ageing sweeper (R220) -/
  sweepPass : Nat := 0
  /-- next context of the sweeper (R220) -/
  sweepPos : Nat := 0
  /-- PERIOD in force, while a change waits for the next even pass (R222) -/
  agePeriod : Nat := 3000
  /-- state of the port policers (R233) -/
  portPol : List (Nat × Pol) := []
  /-- state of the flow policers (R233) -/
  flowPol : List (Nat × Pol) := []
  /-- next entry of the Oculus watch (R264) -/
  ocuWatchPos : Nat := 0
  /-- throttling has held back a sample of the sweep, or of the watch, in its period (R264) -/
  ocuSweepHeld : Bool := false
  ocuWatchHeld : Bool := false
  /-- sample records held for the stream channel (R267) -/
  ocuBuf : List (List Word) := []
  /-- tracking loops of the phase sources (R279) -/
  phase : List (Nat × Phase) := []
  /-- gate lists of the ports (R287) -/
  gcl : List (Nat × Gcl) := []
  /-- gate control memory: GATES and INTERVAL of each entry (R282) -/
  gmem : List (Nat × (Nat × Nat)) := []
  /-- a clock comparison count runs (R276) -/
  clkRun : Bool := false
  /-- extenders by slot -/
  ext : List (Nat × Ext) := []
  /-- extended field ports -/
  extPort : List (Nat × ExtPort) := []
  /-- units whose HELLOs are ignored (R159) -/
  extHold : List Nat := []
  /-- source after the last one served by each extender trunk's round robin (R263) -/
  rrNext : List (Nat × Nat) := []
  /-- express table entries by index (R302) -/
  exp : List (Nat × List Word) := []
  /-- duplicate tables of the pairs, oldest entry first (R305) -/
  dup : List (Nat × List Dup) := []
  /-- express frames in a row sent last on each trunk (R306) -/
  spiRun : List (Nat × Nat) := []
  /-- the DMA engine beside its registers (R46, R312 to R324) -/
  dma : Dma := {}
  /-- PoDL segments by field port -/
  podl : List (Nat × Podl) := []
  /-- charges still settling -/
  settling : List Settling := []
  /-- requests and grants so far, for their ages -/
  podlSeq : Nat := 0
  /-- an emergency sample has come in this voltage period (R393) -/
  avsHit : Bool := false
  /-- the emergency in force began in this voltage period (R393) -/
  avsNew : Bool := false
  /-- least margin seen in this voltage period (R392) -/
  avsMin : Nat := 255
  /-- grants of the epoch in progress, by engine; none before the first epoch boundary, when nothing is throttled (R389, R391) -/
  grants : List Nat := []
  /-- cycle at which the epoch in progress began (R390) -/
  epochAt : Nat := 0
  /-- credits used in it, by engine (R399) -/
  spent : List (Nat × Nat) := []
  /-- the Keep beside its registers (R406 to R411) -/
  keep : Keep := {}
  /-- mirror mode beside its registers (R412 to R414) -/
  mirror : Mirror := {}
  /-- management sessions -/
  ses : List (Nat × Session) := []
  /-- session commands that wait for the one in execution: trunk and frame (R418) -/
  sesQ : List (Nat × List Byte) := []
  /-- wrong PROOFs of each slot in a row (R417) -/
  sesFails : List (Nat × Nat) := []
  /-- key slots (R402) -/
  keys : List (Nat × List Byte) := []
  /-- the structure image path beside its registers (R87, R88) -/
  sti : Sti := {}
  deriving DecidableEq, Repr

/-- The machine right after reset. -/
def State.reset : State := {}

end Sys2Proof.Machine
end

