-- ==== Sys2Proof/Machine/Ops.lean ====
section
/-! DEFINITION. The named operations over registers, tables, clocks and outputs that every meaning is written with. -/
namespace Sys2Proof.Machine

/-! Registers (R9 to R16). -/

/-- The key of register `r`, instance `i` (a doubly indexed array is numbered row by row). -/
def regKey (r : Reg) (i : Nat) : Nat := r.ctorIdx + 512 * i

/-- The default severity of a fault source (R384). -/
def faultSeverity (i : Nat) : Nat :=
  if i = 0 ∨ i = 2 ∨ i = 4 then 3
  else if i = 1 ∨ i = 3 ∨ i = 8 ∨ i = 10 ∨ i = 11 then 1
  else if i = 9 then 2
  else if 48 ≤ i ∧ i ≤ 351 then 2
  else 0

/-- The reset SENSE of a Belfry source (R347). -/
def resetSense (s : Nat) : Nat :=
  if 1040 ≤ s ∧ s ≤ 1295 then 1 else if 1536 ≤ s then 0 else 2

/-- The reset value of register `r`, instance `i` (R439 and the Reset columns). -/
def regReset (r : Reg) (i : Nat) : Word :=
  match r with
  | .BEL_SRC_CFG => word (resetSense i <<< 28)
  | .FLT_SRC_CFG => word (faultSeverity i <<< 24)
  | _ => word ((regInfo r).fields.foldl (fun a f => a ||| (f.rst <<< f.lo)) 0)

/-- The stored word of a register. -/
def State.rd (s : State) (r : Reg) (i : Nat := 0) : Word := (tfind s.regs (regKey r i)).getD (regReset r i)

/-- The state with a register's stored word set. -/
def State.wr (s : State) (r : Reg) (i : Nat) (w : Word) : State :=
  { s with regs := tset s.regs (regKey r i) (if w = regReset r i then none else some w) }

/-- Width of a field in bits. -/
def Fld.width (f : Fld) : Nat := f.hi + 1 - f.lo

/-- A field of a word. -/
def Fld.of (f : Fld) (w : Word) : Nat := (w.extractLsb' f.lo f.width).toNat

/-- The ones of a field's place. -/
def Fld.mask (f : Fld) : Word := word ((2 ^ f.width - 1) <<< f.lo)

/-- A word with a field set, the value cut to the field's width. -/
def Fld.into (f : Fld) (w : Word) (v : Nat) : Word :=
  (w &&& ~~~ f.mask) ||| (word ((v % 2 ^ f.width) <<< f.lo))

/-- A field of a register. -/
def State.get (s : State) (f : Fld) (i : Nat := 0) : Nat := f.of (s.rd f.reg i)

/-- A one-bit field of a register. -/
def State.flag (s : State) (f : Fld) (i : Nat := 0) : Bool := s.get f i != 0

/-- The state with a field of a register set. -/
def State.put (s : State) (f : Fld) (i : Nat) (v : Nat) : State := s.wr f.reg i (f.into (s.rd f.reg i) v)

/-- The state with a one-bit field of a register set to a Boolean. -/
def State.putFlag (s : State) (f : Fld) (i : Nat) (b : Bool) : State := s.put f i (b2n b)

/-! Free values, outputs, clocks. -/

/-- The next free value (log 1). -/
def State.free (s : State) : Nat := Config.freeNat s.fresh

/-- The state after one free value has been used. -/
def State.used (s : State) : State := { s with fresh := s.fresh + 1 }

/-- `k` free bytes: values that nothing constrains. -/
def State.freeBytes (s : State) (k : Nat) : List Byte := beBytes k s.free

/-- The state with something put on an output. -/
def State.emit (s : State) (o : Output) : State := { s with out := o :: s.out }

/-- The core domain is out of reset (R37, R66). -/
def State.coreOn (s : State) : Bool := !s.porstLow && !s.blkLow

/-- The core domain is out of reset and clocked. -/
def State.coreUp (s : State) : Bool := s.coreOn && s.coreClk

/-- The always-on domain is out of reset and clocked (R37, R65). -/
def State.aonUp (s : State) : Bool := !s.porstLow && s.refClk

/-- The core domain runs and block `b` is not held in reset (R371). -/
def State.up (s : State) (b : Nat) : Bool := s.coreUp && !s.blkReset.contains b

/-- A change made by block `b`: nothing happens while the block cannot act. -/
def State.inBlock (s : State) (b : Nat) (f : State → State) : State := if s.up b then f s else s

/-- What Ocora has changed, `t`, with all that is driven from outside as it was: the queue of commands, the resets and the
clocks (R37, R65, R66). No pulse outlasts its step (R347). -/
def State.outside (s t : State) : State :=
  { t with pending := s.pending, porstLow := s.porstLow, blkLow := s.blkLow, coreClk := s.coreClk, refClk := s.refClk,
           pulsed := s.pulsed }

/-- A change of Ocora's: it moves nothing that is driven from outside. -/
def State.become (s t : State) : Host.Outcome State Fault Refusal := .next (s.outside t)

/-- A meaning of block `b`: the change, or nothing while the block cannot act. -/
def run (b : Nat) (f : State → State) (s : State) : Host.Outcome State Fault Refusal := s.become (s.inBlock b f)

/-- A change of unit `i` of `n`: a unit that does not exist has no event, and nothing changes (log 40). -/
def State.onUnit (s : State) (n i : Nat) (f : State → State) : State := if i < n then f s else s

/-- A meaning of block `b` on unit `i` of `n`. -/
def runOn (n i b : Nat) (f : State → State) (s : State) : Host.Outcome State Fault Refusal :=
  s.become (s.onUnit n i fun s => s.inBlock b f)

/-- A register write of the core domain takes effect: memory initialisation has finished (R400). -/
def State.soft (s : State) : Bool := s.flag .GLB_BOOT_MEM_INIT_DONE

/-- A register write that block `b` acts on: ignored until memory initialisation has finished (R400). -/
def runSoft (b : Nat) (f : State → State) (s : State) : Host.Outcome State Fault Refusal :=
  s.become (if s.soft then s.inBlock b f else s)

/-- A register write that block `b` acts on, of unit `i` of `n` (R400). -/
def runSoftOn (n i b : Nat) (f : State → State) (s : State) : Host.Outcome State Fault Refusal :=
  s.become (s.onUnit n i fun s => if s.soft then s.inBlock b f else s)

/-- A meaning of the always-on domain. -/
def runAon (f : State → State) (s : State) : Host.Outcome State Fault Refusal :=
  s.become (if s.aonUp then f s else s)

/-- A meaning of the always-on domain on unit `i` of `n`. -/
def runAonOn (n i : Nat) (f : State → State) (s : State) : Host.Outcome State Fault Refusal :=
  s.become (s.onUnit n i fun s => if s.aonUp then f s else s)

/-- The state changed where a condition holds. -/
def State.when (s : State) (c : Bool) (f : State → State) : State := if c then f s else s

/-- The state folded over a list of indexes. -/
def State.each {α : Type} (s : State) (l : List α) (f : State → α → State) : State := l.foldl f s

/-! Activity credits (R388 to R390). -/

/-- Whether an engine granted `g` credits runs in cycle `c` of the epoch (R390). -/
def creditRuns (g c : Nat) : Bool := decide (c * g / 1500 < (c + 1) * g / 1500)

/-- The grant of background engine `e` in the epoch in progress: 0 commit, 1 ageing sweeper, 2 Oculus, 3 Keep, 4 DMA (R388). -/
def State.grantOf (s : State) (e : Nat) : Nat := if s.grants.isEmpty then 1500 else nth s.grants e 0

/-- Engine `e` may issue work in this cycle (R390). -/
def State.mayRun (s : State) (e : Nat) : Bool := creditRuns (s.grantOf e) ((s.now - s.epochAt) % 1500)

/-- One credit of engine `e` is used (R388). -/
def State.spend (s : State) (e : Nat) : State := { s with spent := tput 0 s.spent e (tget 0 s.spent e + 1) }

/-- Work of engine `e`: in a skipped cycle it issues nothing and holds its state (R390). -/
def State.engine (s : State) (e : Nat) (f : State → State) : State := if s.mayRun e then (f s).spend e else s

/-- The time base in whole nanoseconds, seconds and nanoseconds together (R24). -/
def State.ns (s : State) : Nat := s.time >>> 40

/-- The 96-bit range of the time base: 2^48 seconds. -/
def timeModulus : Nat := 2 ^ 48 * 1000000000 * 2 ^ 40

/-- TIME_INCR in force (R273). -/
def State.timeIncr (s : State) : Nat := s.get .TPG_INCR_HI_INCR_HI * 2 ^ 32 + s.get .TPG_INCR_LO_INCR_LO

/-- The time that an event log record carries (R379): the time base, or the copy that runs on while the core domain does not. -/
def State.logTime (s : State) : Nat := (if s.coreUp then s.ns else s.logCopy) % 2 ^ 64

/-! The event log's queue (R378). -/

/-- A counter field raised by `n`, stopping at all-ones; the second part says whether it reached all-ones (R15). -/
def satAdd (f : Fld) (w : Word) (n : Nat) : Word × Bool :=
  let top := 2 ^ f.width - 1
  let old := f.of w
  let new := min top (old + n)
  (f.into w new, old != top && new == top)

end Sys2Proof.Machine
end

