-- ==== Sys2Proof/Machine/BelfryOps.lean ====
section
/-! DEFINITION. Belfry's pending logic and presentation (R348 to R358), the counters (R15, R16) and the reports that other
blocks make: interrupt events, faults and event log records. -/
namespace Sys2Proof.Machine

/-- Belfry's bits of source `i`. -/
def State.belSrc (s : State) (i : Nat) : BelSrc := tget {} s.bel i

/-- The state with Belfry's bits of source `i` set. -/
def State.setBel (s : State) (i : Nat) (b : BelSrc) : State := { s with bel := tput {} s.bel i b }

/-- The input of source `i`: a PHY interrupt line rests high, every other input low (R347, log 2). -/
def State.belInput (s : State) (i : Nat) : Bool :=
  (tget false s.belLvl i) != (1040 ≤ i && i ≤ 1295)

/-- SENSE of a source. -/
def State.sense (s : State) (i : Nat) : Nat := s.get .BEL_SRC_CFG_SENSE i

/-- A source sensed as a level (R348). -/
def State.levelMode (s : State) (i : Nat) : Bool := s.sense i < 2

/-- A level source is asserted (R348). -/
def State.asserted (s : State) (i : Nat) : Bool :=
  s.levelMode i && (s.belInput i == (s.sense i == 0))

/-- The pending bits of a source, one per target (R349, R350). -/
def State.pendMask (s : State) (i : Nat) : Nat :=
  let b := s.belSrc i
  if s.levelMode i then
    if s.asserted i then andNot (s.get .BEL_SRC_CFG_TARGETS i) b.claimed else 0
  else b.pend

/-- The stack of a target, top first. -/
def State.stackOf (s : State) (t : Nat) : List (Nat × Nat) := tget [] s.belStack t

/-- The first commit after BLK_RST_N has been made (R87). -/
def State.committed (s : State) : Bool := s.flag .STI_STATUS_COMMITTED

/-- What is driven to a target; VECt_VALID is 1 when there is something (R50). -/
def State.driven (s : State) (t : Nat) : Option Vec := tget none s.vec t

/-- The source presented to a target. -/
def State.presented (s : State) (t : Nat) : Option Nat := (s.driven t).map (·.src)

/-- Source `i` belongs to the presentable set of target `t` (R354); before the first commit VECt_VALID is held at 0 (R68). -/
def State.presentable (s : State) (t i : Nat) : Bool :=
  s.committed && (s.pendMask i).testBit t && s.flag .BEL_SRC_CFG_EN i && s.flag .BEL_TGT_CFG_EN t
    && !(s.belSrc i).claimed.testBit t
    && (match s.stackOf t with
        | [] => true
        | (_, p) :: _ => decide (p < s.get .BEL_SRC_CFG_PRIO i))

/-- The sources whose configuration is away from reset, rising: only those can be enabled. -/
def State.belConfigured (s : State) : List Nat :=
  s.regs.filterMap fun e => if e.1 % 512 = Reg.BEL_SRC_CFG.ctorIdx then some (e.1 / 512) else none

/-- The member of the presentable set with the highest PRIO, the lowest number among equals (R354). -/
def State.bestSource (s : State) (t : Nat) : Option Nat :=
  s.belConfigured.foldl (fun best i =>
    if s.presentable t i then
      match best with
      | none => some i
      | some b => if s.get .BEL_SRC_CFG_PRIO b < s.get .BEL_SRC_CFG_PRIO i then some i else some b
    else best) none

/-- The source to present: the one presented stays unless it left the set or a strictly higher one joined (R354, R355). -/
def State.nextVector (s : State) (t : Nat) : Option Nat :=
  match s.presented t, s.bestSource t with
  | _, none => none
  | none, some b => some b
  | some c, some b =>
    if s.presentable t c && !(s.get .BEL_SRC_CFG_PRIO c < s.get .BEL_SRC_CFG_PRIO b) then some c else some b

/-- What Belfry drives for a source: its vector address and its priority (R354). -/
def State.vecOf (s : State) (i : Nat) : Vec :=
  ⟨i, (s.rd .BEL_SRC_VEC_HI i).toNat * 2 ^ 32 + (s.rd .BEL_SRC_VEC_LO i).toNat, s.get .BEL_SRC_CFG_PRIO i⟩

/-- Presentation to target `t` computed anew. -/
def State.present (s : State) (t : Nat) : State := { s with vec := tput none s.vec t ((s.nextVector t).map s.vecOf) }

/-- Presentation to all eight targets computed anew. -/
def State.presentAll (s : State) : State := s.each (List.range 8) State.present

/-- The batch of an edge source ends: the source becomes pending on each of its targets (R349). -/
def State.batchEnd (s : State) (i : Nat) : State :=
  let b := s.belSrc i
  (s.setBel i { b with pend := b.pend ||| s.get .BEL_SRC_CFG_TARGETS i, held := 0 }).presentAll

/-- One event of an edge source (R349). -/
def State.edgeEvent (s : State) (i : Nat) : State :=
  let b := s.belSrc i
  if s.get .BEL_SRC_COAL_COUNT i ≤ b.held + 1 then s.batchEnd i
  else s.setBel i { b with held := b.held + 1 }

/-- The sources that the manual reserves: their input never rises (R347). -/
def belReserved (i : Nat) : Bool := decide (1470 ≤ i) && decide (i ≤ 1519)

/-- A claim of source `i` whose window is still open has seen its input withdrawn (R358). -/
def State.noteWithdrawn (s : State) (i : Nat) : State :=
  if !s.levelMode i || s.asserted i then s
  else
    let win := s.get .BEL_GLB_CFG_SPUR_WIN
    { s with belClaims := s.belClaims.map fun (x : Claim) =>
        if x.src = i ∧ s.now - x.at' < win then { x with withdrawn := true } else x }

/-- The input of source `i` takes a level: edges are sensed, levels are evaluated (R348, R350). While Belfry cannot act,
only the input changes. -/
def State.setInput (s : State) (i : Nat) (lvl : Bool) : State :=
  if s.belInput i = lvl ∨ belReserved i then s
  else
    let s1 := { s with belLvl := tput false s.belLvl i (lvl != (1040 ≤ i && i ≤ 1295)) }
    s1.inBlock 15 fun s1 =>
      match s1.sense i with
      | 2 => if lvl then s1.edgeEvent i else s1
      | 3 => if lvl then s1 else s1.edgeEvent i
      | 4 => s1.edgeEvent i
      | _ => (s1.noteWithdrawn i).presentAll

/-- One event of a pulse source: its input is 1 for one cycle, once in a step however often it is raised there (R347). -/
def State.pulse (s : State) (i : Nat) : State :=
  if s.pulsed.contains i then s else ({ s with pulsed := i :: s.pulsed }.setInput i true).setInput i false

/-- What a counter-saturated event sets beside its Belfry source (R378, and the status registers of chapters 18 and 19). -/
def State.satMark (s : State) (src : Nat) : State :=
  match src with
  | 1464 => s.put .KEEP_STATUS_SAT 0 1
  | 1465 => s.put .SES_STATUS_SAT 0 1
  | 1466 => s.put .PWR_STATUS_SAT 0 1
  | 1467 => s.put .LOG_STATUS_SAT 0 1
  | _ => s

/-- A counter of 32 bits or fewer raised by `n` (R15). -/
def State.add (s : State) (f : Fld) (i n : Nat) : State :=
  let r := satAdd f (s.rd f.reg i) n
  let s1 := s.wr f.reg i r.1
  if r.2 then (s1.satMark (satSource f.reg)).pulse (satSource f.reg) else s1

/-- A counter of 32 bits or fewer raised by one (R15). -/
def State.inc (s : State) (f : Fld) (i : Nat := 0) : State := s.add f i 1

/-- A 64-bit counter: its two halves as one number (R16). -/
def State.count64 (s : State) (lo hi : Reg) (i : Nat) : Nat := (s.rd hi i).toNat * 2 ^ 32 + (s.rd lo i).toNat

/-- A 64-bit counter raised by `n`, wrapping (R15). -/
def State.add64 (s : State) (lo hi : Reg) (i n : Nat) : State :=
  let v := s.count64 lo hi i + n
  (s.wr lo i (word v)).wr hi i (word (v >>> 32))

/-! Faults and records. -/

/-- A source reports a fault to the collector (R360). -/
def State.raise (s : State) (src : Nat) (syn : Word := 0) : State :=
  { s with raised := s.raised ++ [⟨src, false, syn⟩] }

/-- A record waits to be written to the event log; one that finds the queue full is dropped and counted (R378, R379). -/
def State.record (s : State) (kind flags : Nat) (body : List Word) (freeze : Bool := false) : State :=
  if s.logQ.length < 64 then
    let f := if s.coreUp then flags else flags ||| 2
    { s with logQ := s.logQ ++ [(kind, f, s.logTime, body, freeze)] }
  else s.inc .LOG_DROPPED_COUNT

/-- The event log source, with its cause already set (R378): it reaches Belfry only while the core domain runs. -/
def State.logSource (s : State) : State := s.pulse 1467

/-! Memories and their errors (R376, R380). -/

/-- A write to word `a` of data-class memory `m`: an armed injection acts on it, and clears an injected error otherwise. -/
def State.memWrite (s : State) (m a : Nat) : State :=
  if s.flag .FLT_INJ_DATA_ARM && s.get .FLT_INJ_DATA_MEM == m
      && (!s.flag .FLT_INJ_DATA_ADDR_EN || s.get .FLT_INJ_ADDR_ADDR == a) then
    { s with injected := ⟨m, a, s.get .FLT_INJ_DATA_BITS == 2⟩ :: s.injected.filter (fun x => !(x.mem == m && x.addr == a)) }
      |>.put .FLT_INJ_DATA_ARM 0 0
  else { s with injected := s.injected.filter fun x => !(x.mem == m && x.addr == a) }

/-- The error that a read of word `a` of memory `m` meets: the one that the command carries, or an injected one (R376). -/
def State.eccOf (s : State) (m a : Nat) (e : Ecc) : Ecc :=
  match e with
  | .uncorr => .uncorr
  | e => match s.injected.find? (fun x => x.mem == m && x.addr == a) with
    | some x => if x.double then .uncorr else .corr
    | none => e

/-- An uncorrectable error in word `a` of memory `m` is reported: source 3 for the event log bank, source 9 for a
control-class memory, source 8 for a data-class memory (R380, R384). -/
def State.memFault (s : State) (m a : Nat) : State :=
  s.raise (if m = 0xD then 3 else if 0xA ≤ m then 9 else 8) (word (m <<< 28 ||| a % 2 ^ 28))

/-- The words of memory `m` among the words that a command says read with an uncorrectable error: pairs of a memory of R380 and an
address. -/
def badIn (m : Nat) (l : List (Nat × Nat)) : List Nat := (l.filter fun x => x.1 == m).map (·.2)

/-- Word `a` of memory `m` reads with an uncorrectable error: an injected one, or one of `l` (R376). -/
def State.badWord (s : State) (m : Nat) (l : List Nat) (a : Nat) : Bool := l.contains a || s.eccOf m a .ok == .uncorr

/-- A source reports a fault whose syndrome the manual does not give: a free value (log 1). -/
def State.raiseFree (s : State) (src : Nat) : State := (s.raise src (word s.free)).used

/-- An uncorrectable error in a word of memory `m` that no rule names: its address is a free value (log 1). -/
def State.memFaultFree (s : State) (m : Nat) : State := (s.memFault m s.free).used

end Sys2Proof.Machine
end

