-- ==== Sys2Proof/Machine/Port.lean ====
section
/-! DEFINITION. What the committed structure says of a port (R74 to R82) and the per-port tables. -/
namespace Sys2Proof.Machine

/-- The LANE_MAP word of a global port index. -/
def State.lane (s : State) (p : Nat) : Word := tget 0 s.img.lanes p

/-- A global port index that names a trunk (R6). -/
def isTrunk (p : Nat) : Bool := 1024 ≤ p

/-- The port exists in the committed structure (R26). -/
def State.present' (s : State) (p : Nat) : Bool :=
  if isTrunk p then wbit (s.lane p) 31 else wbits (s.lane p) 31 30 != 0

/-- KIND of a field port (R74). -/
def State.kind (s : State) (p : Nat) : Nat := wbits (s.lane p) 29 27

/-- A field port bound to an extender slot (R74). -/
def State.extended (s : State) (p : Nat) : Bool := !isTrunk p && wbits (s.lane p) 31 30 == 2

/-- A field port bound to a local lane (R74). -/
def State.onLane (s : State) (p : Nat) : Bool := !isTrunk p && wbits (s.lane p) 31 30 == 1

/-- TARGET of a field port: its lane or its extender slot. -/
def State.target (s : State) (p : Nat) : Nat := wbits (s.lane p) 15 0

/-- The extender of an extended field port. -/
def State.extOf (s : State) (p : Nat) : Nat := s.target p / 16

/-- The two words of an extender slot (R77). -/
def State.slotWords (s : State) (e : Nat) : Word × Word := tget (0, 0) s.img.ext e

/-- The extender slot is present (R77). -/
def State.slotPresent (s : State) (e : Nat) : Bool := wbit (s.slotWords e).1 31

/-- The trunk that carries an extender, 0 to 15 (R77). -/
def State.slotTrunk (s : State) (e : Nat) : Nat := wbits (s.slotWords e).1 27 24

/-- ROLE of a trunk, by its global index (R75). -/
def State.role (s : State) (p : Nat) : Nat := wbits (s.lane p) 27 26

/-- RATE of a trunk, by its global index (R75). -/
def State.rateCode (s : State) (p : Nat) : Nat := wbits (s.lane p) 30 28

/-- The line rate of a port in Mb/s (R75, R98 table). -/
def State.rateMb (s : State) (p : Nat) : Nat :=
  if isTrunk p then
    match s.rateCode p with
    | 0 => 1000
    | 1 => 10000
    | 2 => 25000
    | 3 => 50000
    | _ => 100000
  else match s.kind p with
    | 3 => 100
    | 4 => 1000
    | _ => 10

/-- The port at whose MAC edge a port's frames pass: the extender trunk of an extended field port, else the port (R102). -/
def State.macPort (s : State) (p : Nat) : Nat :=
  if s.extended p then 1024 + s.slotTrunk (s.extOf p) else p

/-- Word 0 of the port's queue template (R82). -/
def State.template (s : State) (p : Nat) : Word :=
  tget 0 s.img.templates (if isTrunk p then wbits (s.lane p) 25 22 else wbits (s.lane p) 26 23)

/-- STRICT_MIN of the port's template (R82). -/
def State.strictMin (s : State) (p : Nat) : Nat := wbits (s.template p) 19 16

/-- NODE_CLASS of the port's template (R82). -/
def State.nodeClass (s : State) (p : Nat) : Nat := wbits (s.template p) 10 8

/-- NODE_QUEUES of the port's template (R82). -/
def State.nodeQueues (s : State) (p : Nat) : Bool := wbit (s.template p) 0

/-- SEG_STATUS.STATE codes of R146. -/
def segDisabled : Nat := 0
def segNormal : Nat := 1
def segToService : Nat := 2
def segService : Nat := 3
def segToNormal : Nat := 4
def segQuarantine : Nat := 5

/-- A field port runs half duplex: a multidrop port outside segment service mode (chapter 04, R146). -/
def State.halfDuplex (s : State) (p : Nat) : Bool :=
  !isTrunk p && s.kind p == 0 &&
    !(s.get .SEG_STATUS_STATE p == segService || s.get .SEG_STATUS_STATE p == segToNormal)

/-- A port runs PLCA: a multidrop port whose ACCESS is PLCA coordinator (R136). -/
def State.plcaPort (s : State) (p : Nat) : Bool :=
  !isTrunk p && s.kind p == 0 && s.get .SEG_CFG_ACCESS p == 1

/-- The port is enabled (R109, R131). -/
def State.enabled (s : State) (p : Nat) : Bool :=
  s.present' p && (if isTrunk p then s.flag .MAC_CFG_EN p else s.flag .SEG_CFG_EN p)

/-- LINK of a port (R108). -/
def State.link (s : State) (p : Nat) : Bool := s.flag .MAC_STATUS_LINK p

/-- MAX_FRAME of a port (R98). -/
def State.maxFrame (s : State) (p : Nat) : Nat := s.get .MAC_CFG_MAX_FRAME p

/-- The MAC of a port. -/
def State.macOf (s : State) (p : Nat) : Mac := tget {} s.mac p

/-- The state with the MAC of a port set. -/
def State.setMac (s : State) (p : Nat) (m : Mac) : State := { s with mac := tput {} s.mac p m }

/-- The reception in progress on a port. -/
def State.rxOf (s : State) (p : Nat) : Option Rx := tget none s.rx p

/-- The state with the reception of a port set. -/
def State.setRx (s : State) (p : Nat) (r : Option Rx) : State := { s with rx := tput none s.rx p r }

/-- The transmission in progress on a port. -/
def State.txOf (s : State) (p : Nat) : Option Tx := tget none s.tx p

/-- The port leaves low-power idle and starts its wake time (R122). -/
def State.lpiWake (s : State) (p : Nat) : State :=
  if s.flag .MAC_STATUS_TX_LPI p then
    (s.put .MAC_STATUS_TX_LPI p 0).setMac p { s.macOf p with waking := true }
  else s

/-- The transmitter drives the medium: TPMA_TXEN of a trunk, and TX_EN of a field lane that sends (R109, R111). A frame in
transmission when EN falls completes. -/
def State.txen (s : State) (p : Nat) : Bool := (s.enabled p || (s.txOf p).isSome) && s.get .MAC_CFG_LOOP p != 1

/-- The state after a change that may have moved TPMA_TXEN of trunk `p`; `s` is the state before it. -/
def State.txenEdge (s t : State) (p : Nat) : State :=
  if isTrunk p && s.txen p != t.txen p then t.emit (.txen p (t.txen p)) else t

/-- What precedes a frame: seven bytes of 0x55 and the SFD (R94). -/
def preamble : List Byte := List.replicate 7 0x55 ++ [0xD5]

/-- A frame has been sent: near-end loopback returns it to the receive path, and the medium of a trunk in far-end loopback carries
what it receives (R111; log 41). -/
def State.onWire (s : State) (p : Nat) (b : List Byte) (good : Bool) : State :=
  if s.get .MAC_CFG_LOOP p = 1 then s.setMac p { s.macOf p with back := (s.macOf p).back ++ [b] }
  else if s.get .MAC_CFG_LOOP p = 2 then s
  else s.emit (.frame p (preamble ++ b) good)

/-- The state with the transmission of a port set. -/
def State.setTx (s : State) (p : Nat) (t : Option Tx) : State := { s with tx := tput none s.tx p t }

/-- The candidate of a field port (R141). -/
def State.candOf (s : State) (p : Nat) : Option Copy := tget none s.cand p

/-- The state with the candidate slot of a field port set; SEG_STATUS.CAND shows it (R141). -/
def State.setCand (s : State) (p : Nat) (c : Option Copy) : State :=
  { s with cand := tput none s.cand p c }.putFlag .SEG_STATUS_CAND p c.isSome

/-- SEG_TXSTATE of a local port shows the attempts of its candidate, with no back-off (R134). -/
def State.showTries (s : State) (p n : Nat) : State :=
  if s.onLane p then (s.put .SEG_TXSTATE_ATTEMPTS p n).put .SEG_TXSTATE_BACKOFF p 0 else s

/-- A copy becomes the candidate: ATTEMPTS shows its collisions, and no back-off runs (R134, R141). -/
def State.newCand (s : State) (p : Nat) (c : Copy) : State :=
  (s.setCand p (some c)).showTries p c.tries

/-- A queue, oldest copy first. -/
def State.queue (s : State) (q : Nat) : List Copy := tget [] s.queues q

/-- A node context. -/
def State.ctxOf (s : State) (i : Nat) : Ctx := tget {} s.ctx i

/-- The state with a node context set. -/
def State.setCtx (s : State) (i : Nat) (c : Ctx) : State := { s with ctx := tput {} s.ctx i c }

/-- The time in the 64 ns unit of R233, modulo 2^32. -/
def State.unit64 (s : State) : Nat := (s.ns % 2 ^ 64 / 64) % 2 ^ 32

/-- The lane, 0 or 1, of a receiving port's ingress tickets (R42). -/
def ticketLane (p : Nat) : Nat :=
  if isTrunk p then (if p < 1032 then 0 else 1) else (if p < 512 then 0 else 1)

/-- The field port bound to a local lane, if any. -/
def State.portOfLane (s : State) (l : Nat) : Option Nat :=
  (s.img.lanes.find? fun e => e.1 < 1024 && wbits e.2 31 30 == 1 && wbits e.2 15 0 == l).map (·.1)

/-- The field port bound to an extender slot, if any. -/
def State.portOfSlot (s : State) (k : Nat) : Option Nat :=
  (s.img.lanes.find? fun e => e.1 < 1024 && wbits e.2 31 30 == 2 && wbits e.2 15 0 == k).map (·.1)

/-- The field ports bound to an extender. -/
def State.portsOfExt (s : State) (e : Nat) : List Nat :=
  (s.img.lanes.filter fun x => x.1 < 1024 && wbits x.2 31 30 == 2 && wbits x.2 15 0 / 16 == e).map (·.1)

end Sys2Proof.Machine
end

