-- ==== Sys2Proof/Machine/Belfry.lean ====
section
/-! DEFINITION. Belfry's rows: events, levels, takes, ends of interrupt, configuration (R347 to R359). -/
namespace Sys2Proof.Machine

/-- Belfry's sources (R347). -/
def belSources : Nat := 2048

/-- The claims whose source was withdrawn inside their window are counted, once each (R358). -/
def State.spurCount (s : State) : State :=
  ({ s with belClaims := s.belClaims.filter fun x => !Claim.withdrawn x }).each (s.belClaims.filter Claim.withdrawn) fun s x =>
    s.inc .BEL_SPURIOUS_AFTER_CLAIM_COUNT x.target

/-- BEL_SOURCE_EVENT (R348, R349): the input of a source leaves its level for one cycle. -/
def State.sourceEvent (s : State) (i : Nat) : State :=
  let b := s.belInput i
  ((s.setInput i (!b)).setInput i b).spurCount

/-- BEL_SOURCE_EVENT. -/
def execBelSourceEvent (i : Nat) (s : State) : Host.Outcome State Fault Refusal := runOn belSources i 15 (fun s => s.sourceEvent i) s

/-- BEL_LEVEL_CHANGE (R350, R358). -/
def State.levelChange (s : State) (i : Nat) (lvl : Bool) : State := (s.setInput i lvl).inBlock 15 State.spurCount

/-- BEL_LEVEL_CHANGE. -/
def execBelLevelChange (i : Nat) (lvl : Bool) (s : State) : Host.Outcome State Fault Refusal :=
  s.become (s.onUnit belSources i fun s => s.levelChange i lvl)

/-- PHY_INT_CHANGE (R54, R347). -/
def execPhyIntChange (lane : Nat) (lvl : Bool) (s : State) : Host.Outcome State Fault Refusal :=
  s.become (s.onUnit 256 lane fun s => s.levelChange (1040 + lane) lvl)

/-- BEL_BATCH_TIMER (R349). -/
def execBelBatchTimer (i : Nat) (s : State) : Host.Outcome State Fault Refusal :=
  runOn belSources i 15 (fun s => if (s.belSrc i).held = 0 ∨ s.levelMode i then s else s.batchEnd i) s

/-- A take (R50, R351, R355, R358): the core has the address and priority driven, VECt_VALID falls, and the next vector is
presented. -/
def State.vecTaken (s : State) (t : Nat) : State :=
  match s.driven t with
  | none => s
  | some x =>
    let v := x.src
    let b := s.belSrc v
    let s1 := (s.setBel v { b with pend := clrBit b.pend t, claimed := orBit b.claimed t }).emit (.vector t x.addr x.prio)
    let s2 := { s1 with belStack := tput [] s1.belStack t ((v, x.prio) :: s.stackOf t)
                        vec := tput none s1.vec t none }
    let win := s.get .BEL_GLB_CFG_SPUR_WIN
    let s3 := if !s.levelMode v || win == 0 then s2
      else if s.asserted v then { s2 with belClaims := ⟨t, v, s.now, false⟩ :: s2.belClaims }
      else s2.inc .BEL_SPURIOUS_AFTER_CLAIM_COUNT t
    s3.present t

/-- VEC_TAKEN. -/
def execVecTaken (t : Nat) (s : State) : Host.Outcome State Fault Refusal := runOn 8 t 15 (fun s => s.vecTaken t) s

/-- An end-of-interrupt out of order (R356). -/
def State.eoiError (s : State) (t src : Nat) : State :=
  let s1 := if s.flag .BEL_TGT_STATUS_ORDER_ERR t then s
    else
      let top := (s.stackOf t).head?
      (((s.put .BEL_TGT_STATUS_ORDER_ERR t 1).put .BEL_TGT_ORDER_EOI_SRC t src).putFlag .BEL_TGT_ORDER_EMPTY t top.isNone).put
        .BEL_TGT_ORDER_TOP_SRC t ((top.map (·.1)).getD 0)
  (s1.inc .BEL_STACK_ORDER_COUNT t).raiseFree 11

/-- An end-of-interrupt (R356). A level source is pending again only from the next cycle, after the presentation of the pop
(R351). -/
def State.belEoi (s : State) (t : Nat) (w : Word) : State :=
  let src := wbits w 10 0
  match s.stackOf t with
  | (v, _) :: rest =>
    if v = src then
      let b := s.belSrc v
      let s1 := { s with belStack := tput [] s.belStack t rest, belClaims := s.belClaims.filter fun x => !(x.target == t && x.src == v) }
      ((if s.levelMode v then s1.present t else s1).setBel v { b with claimed := clrBit b.claimed t }).present t
    else s.eoiError t src
  | [] => s.eoiError t src

/-- BEL_EOI. -/
def execBelEoi (t : Nat) (w : Word) (s : State) : Host.Outcome State Fault Refusal := runSoftOn 8 t 15 (fun s => s.belEoi t w) s

/-- BEL_SWI written (R359). -/
def State.belSwi (s : State) (w : Word) : State := s.each (bitList 16 (wbits w 15 0)) fun s j => s.pulse (1520 + j)

/-- BEL_SWI. -/
def execBelSwi (w : Word) (s : State) : Host.Outcome State Fault Refusal := runSoft 15 (fun s => s.belSwi w) s

/-- BEL_SRC_CFG written (R348, R353). -/
def State.srcCfg (s : State) (i : Nat) (w : Word) : State :=
  let old := s.sense i
  let new := Fld.BEL_SRC_CFG_SENSE.of w
  let s1 := ((s.putFlag .BEL_SRC_CFG_EN i (wbit w 31)).put .BEL_SRC_CFG_PRIO i (Fld.BEL_SRC_CFG_PRIO.of w)).put .BEL_SRC_CFG_TARGETS i
    (Fld.BEL_SRC_CFG_TARGETS.of w)
  let s2 := if new < 5 then s1.put .BEL_SRC_CFG_SENSE i new else s1
  let b := s2.belSrc i
  let b1 := if s2.sense i ≠ old then { b with pend := 0, held := 0 }
    else { b with pend := b.pend &&& Fld.BEL_SRC_CFG_TARGETS.of w }
  ((s2.setBel i b1).noteWithdrawn i).presentAll.spurCount

/-- BEL_SRC_CFG_WRITE. -/
def execBelSrcCfgWrite (i : Nat) (w : Word) (s : State) : Host.Outcome State Fault Refusal :=
  runSoftOn belSources i 15 (fun s => s.srcCfg i w) s

/-- PEND written (R353): edge bits clear; an asserted level source is clear for that cycle only. -/
def State.pendClear (s : State) (i : Nat) (w : Word) : State :=
  let m := wbits w 31 24
  let b := s.belSrc i
  if s.levelMode i then
    (((s.setBel i { b with claimed := b.claimed ||| m }).presentAll).setBel i b).presentAll
  else (s.setBel i { b with pend := andNot b.pend m }).presentAll

/-- BEL_PEND_CLEAR. -/
def execBelPendClear (i : Nat) (w : Word) (s : State) : Host.Outcome State Fault Refusal :=
  runSoftOn belSources i 15 (fun s => s.pendClear i w) s

end Sys2Proof.Machine
end

