-- ==== Sys2Proof/Machine/Dome.lean ====
section
/-! DEFINITION. Cells, reference counts, admission and the queues (R26 to R35, R43 to R45, R118, R119, R243 to R245,
R251 to R253). -/
namespace Sys2Proof.Machine

/-! Cells. -/

/-- Cells that a frame of `n` data bytes takes: whole cells of 256 bytes. -/
def cellsFor (n : Nat) : Nat := ceilDiv n 256

/-- Cells that a reception holds. -/
def Rx.held (r : Rx) : Nat := r.cells * (b2n r.head.isSome + b2n r.fbHead.isSome)

/-- Cells in use: live frames, receptions in progress, lost cells (R243, R247). -/
def State.usedCells (s : State) : Nat :=
  (s.frames.map fun e => e.2.cells).sum + (s.rx.map fun e => (e.2.map Rx.held).getD 0).sum
    + (s.dma.chans.map fun e => e.2.cells).sum + s.lost

/-- DOME_FREE.COUNT (R243). -/
def State.freeCells (s : State) : Nat := Config.domeCells - s.usedCells

/-- The head cells in use, by live frames and by receptions. -/
def State.heads (s : State) : List Nat :=
  (s.frames.map (·.1)) ++ (s.rx.flatMap fun e => ((e.2.bind (·.head)).toList ++ (e.2.bind (·.fbHead)).toList)) ++ s.dma.chans.flatMap fun e => if e.2.cells = 0 then [] else e.2.head.toList

/-- The `k`-th cell from 0 that is not in the rising list. -/
def nthFree : List Nat → Nat → Nat
  | [], k => k
  | u :: t, k => if k < u then k else nthFree t (k + 1)

/-- A number put into a rising list. -/
def insertRising (a : Nat) : List Nat → List Nat
  | [] => [a]
  | b :: t => if a ≤ b then a :: b :: t else b :: insertRising a t

/-- The head cell that a new frame takes: some cell that is no head in use; which one the manual leaves open (R22, log 1). -/
def State.pickHead (s : State) : Nat :=
  let used := s.heads.foldr insertRising []
  nthFree used (s.free % (Config.domeCells - used.length))

/-- A frame's head cell and its descriptor are written (R376). -/
def State.headWrite (s : State) (h : Nat) : State := (s.memWrite 1 h).memWrite 2 h

/-- DOME_USED_PEAK.PEAK follows the cells in use (R249). -/
def State.notePeak (s : State) : State :=
  if s.get .DOME_USED_PEAK_PEAK < s.usedCells then s.put .DOME_USED_PEAK_PEAK 0 s.usedCells else s

/-! Ingress cell counts and automatic flow control (R118, R119). -/

/-- Ingress cells of a trunk: frames received on it from their head cell on (R118). -/
def State.ingressTotal (s : State) (p : Nat) : Nat :=
  (s.frames.map fun e => if e.2.port = some p then e.2.cells else 0).sum
    + (match s.rxOf p with
       | some r => r.held
       | none => 0)

/-- Ingress cells of a trunk in a class: from the ticket on (R118). -/
def State.ingressClass (s : State) (p c : Nat) : Nat :=
  (s.frames.map fun e => if e.2.port = some p ∧ e.2.ingress = some c then e.2.cells else 0).sum

/-- Automatic generation is possible with these thresholds (R119). -/
def State.fcArmed (s : State) (p : Nat) : Bool :=
  s.get .MAC_FC_THR_XON_CELLS p < s.get .MAC_FC_THR_XOFF_CELLS p && s.get .MAC_FC_TX_TX_QUANTA p != 0

/-- The automatic PAUSE rule of a trunk (R119). -/
def State.fcPause (s : State) (p : Nat) : State :=
  let on := s.fcArmed p && s.get .MAC_CFG_FC_MODE p == 1
  let total := s.ingressTotal p
  let x := s.flag .MAC_STATUS_XOFF p
  let due := fun (s : State) (b : Bool) =>
    (s.putFlag .MAC_STATUS_XOFF p b).setMac p
      { s.macOf p with autoHeld := some ⟨false, 0, [if b then s.get .MAC_FC_TX_TX_QUANTA p else 0]⟩ }
  if on && !x && s.get .MAC_FC_THR_XOFF_CELLS p ≤ total then due s true
  else if x && (!on || total ≤ s.get .MAC_FC_THR_XON_CELLS p) then due s false
  else s

/-- XOFF_CLASSES as the automatic PFC rule sets it (R119). -/
def State.pfcWanted (s : State) (p : Nat) : Nat :=
  let on := s.fcArmed p && s.get .MAC_CFG_FC_MODE p == 2
  let x := s.get .MAC_STATUS_XOFF_CLASSES p
  (List.range 8).foldl (fun a c =>
    let en := on && (s.get .MAC_FC_TX_PFC_CLASSES p).testBit c
    let n := s.ingressClass p c
    let v := if !en then false
      else if x.testBit c then decide (s.get .MAC_FC_THR_XON_CELLS p < n)
      else decide (s.get .MAC_FC_THR_XOFF_CELLS p ≤ n)
    if v then orBit a c else a) 0

/-- A PFC frame of the trunk's XOFF state for the classes of `vec` (R119). -/
def State.pfcFrame (s : State) (p vec : Nat) : Ctrl :=
  ⟨true, vec, (List.range 8).map fun c =>
    if vec.testBit c && (s.get .MAC_STATUS_XOFF_CLASSES p).testBit c then s.get .MAC_FC_TX_TX_QUANTA p else 0⟩

/-- Class bits of a held automatic PFC frame. -/
def State.heldVec (s : State) (p : Nat) : Nat :=
  match (s.macOf p).autoHeld with
  | some c => if c.pfc then c.vec else 0
  | none => 0

/-- The automatic PFC rule of a trunk (R119): the changes are combined into one frame, with those still held (R117). -/
def State.fcPfc (s : State) (p : Nat) : State :=
  let x := s.get .MAC_STATUS_XOFF_CLASSES p
  let w := s.pfcWanted p
  if w = x then s
  else
    let s1 := s.put .MAC_STATUS_XOFF_CLASSES p w
    s1.setMac p { s1.macOf p with autoHeld := some (s1.pfcFrame p ((w ^^^ x) ||| s1.heldVec p)) }

/-- Automatic flow control of a trunk after a change of its counts or settings (R119). Where one write of FC_MODE makes a PAUSE and a
PFC frame due together, the one that R117 can hold is the PFC frame (DESIGN CHOICE, log 41). -/
def State.flowControl (s : State) (p : Nat) : State :=
  if isTrunk p then (s.fcPause p).fcPfc p else s

/-! Reference counts (R31, R32). -/

/-- An egress-ticket or release error is counted, captured and reported (R27, R30, R45). -/
def State.egtError (s : State) (cause : Nat) (rel : Bool) (dst : Nat) : State :=
  let s1 := s.inc .GLB_EGT_ERR_COUNT
  let s2 := if s1.flag .GLB_EGT_ERR_CAUSE_VALID then s1
    else (((s1.put .GLB_EGT_ERR_CAUSE_VALID 0 1).putFlag .GLB_EGT_ERR_CAUSE_REL 0 rel).put .GLB_EGT_ERR_CAUSE_CAUSE 0 cause).put
      .GLB_EGT_ERR_CAUSE_DST_PORT 0 (if rel then 0 else dst)
  s2.pulse 1442

/-- The live frame of a head cell. -/
def State.frame (s : State) (h : Nat) : Option DFrame := tfind s.frames h

/-- The state with a live frame set. -/
def State.setFrame (s : State) (h : Nat) (f : DFrame) : State := { s with frames := tset s.frames h (some f) }

/-- Every cell of a frame returns to the free pool; the flow control of its receiving trunk sees it (R31, R118). -/
def State.freeFrame (s : State) (h : Nat) : State :=
  match s.frame h with
  | none => s
  | some f =>
    let s1 := { s with frames := tset s.frames h none }
    match f.port with
    | some p => s1.flowControl p
    | none => s1

/-! Queues (R251 to R253). -/

/-- The class queue of class `k` on port `p` (R251). -/
def classQueue (p k : Nat) : Nat := 262144 + 8 * p + k

/-- The port of a queue (R251, R265). -/
def queuePort (q : Nat) : Nat := if q < 262144 then q / 256 else (q - 262144) / 8

/-- The class that the configuration gives a node queue (R252). -/
def State.cfgClass (s : State) (i : Nat) : Nat :=
  let w := (s.ctxOf i).cfg4
  if wbit w 20 then wbits w 19 17 else s.nodeClass (i / 256)

/-- The class of a queue: the old one while a move waits (R244, R252, R261). -/
def State.queueClass (s : State) (q : Nat) : Nat :=
  if q < 262144 then
    match tget none s.oldClass q with
    | some k => k
    | none => s.cfgClass q
  else (q - 262144) % 8

/-- Class `k` of port `p` holds copies. -/
def State.classHolds (s : State) (p k : Nat) : Bool :=
  s.queues.any fun e => queuePort e.1 == p && s.queueClass e.1 == k

/-- A class that holds no copy has no deficit and is fresh (R256). -/
def State.drrRest (s : State) (p k : Nat) : State :=
  if s.classHolds p k then s
  else (s.put .SCH_DEFICIT_DEFICIT (8 * p + k) 0).put .SCH_DEFICIT_FRESH (8 * p + k) 1

/-- The state with a queue set. -/
def State.setQueue (s : State) (q : Nat) (l : List Copy) : State :=
  { s with queues := tput [] s.queues q l, qUsed := if l.isEmpty then s.qUsed else tput false s.qUsed q true }.drrRest (queuePort q)
    (s.queueClass q)

/-! References taken (R31, R32, R247). -/

/-- The end of an injected frame's copy is told to the descriptor that waits for it, unless that has completed meanwhile (R330, R334);
`sent` is the transmit timestamp, if the copy was sent. -/
def State.injEnded (s : State) (f : DFrame) (sent : Option Nat) : State :=
  match f.inject with
  | some (ch, n, true) => if (tget {} s.dma.chans ch : Chan).serial = n then { s with injEnd := tput none s.injEnd ch (some sent) } else s
  | _ => s

/-- A frame's copies all end, and its cells return or are lost, after an error in its descriptors (R247). -/
def State.loseFrame (s : State) (h : Nat) : State :=
  match s.frame h with
  | none => s
  | some f =>
    let gone := s.free % (f.cells + 1)
    let keep := fun (l : List Copy) => l.filter fun c => c.head != h
    let s1 := s.used.each (s.queues.map (·.1)) fun s q => s.setQueue q (keep (s.queue q))
    let s2 := s1.each (s1.cand.map (·.1)) fun s p => if (s.candOf p).any (·.head == h) then s.setCand p none else s
    let s3 := s2.each (s2.tx.map (·.1)) fun s p => match s.txOf p with
      | some t => if t.copy.any (·.head == h) then s.setTx p (some { t with copy := none, good := false }) else s
      | none => s
    let s3 := s3.injEnded f none
    let s4 := { s3 with frames := tset s3.frames h none, taken := tput 0 s3.taken h 0, lost := s3.lost + gone
                        dma := { s3.dma with chans := s3.dma.chans.map fun (e : Nat × Chan) =>
                          (e.1, { e.2 with out := e.2.out.filter fun x => x.2 != h }) }
                        hostQ := s3.hostQ.foldl (fun m (e : Nat × List HostItem) => tput [] m e.1 (e.2.filter fun x => x.head != h)) s3.hostQ }
    let s5 := (s4.add .DOME_LOST_CELLS_COUNT 0 gone).memFault 2 h
    match f.port with
    | some p => s5.flowControl p
    | none => s5

/-- A frame's descriptor is read: a corrected error is counted, an uncorrectable one ends the frame (R247). -/
def State.descRead (s : State) (h : Nat) : State :=
  if (s.frame h).isNone then s
  else match s.eccOf 2 h .ok with
    | .ok => s
    | .corr => s.inc .DOME_ECC_CORR_COUNT
    | .uncorr => s.loseFrame h

/-- One reference more on a live frame (R31): its descriptor is written. -/
def State.addRef (s : State) (h : Nat) (f : DFrame) : State := (s.setFrame h { f with refs := f.refs + 1 }).memWrite 2 h

/-- `k` references are taken from a frame at the end of a cycle: at zero its cells are free, and below zero the error is counted
once (R32). -/
def State.takeRefs (s : State) (h k : Nat) : State :=
  let s1 := s.descRead h
  match s1.frame h with
  | none => s1
  | some f =>
    if k < f.refs then (s1.setFrame h { f with refs := f.refs - k }).memWrite 2 h
    else ((if f.refs < k then s1.egtError 6 true 0 else s1).freeFrame h).memWrite 2 h

/-- The cycle in progress ends: the references taken in it leave their counts, together with those added in it (R32). -/
def State.cycleEnd (s : State) : State := ({ s with taken := [] }).each s.taken fun s x => s.takeRefs x.1 x.2

/-- A reference is taken in the cycle in progress (R32). -/
def State.dropRef (s : State) (h : Nat) : State := { s with taken := tput 0 s.taken h (tget 0 s.taken h + 1) }

/-- One reference taken in a cycle that then ends (R31). -/
def State.deref (s : State) (h : Nat) : State :=
  if (s.frame h).isNone then s.cycleEnd.egtError 6 true 0 else (s.dropRef h).cycleEnd

/-! Weights and lengths. -/

/-- A shaper, quantum or weight register as it is in force: the old word while a write waits for a frame boundary (R260). -/
def State.inForce (s : State) (r : Reg) (i : Nat) : Word := (tget none s.shaper (regKey r i)).getD (s.rd r i)

/-- The weight of a queue (R253). -/
def State.queueWeight (s : State) (q : Nat) : Nat :=
  if q < 262144 then wbits (s.ctxOf q).cfg4 15 0
  else Fld.SCH_CLASS_CFG_CQ_WEIGHT.of (s.inForce .SCH_CLASS_CFG (q - 262144))

/-- Every copy of a port that has not ended outside its queues: the candidate and the one in transmission. -/
def State.copiesOut (s : State) : List Copy :=
  (s.cand.filterMap (·.2)) ++ s.tx.filterMap fun e => e.2.bind (·.copy)

/-- The cell count of a queue: its copies from their enqueue until they end (R244). -/
def State.queueCells (s : State) (q : Nat) : Nat :=
  ((s.queue q).map (·.cells)).sum + ((s.copiesOut.filter (·.q == q)).map (·.cells)).sum

/-- The sum of the cell counts of all queues of a class (DOME_CLASS_CELLS, R249). -/
def State.classCells (s : State) (k : Nat) : Nat :=
  (s.queues.map fun e => if s.queueClass e.1 = k then (e.2.map (·.cells)).sum else 0).sum
    + ((s.copiesOut.filter fun c => s.queueClass c.q == k).map (·.cells)).sum

/-- The threshold of a queue of class `k` for a colour (R244). -/
def State.threshold (s : State) (k col : Nat) : Nat :=
  let pct := if col = 0 then 100 else if col = 1 then s.get .DOME_CLASS_CFG_YELLOW_PCT k else s.get .DOME_CLASS_CFG_RED_PCT k
  max (s.get .DOME_CLASS_CFG_MIN_CELLS k) (s.get .DOME_CLASS_CUR_ALPHA k * s.freeCells * pct / 25600)

/-- OP of an edit profile: profile 0 is no edit (R29). -/
def State.editOp (s : State) (e : Nat) : Nat := if e = 0 then 0 else s.get .DOME_EDIT_OP e

/-- Data length of a copy after its edit (R28, R29). -/
def State.editedLength (s : State) (f : DFrame) (edit : Nat) : Nat :=
  if f.noFcs then f.data.length
  else match s.editOp edit with
    | 1 => f.data.length + 4
    | 3 => if f.tagged then f.data.length - 4 else f.data.length
    | _ => f.data.length

/-- Wire length of a copy: the edited data padded to 60 bytes, and its FCS (R28, R103). -/
def State.wireLength (s : State) (f : DFrame) (edit : Nat) : Nat :=
  if f.noFcs then f.data.length else max 60 (s.editedLength f edit) + 4

/-- The counter of rejected copies of a colour on a port (R244). -/
def State.countDrop (s : State) (col p : Nat) : State :=
  match col with
  | 0 => s.inc .DOME_DROP_G_COUNT p
  | 1 => s.inc .DOME_DROP_Y_COUNT p
  | _ => s.inc .DOME_DROP_R_COUNT p

/-- The finish tag of a copy of `wl` joining queue `q` of class `k` on port `p`; none where the tag check rejects it (R253). -/
def State.finishTag (s : State) (p k q wl : Nat) : Option Nat :=
  let v := s.get .SCH_VTIME_V (8 * p + k)
  let waking := (s.queue q).isEmpty && !(match s.candOf p with
    | some c => c.q == q
    | none => false)
  let base := if waking then v else tget 0 s.fLast q
  let f := (base + ceilDiv (wl * 256) (s.queueWeight q)) % 2 ^ 32
  if (f + 2 ^ 32 - v) % 2 ^ 32 < 2 ^ 30 then some f else none

/-- A copy of frame `h` offered to queue `q` with colour `col`: admitted and enqueued with one reference more, or rejected and
counted (R244, R253). The Boolean says whether it was admitted. -/
def State.offer (s : State) (h : Nat) (f : DFrame) (q col edit handle tcls : Nat) : Bool × State :=
  let p := queuePort q
  let k := s.queueClass q
  if s.threshold k col < s.queueCells q + f.cells then
    (false, (s.inc .DOME_CLASS_DROP_COUNT k).countDrop col p)
  else
    let wl := s.wireLength f edit + s.get .SCH_PORT_CFG_OVERHEAD p
    match s.finishTag p k q wl with
    | none => (false, s.inc .SCH_TAG_REJ_COUNT p)
    | some t =>
      let c : Copy := ⟨h, f.cells, q, k, t, wl, s.unit64, edit, handle, tcls, false, none, 0⟩
      let s1 := (s.setQueue q (s.queue q ++ [c])).addRef h f
      (true, { s1 with fLast := tput 0 s1.fLast q t })

/-! Host queues (R34, R245). -/

/-- A host queue. -/
def State.host (s : State) (c : Nat) : List HostItem := tget [] s.hostQ c

/-- The cells that a host queue holds. -/
def State.hostCells (s : State) (c : Nat) : Nat := ((s.host c).map (·.cells)).sum

/-- A ticket image offered to the host queue of channel `c`: admitted under the LIMIT, or rejected and counted (R245). -/
def State.offerHost (s : State) (c h : Nat) (f : DFrame) (image : List Word) : Bool × State :=
  if s.get .DOME_HOST_CFG_LIMIT c < s.hostCells c + f.cells then (false, s.inc .DOME_HOST_DROP_COUNT c)
  else
    let s1 := { s with hostQ := tput [] s.hostQ c (s.host c ++ [HostItem.mk h f.cells image]) }
    (true, s1.addRef h f)

/-! Egress tickets (R25 to R27). -/

/-- DST_PORT and QSEL name no queue: cause 3 for the port, cause 4 for the selector (R26, R30). -/
def State.dstError (s : State) (dst qsel : Nat) : Nat :=
  if dst = 0x7FF then (if qsel < 64 then 0 else 4)
  else if 1040 ≤ dst || !s.present' dst then 3
  else if qsel = 0xFF then 0
  else if isTrunk dst || qsel = 0 then 4
  else 0

/-- The queue of a ticket to a port, and what its choice counts (R26, R227, R252). -/
def State.chooseQueue (s : State) (dst qsel cls : Nat) : Nat × State :=
  if qsel = 0xFF then (classQueue dst cls, s)
  else
    let i := dst * 256 + qsel
    if !(s.ctxOf i).valid then (classQueue dst cls, s.inc .NREG_NODE_GONE_COUNT dst)
    else if !s.nodeQueues dst then (classQueue dst cls, s.inc .SCH_NODEQ_OFF_COUNT dst)
    else (i, s)

/-- The first failing check of an egress ticket, as its cause code; 0 when it passes (R27). `limit` is whether the count may
still rise. -/
def State.ticketError (s : State) (h length dst qsel : Nat) : Nat :=
  match s.frame h with
  | none => 1
  | some f =>
    if f.length ≠ length then 2
    else if s.dstError dst qsel ≠ 0 then s.dstError dst qsel
    else if 4095 ≤ f.refs then 5
    else 0

/-- The ticket image of an egress ticket to the host: the ticket in words 0 to 3 and bit 31 of word 7 (R333). -/
def hostImage (tk : List Word) : List Word := slice (tk ++ [0, 0, 0, 0]) 0 4 ++ [0, 0, 0, 0x80000000#32]

/-- A checked egress ticket is enqueued or rejected (R26, R244, R245). The Boolean says whether it was admitted. -/
def State.enqueueTicket (s : State) (h dst qsel col cls edit handle : Nat) (tk : List Word) : Bool × State :=
  match s.frame h with
  | none => (false, s)
  | some f =>
    if dst = 0x7FF then s.offerHost qsel h f (hostImage tk)
    else
      let r := s.chooseQueue dst qsel cls
      r.2.offer h f r.1 col edit handle cls

end Sys2Proof.Machine
end

