-- ==== Sys2Proof/Machine/Time.lean ====
section
/-! DEFINITION. The time base, timestamps, the phase sources and the gate control lists (R272 to R293). -/
namespace Sys2Proof.Machine

/-! Units: times are in 2^-40 ns, angles in 2^-32 cycle, frequencies in 2^-24 Hz. -/

/-- One nanosecond. -/
def nsUnit : Nat := 2 ^ 40

/-- One second. -/
def secUnit : Nat := 1000000000 * nsUnit

/-- One mains cycle. -/
def cycleUnit : Nat := 2 ^ 32

/-- Indexes at which a register's word is away from its reset value, rising. -/
def State.touched (s : State) (r : Reg) : List Nat :=
  s.regs.filterMap fun e => if e.1 % 512 = r.ctorIdx then some (e.1 / 512) else none

/-- A signed register field of `w` bits. -/
def signed (w v : Nat) : Int := if v < 2 ^ (w - 1) then (v : Int) else (v : Int) - 2 ^ w

/-! Calibration (R277). -/

/-- A factory value: 0 when the fuse read has failed or has not ended (R67, R277). -/
def State.factory (s : State) (k : Nat) : Nat :=
  if s.flag .GLB_BOOT_FUSE_DONE && s.get .GLB_BOOT_FUSE_ERR == 0 then Config.factoryCal s.fuse k % 2 ^ 16 else 0

/-- The calibration slot of a port: one pair for each trunk rate and each field kind. -/
def State.calSlot (s : State) (p : Nat) : Nat := if isTrunk p then 2 * s.rateCode p else 16 + 2 * s.kind p

/-- TPG_FCAL of a port: receive and transmit latency; 0 for an absent port (R277). -/
def State.fcal (s : State) (p : Nat) : Nat × Nat :=
  if s.present' p then (s.factory (s.calSlot p), s.factory (s.calSlot p + 1)) else (0, 0)

/-- The factory delay of a phase input (TPG_PH_FCAL, R278). -/
def State.phFcal (s : State) (a : Nat) : Nat := s.factory (32 + a)

/-- The latency applied to a timestamp of a port, in 1/16 ns: factory value of the port at whose MAC edge the frame passes and
the port's own user offset (R277). -/
def State.latency (s : State) (p : Nat) (tx : Bool) : Int :=
  let f := s.fcal (s.macPort p)
  if tx then (f.2 : Int) + signed 16 (s.get .TPG_UCAL_TX_OFS p) else (f.1 : Int) + signed 16 (s.get .TPG_UCAL_RX_OFS p)

/-- The byte-position correction of R125 at MAC port `m`, in 2^-40 ns. The width of the data word is not stated: the model takes one
byte on every field lane, and on a trunk at most eight, of which the place of the byte is a free value (log 41). -/
def State.byteCorr (s : State) (m : Nat) (tx : Bool) : Int :=
  let d := if isTrunk m then (if tx then s.free % 8 else s.free % 8 + 1) else (if tx then 0 else 1)
  ((8000 * d * nsUnit / s.rateMb m : Nat) : Int)

/-- A corrected reading as a timestamp in nanoseconds modulo 2^64 (R24). -/
def stampOf (t : Int) : Nat := ((t / (nsUnit : Int)) % (2 ^ 64 : Int)).toNat

/-- The receive timestamp taken now for a frame of port `p` (R125, R277). -/
def State.rxStamp (s : State) (p : Nat) : Nat :=
  stampOf ((s.time : Int) - s.byteCorr (s.macPort p) false - s.latency p false * 2 ^ 36)

/-- The time at the transmit timestamp point of a copy of port `p` that starts now (R125, R277). -/
def State.txPoint (s : State) (p : Nat) : Int := (s.time : Int) + s.byteCorr (s.macPort p) true + s.latency p true * 2 ^ 36

/-- The transmit timestamp taken now for a copy of port `p`. -/
def State.txStamp (s : State) (p : Nat) : Nat := stampOf (s.txPoint p)

/-! Phase sources (R278 to R280). -/

/-- STATE codes of TPG_PH_STATUS. -/
def phOff : Nat := 0
def phAcquire : Nat := 1
def phTracking : Nat := 2
def phLocked : Nat := 3
def phHoldover : Nat := 4
def phLost : Nat := 5

/-- A tracking loop. -/
def State.ph (s : State) (a : Nat) : Phase := tget {} s.phase a

/-- The state with a tracking loop set. -/
def State.setPh (s : State) (a : Nat) (x : Phase) : State := { s with phase := tput {} s.phase a x }

/-- STATE of a source. -/
def State.phState (s : State) (a : Nat) : Nat := s.get .TPG_PH_STATUS_STATE a

/-- The angle of a loop at time `t`: θ + f × (t − t_ref) (R279). -/
def Phase.at (x : Phase) (t : Int) : Nat :=
  ((x.theta : Int) + (x.freq : Int) * (t - x.tRef) / (2 ^ 32 * 1000000000)).toNat

/-- The angle of a source at time `t`, whole cycles and fraction; held while the source is OFF (R280). -/
def State.angleAt (s : State) (a : Nat) (t : Int) : Nat := if s.phState a = phOff then (s.ph a).theta else (s.ph a).at t

/-- The running angle of a source. -/
def State.angle (s : State) (a : Nat) : Nat := s.angleAt a s.time

/-- The whole cycles that a source has counted (R280). -/
def State.cycles (s : State) (a : Nat) : Nat := s.angle a / cycleUnit

/-- A source that gate lists follow: LOCKED or HOLDOVER (R280). -/
def State.phGood (s : State) (a : Nat) : Bool := s.phState a == phLocked || s.phState a == phHoldover

/-- The nominal frequency of a source. -/
def State.nominal (s : State) (a : Nat) : Nat := if s.flag .TPG_PH_CFG_NOM a then 60 * 2 ^ 24 else 50 * 2 ^ 24

/-! Gate lists: plans, positions (R282 to R289). -/

/-- STATE codes of TPG_GCL_STATUS. -/
def gclIdle : Nat := 0
def gclPending : Nat := 1
def gclRunning : Nat := 2
def gclFallTime : Nat := 3
def gclFallClosed : Nat := 4
def gclHalted : Nat := 5

/-- STATE of a port's list. -/
def State.gclState (s : State) (n : Nat) : Nat := s.get .TPG_GCL_STATUS_STATE n

/-- A port's gate list. -/
def State.gclOf (s : State) (n : Nat) : Gcl := tget {} s.gcl n

/-- The state with a port's gate list set. -/
def State.setGcl (s : State) (n : Nat) (g : Gcl) : State := { s with gcl := tput {} s.gcl n g }

/-- The operating list (R299). -/
def State.operPlan (s : State) (n : Nat) : GclPlan :=
  { angle := s.flag .TPG_GCL_STATUS_OPER_MODE n, src := s.get .TPG_GCL_STATUS_OPER_SRC n
    base := s.get .TPG_GCL_OPER_LIST_BASE n, len := s.get .TPG_GCL_OPER_LIST_LEN n
    cycle := s.get .TPG_GCL_OPER_CYCLE_CYCLE n
    sec := s.get .TPG_GCL_OPER_BASE_SEC_HI_SEC_HI n * 2 ^ 32 + s.get .TPG_GCL_OPER_BASE_SEC_LO_SEC_LO n
    ns := s.get .TPG_GCL_OPER_BASE_NS_NS n }

/-- The admin list (R299). -/
def State.adminPlan (s : State) (n : Nat) : GclPlan :=
  { angle := s.flag .TPG_GCL_CFG_ADMIN_MODE n, src := s.get .TPG_GCL_CFG_ADMIN_SRC n
    base := s.get .TPG_GCL_ADMIN_LIST_BASE n, len := s.get .TPG_GCL_ADMIN_LIST_LEN n
    cycle := s.get .TPG_GCL_ADMIN_CYCLE_CYCLE n
    sec := s.get .TPG_GCL_ADMIN_BASE_SEC_HI_SEC_HI n * 2 ^ 32 + s.get .TPG_GCL_ADMIN_BASE_SEC_LO_SEC_LO n
    ns := s.get .TPG_GCL_ADMIN_BASE_NS_NS n }

/-- BASE_TIME of a plan. -/
def GclPlan.baseTime (g : GclPlan) : Nat := g.sec * secUnit + g.ns * nsUnit

/-- The length of a plan's cycle in its own fine unit: 2^-40 ns, or 2^-32 mains cycle. -/
def GclPlan.cycleLen (g : GclPlan) : Nat := if g.angle then g.cycle * cycleUnit else g.cycle * nsUnit

/-- Fine units in one interval unit: a nanosecond, or 1/65,536 of a mains cycle. -/
def GclPlan.scale (g : GclPlan) : Nat := if g.angle then 2 ^ 16 else nsUnit

/-- An entry of the gate control memory: GATES and INTERVAL. -/
def State.gateEntry (s : State) (i : Nat) : Nat × Nat := tget (0, 0) s.gmem i

/-- A stretch of a list's cycle: entry index, start, end and gates. -/
structure GclSeg where
  idx : Nat
  lo : Nat
  hi : Nat
  gates : Nat

/-- The stretches of entries `i` to `i + k − 1` from position `pos` on (R285): the last entry holds to the cycle's end, entries at
or after the end are not reached. -/
def State.gclSegs (s : State) (g : GclPlan) : Nat → Nat → Nat → List GclSeg
  | 0, _, _ => []
  | k + 1, i, pos =>
    if g.cycleLen ≤ pos then []
    else
      let e := s.gateEntry (g.base + i)
      let stop := if k = 0 then g.cycleLen else min g.cycleLen (pos + e.2 * g.scale)
      ⟨i, pos, stop, e.1⟩ :: s.gclSegs g k (i + 1) (pos + e.2 * g.scale)

/-- One cycle of a plan. -/
def State.planSegs (s : State) (g : GclPlan) : List GclSeg := s.gclSegs g g.len 0 0

/-- The stretch that holds a position. -/
def segAt (l : List GclSeg) (pos : Nat) : GclSeg := (l.reverse.find? fun x => decide (x.lo ≤ pos)).getD ⟨0, 0, 0, 0⟩

/-- What an angle-mode list's source has run since the list's first start, in 2^-32 cycle (R286). -/
def State.gclRun (s : State) (n : Nat) : Int := (s.angle (s.operPlan n).src : Int) - (s.gclOf n).count0 * cycleUnit

/-- The furthest that the source of an angle-mode list has run: no boundary before it is acted on again (R286). -/
def State.gclHigh (s : State) (n : Nat) : Nat := max (s.gclOf n).high (s.gclRun n).toNat

/-- An angle-mode list follows its source. -/
def State.gclTracks (s : State) (n : Nat) : Bool := (s.operPlan n).angle && s.gclState n != gclFallTime

/-- The position of a port's list in its cycle, in the plan's fine unit (R285, R286, R289). -/
def State.gclPos (s : State) (n : Nat) : Nat :=
  let g := s.operPlan n
  let x := s.gclOf n
  if !g.angle then (((s.time : Int) - g.baseTime) % (g.cycleLen : Int)).toNat
  else if s.gclState n = gclFallTime then
    ((x.fbPos : Int) + (s.nominal g.src : Int) * ((s.time : Int) - x.fbRef) / (2 ^ 32 * 1000000000)).toNat % g.cycleLen
  else (s.gclRun n % (g.cycleLen : Int)).toNat

/-- The position that decides the entry in force: after a backward movement of the angle, the furthest one reached (R286). -/
def State.gclKept (s : State) (n : Nat) : Nat :=
  if s.gclTracks n then s.gclHigh n % (s.operPlan n).cycleLen else s.gclPos n

/-- How far the angle has moved back behind that position (R286). -/
def State.gclBack (s : State) (n : Nat) : Nat := if s.gclTracks n then ((s.gclHigh n : Int) - s.gclRun n).toNat else 0

/-- A length in a plan's fine unit as a time in 2^-40 ns; `fall` says that the list runs in time fallback (R290). -/
def State.toTime (s : State) (fall : Bool) (g : GclPlan) (d : Nat) : Nat :=
  if !g.angle then d
  else
    let f := if fall || !s.phGood g.src then s.nominal g.src else (s.ph g.src).freq
    d * 2 ^ 32 * 1000000000 / f

/-- A length of a port's operating list as a time. -/
def State.operTime (s : State) (n d : Nat) : Nat := s.toTime (s.gclState n == gclFallTime) (s.operPlan n) d

/-- Where class `k` next closes after position `pos`: through the rest of this cycle and the whole of the next (R290). -/
def closesAt (l : List GclSeg) (len pos k : Nat) : Option Nat :=
  let two := l ++ l.map fun x => { x with lo := x.lo + len, hi := x.hi + len }
  (two.find? fun x => decide (pos < x.lo) && decide (x.lo < x.hi) && !x.gates.testBit k).map (·.lo - pos)

/-- The least start `base + m × cycle` with whole `m ≥ 0` at or after `b` (R287). -/
def firstStart (base cycle : Nat) (b : Int) : Int :=
  if b ≤ base then base else (base : Int) + (b - base + cycle - 1) / cycle * cycle

/-- The time from now until B of a pending list. -/
def State.untilB (s : State) (n : Nat) (p : GclPend) : Nat :=
  match p.bCount with
  | some c => s.operTime n (c * cycleUnit - s.angle (s.operPlan n).src)
  | none => (p.bTime - s.time).toNat

/-- The time from now until T of a pending list (R287). -/
def State.untilT (s : State) (n : Nat) (p : GclPend) : Nat :=
  let b := s.untilB n p
  if !p.plan.angle then (firstStart p.plan.baseTime p.plan.cycleLen ((s.time : Int) + b) - s.time).toNat
  else if !s.phGood p.plan.src || (p.bCount.isSome && (s.operPlan n).src == p.plan.src) then b
  else
    let a := (s.ph p.plan.src).at ((s.time : Int) + b)
    b + (ceilDiv a cycleUnit * cycleUnit - a) * 2 ^ 32 * 1000000000 / (s.ph p.plan.src).freq

/-- An angle-mode plan whose source it cannot follow, with FALLBACK closed: it closes every gate at its start (R289). -/
def State.startsClosed (s : State) (n : Nat) (g : GclPlan) : Bool :=
  g.angle && !s.phGood g.src && s.flag .TPG_GCL_CFG_FALLBACK n

/-- The open window of class `k` on port `n` from now on, in 2^-40 ns; none for an unlimited one (R290). -/
def State.window (s : State) (n k : Nat) : Option Nat :=
  let st := s.gclState n
  let g := s.operPlan n
  let now := if st = gclRunning ∨ st = gclFallTime then
      (closesAt (s.planSegs g) g.cycleLen (s.gclKept n) k).map fun d => s.operTime n (d + s.gclBack n)
    else none
  match (s.gclOf n).pend with
  | none => now
  | some p =>
    let t := s.untilT n p
    match now.filter (fun w => decide (w < t)) with
    | some w => some w
    | none =>
      if s.startsClosed n p.plan then some t
      else ((s.planSegs p.plan).find? fun x => decide (x.lo < x.hi) && !x.gates.testBit k).map fun x =>
        t + s.toTime false p.plan x.lo

/-- The gate of class `k` is open on port `n` (R283). -/
def State.gateOpen (s : State) (n k : Nat) : Bool := (s.get .TPG_GCL_STATUS_GATES n).testBit k

/-- A copy of wire length `wl` of class `k` fits the open window of port `n` (R290). -/
def State.fits (s : State) (n k wl : Nat) : Bool :=
  s.gateOpen n k &&
    (match s.window n k with
     | none => true
     | some w => decide ((8 + wl) * 8000 * nsUnit + s.get .TPG_GCL_CFG_GUARD n * nsUnit * s.rateMb n ≤ w * s.rateMb n))

/-! Gate changes. -/

/-- The gates of a port take new states; copies in transmission whose gate closes are counted (R291). -/
def State.setGates (s : State) (n g : Nat) : State :=
  let closed := andNot (s.get .TPG_GCL_STATUS_GATES n) g
  let cut := s.tx.filter fun e => match e.2 with
    | some t => t.owner == n && t.copy.isSome && closed.testBit t.cls
    | none => false
  (s.put .TPG_GCL_STATUS_GATES n g).add .TPG_GCL_OVERRUN_COUNT n cut.length

/-- STATE of a port's list set. -/
def State.setGclState (s : State) (n v : Nat) : State := s.put .TPG_GCL_STATUS_STATE n v

/-- An entry of the running list applied (R285). -/
def State.applyEntry (s : State) (n : Nat) (x : GclSeg) : State :=
  ((s.setGcl n { s.gclOf n with idx := x.idx }).put .TPG_GCL_ENTRY_INDEX n (s.get .TPG_GCL_OPER_LIST_BASE n + x.idx)).setGates n x.gates

/-- The port's bit of TPG_GCL_DONE is set, which raises the gate-list source (R299). -/
def State.gclDone (s : State) (n : Nat) : State :=
  (s.put .TPG_GCL_DONE_DONE (n / 32) (orBit (s.get .TPG_GCL_DONE_DONE (n / 32)) (n % 32))).pulse 1448

/-- An uncorrectable error in entry `i` of a running list (R293). -/
def State.gclHalt (s : State) (n i : Nat) : State :=
  (((s.setGclState n gclHalted).setGates n 0).put .TPG_GCL_ENTRY_INDEX n i).memFault 0xA i

/-- A running list reads and applies an entry, or halts on it; `bad`: the entries of the gate control memory that read with an
uncorrectable error (R285, R293). -/
def State.takeEntry (s : State) (n : Nat) (x : GclSeg) (bad : List Nat) : State :=
  let i := s.get .TPG_GCL_OPER_LIST_BASE n + x.idx
  if bad.contains i then s.gclHalt n i else s.applyEntry n x

/-- A running list takes the entry that its position gives; in angle mode the entries jumped over count as skipped (R285, R286). -/
def State.gclFollow (s : State) (n : Nat) (bad : List Nat) : State :=
  let g := s.operPlan n
  let l := s.planSegs g
  let x := segAt l (s.gclKept n)
  let old := s.gclOf n
  if s.gclTracks n then
    let high := s.gclHigh n
    let ord := fun (h i : Nat) => h / g.cycleLen * l.length + i
    let jumped := ord high x.idx - ord old.high old.idx - 1
    ((s.setGcl n { old with high := high }).add .TPG_GCL_SKIP_COUNT n jumped).takeEntry n x bad
  else s.takeEntry n x bad

/-- An angle-mode list enters fallback (R289). -/
def State.enterFallback (s : State) (n : Nat) : State :=
  if s.flag .TPG_GCL_CFG_FALLBACK n then (s.setGclState n gclFallClosed).setGates n 0
  else
    let pos := s.gclPos n
    (s.setGcl n { s.gclOf n with fbRef := s.time, fbPos := pos }).setGclState n gclFallTime

/-- The ports whose running list follows a source. -/
def State.followers (s : State) (a : Nat) : List Nat :=
  (s.touched .TPG_GCL_STATUS).filter fun n =>
    s.gclState n == gclRunning && s.flag .TPG_GCL_STATUS_OPER_MODE n && s.get .TPG_GCL_STATUS_OPER_SRC n == a

/-- Every running list of a source that is no longer followed enters fallback (R289). -/
def State.fallbackAll (s : State) (a : Nat) : State := s.each (s.followers a) State.enterFallback

/-! Starts and changes (R287, R288). -/

/-- The first cause for which a plan is refused; 0 for none (R288). -/
def GclPlan.refusal (g : GclPlan) : Nat :=
  if g.len = 0 ∨ 4096 < g.len ∨ 65536 < g.base + g.len then 1
  else if (!g.angle && decide (g.cycle < 1000)) || (g.angle && (decide (g.cycle = 0) || decide (16 < g.cycle))) then 2
  else if 1000000000 ≤ g.ns then 3
  else 0

/-- A start or change refused (R288). -/
def State.gclRefuse (s : State) (n cause : Nat) : State :=
  ((s.put .TPG_GCL_STATUS_CHANGE_ERR n 1).put .TPG_GCL_STATUS_ERR_CAUSE n cause).gclDone n

/-- B of a change: the next cycle boundary of the running list, as a time or as a cycle count of its source (R287). -/
def State.nextBoundary (s : State) (n : Nat) : Int × Option Nat :=
  let g := s.operPlan n
  let st := s.gclState n
  if st = gclFallTime ∨ (st = gclRunning ∧ !g.angle) then
    ((s.time : Int) + s.operTime n (g.cycleLen - s.gclPos n), none)
  else if st = gclRunning then
    let x := s.gclOf n
    (0, some (x.count0 + (s.gclHigh n / g.cycleLen + 1) * g.cycle))
  else (s.time, none)

/-- A validated plan waits for T (R287). -/
def State.gclSchedule (s : State) (n : Nat) (g : GclPlan) : State :=
  let b := s.nextBoundary n
  (s.setGcl n { s.gclOf n with pend := some ⟨g, b.1, b.2⟩ }).put .TPG_GCL_STATUS_CHANGE_PEND n 1

/-- EN written 0 (R287). -/
def State.gclStop (s : State) (n : Nat) : State :=
  let s1 := (s.put .TPG_GCL_CFG_EN n 0).setGcl n {}
  ((((s1.setGclState n gclIdle).put .TPG_GCL_STATUS_CHANGE_PEND n 0).put .TPG_GCL_ENTRY_INDEX n 0)).setGates n 0xFF

/-- CHANGE written (R287, R288): ignored while EN is 0, in IDLE, and while the list is HALTED. -/
def State.gclChange (s : State) (n : Nat) : State :=
  if !s.flag .TPG_GCL_CFG_EN n || s.gclState n == gclIdle || s.gclState n == gclHalted then s
  else
    let g := s.adminPlan n
    if g.refusal ≠ 0 then s.gclRefuse n g.refusal
    else if s.flag .TPG_GCL_STATUS_CHANGE_PEND n then s.gclRefuse n 4
    else s.gclSchedule n g

/-- The operating registers take a plan (R299). -/
def State.setOper (s : State) (n : Nat) (g : GclPlan) : State :=
  (((((((s.putFlag .TPG_GCL_STATUS_OPER_MODE n g.angle).put .TPG_GCL_STATUS_OPER_SRC n g.src).put .TPG_GCL_OPER_LIST_BASE n
    g.base).put .TPG_GCL_OPER_LIST_LEN n g.len).put .TPG_GCL_OPER_CYCLE_CYCLE n g.cycle).put .TPG_GCL_OPER_BASE_NS_NS n
    g.ns).put .TPG_GCL_OPER_BASE_SEC_LO_SEC_LO n g.sec).put .TPG_GCL_OPER_BASE_SEC_HI_SEC_HI n (g.sec / 2 ^ 32)

/-- T is reached: the pending list starts at its entry 0 (R287, R289). -/
def State.gclListStart (s : State) (n : Nat) (bad : List Nat) : State :=
  match (s.gclOf n).pend with
  | none => s
  | some p =>
    if s.gclState n = gclHalted then s
    else
      let closed := s.startsClosed n p.plan
      let st := if closed then gclFallClosed else if p.plan.angle && !s.phGood p.plan.src then gclFallTime else gclRunning
      let s1 := (s.setOper n p.plan).setGcl n { count0 := s.cycles p.plan.src, fbRef := s.time }
      let s2 := ((s1.put .TPG_GCL_STATUS_CHANGE_PEND n 0).setGclState n st).gclDone n
      if closed then (s2.put .TPG_GCL_ENTRY_INDEX n p.plan.base).setGates n 0
      else s2.takeEntry n (segAt (s2.planSegs p.plan) 0) bad

/-- EN written 1 (R287, R288): a start while the list is IDLE, and nothing otherwise. The port leaves low-power idle (R123), and a list
whose T is the cycle of the write starts at once. -/
def State.gclStart (s : State) (n : Nat) (bad : List Nat) : State :=
  let s1 := s.put .TPG_GCL_CFG_EN n 1
  if s1.gclState n ≠ gclIdle then s1
  else
    let g := s1.adminPlan n
    if g.refusal ≠ 0 then s1.gclRefuse n g.refusal
    else
      let s2 := ((s1.gclSchedule n g).setGclState n gclPending).lpiWake n
      match (s2.gclOf n).pend with
      | some p => if s2.untilT n p = 0 then s2.gclListStart n bad else s2
      | none => s2

/-- A list reaches an entry boundary (R285, R286, R293). -/
def State.gclBoundary (s : State) (n : Nat) (e : Ecc) : State :=
  if s.gclState n = gclRunning ∨ s.gclState n = gclFallTime then
    if e = .uncorr then s.gclHalt n (s.get .TPG_GCL_OPER_LIST_BASE n + (segAt (s.planSegs (s.operPlan n)) (s.gclKept n)).idx)
    else s.gclFollow n []
  else s

/-- The first whole-cycle crossing of a source that is locked again (R289). -/
def State.gclFallbackExit (s : State) (n : Nat) (bad : List Nat) : State :=
  let g := s.operPlan n
  if (s.gclState n = gclFallTime ∨ s.gclState n = gclFallClosed) ∧ s.phGood g.src then
    ((s.setGcl n { s.gclOf n with count0 := s.cycles g.src, high := 0 }).setGclState n gclRunning).takeEntry n
      (segAt (s.planSegs g) 0) bad
  else s

/-! Steps of the time base (R275). -/

/-- The time base takes a new value: the loops' times and the fallback times move by the step, time-mode lists take the position
that the new time gives, and pending lists compute B anew. -/
def State.stepTime (s : State) (t : Nat) (bad : List Nat) : State :=
  let d : Int := (t : Int) - s.time
  let s0 := ({ s with time := t }).each (s.phase.map fun e : Nat × Phase => e.1) fun s a =>
    let x := s.ph a
    s.setPh a { x with tRef := x.tRef + d, tPrev := x.tPrev.map (· + d), lastEdge := x.lastEdge.map (· + d) }
  let s1 := s0.each (s.gcl.map fun e : Nat × Gcl => e.1) fun s n =>
    if s.gclState n = gclFallTime then s.setGcl n { s.gclOf n with fbRef := (s.gclOf n).fbRef + d } else s
  s1.each (s1.touched .TPG_GCL_STATUS) fun s n =>
    let s2 := if s.gclState n = gclRunning ∧ !(s.operPlan n).angle then s.gclFollow n bad else s
    match (s2.gclOf n).pend with
    | none => s2
    | some p =>
      let b := s2.nextBoundary n
      s2.setGcl n { s2.gclOf n with pend := some { p with bTime := b.1, bCount := b.2 } }

/-- SET (R275). -/
def State.timeSet (s : State) (bad : List Nat) : State :=
  s.stepTime ((s.get .TPG_SET_SEC_HI_SEC_HI * 2 ^ 32 + s.get .TPG_SET_SEC_LO_SEC_LO) * secUnit + s.get .TPG_SET_NS_NS * nsUnit) bad

/-- ADJ (R275). -/
def State.timeAdj (s : State) (bad : List Nat) : State :=
  s.stepTime (((s.time : Int) + signed 32 (s.get .TPG_ADJ_ADJ) * nsUnit) % (timeModulus : Int)).toNat bad

/-! The tracking loops (R57, R279, R280). -/

/-- STATE of a source set. -/
def State.setPhState (s : State) (a v : Nat) : State := s.put .TPG_PH_STATUS_STATE a v

/-- The phase-source event (R298). -/
def State.phEvent (s : State) (a : Nat) : State := s.pulse (1440 + a)

/-- TPG_PH_FREQ shows a loop's frequency in mHz, rounded down (log 20). -/
def State.showFreq (s : State) (a : Nat) : State := s.put .TPG_PH_FREQ_FREQ a ((s.ph a).freq * 1000 / 2 ^ 24)

/-- An edge in ACQUIRE or LOST (R279). -/
def State.edgeAcquire (s : State) (a : Nat) (te : Int) : State :=
  let x := s.ph a
  match x.tPrev with
  | none => s.setPh a { x with tPrev := some te }
  | some t0 =>
    let p := te - t0
    if p * 66 < secUnit ∨ (secUnit : Int) < p * 45 then
      (s.setPh a { x with tPrev := some te }).inc .TPG_PH_RANGE_COUNT a
    else
      let f := (secUnit * 2 ^ 24 / p.toNat)
      ((s.setPh a { x with tPrev := some te, freq := f, theta := (x.at te / cycleUnit + 1) * cycleUnit, tRef := te, good := 0 }).setPhState
        a phTracking).showFreq a

/-- An edge in TRACKING, LOCKED or HOLDOVER (R279). -/
def State.edgeTrack (s : State) (a : Nat) (te : Int) : State :=
  let x := s.ph a
  let st := s.phState a
  let thp : Nat := x.at te
  let near := (thp + (cycleUnit / 2 - 1)) / cycleUnit * cycleUnit
  let e : Int := (near : Int) - thp
  if st ≠ phTracking ∧ s.get .TPG_PH_THR_UNLOCK_THR a * 2 ^ 16 < e.natAbs then s.inc .TPG_PH_OUTLIER_COUNT a
  else
    let f : Int := x.freq + e * (2 ^ 32 * 1000000000) / (2 ^ s.get .TPG_PH_CFG_KI_SHIFT a * (te - x.tRef))
    let out := decide (f < 45 * 2 ^ 24) || decide (66 * 2 ^ 24 < f)
    let f' := (max (45 * 2 ^ 24) (min (66 * 2 ^ 24) f)).toNat
    let th := ((thp : Int) + e / 2 ^ s.get .TPG_PH_CFG_KP_SHIFT a).toNat
    let good := if e.natAbs ≤ s.get .TPG_PH_THR_LOCK_THR a * 2 ^ 16 then x.good + 1 else 0
    let s1 := (s.setPh a { x with freq := f', theta := th, tRef := te, good := good, tPrev := some te }).showFreq a
    let s2 := (s1.put .TPG_PH_ERR_ERR a ((e / 2 ^ 16) % 2 ^ 16).toNat).put .TPG_PH_STATUS_MISSES a 0
    let s3 := if out then s2.inc .TPG_PH_RANGE_COUNT a else s2
    if (st = phTracking ∧ s.get .TPG_PH_CFG_LOCK_CNT a ≤ good) ∨ st = phHoldover then (s3.setPhState a phLocked).phEvent a
    else s3

/-- A rising edge of a phase input: a glitch, or accepted, corrected by the input's delay and applied (R57, R278, R279). The running lists
of the source take the entry that holds the new angle (R286). -/
def State.phEdge (s : State) (a : Nat) (bad : List Nat) : State :=
  let x := s.ph a
  let glitch := match x.lastEdge with
    | some t => decide ((s.time : Int) - t < 12000000 * nsUnit)
    | none => false
  if glitch then s.inc .TPG_PH_GLITCH_COUNT a
  else
    let s1 := (s.setPh a { x with lastEdge := some s.time }).inc .TPG_PH_EDGES_COUNT a
    let te : Int := (s.time : Int) - ((s.phFcal a : Int) + signed 32 (s.get .TPG_PH_UCAL_UCAL a)) * 2 ^ 36
    let st := s.phState a
    if st = phOff then s1
    else if st = phAcquire ∨ st = phLost then s1.edgeAcquire a te
    else
      let s2 := s1.edgeTrack a te
      s2.each (s2.followers a) fun s n => s.gclFollow n bad

/-- The source enters LOST (R280, R289). -/
def State.phLose (s : State) (a : Nat) : State :=
  ((((s.setPh a { s.ph a with tPrev := none }).setPhState a phLost).inc .TPG_PH_LOSSES_COUNT a).phEvent a).fallbackAll a

/-- A miss (R280). -/
def State.phMiss (s : State) (a : Nat) : State :=
  let st := s.phState a
  if st = phTracking then (s.setPh a { s.ph a with tPrev := none }).setPhState a phAcquire
  else if st = phLocked then
    if s.get .TPG_PH_CFG_HOLD_CYCLES a = 0 then s.phLose a
    else ((s.setPhState a phHoldover).put .TPG_PH_STATUS_MISSES a 1).phEvent a
  else if st = phHoldover then
    if s.get .TPG_PH_STATUS_MISSES a = s.get .TPG_PH_CFG_HOLD_CYCLES a then s.phLose a
    else s.put .TPG_PH_STATUS_MISSES a (s.get .TPG_PH_STATUS_MISSES a + 1)
  else s

/-- EN written 1 (R280). -/
def State.phEnable (s : State) (a : Nat) : State :=
  let s1 := s.put .TPG_PH_CFG_EN a 1
  if s.phState a ≠ phOff then s1
  else
    ((s1.setPh a { freq := s.nominal a, tRef := s.time, lastEdge := (s.ph a).lastEdge }).setPhState a phAcquire).showFreq a

/-- EN written 0 (R280): angle and count are held; lists that follow the source run in fallback (R289). -/
def State.phDisable (s : State) (a : Nat) : State :=
  let s1 := s.put .TPG_PH_CFG_EN a 0
  if s.phState a = phOff then s1
  else ((s1.fallbackAll a).setPh a { s.ph a with theta := s.angle a, tRef := s.time }).setPhState a phOff

/-! The rows. -/

/-- TPG_INCR_LO_WRITE (R273). -/
def execTpgIncrLoWrite (w : Word) (s : State) : Host.Outcome State Fault Refusal :=
  runSoft 11 (fun s => { s with incrHeld := some w }) s

/-- The pair taken into TIME_INCR, or discarded (R273). -/
def State.incrHi (s : State) (w : Word) : State :=
  let lo := (s.incrHeld.getD (s.rd .TPG_INCR_LO)).toNat
  let v := wbits w 15 0 * 2 ^ 32 + lo
  let s1 := { s with incrHeld := none }
  if v < 0x008000000000 ∨ 0x014000000000 < v then s1
  else (s1.put .TPG_INCR_LO_INCR_LO 0 lo).put .TPG_INCR_HI_INCR_HI 0 (wbits w 15 0)

/-- TPG_INCR_HI_WRITE (R273). -/
def execTpgIncrHiWrite (w : Word) (s : State) : Host.Outcome State Fault Refusal := runSoft 11 (fun s => s.incrHi w) s

/-- A read of TPG_TIME_FRAC copies the seconds and nanoseconds into the shadows (R274). -/
def State.fracRead (s : State) : State :=
  let sec := s.ns / 1000000000
  ((s.put .TPG_TIME_NS_NS 0 (s.ns % 1000000000)).put .TPG_TIME_SEC_LO_SEC_LO 0 sec).put .TPG_TIME_SEC_HI_SEC_HI 0 (sec / 2 ^ 32)

/-- FRAC of the time base (R272). -/
def State.timeFrac (s : State) : Nat := (s.time >>> 24) % 2 ^ 16

/-- TIME_SET (R275). -/
def execTimeSet (bad : List Nat) (s : State) : Host.Outcome State Fault Refusal := runSoft 11 (fun s => s.timeSet bad) s
/-- TIME_ADJ (R275). -/
def execTimeAdj (bad : List Nat) (s : State) : Host.Outcome State Fault Refusal := runSoft 11 (fun s => s.timeAdj bad) s

/-- A write of TPG_CLKCMP with GO (R276). -/
def State.clkcmp (s : State) (w : Word) : State :=
  let win := wbits w 4 0
  let s1 := if 10 ≤ win ∧ win ≤ 27 then s.put .TPG_CLKCMP_WINDOW_LOG2 0 win else s
  let s2 := if wbit w 30 then s1.put .TPG_CLKCMP_DONE 0 0 else s1
  if wbit w 31 then { s2 with clkRun := true } else s2

/-- CLKCMP_GO (R276). -/
def execClkcmpGo (w : Word) (s : State) : Host.Outcome State Fault Refusal := runSoft 11 (fun s => s.clkcmp w) s

/-- CLKCMP_DONE (R276): the count that the two clocks gave. -/
def execClkcmpDone (count : Word) (s : State) : Host.Outcome State Fault Refusal :=
  run 11 (fun s => if s.clkRun then
      (({ s with clkRun := false }).wr .TPG_CLKCMP_COUNT 0 count).put .TPG_CLKCMP_DONE 0 1 else s) s

/-- PHREF_EDGE. -/
def execPhrefEdge (a : Nat) (bad : List Nat) (s : State) : Host.Outcome State Fault Refusal :=
  runOn 2 a 11 (fun s => s.phEdge a bad) s
/-- PHASE_MISS. -/
def execPhaseMiss (a : Nat) (s : State) : Host.Outcome State Fault Refusal := runOn 2 a 11 (fun s => s.phMiss a) s
/-- PHASE_ENABLE. -/
def execPhaseEnable (a : Nat) (s : State) : Host.Outcome State Fault Refusal := runSoftOn 2 a 11 (fun s => s.phEnable a) s
/-- PHASE_DISABLE. -/
def execPhaseDisable (a : Nat) (s : State) : Host.Outcome State Fault Refusal := runSoftOn 2 a 11 (fun s => s.phDisable a) s

/-- TPG_PH_STATUS with the running angle in it (R298). -/
def State.phStatus (s : State) (a : Nat) : Word :=
  Fld.TPG_PH_STATUS_ANGLE.into (s.rd .TPG_PH_STATUS a) (s.angle a / 2 ^ 16)

/-- The count copied into its shadow by a read of TPG_PH_STATUS (R298). -/
def State.phRead (s : State) (a : Nat) : State := s.put .TPG_PH_CYCLES_CYCLES a (s.cycles a)

/-- GCL_START. -/
def execGclStart (n : Nat) (bad : List Nat) (s : State) : Host.Outcome State Fault Refusal :=
  runSoftOn 1040 n 11 (fun s => s.gclStart n bad) s
/-- GCL_STOP. -/
def execGclStop (n : Nat) (s : State) : Host.Outcome State Fault Refusal := runSoftOn 1040 n 11 (fun s => s.gclStop n) s
/-- GCL_CHANGE. -/
def execGclChange (n : Nat) (s : State) : Host.Outcome State Fault Refusal := runSoftOn 1040 n 11 (fun s => s.gclChange n) s
/-- GCL_LIST_START. -/
def execGclListStart (n : Nat) (bad : List Nat) (s : State) : Host.Outcome State Fault Refusal :=
  runOn 1040 n 11 (fun s => s.gclListStart n bad) s
/-- GCL_ENTRY_BOUNDARY. -/
def execGclEntryBoundary (n : Nat) (e : Ecc) (s : State) : Host.Outcome State Fault Refusal :=
  runOn 1040 n 11 (fun s => s.gclBoundary n e) s
/-- GCL_FALLBACK_EXIT. -/
def execGclFallbackExit (n : Nat) (bad : List Nat) (s : State) : Host.Outcome State Fault Refusal :=
  runOn 1040 n 11 (fun s => s.gclFallbackExit n bad) s

end Sys2Proof.Machine
end

