-- ==== Sys2Proof/Machine/Check.lean ====
section
/-! DEFINITION. The check-value units' computation and their flow actions (R340 to R343). -/
namespace Sys2Proof.Machine

/-- A number of `w` bits reflected. -/
def reflect : Nat → Nat → Nat
  | 0, _ => 0
  | w + 1, n => (if n.testBit 0 then 2 ^ w else 0) + reflect w (n / 2)

/-- Width of a unit (R340). -/
def State.chkWidth (s : State) (u : Nat) : Nat := s.get .CHK_CFG_WIDTH_M1 u + 1

/-- A 64-bit parameter of a unit cut to its width. -/
def State.chkParam (s : State) (lo hi : Reg) (u : Nat) : Nat := s.count64 lo hi u % 2 ^ s.chkWidth u

/-- One bit of the computation (R340). -/
def chkBit (w poly r : Nat) (b : Bool) : Nat :=
  let fb := r.testBit (w - 1) != b
  let r1 := (2 * r) % 2 ^ w
  if fb then r1 ^^^ poly else r1

/-- One byte of the computation (R340). -/
def chkByte (w poly : Nat) (refin : Bool) (r : Nat) (b : Byte) : Nat :=
  let v := if refin then reflect 8 b.toNat else b.toNat
  (List.range 8).foldl (fun r i => chkBit w poly r (v.testBit (7 - i))) r

/-- The running value after some bytes (R340). -/
def State.chkRun (s : State) (u r : Nat) (l : List Byte) : Nat :=
  l.foldl (chkByte (s.chkWidth u) (s.chkParam .CHK_POLY_LO .CHK_POLY_HI u) (s.flag .CHK_CFG_REFIN u)) r

/-- The check of a running value (R340). -/
def State.chkOut (s : State) (u r : Nat) : Nat :=
  (if s.flag .CHK_CFG_REFOUT u then reflect (s.chkWidth u) r else r) ^^^ s.chkParam .CHK_XOR_LO .CHK_XOR_HI u

/-- Bytes of a unit's check (R341). -/
def State.chkLen (s : State) (u : Nat) : Nat := ceilDiv (s.chkWidth u) 8

/-- A check as bytes in the unit's order (R341). -/
def State.chkBytes (s : State) (u v : Nat) : List Byte :=
  if s.flag .CHK_CFG_BYTE_ORDER u then leBytes (s.chkLen u) v else beBytes (s.chkLen u) v

/-- The value in a check field, its low bits (R341). -/
def State.chkField (s : State) (u : Nat) (l : List Byte) : Nat :=
  (if s.flag .CHK_CFG_BYTE_ORDER u then leNat l else beNat l) % 2 ^ s.chkWidth u

/-- The initial value of a unit. -/
def State.chkInit (s : State) (u : Nat) : Nat := s.chkParam .CHK_INIT_LO .CHK_INIT_HI u

/-- Region start, region length and check field start in `n` data bytes, the start moved by `up` and `down`; none where the
region or the field does not lie within the data (R342). -/
def State.chkRegion (s : State) (u n up down : Nat) : Option (Nat × Nat × Nat) :=
  let ofs := s.get .CHK_REGION_REGION_OFS u + up - down
  let len := s.get .CHK_REGION_REGION_LEN u
  let c := s.chkLen u
  let field := if len = 0 then n - c else ofs + len
  if n < field + c ∨ field < ofs then none else some (ofs, field - ofs, field)

/-- One more check computed or compared (CHK_DONE). -/
def State.chkDone (s : State) (u : Nat) : State := s.add64 .CHK_DONE_LO .CHK_DONE_HI u 1

/-- A flow action on a copy's data (R343): the data after it, whether the FCS stays good, and the state. A region that would begin
below 14, or that the data does not hold, makes the action skip. -/
def State.chkFlow (s : State) (op u up down : Nat) (d : List Byte) : List Byte × Bool × State :=
  if op = 0 then (d, true, s)
  else match (s.chkRegion u d.length up down).filter fun x => decide (14 ≤ x.1) with
    | none => (d, true, s.inc .CHK_SKIP_COUNT u)
    | some (ofs, len, field) =>
      let v := s.chkOut u (s.chkRun u (s.chkInit u) (slice d ofs len))
      if op = 1 then (splice d field (s.chkBytes u v), true, s.chkDone u)
      else if s.chkField u (slice d field (s.chkLen u)) = v then (d, true, s.chkDone u)
      else (d, !s.flag .CHK_CFG_FAIL_ACT u, ((s.chkDone u).inc .CHK_FAIL_COUNT u).pulse (1408 + u))

end Sys2Proof.Machine
end

