-- ==== Sys2Proof/Machine/Transmit.lean ====
section
/-! DEFINITION. The transmission of a copy: edit, stamp, check value, padding, E-TAG and FCS; the end of copies (R28, R29, R31,
R94, R96, R103, R126, R153, R157, R228, R247, R294, R295). -/
namespace Sys2Proof.Machine

/-- A frame has an outer VLAN tag (R29). -/
def hasTag (d : List Byte) : Bool := let t := beAt d 12 2; t == 0x8100 || t == 0x88A8 || t == 0x9100

/-- The tag that an edit profile pushes (R29). -/
def State.pushedTag (s : State) (e handle cls : Nat) : List Byte :=
  let tpid := match s.get .DOME_EDIT_TPID_SEL e with
    | 1 => 0x88A8
    | 2 => 0x9100
    | _ => 0x8100
  let pcp := if s.flag .DOME_EDIT_PCP_FROM_CLASS e then cls else s.get .DOME_EDIT_PCP e
  beBytes 2 tpid ++ beBytes 2 (pcp <<< 13 ||| s.get .DOME_EDIT_DEI e <<< 12 ||| handle)

/-- The data of a copy after its edit (R28, R29). A replaced tag takes the class as its PCP where PCP_FROM_CLASS is 1, and keeps its own
where it is 0: which PCP it then has, the manual leaves open (log 44). -/
def State.editData (s : State) (e handle cls : Nat) (d : List Byte) : List Byte :=
  match s.editOp e with
  | 1 => slice d 0 12 ++ s.pushedTag e handle cls ++ d.drop 12
  | 2 =>
    if hasTag d then
      let old := beAt d 14 2
      let pcp := if s.flag .DOME_EDIT_PCP_FROM_CLASS e then cls else old / 2 ^ 13
      splice d 14 (beBytes 2 (pcp <<< 13 ||| bits old 12 12 <<< 12 ||| handle))
    else d
  | 3 => if hasTag d then slice d 0 12 ++ d.drop 16 else d
  | _ => d

/-- How far an edit moves positions behind the addresses: up, and down (R295). -/
def State.editShift (s : State) (e : Nat) (d : List Byte) : Nat × Nat :=
  match s.editOp e with
  | 1 => (4, 0)
  | 3 => if hasTag d then (0, 4) else (0, 0)
  | _ => (0, 0)

/-- The eight bytes of the phase stamp of a copy of port `p` that starts now, at its transmit timestamp point (R294). -/
def State.stampBytes (s : State) (p : Nat) : List Byte :=
  let a := s.get .TPG_STAMP_CFG_SRC
  let x := s.angleAt a (s.txPoint p)
  beBytes 4 (x / cycleUnit) ++ beBytes 2 (x / 2 ^ 16 % 2 ^ 16) ++ [byte (a <<< 7 ||| s.phState a <<< 4), 0]

/-- The stamp written into a copy's data, or skipped (R295). -/
def State.stampCopy (s : State) (p o up down : Nat) (d : List Byte) : List Byte × State :=
  if (down = 4 ∧ o < 16) ∨ d.length < o + up - down + 8 then (d, s.inc .TPG_STAMP_SKIP_COUNT)
  else (splice d (o + up - down) (s.stampBytes p), s)

/-- The E-TAG of a copy to an extended field port (R153). -/
def State.etagBytes (s : State) (p cls : Nat) : List Byte :=
  beBytes 2 0x893F ++ beBytes 2 (cls <<< 13) ++ beBytes 2 (wbits (s.slotWords (s.extOf p)).2 11 0 + s.target p % 16) ++ [0, 0]

/-- The FCS of some bytes as it is sent, least significant byte first (R96). -/
def fcsBytes (d : List Byte) : List Byte := leBytes 4 (crc32 d)

/-- What is sent for a copy of frame `f` on port `p`: the bytes with their FCS, whether the FCS is good, the octets that count. -/
def State.build (s : State) (p : Nat) (c : Copy) (f : DFrame) : List Byte × Bool × Nat × State :=
  if f.noFcs then
    let b := if s.extended p then slice f.data 0 12 ++ s.etagBytes p c.tcls ++ f.data.drop 12 else f.data
    (b, true, f.data.length, s)
  else
    let d0 := s.editData c.edit c.handle c.tcls f.data
    let sh := s.editShift c.edit f.data
    let r1 := match f.stamp with
      | some o => s.stampCopy p o sh.1 sh.2 d0
      | none => (d0, s)
    let r2 := r1.2.chkFlow f.chkOp f.chkUnit sh.1 sh.2 r1.1
    let d := r2.1 ++ List.replicate (60 - r2.1.length) 0
    let b := if s.extended p then slice d 0 12 ++ s.etagBytes p c.tcls ++ d.drop 12 else d
    (b ++ fcsBytes b, r2.2.1, d.length + 4, r2.2.2)

/-! The end of copies. -/

/-- A copy ends: its reference is released, and a waiting inject descriptor learns how (R31, R334). -/
def State.endCopy (s : State) (c : Copy) (sent : Option Nat) : State :=
  (match s.frame c.head with
   | some f => s.injEnded f sent
   | none => s).deref c.head

/-- A copy that may not be sent at its length ends and is counted (R103). -/
def State.oversizeCopy (s : State) (p : Nat) (c : Copy) : Bool :=
  match s.frame c.head with
  | some f => decide (s.maxFrame p < s.wireLength f c.edit)
  | none => false

/-- The wire length of a copy (R103); one whose frame is gone keeps the length of its enqueue. -/
def State.copyWire (s : State) (p : Nat) (c : Copy) : Nat :=
  match s.frame c.head with
  | some f => s.wireLength f c.edit
  | none => c.wl - s.get .SCH_PORT_CFG_OVERHEAD p

/-- Alignment of frame starts on a trunk: 4 bytes at 10 and 25 Gb/s, 8 at 50 and 100 Gb/s (R94). -/
def State.startAlign (s : State) (p : Nat) : Nat := if s.rateCode p = 1 ∨ s.rateCode p = 2 then 4 else 8

/-- The gap before the next frame and the deficit count after it (R94). -/
def nextGap (a p d : Nat) : Nat × Nat :=
  let r := (p + 12) % a
  if r = 0 then (12, d) else if d + r ≤ a - 1 then (12 - r, d + r) else (12 + (a - r), d - (a - r))

/-- The MAC of port `m` at the start of a frame of `n` bytes: the gap chosen and the stream position after it (R94). On 1 Gb/s trunks
and field lanes the gap is 12 bytes, or as much more as no frame was ready. -/
def State.startGap (s : State) (m n : Nat) : State :=
  let x := s.macOf m
  if !isTrunk m || s.rateCode m == 0 then s.setMac m { x with gap := 12, endAt := none }
  else
    let a := s.startAlign m
    let g := if x.endAt = some s.now then nextGap a x.pos x.deficit else (12 + (a - (x.pos + 12) % a) % a, x.deficit)
    s.setMac m { x with deficit := g.2, gap := g.1, pos := (x.pos + g.1 + 8 + n) % 8, endAt := none }

/-- A transmission begins on MAC port `m`. -/
def State.begin (s : State) (m : Nat) (t : Tx) : State := (s.startGap m t.bytes.length).setTx m (some t)

/-- The transmission of copy `c` of port `p` begins at MAC port `m`. A copy whose frame is gone carries free bytes (log 1). -/
def State.startCopy (s : State) (m p : Nat) (c : Copy) : State :=
  match s.frame c.head with
  | some f =>
    let r := s.build p c f
    let t : Tx := { copy := some c, bytes := r.1, good := r.2.1, cls := c.cls, octets := r.2.2.1, owner := p }
    match f.inject with
    | some (_, _, true) => (r.2.2.2.used).begin m { t with ts := s.txStamp p }
    | _ => r.2.2.2.begin m t
  | none =>
    let n := c.wl - s.get .SCH_PORT_CFG_OVERHEAD p
    let b := s.freeBytes (n - 4)
    s.used.begin m { copy := some c, bytes := b ++ fcsBytes b, good := true, cls := c.cls, octets := n, owner := p }

/-- Bytes with their last four inverted: an inverted FCS (R247, R343). -/
def invertFcs (b : List Byte) : List Byte := b.take (b.length - 4) ++ (b.drop (b.length - 4)).map fun x => ~~~ x

/-- The Dome errors that a transmitted copy meets: the FCS is inverted and the error counted (R247). -/
def State.domeRead (s : State) (h : Nat) (e : Ecc) : Bool × State :=
  match s.eccOf 1 h e with
  | .ok => (true, s)
  | .corr => (true, s.inc .DOME_ECC_CORR_COUNT)
  | .uncorr => (false, (s.inc .DOME_ECC_UNCORR_COUNT).memFault 1 h)

/-- The counters of a frame sent on MAC port `m`. -/
def State.countSent (s : State) (m octets : Nat) : State :=
  (s.add64 .MAC_TX_FRAMES_LO .MAC_TX_FRAMES_HI m 1).add64 .MAC_TX_OCTETS_LO .MAC_TX_OCTETS_HI m octets

/-- A node counter raised by a copy sent from the node's queue (R228). -/
def State.countNodeTx (s : State) (c : Copy) (octets : Nat) : State :=
  if c.q < 262144 then
    let add := fun (s : State) (j n : Nat) =>
      ({ s with nodeCnt := tput 0 s.nodeCnt (4 * c.q + j) ((tget 0 s.nodeCnt (4 * c.q + j) + n) % 2 ^ 64) }).memWrite 6 c.q
    add (add s 2 1) 3 octets
  else s

/-- The transmission on MAC port `m` has sent its last byte: the frame is on the wire, counted, and its copy ends (R31, R126).
In near-end loopback nothing reaches the medium (R111). -/
def State.sendDone (s : State) (m : Nat) (t : Tx) (e : Ecc) : State :=
  let r := match t.copy with
    | some c => s.domeRead c.head e
    | none => (true, s)
  let good := t.good && r.1
  let bytes := if good then t.bytes else invertFcs t.bytes
  let s1 := r.2.onWire m bytes good
  let s2 := (s1.txenEdge (s1.setTx m none) m).countSent m t.octets
  let s3 := if t.ctrl = 1 then s2.inc .MAC_TX_PAUSE_COUNT m else if t.ctrl = 2 then s2.inc .MAC_TX_PFC_COUNT m else s2
  let s4 := { s3 with spiRun := tput 0 s3.spiRun m 0 }.setMac m { s3.macOf m with endAt := some s3.now }
  match t.copy with
  | some c => (s4.countNodeTx c t.octets).endCopy c (some t.ts)
  | none => s4

end Sys2Proof.Machine
end

