-- ==== Sys2Proof/Machine/Scheduler.lean ====
section
/-! DEFINITION. The egress scheduler: eligibility, the choice of a copy, candidates, shapers; and Oculus (R251 to R271). -/
namespace Sys2Proof.Machine

/-! Eligibility (R254) and the head of a class (R257). -/

/-- Two tags compared as signed 32-bit differences from `v`: a number that rises with f − v (R257). -/
def tagRank (v f : Nat) : Nat := (f + 2 ^ 32 + 2 ^ 31 - v) % 2 ^ 32

/-- The queues of class `k` on port `p` that hold a copy and take part in the choice, by number (R257). -/
def State.classQueues (s : State) (p k : Nat) : List (Nat × Copy) :=
  s.queues.filterMap fun e =>
    match e.2 with
    | [] => none
    | c :: _ =>
      let nodeQ := decide (e.1 < 262144)
      let held := nodeQ && !isTrunk p && s.kind p == 0 && s.get .SEG_STATUS_STATE p == segService
        && e.1 % 256 != s.get .SEG_CFG_SERVICE_NODE p
      if queuePort e.1 = p ∧ s.queueClass e.1 = k ∧ (!nodeQ || s.nodeQueues p) ∧ !held then some (e.1, c) else none

/-- The head copy with the least tag, the lower queue number among equals (R257). -/
def State.wfqHead (s : State) (p k : Nat) : Option (Nat × Copy) :=
  let v := s.get .SCH_VTIME_V (8 * p + k)
  (s.classQueues p k).foldl (fun best x =>
    match best with
    | none => some x
    | some b => if tagRank v x.2.tag < tagRank v b.2.tag then some x else some b) none

/-- Port `p` may send at all: enabled, with its link up and no pause in force (R254). -/
def State.mayStart (s : State) (p : Nat) : Bool := s.enabled p && s.link p && !s.flag .MAC_STATUS_RX_PAUSED p

/-- Class `k` of port `p` may send: not paused, and its credit is not negative where its shaper is on (R254, R259). -/
def State.classMay (s : State) (p k : Nat) : Bool :=
  !(s.get .MAC_STATUS_RX_PFC_PAUSED p).testBit k
    && (!wbit (s.inForce .SCH_CLASS_CFG (8 * p + k)) 31 || decide (0 ≤ tget 0 s.credit (8 * p + k)))

/-- Copy `c` of class `k` fits the open window of port `p` (R254, R290). -/
def State.copyFits (s : State) (p k : Nat) (c : Copy) : Bool := s.fits p k (s.copyWire p c)

/-- The copy that class `k` of port `p` would send, if the class is eligible. `gates` is false where the gates are applied at a
later start only (R292). -/
def State.eligible (s : State) (gates : Bool) (p k : Nat) : Option (Nat × Copy) :=
  if s.mayStart p && s.classMay p k then
    (s.wfqHead p k).filter fun x => !gates || s.copyFits p k x.2
  else none

/-- Every class of a port that is eligible (SCH_PORT_STATUS.ELIG). -/
def State.eligMask (s : State) (p : Nat) : Nat :=
  (List.range 8).foldl (fun a k => if (s.eligible true p k).isSome then orBit a k else a) 0

/-! Deficit round robin (R256). -/

/-- The deficit round robin, `n` steps left. -/
def State.drr (s : State) (gates : Bool) (p min : Nat) : Nat → Option (Nat × Copy) × State
  | 0 => (none, s)
  | n + 1 =>
    let k := tget 0 s.drrPtr p
    let i := 8 * p + k
    let next := fun (s : State) =>
      ({ s with drrPtr := tput 0 s.drrPtr p (if k + 1 < min then k + 1 else 0) }).put .SCH_DEFICIT_FRESH i 1
    match (if k < min then s.eligible gates p k else none) with
    | none => (next s).drr gates p min n
    | some x =>
      let d := s.get .SCH_DEFICIT_DEFICIT i
        + if s.flag .SCH_DEFICIT_FRESH i then Fld.SCH_CLASS_CFG_QUANTUM.of (s.inForce .SCH_CLASS_CFG i) * 256 else 0
      let s1 := (s.put .SCH_DEFICIT_DEFICIT i d).put .SCH_DEFICIT_FRESH i 0
      if x.2.wl ≤ d then (some x, s1.put .SCH_DEFICIT_DEFICIT i (d - x.2.wl)) else (next s1).drr gates p min n

/-- The weighted band's choice (R256); nothing changes where no class of it is eligible (R255). -/
def State.selectWeighted (s : State) (gates : Bool) (p : Nat) : Option (Nat × Copy) × State :=
  let min := s.strictMin p
  if (List.range min).any fun k => (s.eligible gates p k).isSome then s.drr gates p min 8 else (none, s)

/-! The choice (R255). -/

/-- A chosen copy leaves its queue, and the class's virtual time takes its tag (R255). -/
def State.takeCopy (s : State) (p : Nat) (x : Nat × Copy) : Copy × State :=
  let k := x.2.cls
  (x.2, (s.setQueue x.1 (s.queue x.1).tail).put .SCH_VTIME_V (8 * p + k) x.2.tag)

/-- The classes whose head copy did not fit are counted once per copy in TPG_GCL_NOFIT (R290). -/
def State.noteNoFit (s : State) (p : Nat) (l : List Nat) : State :=
  s.each l fun s k =>
    match (if s.mayStart p && s.classMay p k then s.wfqHead p k else none) with
    | none => s
    | some x =>
      if s.copyFits p k x.2 || x.2.nofit then s
      else (s.setQueue x.1 ({ x.2 with nofit := true } :: (s.queue x.1).tail)).inc .TPG_GCL_NOFIT_COUNT p

/-- The scheduler of port `p` chooses its next copy (R255). -/
def State.choose (s : State) (gates : Bool) (p : Nat) : Option Copy × State :=
  let min := s.strictMin p
  let strict := ((List.range 8).reverse.filter fun k => min ≤ k).find? fun k => (s.eligible gates p k).isSome
  match strict with
  | some k =>
    let s1 := if gates then s.noteNoFit p ((List.range 8).filter fun j => k < j) else s
    match s.eligible gates p k with
    | some x => let r := s1.takeCopy p x; (some r.1, r.2)
    | none => (none, s1)
  | none =>
    let s1 := if gates then s.noteNoFit p (List.range 8) else s
    let r := s1.selectWeighted gates p
    match r.1 with
    | some x => let t := r.2.takeCopy p x; (some t.1, t.2)
    | none => (none, r.2)

/-- The candidate leaves the slot: no attempt of it is left (R134). -/
def State.noCand (s : State) (p : Nat) : State :=
  (s.setCand p none).showTries p 0

/-- Copies of port `p` that its queues hold. -/
def State.portCopies (s : State) (p : Nat) : List Copy :=
  (s.queues.filter fun e => queuePort e.1 == p).flatMap (·.2)

/-- Copies of a port whose link is down are dropped under DOWN_DROP as they reach the head of their queue (R110), the candidate
among them (R141). -/
def State.downDrop (s : State) (p : Nat) : State :=
  if s.enabled p && !s.link p && s.flag .MAC_CFG_DOWN_DROP p then
    let l := (s.candOf p).toList ++ s.portCopies p
    let s1 := (if (s.candOf p).isSome then s.noCand p else s).each ((s.queues.map (·.1)).filter fun q => queuePort q == p)
      fun s q => s.setQueue q []
    s1.each l fun s c => (s.endCopy c none).inc .MAC_TX_LINK_DOWN_COUNT p
  else s

/-- A chosen copy longer than MAX_FRAME ends unsent and is counted (R103). -/
def State.dropOversize (s : State) (p : Nat) (c : Copy) : State := (s.endCopy c none).inc .MAC_TX_OVERSIZE_COUNT p

/-- The MAC port is free to begin a copy: nothing in transmission, awake, and no held MAC control frame or frame of Ocora's own goes
first (R117, R122). A half-duplex segment sends no MAC control frame, so one that it holds bars nothing (R120). -/
def State.txFree (s : State) (m : Nat) : Bool :=
  (s.txOf m).isNone && !s.flag .MAC_STATUS_TX_LPI m && !(s.macOf m).waking && (s.macOf m).autoHeld.isNone
    && ((s.macOf m).forcedHeld.isNone || s.halfDuplex m) && (s.macOf m).own.isEmpty

/-- The oldest frame of Ocora's own that waits on a MAC port begins, if the port can send it now. Nothing of it passes a received
PAUSE, and MAC control frames go first (R94, R114, R117, R122; log 45). -/
def State.ownTx (s : State) (m : Nat) : State :=
  let x := s.macOf m
  match x.own with
  | [] => s
  | d :: rest =>
    if !s.enabled m || !s.link m || s.flag .MAC_STATUS_RX_PAUSED m then s
    else if s.flag .MAC_STATUS_TX_LPI m then s.lpiWake m
    else if x.waking || (s.txOf m).isSome || x.autoHeld.isSome || x.forcedHeld.isSome then s
    else (s.setMac m { x with own := rest }).begin m
      { copy := none, bytes := d ++ fcsBytes d, good := true, cls := 0, octets := d.length + 4, owner := m }

/-! Candidates (R141, R262). -/

/-- The candidate returns to the head of its queue with its tag (R141). -/
def State.returnCand (s : State) (p : Nat) : State :=
  match s.candOf p with
  | none => s
  | some c => (s.setQueue c.q ({ c with tries := 0 } :: s.queue c.q)).noCand p

/-- The slot of a field port may be filled: the port is enabled, and does not drain towards service mode (R141, R146). -/
def State.slotOpen (s : State) (p : Nat) : Bool :=
  s.enabled p && !(s.onLane p && s.get .SEG_STATUS_STATE p == segToService)

/-- A field port in which frames may start: enabled, and NORMAL or SERVICE (R146). -/
def State.segSends (s : State) (p : Nat) : Bool :=
  s.enabled p && (s.get .SEG_STATUS_STATE p == segNormal || s.get .SEG_STATUS_STATE p == segService)

/-- While a copy contends on a CSMA/CD segment the scheduler selects no other for the port (R134). -/
def State.csmaBusy (s : State) (p : Nat) : Bool :=
  s.onLane p && s.halfDuplex p && !s.plcaPort p && (s.txOf p).isSome

/-- The scheduler fills an empty candidate slot (R141, R262). -/
def State.fillCand (s : State) (p : Nat) : State :=
  if !s.slotOpen p || (s.candOf p).isSome || s.csmaBusy p then s
  else
    let r := s.choose (!s.extended p) p
    match r.1 with
    | none => r.2
    | some c => if s.oversizeCopy p c then r.2.dropOversize p c else r.2.newCand p c

/-- The candidate may start now: eligibility judged again, its fit included (R262). -/
def State.candReady (s : State) (p : Nat) (c : Copy) : Bool := s.mayStart p && s.classMay p c.cls && s.copyFits p c.cls c

/-- A candidate that does not fit its window is counted once (R290). -/
def State.candNoFit (s : State) (p : Nat) (c : Copy) : State :=
  if !s.copyFits p c.cls c && !c.nofit then
    (s.setCand p (some { c with nofit := true })).inc .TPG_GCL_NOFIT_COUNT p
  else s

/-- The candidate's preamble starts on its lane: the slot empties (R141). -/
def State.startCand (s : State) (p : Nat) (c : Copy) : State := (s.setCand p none).startCopy p p c

/-- A trunk takes and starts its own choice. -/
def State.chooseAndStart (s : State) (p : Nat) : State :=
  let r := s.choose true p
  match r.1 with
  | none => r.2
  | some c => if s.oversizeCopy p c then r.2.dropOversize p c else r.2.startCopy p p c

/-- A full-duplex field port starts its candidate, choosing one first where the slot is empty (R141, R147). -/
def State.fieldStart (s : State) (p : Nat) : State :=
  let s1 := if (s.candOf p).isSome then s else s.fillCand p
  match s1.candOf p with
  | none => s1
  | some c => if s1.candReady p c then s1.startCand p c else s1.candNoFit p c

/-- The segment side of a field port. -/
def State.segOf (s : State) (p : Nat) : Seg := tget {} s.seg p

/-- The state with the segment side of a field port set. -/
def State.setSeg (s : State) (p : Nat) (g : Seg) : State := { s with seg := tput {} s.seg p g }

/-- COMMIT on the medium takes a level (R139). -/
def State.setCommit (s : State) (p : Nat) (b : Bool) : State :=
  if (s.segOf p).commit = b then s else (s.setSeg p { s.segOf p with commit := b }).emit (.commit p b)

/-- COMMIT is dropped. -/
def State.commitEnd (s : State) (p : Nat) : State := s.setCommit p false

/-- The burst in Ocora's own opportunity is over, and the medium is released (R139). -/
def State.burstEnd (s : State) (p : Nat) : State :=
  let s1 := s.commitEnd p
  s1.setSeg p { s1.segOf p with mine := false }

/-- A further frame may still be sent in Ocora's own opportunity: fewer than MAX_BURST have followed the first, and BURST_TIMER covers
the gap (R139). -/
def State.burstOpen (s : State) (p : Nat) : Bool :=
  let g := s.segOf p
  let w := s.inForce .SEG_PLCA p
  s.plcaPort p && s.get .SEG_STATUS_CUR_ID p == 0 && g.mine && decide (g.burst < Fld.SEG_PLCA_MAX_BURST.of w)
    && decide (96 ≤ Fld.SEG_PLCA_BURST_TIMER.of w)

/-- The port contends under CSMA/CD (R134). -/
def State.csmaKind (s : State) (p : Nat) : Bool := s.kind p == 0 && !s.plcaPort p

/-- A candidate gives way to an eligible copy of a higher strict class (R262). The candidate of
an opportunity 0 that has begun is one that a burst may still send; one filled after that waits for a later cycle. -/
def State.replaceCand (s : State) (p : Nat) : State :=
  match s.candOf p with
  | none => s
  | some c =>
    let gates := !s.extended p
    let above := (List.range 8).any fun k => decide (s.strictMin p ≤ k) && decide (c.cls < k) && (s.eligible gates p k).isSome
    if !s.flag .SCH_PORT_CFG_CAND_REPL p || !above || (s.csmaKind p && s.get .SEG_TXSTATE_ATTEMPTS p != 0)
        || s.burstOpen p || !s.slotOpen p then s
    else ((s.returnCand p).fillCand p).inc .SCH_CAND_REPL_COUNT p

/-- A further frame of a burst in Ocora's own opportunity (R139). Where no candidate is eligible when the gap ends, the medium is released. -/
def State.burstStart (s : State) (p : Nat) : State :=
  if s.burstOpen p then
    let s1 := (if (s.candOf p).isSome then s else s.fillCand p).commitEnd p
    match s1.candOf p with
    | none => s1.burstEnd p
    | some c =>
      if s1.candReady p c then
        let s2 := s1.startCand p c
        s2.setSeg p { s2.segOf p with burst := (s2.segOf p).burst + 1 }
      else (s1.candNoFit p c).burstEnd p
  else s

/-- SCHED_CHOOSE (R255). On a link that is down the copies are dropped or wait; a port that is sending, asleep or owes a MAC control
frame chooses nothing; a frame of Ocora's own goes before the copies (log 45); an extender trunk chooses at its frame boundaries (R263). -/
def State.schedChoose (s0 : State) (p : Nat) : State :=
  let s := s0.downDrop p
  if !(s.macOf p).own.isEmpty then s.ownTx p
  else if !s.txFree p || s.extended p then s
  else if isTrunk p then (if s.role p = 1 then s else s.chooseAndStart p)
  else if !s.segSends p then s
  else if !s.halfDuplex p then s.fieldStart p
  else if s.plcaPort p then s.burstStart p
  else s

/-- SCHED_CHOOSE. -/
def execSchedChoose (p : Nat) (s : State) : Host.Outcome State Fault Refusal := runOn 1040 p 9 (fun s => s.schedChoose p) s

/-- CANDIDATE_FILL. -/
def execCandidateFill (p : Nat) (s : State) : Host.Outcome State Fault Refusal := runOn 1024 p 9 (fun s => s.fillCand p) s

/-- CANDIDATE_REPLACE. -/
def execCandidateReplace (p : Nat) (s : State) : Host.Outcome State Fault Refusal :=
  runOn 1024 p 9 (fun s => s.replaceCand p) s

/-- A BEACON begins and a new cycle with it: written parameters take effect (R136, R137). -/
def State.beacon (s : State) (p : Nat) : State :=
  let s1 := { s with shaper := tput none s.shaper (regKey .SEG_PLCA p) none }
  let s2 := (if s1.get .MAC_CFG_LOOP p = 1 then s1 else s1.emit (.beacon p)).add64 .SEG_CYCLES_LO .SEG_CYCLES_HI p 1
  let s3 := (s2.put .SEG_STATUS_CUR_ID p 0xFF).put .SEG_STATUS_PLCA_ACTIVE p 1
  let s4 := s3.burstEnd p
  s4.setSeg p { s4.segOf p with burst := 0, carrier := none, plcaEn := true }

/-! The end of a transmission. -/

/-- The virtual times that are later than the least head tag of their class are set back to it (R257). -/
def State.settleV (s : State) (p : Nat) : State :=
  s.each (List.range 8) fun s k =>
    match s.wfqHead p k with
    | some x =>
      let v := s.get .SCH_VTIME_V (8 * p + k)
      if tagRank v x.2.tag < 2 ^ 31 then s.put .SCH_VTIME_V (8 * p + k) x.2.tag else s
    | none => s

/-! Shapers (R259, R260). -/

/-- The class of which a port is sending a copy of its own; a copy of an extended port is being sent, at the pacing rate, until the
port's next start time (R168, R259). -/
def State.sending (s : State) (p : Nat) : Option Nat :=
  if s.extended p then
    let x := tget {} s.extPort p
    if s.now * 65536 < x.nextStart then x.cls else none
  else (s.tx.filterMap fun e => e.2.bind fun t => if t.owner = p ∧ t.copy.isSome then some t.cls else none).head?

/-- The rate of a port's shapers, in units of 8 kb/s: the line rate, or the pacing rate of an extended port (R168, R259). -/
def State.shapeRate (s : State) (p : Nat) : Nat :=
  if s.extended p ∧ s.get .EXT_PACE_RATE p ≠ 0 then s.get .EXT_PACE_RATE p else s.rateMb p * 125

/-- The credit of class `k` of port `p` over one cycle of 2/3 ns (R259): one unit of 8 kb/s is 32/3,000,000 of 1/16 byte. -/
def State.creditTick (s : State) (p k : Nat) : Int :=
  let i := 8 * p + k
  let c := tget 0 s.credit i
  let idle := min (Fld.SCH_CBS_SLOPE_IDLE_SLOPE.of (s.inForce .SCH_CBS_SLOPE i)) (s.shapeRate p)
  let hi : Int := Fld.SCH_CBS_HI_HI_CREDIT.of (s.inForce .SCH_CBS_HI i) * 16 * 3000000
  if s.flag .MAC_STATUS_RX_PAUSED p || (s.get .MAC_STATUS_RX_PFC_PAUSED p).testBit k || !s.gateOpen p k then c
  else if s.sending p = some k then c - (s.shapeRate p - idle) * 32
  else if s.classHolds p k || (s.candOf p).any (·.cls == k) then min hi (c + idle * 32)
  else if c < 0 then min 0 (c + idle * 32)
  else 0

/-- One cycle passes for every class whose shaper is on. -/
def State.creditsTick (s : State) : State :=
  let held := (s.shaper.filter fun e => e.1 % 512 == Reg.SCH_CLASS_CFG.ctorIdx).map (·.1 / 512)
  let on := (s.touched .SCH_CLASS_CFG ++ held).eraseDups.filter fun i => wbit (s.inForce .SCH_CLASS_CFG i) 31
  { s with credit := on.foldl (fun m i => tput 0 m i (s.creditTick (i / 8) (i % 8))) s.credit }

/-- The registers whose writes wait for a frame boundary (R260). -/
def shaperRegs : List Reg := [.SCH_CLASS_CFG, .SCH_CBS_SLOPE, .SCH_CBS_HI]

/-- The writes that wait on class `k` of port `p` take effect, and a changed shaper resets the credit (R260). -/
def State.applyShaper (s : State) (p k : Nat) : State :=
  let i := 8 * p + k
  let changed := wbit (s.inForce .SCH_CLASS_CFG i) 31 != wbit (s.rd .SCH_CLASS_CFG i) 31
    || s.inForce .SCH_CBS_SLOPE i != s.rd .SCH_CBS_SLOPE i || s.inForce .SCH_CBS_HI i != s.rd .SCH_CBS_HI i
  let s1 := { s with shaper := shaperRegs.foldl (fun m r => tput none m (regKey r i) none) s.shaper }
  if changed then
    let v : Int := if s.flag .SCH_GLB_CFG_SHAPER_RESET_MODE then 0 else s.get .SCH_CBS_HI_HI_CREDIT i * 16 * 3000000
    { s1 with credit := tput 0 s1.credit i v }
  else s1

/-- The next frame boundary of port `p`, if the port is sending nothing (R260). -/
def State.shaperApply (s : State) (p : Nat) : State :=
  if (s.sending p).isSome then s else s.each (List.range 8) fun s k => s.applyShaper p k

/-- A write of one of these registers: the old word stays in force while the port sends (R260). -/
def State.shaperWrite (s : State) (r : Reg) (i : Nat) (w : Word) : State :=
  let old := s.inForce r i
  let s1 := { (s.wr r i w) with shaper := tput none s.shaper (regKey r i) (some old) }
  s1.shaperApply (i / 8)

/-- SHAPER_CONFIG_APPLY. -/
def execShaperConfigApply (p : Nat) (s : State) : Host.Outcome State Fault Refusal :=
  runOn 1040 p 9 (fun s => s.shaperApply p) s

/-- A node queue moves to its new class once it holds no copy and none is in the slot (R261). -/
def State.classMove (s : State) (i : Nat) : State :=
  let inSlot := (s.candOf (i / 256)).any fun c => c.q == i
  if (s.queue i).isEmpty ∧ !inSlot then { s with oldClass := tput none s.oldClass i none } else s

/-- NODE_QUEUE_CLASS_MOVE. -/
def execNodeQueueClassMove (i : Nat) (s : State) : Host.Outcome State Fault Refusal :=
  runOn 262144 i 9 (fun s => s.classMove i) s

/-! The Dome's adaptive loop (R246). -/

/-- One run of the loop. -/
def State.domeLoop (s : State) : State :=
  let u := s.usedCells
  let t := s.get .DOME_TARGET_TARGET
  let b := s.get .DOME_TARGET_BAND
  let step := s.get .DOME_LOOP_STEP
  s.each ((List.range 8).filter fun k => s.flag .DOME_CLASS_CFG_ADAPT k) fun s k =>
    let a := s.get .DOME_CLASS_CUR_ALPHA k
    if t + b < u then s.put .DOME_CLASS_CUR_ALPHA k (max (s.get .DOME_CLASS_ALPHA_ALPHA_MIN k) (a - step))
    else if u + b < t then s.put .DOME_CLASS_CUR_ALPHA k (min (s.get .DOME_CLASS_ALPHA_ALPHA_MAX k) (a + step))
    else s

/-- DOME_LOOP_TICK. -/
def execDomeLoopTick (s : State) : Host.Outcome State Fault Refusal := run 8 State.domeLoop s

/-- A write of DOME_CLASS_CUR, clamped to the class's bounds (R246). -/
def State.alphaWrite (s : State) (k : Nat) (w : Word) : State :=
  s.put .DOME_CLASS_CUR_ALPHA k
    (max (s.get .DOME_CLASS_ALPHA_ALPHA_MIN k) (min (s.get .DOME_CLASS_ALPHA_ALPHA_MAX k) (wbits w 15 0)))

/-- DOME_ALPHA_WRITE. -/
def execDomeAlphaWrite (k : Nat) (w : Word) (s : State) : Host.Outcome State Fault Refusal :=
  runSoftOn 8 k 8 (fun s => s.alphaWrite k w) s

/-! Oculus (R264 to R267). -/

/-- The sample of a queue: cells and delay (R265). -/
def State.sample (s : State) (q : Nat) : Nat × Nat :=
  (s.queueCells q, match s.queue q with
    | c :: _ => (s.unit64 + 2 ^ 32 - c.join) % 2 ^ 32
    | [] => 0)

/-- The histogram bin of a value (R266). -/
def histBin (y : Nat) : Nat := if y = 0 then 0 else min 15 (Nat.log2 y + 1)

/-- Histogram `h` selects a sample of queue `q` from source `src` (1 sweep, 2 watch) (R266). -/
def State.histTakes (s : State) (h src q : Nat) : Bool :=
  let k := s.get .OCU_HIST_CFG_KIND h
  let p := queuePort q
  (s.get .OCU_HIST_CFG_SRC h &&& src) != 0
    && !(k == 1 && decide (262144 ≤ q)) && !(k == 2 && decide (q < 262144))
    && decide (s.get .OCU_HIST_CFG_PORT_LO h ≤ p) && decide (p ≤ s.get .OCU_HIST_CFG_PORT_HI h)

/-- The four words of a stream record (R267). -/
def streamRecord (watch : Bool) (q t cells delay : Nat) : List Word :=
  [word (b2n watch <<< 31 ||| q), word t, word (cells % 2 ^ 25), word delay]

/-- A sample passed to the stream channel, or dropped where the buffer is full (R267). -/
def State.streamSample (s : State) (watch : Bool) (q cells delay : Nat) : State :=
  let on := s.flag .OCU_STREAM_CFG_EN && (if watch then s.flag .OCU_STREAM_CFG_WATCH else s.flag .OCU_STREAM_CFG_SWEEP)
    && (!s.flag .OCU_STREAM_CFG_NONEMPTY || decide (0 < cells))
  if !on then s
  else if 256 ≤ s.ocuBuf.length then s.inc .OCU_STREAM_DROP_COUNT
  else { s with ocuBuf := s.ocuBuf ++ [streamRecord watch q s.unit64 cells delay] }

/-- What a sample of queue `q` updates (R266). -/
def State.takeSample (s : State) (watch : Bool) (q : Nat) : State :=
  let x := s.sample q
  let p := queuePort q
  let s1 := if s.get .OCU_MAX_CELLS_MAX p < x.1 then s.put .OCU_MAX_CELLS_MAX p x.1 else s
  let s2 := if s1.get .OCU_MAX_DELAY_MAX p < x.2 then (s1.put .OCU_MAX_DELAY_MAX p x.2).put .OCU_MAX_QUEUE_QUEUE p q else s1
  let s3 := s2.each ((List.range 8).filter fun h => s2.histTakes h (if watch then 2 else 1) q) fun s h =>
    let v := if s.flag .OCU_HIST_CFG_METRIC h then x.2 else x.1
    s.inc .OCU_HIST_COUNT (16 * h + histBin (v >>> s.get .OCU_HIST_CFG_SHIFT h))
  s3.streamSample watch q x.1 x.2

/-- Scheduled queues (R251). -/
def queueCount : Nat := 270464

/-- One sample of the sweep; a period in which throttling has held one back ends late (R264). -/
def State.sweepSample (s : State) : State :=
  if !s.flag .OCU_CTRL_SWEEP_EN then s
  else if !s.mayRun 2 then { s with ocuSweepHeld := true }
  else
    let s := s.spend 2
    let q := s.get .OCU_STATUS_SWEEP_POS
    let s1 := s.takeSample false q
    if q + 1 = queueCount then
      (({ s1 with ocuSweepHeld := false }.put .OCU_STATUS_SWEEP_POS 0 0).inc .OCU_SWEEPS_COUNT).when s1.ocuSweepHeld fun s => s.inc .OCU_LATE_COUNT
    else s1.put .OCU_STATUS_SWEEP_POS 0 (q + 1)

/-- One visit of the watch; a period in which throttling has held one back ends late (R264). -/
def State.watchSample (s : State) : State :=
  if !s.flag .OCU_CTRL_WATCH_EN then s
  else if !s.mayRun 2 then { s with ocuWatchHeld := true }
  else
    let s := s.spend 2
    let w := s.ocuWatchPos
    let s1 := if w = 1023 then { s with ocuWatchPos := 0, ocuWatchHeld := false }.when s.ocuWatchHeld fun s => s.inc .OCU_LATE_COUNT
      else { s with ocuWatchPos := w + 1 }
    if !s.flag .OCU_WATCH_EN w then s1
    else
      let q := s.get .OCU_WATCH_QUEUE w
      let x := s.sample q
      let s2 := if s1.get .OCU_WATCH_MAXC_MAX w < x.1 then s1.put .OCU_WATCH_MAXC_MAX w x.1 else s1
      let s3 := if s2.get .OCU_WATCH_MAXD_MAX w < x.2 then s2.put .OCU_WATCH_MAXD_MAX w x.2 else s2
      (s3.put .OCU_WATCH_LAST_DELAY w x.2).takeSample true q

/-- A write of OCU_CTRL (R264): an engine started again begins at its first queue or entry. -/
def State.ocuCtrl (s : State) (w : Word) : State :=
  let s1 := if wbit w 31 && !s.flag .OCU_CTRL_SWEEP_EN then { s with ocuSweepHeld := false }.put .OCU_STATUS_SWEEP_POS 0 0 else s
  let s2 := if wbit w 30 && !s.flag .OCU_CTRL_WATCH_EN then { s1 with ocuWatchPos := 0, ocuWatchHeld := false } else s1
  (s2.putFlag .OCU_CTRL_SWEEP_EN 0 (wbit w 31)).putFlag .OCU_CTRL_WATCH_EN 0 (wbit w 30)

/-- A write of OCU_WATCH: the entry's records are cleared (R270). -/
def State.ocuWatch (s : State) (v : Nat) (w : Word) : State :=
  let s1 := (s.putFlag .OCU_WATCH_EN v (wbit w 31))
  let s2 := if wbits w 18 0 < queueCount then s1.put .OCU_WATCH_QUEUE v (wbits w 18 0) else s1
  ((s2.put .OCU_WATCH_MAXC_MAX v 0).put .OCU_WATCH_MAXD_MAX v 0).put .OCU_WATCH_LAST_DELAY v 0

/-- OCU_CTRL_WRITE. -/
def execOcuCtrlWrite (w : Word) (s : State) : Host.Outcome State Fault Refusal := runSoft 10 (fun s => s.ocuCtrl w) s
/-- OCU_SWEEP_SAMPLE. -/
def execOcuSweepSample (s : State) : Host.Outcome State Fault Refusal := run 10 State.sweepSample s
/-- OCU_WATCH_SAMPLE. -/
def execOcuWatchSample (s : State) : Host.Outcome State Fault Refusal := run 10 State.watchSample s
/-- OCU_WATCH_WRITE. -/
def execOcuWatchWrite (v : Nat) (w : Word) (s : State) : Host.Outcome State Fault Refusal :=
  runSoftOn 1024 v 10 (fun s => s.ocuWatch v w) s

end Sys2Proof.Machine
end

