-- ==== Sys2Proof/Machine/Segment.lean ====
section
/-! DEFINITION. Field ports: enabling, segment service mode, PLCA, CSMA/CD, babble detection (R131 to R149). -/
namespace Sys2Proof.Machine

/-- SEG_STATUS.STATE of a field port. -/
def State.segState (s : State) (p : Nat) : Nat := s.get .SEG_STATUS_STATE p

/-- Cycles stop: no new BEACON or frame of the cycle (R137, R146). -/
def State.plcaStop (s : State) (p : Nat) (line : Bool) : State :=
  let s1 := (s.put .SEG_STATUS_CUR_ID p 0xFF).put .SEG_STATUS_PLCA_ACTIVE p 0
  let s2 := s1.burstEnd p
  s2.setSeg p { s2.segOf p with burst := 0, plcaEn := line && (s2.segOf p).plcaEn }

/-- In SERVICE only the node queue of SERVICE_NODE and the class queues are served: a candidate of another node queue goes back to its
queue (R147). -/
def State.serviceCand (s : State) (p : Nat) : State :=
  match s.candOf p with
  | some c =>
    if s.segState p = segService ∧ s.onLane p ∧ c.q < 262144 ∧ c.q % 256 ≠ s.get .SEG_CFG_SERVICE_NODE p then s.returnCand p else s
  | none => s

/-- A field port enters an operating state (R146). In TO_SERVICE no BEACON starts, and the cycle in progress runs to its end
(R137). -/
def State.enterSeg (s : State) (p new : Nat) : State :=
  let s0 := s.put .SEG_STATUS_STATE p new
  let s1 := if new = segToService then s0.burstEnd p else s0.plcaStop p false
  let s2 := if new = segToService ∨ new = segDisabled then s1.returnCand p else s1.serviceCand p
  if new = segNormal ∧ s2.plcaPort p ∧ s2.link p then s2.beacon p else s2

/-- TO_NORMAL ends with Ocora's own frame: the first BEACON follows under PLCA, and SERVICE is judged again (R146, R257). -/
def State.toNormalEnd (s : State) (p : Nat) : State :=
  if !isTrunk p ∧ s.onLane p ∧ s.segState p = segToNormal ∧ (s.txOf p).isNone then
    let s1 := ((s.put .SEG_STATUS_FORCED p 0).settleV p).enterSeg p segNormal
    let s2 := s1.put .SEG_TXSTATE_ATTEMPTS p 0
    if s2.flag .SEG_CFG_SERVICE p then s2.enterSeg p segToService else s2
  else s

/-- The next operating state of a local field port from its levels: EN, LINK, SERVICE, BABBLE (R146). -/
def State.segNext (s : State) (p : Nat) : Option Nat :=
  let st := s.segState p
  let svc := s.flag .SEG_CFG_SERVICE p && s.kind p == 0
  if !s.flag .SEG_CFG_EN p || !s.onLane p then (if st = segDisabled then none else some segDisabled)
  else if st = segDisabled then (if s.link p then some (if svc then segService else segNormal) else none)
  else if s.kind p ≠ 0 then none
  else if st = segNormal then (if svc then some segToService else none)
  else if st = segToService then (if svc then none else some segNormal)
  else if st = segService then (if svc then none else some segToNormal)
  else if st = segToNormal then none
  else if svc then some segToService
  else if s.flag .SEG_STATUS_BABBLE p then none
  else some segNormal

/-- The operating state follows its levels (R146). -/
def State.segEval (s : State) (p : Nat) : State :=
  match s.segNext p with
  | none => s
  | some st => (s.enterSeg p st).toNormalEnd p

/-- Babble detection (R144, R145). -/
def State.babbleEvent (s : State) (p : Nat) : State :=
  if s.segState p = segQuarantine then s
  else
    let g := s.segOf p
    if g.babble + 1 < s.get .SEG_BABBLE_THRESH p then s.setSeg p { g with babble := g.babble + 1 }
    else
      let s1 := (((s.setSeg p { g with babble := 0 }).put .SEG_STATUS_BABBLE p 1).inc .SEG_BABBLE_EVENTS_COUNT p).pulse p
      if s1.flag .SEG_CFG_BABBLE_ACT p ∧ s1.segState p = segNormal then s1.enterSeg p segQuarantine else s1

/-- A violation in opportunity `id`; one during the BEACON is recorded as 0 (R143). In QUARANTINE none is recorded (DESIGN CHOICE,
log 42). -/
def State.violation (s : State) (p id : Nat) : State :=
  if s.segState p = segQuarantine then s
  else (s.put .SEG_STATUS_LAST_VIOL_ID p (if id = 0xFF then 0 else id)).babbleEvent p

/-! Enabling (R131 to R133) and the service mode (R146). -/

/-- SEG_CFG written (R131 to R133, R147): ACCESS keeps its value while EN reads 1, SERVICE_NODE 0 and 255 are discarded; the
operating state follows. LAST_VIOL_ID of a port enabled without PLCA is 0xFF (R143; log 42). -/
def State.segCfg (s : State) (p : Nat) (w : Word) : State :=
  let old := s.rd .SEG_CFG p
  let w1 := if wbit old 31 then Fld.SEG_CFG_ACCESS.into w (Fld.SEG_CFG_ACCESS.of old) else w
  let n := Fld.SEG_CFG_SERVICE_NODE.of w1
  let w2 := if n = 0 ∨ n = 255 then Fld.SEG_CFG_SERVICE_NODE.into w1 (Fld.SEG_CFG_SERVICE_NODE.of old) else w1
  let s1 := s.wr .SEG_CFG p (w2 &&& 0xFEFF0000#32)
  let s2 := if !wbit w2 31 then s1.returnCand p else s1.serviceCand p
  if s2.extended p then s2
  else (if wbit w2 31 && !s2.plcaPort p then s2.put .SEG_STATUS_LAST_VIOL_ID p 0xFF else s2).segEval p

/-- A bit of SEG_CFG written alone. -/
def State.segBit (s : State) (p : Nat) (f : Fld) (b : Bool) : State := s.segCfg p (f.into (s.rd .SEG_CFG p) (b2n b))

/-- The medium has been quiet in TO_SERVICE, or the wait has run out (R146). -/
def State.serviceEnter (s : State) (p : Nat) (forced : Bool) : State :=
  if s.segState p = segToService ∧ s.onLane p ∧ (forced ∨ (s.txOf p).isNone) then
    (s.enterSeg p segService).putFlag .SEG_STATUS_FORCED p forced
  else s

/-- BABBLE cleared (R146); for an extended port the next POLL passes it on (R165). -/
def State.babbleClear (s : State) (p : Nat) : State :=
  let s1 := s.put .SEG_STATUS_BABBLE p 0
  if s1.extended p then
    let e := s1.extOf p
    let x := tget {} s1.ext e
    { s1 with ext := tput {} s1.ext e { x with clrBabble := orBit x.clrBabble (s1.target p % 16) } }
  else s1.segEval p

/-- FIELD_PORT_ENABLE. -/
def execFieldPortEnable (p : Nat) (s : State) : Host.Outcome State Fault Refusal :=
  runSoftOn 1024 p 2 (fun s => s.segBit p .SEG_CFG_EN true) s
/-- FIELD_PORT_DISABLE. -/
def execFieldPortDisable (p : Nat) (s : State) : Host.Outcome State Fault Refusal :=
  runSoftOn 1024 p 2 (fun s => s.segBit p .SEG_CFG_EN false) s
/-- SERVICE_REQUEST. -/
def execServiceRequest (p : Nat) (s : State) : Host.Outcome State Fault Refusal :=
  runSoftOn 1024 p 2 (fun s => s.segBit p .SEG_CFG_SERVICE true) s
/-- SERVICE_RELEASE. -/
def execServiceRelease (p : Nat) (s : State) : Host.Outcome State Fault Refusal :=
  runSoftOn 1024 p 2 (fun s => s.segBit p .SEG_CFG_SERVICE false) s
/-- SERVICE_QUIET. -/
def execServiceQuiet (p : Nat) (s : State) : Host.Outcome State Fault Refusal :=
  runOn 1024 p 2 (fun s => s.serviceEnter p false) s
/-- SERVICE_FORCED. -/
def execServiceForced (p : Nat) (s : State) : Host.Outcome State Fault Refusal :=
  runOn 1024 p 2 (fun s => s.serviceEnter p true) s

/-! CSMA/CD (R134). -/

/-- The port contends under R134. -/
def State.csmaPort (s : State) (p : Nat) : Bool :=
  s.onLane p && s.kind p == 0 && !s.plcaPort p && s.segState p == segNormal

/-- The medium has been free for 96 bit times: the candidate is sent if it fits its window (R134, R262). -/
def State.csmaAttempt (s : State) (p : Nat) (waited : Bool) : State :=
  if !s.csmaPort p || s.get .SEG_TXSTATE_BACKOFF p != 0 || !s.txFree p then s
  else match s.candOf p with
    | none => s
    | some c =>
      if !s.candReady p c then s.candNoFit p c
      else
        let s1 := if waited && s.get .SEG_TXSTATE_ATTEMPTS p == 0 then s.inc .SEG_DEFERRED_COUNT p else s
        s1.startCand p c

/-- The copy that collided is the candidate again, with its attempts; another one in the slot goes back to its queue (R134, R143).
While the slot may not be filled the copy goes back to its queue too: at EN 0 by R131, in TO_SERVICE by choice (log 42). -/
def State.recand (s : State) (p : Nat) (c : Copy) : State :=
  let s1 := (s.returnCand p).newCand p c
  if s1.slotOpen p then s1 else s1.returnCand p

/-- A copy ends after a collision. -/
def State.collideEnd (s : State) (p : Nat) (c : Copy) (f : Fld) : State :=
  ((s.inc f p).endCopy c none).put .SEG_TXSTATE_ATTEMPTS p 0

/-- A collision on Ocora's own transmission (R134, R143); none is seen in near-end loopback (R111). -/
def State.collide (s : State) (p : Nat) (late : Bool) : State :=
  if !s.halfDuplex p || s.get .MAC_CFG_LOOP p == 1 then s
  else match (s.txOf p).bind (·.copy) with
  | none => s
  | some c =>
    let s0 := ((s.setTx p none).emit (.jam p)).burstEnd p
    let plca := s0.plcaPort p
    if late && !plca then (s0.collideEnd p c .SEG_LATE_COLL_COUNT).toNormalEnd p
    else
      let s1 := s0.inc .SEG_COLLISIONS_COUNT p
      let a := c.tries + 1
      let s2 := if a = 16 then s1.collideEnd p c .SEG_EXCESS_COLL_COUNT
        else
          let s3 := s1.recand p { c with tries := a }
          if plca || (s3.candOf p).isNone then s3 else (s3.put .SEG_TXSTATE_BACKOFF p (s3.free % 2 ^ min a 10)).used
      if plca then s2.violation p 0 else s2

/-- CSMA_ATTEMPT. -/
def execCsmaAttempt (p : Nat) (waited : Bool) (s : State) : Host.Outcome State Fault Refusal :=
  runOn 1024 p 2 (fun s => s.csmaAttempt p waited) s
/-- CSMA_COLLISION. -/
def execCsmaCollision (p : Nat) (late : Bool) (s : State) : Host.Outcome State Fault Refusal :=
  runOn 1024 p 2 (fun s => s.collide p late) s
/-- BACKOFF_EXPIRE (R134). -/
def execBackoffExpire (p : Nat) (s : State) : Host.Outcome State Fault Refusal :=
  runOn 1024 p 2 (fun s => if s.onLane p then s.put .SEG_TXSTATE_BACKOFF p 0 else s) s

/-! PLCA (R137 to R140). -/

/-- The port runs cycles now (R137). -/
def State.plcaRuns (s : State) (p : Nat) : Bool := s.plcaPort p && s.segState p == segNormal && s.onLane p && s.link p

/-- PLCA_BEACON (R137). -/
def State.plcaBeacon (s : State) (p : Nat) : State := if s.plcaRuns p then s.beacon p else s

/-- Opportunity 0 starts (R139, R141). -/
def State.ownOpportunity (s : State) (p : Nat) : State :=
  if !s.plcaRuns p || !s.flag .SEG_STATUS_PLCA_ACTIVE p then s
  else
    let s1 := s.put .SEG_STATUS_CUR_ID p 0
    let s1 := s1.commitEnd p
    let s1 := s1.setSeg p { s1.segOf p with burst := 0, mine := true, carrier := none }
    match (if s1.txFree p then s1.candOf p else none) with
    | some c =>
      if s1.candReady p c then s1.startCand p c
      else
        let s2 := (s1.candNoFit p c).returnCand p
        (s2.setSeg p { s2.segOf p with mine := false }).inc .SEG_OWN_OPP_IDLE_COUNT p
    | none =>
      let s2 := s1.setSeg p { s1.segOf p with mine := false }
      if (s2.portCopies p).isEmpty && (s2.candOf p).isNone then s2 else s2.inc .SEG_OWN_OPP_IDLE_COUNT p

/-- A cycle is running: in NORMAL, or the last one in TO_SERVICE (R137, R146). -/
def State.cycleRuns (s : State) (p : Nat) : Bool :=
  s.plcaPort p && s.onLane p && s.link p && (s.segState p == segNormal || s.segState p == segToService)

/-- An opportunity ends, and the next one begins; after the last one a BEACON follows, but in TO_SERVICE the cycles end (R137,
R146). -/
def State.nextOpportunity (s : State) (p : Nat) : State :=
  let k := s.get .SEG_STATUS_CUR_ID p
  if !s.cycleRuns p || k == 0xFF || (s.txOf p).isSome then s
  else
    let s1 := s.burstEnd p
    let s2 := s1.setSeg p { s1.segOf p with burst := 0, carrier := none, deaf := false }
    if k + 1 < Fld.SEG_PLCA_NODE_COUNT.of (s2.inForce .SEG_PLCA p) then s2.put .SEG_STATUS_CUR_ID p (k + 1)
    else if s2.segState p = segToService then s2.plcaStop p true
    else s2

/-- Carrier rises on a PLCA segment: the opportunity that it rose in is held (R140). One that rises while EN is 0 is not received
(R132). -/
def State.carrierRise (s : State) (p : Nat) : State :=
  if !s.plcaPort p || !s.onLane p || s.get .MAC_CFG_LOOP p == 1 then s
  else if s.enabled p then s.setSeg p { s.segOf p with carrier := some (s.get .SEG_STATUS_CUR_ID p), deaf := false }
  else s.setSeg p { s.segOf p with carrier := none, deaf := true }

/-- A BEACON of another station (R143, R145); a port that is disabled or without carrier sense hears none (R131, R147). -/
def State.foreignBeacon (s : State) (p : Nat) : State :=
  if !s.plcaPort p || !s.onLane p || !s.halfDuplex p || s.segState p == segDisabled || s.get .MAC_CFG_LOOP p == 1 then s
  else (s.inc .SEG_PLCA_ERR_COUNT p).violation p (s.get .SEG_STATUS_CUR_ID p)

/-- PLCA_BEACON. -/
def execPlcaBeacon (p : Nat) (s : State) : Host.Outcome State Fault Refusal := runOn 1024 p 2 (fun s => s.plcaBeacon p) s
/-- PLCA_OWN_OPPORTUNITY. -/
def execPlcaOwnOpportunity (p : Nat) (s : State) : Host.Outcome State Fault Refusal :=
  runOn 1024 p 2 (fun s => s.ownOpportunity p) s
/-- PLCA_TO_TIMER_EXPIRE (R137): an empty opportunity ends; one in which carrier has risen does not end by its timer. -/
def execPlcaToTimerExpire (p : Nat) (s : State) : Host.Outcome State Fault Refusal :=
  runOn 1024 p 2 (fun s => if (s.segOf p).carrier.isSome then s else s.nextOpportunity p) s
/-- PLCA_CARRIER_RISE. -/
def execPlcaCarrierRise (p : Nat) (s : State) : Host.Outcome State Fault Refusal := runOn 1024 p 2 (fun s => s.carrierRise p) s
/-- PLCA_OPP_END (R137). -/
def execPlcaOppEnd (p : Nat) (s : State) : Host.Outcome State Fault Refusal := runOn 1024 p 2 (fun s => s.nextOpportunity p) s
/-- BURST_TIMER_EXPIRE (R139): COMMIT is dropped and the burst ends. -/
def execBurstTimerExpire (p : Nat) (s : State) : Host.Outcome State Fault Refusal :=
  runOn 1024 p 2 (fun s => s.burstEnd p) s
/-- FOREIGN_BEACON. -/
def execForeignBeacon (p : Nat) (s : State) : Host.Outcome State Fault Refusal := runOn 1024 p 2 (fun s => s.foreignBeacon p) s
/-- BABBLE_WINDOW_EXPIRE (R144). -/
def execBabbleWindowExpire (p : Nat) (s : State) : Host.Outcome State Fault Refusal :=
  runOn 1024 p 2 (fun s => s.setSeg p { s.segOf p with babble := 0 }) s

/-! The end of a transmission (R31). -/

/-- After a frame of its own opportunity Ocora holds the medium with COMMIT while it may add another (R139). -/
def State.commitHold (s : State) (p : Nat) : State :=
  let g := s.segOf p
  if s.plcaRuns p && s.get .SEG_STATUS_CUR_ID p == 0 && g.mine
      && decide (g.burst < Fld.SEG_PLCA_MAX_BURST.of (s.inForce .SEG_PLCA p)) then s.setCommit p true
  else s

/-- COPY_END (R31): the frame in transmission on MAC port `m` has been sent. -/
def State.copyEnd (s : State) (m : Nat) (e : Ecc) : State :=
  match (s.txOf m).filter (!·.cut) with
  | none => s
  | some t =>
    let s1 := match t.copy with
      | some c => s.descRead c.head
      | none => s
    let t1 := (s1.txOf m).getD t
    let s2 := s1.sendDone m t1 e
    if isTrunk m then s2 else ((s2.showTries m (((s2.candOf m).map (·.tries)).getD 0)).commitHold m).toNormalEnd m

/-- COPY_END. -/
def execCopyEnd (p : Nat) (e : Ecc) (s : State) : Host.Outcome State Fault Refusal := runOn 1040 p 9 (fun s => s.copyEnd p e) s

/-! Links (R108). -/

/-- LINK of a port takes a level: a change raises the port source, and copies are dropped under DOWN_DROP (R108, R110, R137). -/
def State.setLink (s : State) (p : Nat) (up : Bool) : State :=
  if s.link p = up then s
  else
    let s1 := (s.putFlag .MAC_STATUS_LINK p up).pulse p
    let s2 := if isTrunk p || s1.extended p then s1
      else if up then
        let s3 := s1.segEval p
        if s3.plcaRuns p && !s3.flag .SEG_STATUS_PLCA_ACTIVE p then s3.beacon p else s3
      else s1.plcaStop p false
    if up then s2 else s2.downDrop p

/-- LINK of a local field port follows the level of its lane (R108). -/
def State.fieldLink (s : State) (p : Nat) : State :=
  if s.onLane p then s.setLink p (tget false s.fldLink (s.target p)) else s

/-- The level of FLD_LINK of a lane. -/
def State.linkLevel (s : State) (l : Nat) (up : Bool) : State := { s with fldLink := tput false s.fldLink l up }

/-- FLD_LINK of a lane takes a level. -/
def State.fldLinkChange (s : State) (l : Nat) (up : Bool) : State :=
  (s.linkLevel l up).inBlock 2 fun s => match s.portOfLane l with
    | some p => s.fieldLink p
    | none => s

/-- FLD_LINK_CHANGE. -/
def execFldLinkChange (lane : Nat) (up : Bool) (s : State) : Host.Outcome State Fault Refusal :=
  s.become (s.onUnit 256 lane fun s => s.fldLinkChange lane up)

end Sys2Proof.Machine
end

