-- ==== Sys2Proof/Machine/Extender.lean ====
section
/-! DEFINITION. The extender manager: joining, configuration pushes, polling, credits, loss, the extender trunk's round robin
(R152 to R169, R263). -/
namespace Sys2Proof.Machine

/-! Slots. -/

/-- EXT_STATUS.STATE codes of R159. -/
def extIdle : Nat := 0
def extDiscovering : Nat := 1
def extChallenging : Nat := 2
def extJoined : Nat := 3
def extRefused : Nat := 4

/-- STATE of a slot. -/
def State.extState (s : State) (e : Nat) : Nat := s.get .EXT_STATUS_STATE e

/-- The extender of a slot. -/
def State.extData (s : State) (e : Nat) : Ext := tget {} s.ext e

/-- The state with the extender of a slot set. -/
def State.setExt (s : State) (e : Nat) (x : Ext) : State := { s with ext := tput {} s.ext e x }

/-- An extended field port's own data. -/
def State.extPortOf (s : State) (n : Nat) : ExtPort := tget {} s.extPort n

/-- The state with an extended field port's own data set. -/
def State.setExtPort (s : State) (n : Nat) (x : ExtPort) : State := { s with extPort := tput {} s.extPort n x }

/-- The trunk of a present slot is up: EN and LINK are 1 (R159). -/
def State.extTrunkUp (s : State) (e : Nat) : Bool :=
  let m := 1024 + s.slotTrunk e
  s.slotPresent e && s.enabled m && s.link m

/-- Unit address last bound to a slot. -/
def State.extUnit (s : State) (e : Nat) : Nat := s.get .EXT_UNIT_HI_SA_HI e * 2 ^ 32 + s.get .EXT_UNIT_LO_SA_LO e

/-- Unit address that a slot expects; 0 for any (R158). -/
def State.extAddr (s : State) (e : Nat) : Nat := s.get .EXT_ADDR_HI_SA_HI e * 2 ^ 32 + s.get .EXT_ADDR_LO_SA_LO e

/-- The manager's address. -/
def State.mgrSa (s : State) : Nat := s.get .EXT_MGR_SA_HI_SA_HI * 2 ^ 32 + s.get .EXT_MGR_SA_LO_SA_LO

/-- The extender source of Belfry (R347). -/
def State.extSource (s : State) (e : Nat) : State := s.pulse (1296 + e)

/-- The slots of a trunk that are present, rising. -/
def State.slotsOn (s : State) (t : Nat) : List Nat :=
  (List.range 48).filter fun e => s.slotPresent e && s.slotTrunk e == t

/-- The slot of trunk `t` bound to a unit: challenging or joined with its address (R158). -/
def State.slotOfUnit (s : State) (t unit : Nat) : Option Nat :=
  (s.slotsOn t).find? fun e => (s.extState e == extChallenging || s.extState e == extJoined) && s.extUnit e == unit

/-- The slot, on any trunk, that a unit is bound to (R158). -/
def State.boundSlot (s : State) (unit : Nat) : Option Nat := (List.range 16).findSome? fun t => s.slotOfUnit t unit

/-- A management frame rejected: counted in the slot bound to its source, else on the trunk (R162). -/
def State.mgmtReject (s : State) (t unit : Nat) : State :=
  match s.boundSlot unit with
  | some e => s.inc .EXT_MGMT_REJ_COUNT e
  | none => s.inc .EXT_TRK_UNKNOWN_COUNT t

/-! Sending (R162, R163). -/

/-- A frame of the manager or of the mirror, padded, goes to MAC port `m`: it is sent at the next frame boundary, or not at all where
the port is disabled or without link (R53, R162; log 45). -/
def State.sendFrame (s : State) (m : Nat) (d : List Byte) : State :=
  if !s.enabled m || !s.link m then s
  else (s.setMac m { s.macOf m with own := (s.macOf m).own ++ [padTo 60 d] }).ownTx m

/-- The bytes of a management frame up to its BODY. -/
def State.mgmtBytes (s : State) (da ver msg seq : Nat) (body : List Byte) : List Byte :=
  beBytes 6 da ++ beBytes 6 s.mgrSa ++ beBytes 2 (s.get .EXT_GLB_CFG_ETYPE) ++ [0x45, byte ver, byte msg, 0]
    ++ beBytes 2 body.length ++ [0, 0] ++ beBytes 4 seq ++ body

/-- A message before ACCEPT: VER and SEQ 0, no TAG. -/
def State.sendPlain (s : State) (e da msg : Nat) (body : List Byte) : State :=
  s.sendFrame (1024 + s.slotTrunk e) (s.mgmtBytes da 0 msg 0 body)

/-- An authenticated message to a joined extender (R163). -/
def State.sendAuth (s : State) (e msg : Nat) (body : List Byte) : State :=
  let x := s.extData e
  let d := s.mgmtBytes (s.extUnit e) (s.get .EXT_STATUS_VERSION e) msg (x.seqOut + 1) body
  (s.sendFrame (1024 + s.slotTrunk e) (d ++ (hmac x.sk d).take 16)).setExt e { x with seqOut := x.seqOut + 1 }

/-- A DISCOVER (R159); Ocora speaks versions 1 to 3. -/
def State.sendDiscover (s : State) (e : Nat) : State := s.sendPlain e 0xFFFFFFFFFFFF 0x01 [0x0E]

/-! States (R159, R167). -/

/-- A slot enters a state in which it has no version. -/
def State.extEnter (s : State) (e st : Nat) : State :=
  (s.put .EXT_STATUS_STATE e st).put .EXT_STATUS_VERSION e 0

/-- Loss of a joined extender (R167); a push in progress ends (R165). -/
def State.extLose (s : State) (e cause : Nat) : State :=
  let s1 := s.each (s.portsOfExt e) fun s n =>
    let s2 := s.setLink n false
    ((s2.put .EXT_CREDIT_ACTIVE n 0).put .EXT_CREDIT_CREDIT n 0).setExtPort n { s2.extPortOf n with prev := none, lpi := false }
  let s2 := ((s1.put .EXT_STATUS_PUSH_BUSY e 0).put .EXT_STATUS_PUSH_PEND e 0).setExt e {}
  (((s2.put .EXT_STATUS_LOST e 1).inc .EXT_LOSSES_COUNT e).extSource e).record 3 0
    [word (cause <<< 24 ||| e), s2.rd .EXT_UNIT_LO e, s2.rd .EXT_UNIT_HI e, 0, 0]

/-- A joined slot leaves for a state, with its loss and, where it applies, a LEAVE. -/
def State.extLeaveJoined (s : State) (e st cause : Nat) (leave : Bool) : State :=
  let s1 := if leave then s.sendAuth e 0x7E [] else s
  (s1.extLose e cause).extEnter e st

/-- The levels of a slot act: its trunk, JOIN_EN (R159, the last three rows first, in their order). -/
def State.extEval (s : State) (e : Nat) : State :=
  let st := s.extState e
  let joinEn := s.flag .EXT_CFG_JOIN_EN e
  if (st = extChallenging ∨ st = extJoined) ∧ !s.extTrunkUp e then
    if st = extJoined then s.extLeaveJoined e extIdle 4 false else s.extEnter e extIdle
  else if st ≠ extIdle ∧ (!joinEn ∨ !s.slotPresent e) then
    if st = extJoined then s.extLeaveJoined e extIdle 5 true
    else (s.extEnter e extIdle).put .EXT_STATUS_REFUSE e 0
  else if st = extIdle ∧ joinEn ∧ s.extTrunkUp e then (s.extEnter e extDiscovering).sendDiscover e
  else s

/-- The slots of a trunk see a change of its state. -/
def State.extTrunk (s : State) (m : Nat) : State :=
  if isTrunk m then s.each (s.slotsOn (m - 1024)) State.extEval else s

/-- A session whose SEQ has reached its end: LEAVE and loss (R163). -/
def State.extSeqCheck (s : State) (e : Nat) : State :=
  let x := s.extData e
  if s.extState e = extJoined ∧ (0xFFFFFFF0 ≤ x.seqOut ∨ 0xFFFFFFF0 ≤ x.seqIn) then
    s.extLeaveJoined e extDiscovering 3 true
  else s

/-! Configuration push (R164, R165). -/

/-- The record of one port in a CONFIG. -/
def State.configRecord (s : State) (k : Nat) : List Byte :=
  match s.portOfSlot k with
  | none => List.replicate 32 0
  | some n => [Reg.SEG_CFG, .SEG_PLCA, .SEG_BABBLE, .MAC_CFG, .MAC_EEE, .MAC_SA_LO, .MAC_SA_HI].flatMap
      (fun r => beBytes 4 (s.rd r n).toNat) ++ [0, 0, 0, 0]

/-- The CONFIG in progress is sent. -/
def State.sendConfig (s : State) (e : Nat) : State := (s.sendAuth e 0x10 (s.extData e).config).extSeqCheck e

/-- A push starts with a fresh snapshot. -/
def State.pushStart (s : State) (e : Nat) : State :=
  let v := if s.get .EXT_CFG_VER_SENT e = 0xFFFF then 1 else s.get .EXT_CFG_VER_SENT e + 1
  let body := beBytes 2 v ++ [0, 0] ++ (List.range 16).flatMap fun p => s.configRecord (16 * e + p)
  let s1 := (s.put .EXT_CFG_VER_SENT e v).put .EXT_STATUS_PUSH_BUSY e 1
  (s1.setExt e { s1.extData e with config := body, retries := 0 }).sendConfig e

/-- A push ends; a queued one follows. -/
def State.pushEnd (s : State) (e : Nat) : State :=
  let s1 := s.put .EXT_STATUS_PUSH_BUSY e 0
  if s1.flag .EXT_STATUS_PUSH_PEND e then (s1.put .EXT_STATUS_PUSH_PEND e 0).pushStart e else s1

/-- A push that fails: CONFIG_STALE. -/
def State.pushFail (s : State) (e : Nat) : State :=
  (((s.put .EXT_STATUS_CONFIG_STALE e 1).inc .EXT_PUSH_FAIL_COUNT e).extSource e).pushEnd e

/-- EXT_PUSH.GO. -/
def State.pushGo (s : State) (e : Nat) : State :=
  if s.extState e ≠ extJoined then s
  else if s.flag .EXT_STATUS_PUSH_BUSY e then s.put .EXT_STATUS_PUSH_PEND e 1
  else s.pushStart e

/-- PUSH_TIMEOUT passes without a CONFIG_ACK. -/
def State.pushTimeout (s : State) (e : Nat) : State :=
  if s.extState e ≠ extJoined ∨ !s.flag .EXT_STATUS_PUSH_BUSY e then s
  else
    let x := s.extData e
    if x.retries < s.get .EXT_TIMERS_PUSH_RETRY then (s.setExt e { x with retries := x.retries + 1 }).sendConfig e
    else s.pushFail e

/-! Joining (R158 to R161). -/

/-- The slot that accepts a HELLO of a unit on trunk `t` (R158): of all that accept it, open or holding its address, the one with the
lowest e (DESIGN CHOICE, log 43). -/
def State.helloSlot (s : State) (t unit : Nat) : Option Nat :=
  (s.slotsOn t).find? fun e => s.extState e == extDiscovering
    && (s.extAddr e == unit || (s.extAddr e == 0 && (s.boundSlot unit).isNone))

/-- The highest version common to Ocora and a VERSIONS bitmap; 0 for none (R161). -/
def commonVersion (v : Nat) : Nat := if v.testBit 3 then 3 else if v.testBit 2 then 2 else if v.testBit 1 then 1 else 0

/-- A slot refuses (R159). -/
def State.extRefuse (s : State) (e cause : Nat) : State :=
  ((s.put .EXT_STATUS_STATE e extRefused).put .EXT_STATUS_REFUSE e cause).extSource e

/-- A HELLO (R158, R159, R161). Where it has no acceptable version and the key slot was never written either, the refusal is
NO_VERSION (DESIGN CHOICE, log 43). -/
def State.hello (s : State) (t unit : Nat) (body : List Byte) : State :=
  if s.extHold.contains unit then s
  else match s.helloSlot t unit with
  | none => s.inc .EXT_TRK_UNKNOWN_COUNT t
  | some e =>
    let vs := beAt body 0 1
    let s1 := (s.put .EXT_UNIT_HI_SA_HI e (unit / 2 ^ 32)).put .EXT_UNIT_LO_SA_LO e (unit % 2 ^ 32)
    let s2 := ((s1.put .EXT_INFO_VERSIONS e vs).put .EXT_INFO_PORTS e (beAt body 1 1)).put .EXT_INFO_BUF_BYTES e (beAt body 2 2)
    let v := commonVersion vs
    if v = 0 ∨ v < wbits (s.slotWords e).1 17 16 then s2.extRefuse e 1
    else if !(s.get .SES_KEY_STATUS_WRITTEN).testBit (wbits (s.slotWords e).1 2 0) then s2.extRefuse e 2
    else
      let nonce := s2.freeBytes 16
      let s3 := ((s2.used.put .EXT_STATUS_STATE e extChallenging).put .EXT_STATUS_VERSION e v).setExt e { nonceM := nonce }
      s3.sendPlain e unit 0x03 (nonce ++ [byte v, byte e])

/-- The message m of R160. -/
def State.authMsg (s : State) (e : Nat) (nonceW : List Byte) : List Byte :=
  (s.extData e).nonceM ++ nonceW ++ beBytes 6 (s.extUnit e) ++ beBytes 6 s.mgrSa

/-- The key of a slot (R402). -/
def State.key (s : State) (k : Nat) : List Byte := tget (List.replicate 32 0) s.keys k

/-- A PODL_GRANT to the extender of a port, versions 2 and 3 only (R161, R395). -/
def State.sendGrant (s : State) (n : Nat) (on : Bool) : State :=
  let e := s.extOf n
  if s.extended n ∧ s.extState e = extJoined ∧ 2 ≤ s.get .EXT_STATUS_VERSION e then
    (s.sendAuth e 0x32 [byte (s.target n % 16), byte (b2n on)]).extSeqCheck e
  else s

/-- The extender joins: ACCEPT, session key, credits, grants still held, full push (R159, R160, R167, R398). -/
def State.join (s : State) (e : Nat) (m : List Byte) : State :=
  let k := s.key (wbits (s.slotWords e).1 2 0)
  let s1 := (s.put .EXT_STATUS_STATE e extJoined).put .EXT_CFG_VER_ACKED e 0
  let s2 := (s1.sendPlain e (s.extUnit e) 0x05 (hmac k (0x02 :: m))).setExt e { sk := hmac k (0x03 :: m) }
  let s3 := if 2 ≤ s.get .EXT_STATUS_VERSION e then
      s2.each (s.portsOfExt e) fun s n =>
        (s.put .EXT_CREDIT_ACTIVE n 1).put .EXT_CREDIT_CREDIT n (s.get .EXT_INFO_BUF_BYTES e)
    else s2
  let s4 := s3.each (s.portsOfExt e) fun s n => if s.flag .PWR_PODL_SEG_GRANTED n then s.sendGrant n true else s
  s4.pushStart e

/-- A RESPONSE (R159, R160). -/
def State.response (s : State) (t unit : Nat) (body : List Byte) : State :=
  match s.slotOfUnit t unit with
  | none => s.mgmtReject t unit
  | some e =>
    if s.extState e ≠ extChallenging then s.inc .EXT_MGMT_REJ_COUNT e
    else
      let m := s.authMsg e (slice body 0 16)
      if slice body 16 32 = hmac (s.key (wbits (s.slotWords e).1 2 0)) (0x01 :: m) then s.join e m
      else
        let s1 := (s.extEnter e extDiscovering).inc .EXT_AUTH_FAIL_COUNT e
        { s1 with extHold := unit :: s1.extHold }

/-! Reports (R164 to R166). -/

/-- The counters added from a status record, in its order: register of the total, the high half of a 64-bit one, whether added. -/
def statusTotals : List (Fld × Option (Reg × Reg) × Bool) :=
  [(.SEG_CYCLES_LO_COUNT, some (.SEG_CYCLES_LO, .SEG_CYCLES_HI), true),
   (.MAC_TX_FRAMES_LO_COUNT, some (.MAC_TX_FRAMES_LO, .MAC_TX_FRAMES_HI), true),
   (.MAC_TX_OCTETS_LO_COUNT, some (.MAC_TX_OCTETS_LO, .MAC_TX_OCTETS_HI), true)]
  ++ ([.SEG_COLLISIONS_COUNT, .SEG_LATE_COLL_COUNT, .SEG_EXCESS_COLL_COUNT, .SEG_DEFERRED_COUNT, .SEG_RX_COLL_COUNT,
       .SEG_OPP_RX_ERR_COUNT] : List Fld).map (fun f => (f, none, true))
  ++ [(.SEG_XCHK_ERR_COUNT, none, false)]
  ++ ([.SEG_PLCA_ERR_COUNT, .SEG_OWN_OPP_IDLE_COUNT, .SEG_BABBLE_EVENTS_COUNT, .SEG_QUAR_RX_COUNT, .MAC_RX_FCS_ERR_COUNT,
       .MAC_RX_SYMBOL_COUNT, .MAC_RX_PREAMBLE_COUNT, .MAC_RX_PAUSE_COUNT, .MAC_TX_PAUSE_COUNT, .MAC_RX_CTRL_OTHER_COUNT,
       .MAC_RX_LPI_COUNT, .MAC_TX_LPI_COUNT] : List Fld).map (fun f => (f, none, true))

/-- The running totals of a status record. -/
def recordTotals (r : List Byte) : List Nat :=
  (List.range 3).map (fun i => beAt r (12 + 8 * i) 8) ++ (List.range 19).map fun i => beAt r (36 + 4 * i) 4

/-- The differences of the totals added to a port's counters (R166). -/
def State.addTotals (s : State) (n : Nat) (old new : List Nat) : State :=
  s.each ((statusTotals.zip (old.zip new))) fun s x =>
    match x.1.2.1 with
    | some (lo, hi) => s.add64 lo hi n ((x.2.2 + 2 ^ 64 - x.2.1) % 2 ^ 64)
    | none => if x.1.2.2 then s.add x.1.1 n ((x.2.2 + 2 ^ 32 - x.2.1) % 2 ^ 32) else s

/-- A status record of a port (R165, R166). -/
def State.applyStatus (s : State) (k : Nat) (r : List Byte) : State :=
  match s.portOfSlot k with
  | none => s
  | some n =>
    let flags := word (beAt r 0 4)
    let st := word (beAt r 4 4) &&& 0xFEFFFF00#32
    let babble := Fld.SEG_STATUS_BABBLE.of st != 0
    let rise := babble && !s.flag .SEG_STATUS_BABBLE n
    let s1 := s.wr .SEG_STATUS n (Fld.SEG_STATUS_CAND.into st (s.get .SEG_STATUS_CAND n))
    let s2 := s1.wr .SEG_TXSTATE n (word (beAt r 8 4) &&& 0xFFFC0000#32)
    let x := s2.extPortOf n
    let new := recordTotals r
    let s3 := match x.prev with
      | some old => s2.addTotals n old new
      | none => s2
    let s4 := s3.setExtPort n { x with prev := some new, lpi := wbit flags 30 }
    let s5 := if rise then s4.pulse n else s4
    s5.setLink n (wbit flags 31)

/-- A REPORT (R165). -/
def State.report (s : State) (e : Nat) (body : List Byte) : State :=
  let first := beAt body 0 1
  if first ≠ 0 ∧ first ≠ 8 then s.inc .EXT_MGMT_REJ_COUNT e
  else
    let x := s.extData e
    let s1 := s.setExt e { x with reports := x.reports ||| (if first = 0 then 1 else 2), miss := x.miss }
    s1.each (List.range 8) fun s i => s.applyStatus (16 * e + first + i) (slice body (4 + 112 * i) 112)

/-- A POLL is due (R159, R165): the last one is judged first. -/
def State.poll (s : State) (e : Nat) : State :=
  if s.extState e ≠ extJoined then s
  else
    let x := s.extData e
    let missed := x.polled && x.reports != 3
    let s1 := if missed then s.inc .EXT_POLL_MISS_COUNT e else s
    let miss := if missed then x.miss + 1 else 0
    if s.get .EXT_TIMERS_MISS_LIMIT ≤ miss then s1.extLeaveJoined e extDiscovering 1 false
    else
      let s2 := s1.setExt e { x with miss := miss, polled := true, reports := 0, clrBabble := 0 }
      (s2.sendAuth e 0x20 (beBytes 2 x.clrBabble)).extSeqCheck e

/-- A CREDIT message (R168). -/
def State.credits (s : State) (e : Nat) (body : List Byte) : State :=
  s.each (List.range 16) fun s p =>
    match s.portOfSlot (16 * e + p) with
    | none => s
    | some n => s.put .EXT_CREDIT_CREDIT n (min (s.get .EXT_INFO_BUF_BYTES e) (s.get .EXT_CREDIT_CREDIT n + beAt body (2 * p) 2))

/-- A request or withdrawal of power becomes valid at a port (R394). The class shown is the one granted or requested. -/
def State.podlRequest (s : State) (n : Nat) (req : Option Nat) : State :=
  let x := tget {} s.podl n
  if x.req = req then s
  else
    let y : Podl := match req with
      | some c => { x with req := some c, age := s.podlSeq }
      | none => { x with req := none }
    let s1 := { s with podl := tput {} s.podl n y, podlSeq := s.podlSeq + 1 }
    let s2 := s1.putFlag .PWR_PODL_SEG_WAIT n (y.req.isSome && y.grant.isNone)
    s2.put .PWR_PODL_SEG_CLASS n ((y.grant.or y.req).getD 0)

/-- A PODL_REQ message (R394). -/
def State.podlMessage (s : State) (e : Nat) (body : List Byte) : State :=
  let p := beAt body 0 1
  let c := beAt body 1 1
  if 16 ≤ p ∨ (9 < c ∧ c ≠ 0xFF) then s.inc .EXT_MGMT_REJ_COUNT e
  else match s.portOfSlot (16 * e + p) with
    | none => s
    | some n => s.podlRequest n (if c = 0xFF then none else some c)

/-- A CONFIG_ACK (R165). -/
def State.configAck (s : State) (e : Nat) (body : List Byte) : State :=
  if !s.flag .EXT_STATUS_PUSH_BUSY e then s
  else if beAt body 2 1 = 0 then
    if beAt body 0 2 = s.get .EXT_CFG_VER_SENT e then
      ((s.put .EXT_CFG_VER_ACKED e (beAt body 0 2)).put .EXT_STATUS_CONFIG_STALE e 0).pushEnd e
    else s
  else s.pushFail e

/-- A version 3 EVENT (R165). -/
def State.extEvent (s : State) (e : Nat) (body : List Byte) : State :=
  if 16 ≤ beAt body 0 1 then s.inc .EXT_MGMT_REJ_COUNT e else s.applyStatus (16 * e + beAt body 0 1) (body.drop 2)

/-! Receiving (R156, R162, R163). -/

/-- A received frame is a management frame (R156). -/
def State.isMgmt (s : State) (d : List Byte) : Bool :=
  beAt d 12 2 == s.get .EXT_GLB_CFG_ETYPE && beAt d 14 1 == 0x45

/-- Body length of a message from an extender; none for an unknown one. -/
def mgmtLen (msg : Nat) : Option Nat :=
  match msg with
  | 0x02 => some 4
  | 0x04 => some 48
  | 0x11 => some 3
  | 0x21 => some 900
  | 0x30 => some 32
  | 0x31 => some 2
  | 0x40 => some 114
  | 0x7E => some 0
  | _ => none

/-- An authenticated message, accepted (R163): its effect. -/
def State.mgmtAct (s : State) (e msg : Nat) (body : List Byte) : State :=
  match msg with
  | 0x11 => s.configAck e body
  | 0x21 => s.report e body
  | 0x30 => s.credits e body
  | 0x31 => s.podlMessage e body
  | 0x40 => s.extEvent e body
  | _ => s.extLeaveJoined e extDiscovering 2 false

/-- The lowest version whose set holds a message (R161, R162). -/
def mgmtVersion (msg : Nat) : Nat := if msg = 0x30 ∨ msg = 0x31 then 2 else if msg = 0x40 then 3 else 1

/-- A message after ACCEPT: VER, TAG, SEQ and the version's message set checked (R161 to R163). -/
def State.mgmtAuth (s : State) (t unit ver msg seq len : Nat) (d : List Byte) : State :=
  match s.slotOfUnit t unit with
  | none => s.mgmtReject t unit
  | some e =>
    let x := s.extData e
    if s.extState e ≠ extJoined ∨ ver ≠ s.get .EXT_STATUS_VERSION e ∨ ver < mgmtVersion msg
        ∨ slice d (26 + len) 16 ≠ (hmac x.sk (d.take (26 + len))).take 16 ∨ seq ≤ x.seqIn then s.inc .EXT_MGMT_REJ_COUNT e
    else ((s.setExt e { x with seqIn := seq }).mgmtAct e msg (slice d 26 len)).extSeqCheck e

/-- A management frame received on trunk `t`, its bytes without FCS (R156, R162). -/
def State.mgmtFrame (s : State) (t : Nat) (d : List Byte) : State :=
  let unit := beAt d 6 6
  let msg := beAt d 16 1
  let len := beAt d 18 2
  let plain := msg == 0x02 || msg == 0x04
  if !s.isMgmt d then s
  else if mgmtLen msg ≠ some len ∨ d.length < 26 + len + (if plain then 0 else 16) ∨ (plain ∧ beAt d 15 1 ≠ 0) then
    s.mgmtReject t unit
  else if msg = 0x02 then s.hello t unit (slice d 26 4)
  else if msg = 0x04 then s.response t unit (slice d 26 48)
  else s.mgmtAuth t unit (beAt d 15 1) msg (beAt d 22 4) len d

/-- A management frame that arrives good on extender trunk `t` is counted at the trunk and consumed (R156, R166). A frame that its
name does not fit is not this command's. -/
def State.mgmtRx (s : State) (t msg : Nat) (d : List Byte) : State :=
  let m := 1024 + t
  if s.role m = 1 && s.enabled m && s.link m && s.isMgmt d && beAt d 16 1 == msg then
    ((s.add64 .MAC_RX_FRAMES_LO .MAC_RX_FRAMES_HI m 1).add64 .MAC_RX_OCTETS_LO .MAC_RX_OCTETS_HI m (max 60 d.length + 4)).mgmtFrame t d
  else s

/-- EXT_DISCOVER (R159). -/
def execExtDiscover (e : Nat) (s : State) : Host.Outcome State Fault Refusal :=
  runOn 48 e 3 (fun s => if s.extState e = extDiscovering ∧ s.extTrunkUp e then s.sendDiscover e else s) s
/-- EXT_JOIN_ENABLE (R159). -/
def execExtJoinEnable (e : Nat) (s : State) : Host.Outcome State Fault Refusal :=
  runSoftOn 48 e 3 (fun s => (s.put .EXT_CFG_JOIN_EN e 1).extEval e) s
/-- EXT_JOIN_DISABLE (R159). -/
def execExtJoinDisable (e : Nat) (s : State) : Host.Outcome State Fault Refusal :=
  runSoftOn 48 e 3 (fun s => (s.put .EXT_CFG_JOIN_EN e 0).extEval e) s
/-- EXT_HELLO. -/
def execExtHello (t : Nat) (frame : List Byte) (s : State) : Host.Outcome State Fault Refusal :=
  runOn 16 t 3 (fun s => s.mgmtRx t 0x02 frame) s
/-- EXT_RESPONSE. -/
def execExtResponse (t : Nat) (frame : List Byte) (s : State) : Host.Outcome State Fault Refusal :=
  runOn 16 t 3 (fun s => s.mgmtRx t 0x04 frame) s
/-- EXT_CHALLENGE_TIMEOUT (R159). -/
def execExtChallengeTimeout (e : Nat) (s : State) : Host.Outcome State Fault Refusal :=
  runOn 48 e 3 (fun s => if s.extState e = extChallenging then s.extEnter e extDiscovering else s) s
/-- EXT_HELLO_HOLDOFF_EXPIRE (R159). -/
def execExtHelloHoldoffExpire (unit : Nat) (s : State) : Host.Outcome State Fault Refusal :=
  run 3 (fun s => { s with extHold := s.extHold.filter (· != unit) }) s
/-- EXT_LEAVE. -/
def execExtLeave (t : Nat) (frame : List Byte) (s : State) : Host.Outcome State Fault Refusal :=
  runOn 16 t 3 (fun s => s.mgmtRx t 0x7E frame) s
/-- EXT_POLL. -/
def execExtPoll (e : Nat) (s : State) : Host.Outcome State Fault Refusal := runOn 48 e 3 (fun s => s.poll e) s
/-- EXT_REPORT. -/
def execExtReport (t : Nat) (frame : List Byte) (s : State) : Host.Outcome State Fault Refusal :=
  runOn 16 t 3 (fun s => s.mgmtRx t 0x21 frame) s
/-- EXT_EVENT. -/
def execExtEvent (t : Nat) (frame : List Byte) (s : State) : Host.Outcome State Fault Refusal :=
  runOn 16 t 3 (fun s => s.mgmtRx t 0x40 frame) s
/-- EXT_PUSH_GO. -/
def execExtPushGo (e : Nat) (s : State) : Host.Outcome State Fault Refusal := runSoftOn 48 e 3 (fun s => s.pushGo e) s
/-- EXT_CONFIG_ACK. -/
def execExtConfigAck (t : Nat) (frame : List Byte) (s : State) : Host.Outcome State Fault Refusal :=
  runOn 16 t 3 (fun s => s.mgmtRx t 0x11 frame) s
/-- EXT_PUSH_TIMEOUT. -/
def execExtPushTimeout (e : Nat) (s : State) : Host.Outcome State Fault Refusal := runOn 48 e 3 (fun s => s.pushTimeout e) s
/-- EXT_CREDIT. -/
def execExtCredit (t : Nat) (frame : List Byte) (s : State) : Host.Outcome State Fault Refusal :=
  runOn 16 t 3 (fun s => s.mgmtRx t 0x30 frame) s
/-- EXT_PODL_REQ. -/
def execExtPodlReq (t : Nat) (frame : List Byte) (s : State) : Host.Outcome State Fault Refusal :=
  runOn 16 t 3 (fun s => s.mgmtRx t 0x31 frame) s

/-! The extender trunk (R168, R263). -/

/-- The pacing rate of a port in 8 kb/s units (R168). -/
def State.paceRate (s : State) (n : Nat) : Nat :=
  if s.get .EXT_PACE_RATE n = 0 then s.rateMb n * 125 else s.get .EXT_PACE_RATE n

/-- A copy for extended port `n` may start on its trunk (R168, R254). -/
def State.extReady (s : State) (n : Nat) (c : Copy) : Bool :=
  s.extState (s.extOf n) == extJoined && s.candReady n c
    && decide ((s.extPortOf n).nextStart ≤ s.now * 65536)
    && (!s.flag .EXT_CREDIT_ACTIVE n || decide (s.copyWire n c ≤ s.get .EXT_CREDIT_CREDIT n))

/-- The copy of extended port `n` starts on its trunk: its pacing and credit follow (R168). One byte at 8 kb/s takes 1,500,000
cycles of 2/3 ns. -/
def State.extStart (s : State) (n : Nat) (c : Copy) : State :=
  let w := s.copyWire n c
  let x := s.extPortOf n
  let t := max x.nextStart (s.now * 65536) + ceilDiv ((w + s.get .SCH_PORT_CFG_OVERHEAD n) * 1500000 * 65536) (s.paceRate n)
  let s1 := s.setExtPort n { x with nextStart := t, cls := some c.cls }
  let s2 := if s.flag .EXT_CREDIT_ACTIVE n then s1.put .EXT_CREDIT_CREDIT n (s.get .EXT_CREDIT_CREDIT n - w) else s1
  (s2.setCand n none).startCopy (s.macPort n) n c

/-- The extended ports of trunk `t`, rising. -/
def State.extPortsOn (s : State) (t : Nat) : List Nat :=
  (s.img.lanes.filter fun x => x.1 < 1024 && s.extended x.1 && s.slotTrunk (s.extOf x.1) == t).map (·.1)

/-- A source of the round robin sends, if it has a copy ready: the state, and whether it did. -/
def State.rrServe (s : State) (t n : Nat) : Bool × State :=
  if n = 1024 + t then
    let s1 := s.chooseAndStart n
    ((s1.txOf n).isSome, s1)
  else match s.candOf n with
    | none => (false, s)
    | some c => if s.extReady n c then (true, s.extStart n c) else (false, s.candNoFit n c)

/-- The sources tried in order until one sends; the next round begins behind it. -/
def State.rrTry (s : State) (t : Nat) : List Nat → State
  | [] => s
  | n :: l =>
    let r := s.rrServe t n
    if r.1 then { r.2 with rrNext := tput 0 r.2.rrNext t (n + 1) } else r.2.rrTry t l

/-- EXT_TRUNK_ROUND_ROBIN (R263): at a frame boundary of the trunk. -/
def State.roundRobin (s : State) (t : Nat) : State :=
  let m := 1024 + t
  if s.role m ≠ 1 then s
  else if !(s.macOf m).own.isEmpty then s.ownTx m
  else if !s.txFree m || !s.enabled m || !s.link m || s.flag .MAC_STATUS_RX_PAUSED m then s
  else
    let l := s.extPortsOn t ++ [m]
    let k := tget 0 s.rrNext t
    s.rrTry t (l.filter (fun n => k ≤ n) ++ l.filter fun n => n < k)

/-- EXT_TRUNK_ROUND_ROBIN. -/
def execExtTrunkRoundRobin (t : Nat) (s : State) : Host.Outcome State Fault Refusal := runOn 16 t 9 (fun s => s.roundRobin t) s

end Sys2Proof.Machine
end

