-- ==== Sys2Proof/Machine/Mac.lean ====
section
/-! DEFINITION. The MACs: enabling, links, loopback, PAUSE and PFC, low-power idle, and the end of a cut-through frame (R94 to
R127, R307). -/
namespace Sys2Proof.Machine

/-! Cut-through frames (R307); the decision is the Spire's. -/

/-- The index of a Spire counter of a pair and direction. -/
def spiIndex (x : SpiRx) : Nat := 2 * x.pair + x.dir

/-- The transit pair words (R78). -/
def State.pairWord (s : State) (p : Nat) : Word := tget 0 s.img.pairs p

/-- The trunks of a pair: A and B, as global indexes. -/
def State.pairTrunks (s : State) (p : Nat) : Nat × Nat :=
  (1024 + wbits (s.pairWord p) 3 0, 1024 + wbits (s.pairWord p) 11 8)

/-- The valid pair that holds a trunk, if any. -/
def State.pairOf (s : State) (m : Nat) : Option Nat :=
  (List.range 8).find? fun p => wbit (s.pairWord p) 31 && ((s.pairTrunks p).1 == m || (s.pairTrunks p).2 == m)

/-- The egress trunk of an express reception. -/
def State.spiEgress (s : State) (x : SpiRx) : Nat := if x.dir = 0 then (s.pairTrunks x.pair).2 else (s.pairTrunks x.pair).1

/-- A frame cut through ends: its last bytes and its FCS, inverted where the reception is bad (R307). `d` is the data sent. -/
def State.cutEnd (s : State) (x : SpiRx) (d : List Byte) (good : Bool) : State :=
  let m := s.spiEgress x
  let i := spiIndex x
  let full := d ++ fcsBytes d
  let ok := good && ((s.txOf m).map (·.good)).getD false
  let b := if ok then full else invertFcs full
  let s1 := s.onWire m b ok
  let s2 := { (s1.txenEdge (s1.setTx m none) m).countSent m b.length with spiRun := tput 0 s.spiRun m (tget 0 s.spiRun m + 1) }
  let s3 := s2.setMac m { s2.macOf m with endAt := some s2.now, pos := ((s2.macOf m).pos + b.length) % 8 }
  if ok then s3.add64 .SPI_CUT_LO .SPI_CUT_HI i 1 else s3.inc .SPI_CUT_BAD_COUNT i

/-- A reception is given up: its cells return, it leaves its version, and a frame being cut through ends with an inverted FCS. -/
def State.dropRx (s : State) (p : Nat) : State :=
  match s.rxOf p with
  | none => s
  | some r =>
    let s1 := (s.setRx p none).flowControl p
    match r.spi with
    | some x => if x.cut then s1.cutEnd x r.bytes false else s1
    | none => s1

/-! Enabling and configuration (R98, R109 to R113). -/

/-- A port may not be in low-power idle (R123). -/
def State.lpiBarred (s : State) (p : Nat) : Bool :=
  s.get .TPG_GCL_STATUS_STATE p != 0 || (s.pairOf p).isSome || s.get .MAC_CFG_LOOP p != 0

/-- A port leaves low-power idle where a case of R123 has begun. -/
def State.lpiLeave (s : State) (p : Nat) : State := if s.lpiBarred p then s.lpiWake p else s

/-- A trunk's EN rises: the deficit count starts at 0 (R94, R109). -/
def State.trunkOn (s : State) (m : Nat) : State :=
  (s.put .MAC_CFG_EN m 1).setMac m { s.macOf m with deficit := 0, pos := 0, endAt := none }

/-- A trunk's EN falls: a frame in reception is discarded, LINK falls with the PCS, and its extenders see it (R109, R159). -/
def State.trunkOff (s : State) (m : Nat) : State :=
  let s1 := if (s.rxOf m).isSome then (s.dropRx m).inc .MAC_RX_DISABLED_COUNT m else s
  ((s1.put .MAC_CFG_EN m 0).setLink m false).extTrunk m

/-- EN of a trunk written: TPMA_TXEN follows it (R109). -/
def State.trunkEn (s : State) (m : Nat) (on : Bool) : State :=
  if on = s.flag .MAC_CFG_EN m then s else s.txenEdge (if on then s.trunkOn m else s.trunkOff m) m

/-- A change of the loopback cuts a frame in reception (R111): it ends with a receive error (R97). -/
def State.cutMedium (s : State) (p : Nat) : State :=
  match s.rxOf p with
  | some r => s.setRx p (some { r with symbol := true })
  | none => s

/-- MAC_CFG.LOOP written; far-end is discarded on a field port (R111). Low-power idle ends where the loopback begins (R123), and frames
that near-end loopback has not yet returned are lost with it. -/
def State.loopWrite (s : State) (p v : Nat) : State :=
  if v = 2 ∧ !isTrunk p then s
  else
    let s1 := s.put .MAC_CFG_LOOP p v
    if s.get .MAC_CFG_LOOP p % 3 = v % 3 then s1
    else
      let s2 := (s.txenEdge s1 p).cutMedium p
      (s2.setMac p { s2.macOf p with back := [] }).lpiLeave p

/-- MAC_CFG written (R98, R109, R111, R113): a field with a value outside its range keeps its own. -/
def State.macCfg (s : State) (p : Nat) (w : Word) : State :=
  let mf := Fld.MAC_CFG_MAX_FRAME.of w
  let fc := Fld.MAC_CFG_FC_MODE.of w
  let s1 := s.put .MAC_CFG_DOWN_DROP p (Fld.MAC_CFG_DOWN_DROP.of w)
  let s2 := s1.loopWrite p (Fld.MAC_CFG_LOOP.of w)
  let s3 := if fc = 2 ∧ !isTrunk p then s2 else s2.put .MAC_CFG_FC_MODE p fc
  let s4 := if 64 ≤ mf ∧ mf ≤ (if isTrunk p then 9216 else 2000) then s3.put .MAC_CFG_MAX_FRAME p mf else s3
  let s5 := if isTrunk p then s4.trunkEn p (wbit w 31) else s4
  (s5.flowControl p).downDrop p

/-- EEE operates on a port: a trunk, or a 10BASE-T1L port whose PHY supports it, which an extended port's extender reports (R121,
R164); the PHY of a local lane is taken to support it (log 41). -/
def State.eeePort (s : State) (p : Nat) : Bool :=
  isTrunk p || (s.kind p == 2 && (!s.extended p || (s.extPortOf p).lpi))

/-- MAC_EEE written (R121, R127). -/
def State.macEee (s : State) (p : Nat) (w : Word) : State :=
  let s1 := s.put .MAC_EEE_TW_TX p (Fld.MAC_EEE_TW_TX.of w)
  let s2 := if Fld.MAC_EEE_IDLE_TIME.of w = 0 then s1 else s1.put .MAC_EEE_IDLE_TIME p (Fld.MAC_EEE_IDLE_TIME.of w)
  if wbit w 31 ∧ !s.eeePort p then s2 else s2.putFlag .MAC_EEE_EN p (wbit w 31)

/-- TRUNK_ENABLE. -/
def execTrunkEnable (t : Nat) (s : State) : Host.Outcome State Fault Refusal := runSoftOn 16 t 1 (fun s => s.trunkEn (1024 + t) true) s
/-- TRUNK_DISABLE. -/
def execTrunkDisable (t : Nat) (s : State) : Host.Outcome State Fault Refusal :=
  runSoftOn 16 t 1 (fun s => s.trunkEn (1024 + t) false) s
/-- LOOPBACK_CHANGE (R111). -/
def execLoopbackChange (p : Nat) (loop : Nat) (s : State) : Host.Outcome State Fault Refusal :=
  runSoftOn 1040 p (if isTrunk p then 1 else 2) (fun s => s.loopWrite p (loop % 4)) s

/-- A trunk's PCS gains or loses lock: LINK can rise only while the trunk is enabled (R108, R109). -/
def State.trunkLink (s : State) (m : Nat) (up : Bool) : State :=
  if up && !s.enabled m then s
  else
    let s1 := (s.setLink m up).extTrunk m
    if up then s1 else s1.put .MAC_STATUS_RX_LPI m 0

/-- TRUNK_LINK_CHANGE. -/
def execTrunkLinkChange (t : Nat) (up : Bool) (s : State) : Host.Outcome State Fault Refusal :=
  runOn 16 t 1 (fun s => s.trunkLink (1024 + t) up) s

/-- An RS-FEC codeword of a trunk at 100 Gb/s (R106, R107): a frame that an uncorrectable one touches has a receive error. -/
def State.fecCodeword (s : State) (m : Nat) (ok : Bool) : State :=
  if s.rateCode m ≠ 4 ∨ !s.enabled m then s
  else if ok then s.inc .MAC_FEC_CORR_COUNT m
  else (s.inc .MAC_FEC_UNCORR_COUNT m).cutMedium m

/-- FEC_CODEWORD. -/
def execFecCodeword (t : Nat) (correctable : Bool) (s : State) : Host.Outcome State Fault Refusal :=
  runOn 16 t 1 (fun s => s.fecCodeword (1024 + t) correctable) s

/-! Received PAUSE and PFC (R112 to R115). -/

/-- An acting PAUSE frame loads the pause timer (R114). -/
def State.pauseLoad (s : State) (p q : Nat) : State :=
  (s.setMac p { s.macOf p with pause := q }).putFlag .MAC_STATUS_RX_PAUSED p (q != 0)

/-- A class pause timer takes a value (R115). -/
def State.pfcLoad (s : State) (p c q : Nat) : State :=
  let old := s.get .MAC_STATUS_RX_PFC_PAUSED p
  (s.setMac p { s.macOf p with pfc := tput 0 (s.macOf p).pfc c q }).put .MAC_STATUS_RX_PFC_PAUSED p
    (if q = 0 then clrBit old c else orBit old c)

/-- A received MAC control frame that has passed R97 (R112, R113). -/
def State.ctrlFrame (s : State) (p : Nat) (d : List Byte) : State :=
  let op := beAt d 14 2
  if beAt d 0 6 ≠ 0x0180C2000001 ∨ (op ≠ 1 ∧ op ≠ 0x101) then s.inc .MAC_RX_CTRL_OTHER_COUNT p
  else if op = 1 then
    let s1 := s.inc .MAC_RX_PAUSE_COUNT p
    if s.get .MAC_CFG_FC_MODE p = 1 ∧ !s.halfDuplex p then s1.pauseLoad p (beAt d 16 2) else s1
  else
    let s1 := s.inc .MAC_RX_PFC_COUNT p
    if s.get .MAC_CFG_FC_MODE p = 2 then
      s1.each (bitList 8 (beAt d 17 1)) fun s c => s.pfcLoad p c (beAt d (18 + 2 * c) 2)
    else s1

/-- PAUSE_TIMER_EXPIRE (R114). -/
def execPauseTimerExpire (p : Nat) (s : State) : Host.Outcome State Fault Refusal :=
  runOn 1040 p (if isTrunk p then 1 else 2) (fun s => s.pauseLoad p 0) s
/-- PFC_TIMER_EXPIRE (R115). -/
def execPfcTimerExpire (t : Nat) (c : Nat) (s : State) : Host.Outcome State Fault Refusal :=
  runOn 16 t 1 (fun s => s.onUnit 8 c fun s => s.pfcLoad (1024 + t) c 0) s

/-! Generated MAC control frames (R117 to R120). -/

/-- The MAC address of a port. -/
def State.macSa (s : State) (p : Nat) : Nat := s.get .MAC_SA_HI_SA_HI p * 2 ^ 32 + s.get .MAC_SA_LO_SA_LO p

/-- The bytes of a generated frame, padded, without FCS (R117). -/
def State.ctrlBytes (s : State) (p : Nat) (c : Ctrl) : List Byte :=
  padTo 60 (beBytes 6 0x0180C2000001 ++ beBytes 6 (s.macSa p) ++ beBytes 2 0x8808
    ++ (if c.pfc then beBytes 2 0x101 ++ beBytes 2 c.vec ++ c.times.flatMap (beBytes 2)
        else beBytes 2 1 ++ c.times.flatMap (beBytes 2)))

/-- The bytes of a generated frame as its MAC edge carries them: with the E-TAG on the way to the extender of an extended port (R153,
R168; log 23). -/
def State.ctrlWire (s : State) (p : Nat) (c : Ctrl) : List Byte :=
  let d := s.ctrlBytes p c
  if s.extended p then slice d 0 12 ++ s.etagBytes p 0 ++ d.drop 12 else d

/-- The port is on its way back from service mode and starts no frame (R146). -/
def State.draining (s : State) (p : Nat) : Bool := !isTrunk p && s.segState p == segToNormal

/-- A held MAC control frame is sent if the port can send: the automatic one first (R117, R120). The forced frame of an extended port
goes to its extender, which sends and counts it on the segment (R166, R168; log 23). -/
def State.ctrlTx (s : State) (p : Nat) : State :=
  let x := s.macOf p
  let m := s.macPort p
  if !s.enabled p || !s.link p || !s.enabled m || !s.link m || s.halfDuplex p || s.draining p then s
  else match x.autoHeld.or x.forcedHeld with
  | none => s
  | some c =>
    if s.flag .MAC_STATUS_TX_LPI m then s.lpiWake m
    else if (s.macOf m).waking || (s.txOf m).isSome then s
    else
      let d := s.ctrlWire p c
      let y := if x.autoHeld.isSome then { x with autoHeld := none } else { x with forcedHeld := none }
      (s.setMac p y).begin m
        { copy := none, bytes := d ++ fcsBytes d, good := true, cls := 0, octets := 64
          ctrl := if s.extended p then 0 else if c.pfc then 2 else 1, owner := p }

/-- MAC_CONTROL_TX. -/
def execMacControlTx (p : Nat) (s : State) : Host.Outcome State Fault Refusal :=
  runOn 1040 p (if isTrunk p then 1 else 2) (fun s => s.ctrlTx p) s

/-- The frame that a write of MAC_FC_FORCE asks for (R120). -/
def State.forced (s : State) (p : Nat) : Ctrl :=
  let q := s.get .MAC_FC_FORCE_QUANTA p
  let v := s.get .MAC_FC_FORCE_CLASS_VEC p
  if !isTrunk p ∨ s.get .MAC_CFG_FC_MODE p < 2 then ⟨false, 0, [q]⟩
  else ⟨true, v, (List.range 8).map fun c => if v.testBit c then q else 0⟩

/-- MAC_FC_FORCE written (R120): GO is ignored on a half-duplex segment. -/
def State.fcForce (s : State) (p : Nat) (w : Word) : State :=
  let s1 := (s.put .MAC_FC_FORCE_CLASS_VEC p (wbits w 23 16)).put .MAC_FC_FORCE_QUANTA p (wbits w 15 0)
  if !wbit w 31 || s.halfDuplex p then s1
  else (s1.setMac p { s1.macOf p with forcedHeld := some (s1.forced p) }).ctrlTx p

/-- FC_FORCE. -/
def execFcForce (p : Nat) (w : Word) (s : State) : Host.Outcome State Fault Refusal :=
  runSoftOn 1040 p (if isTrunk p then 1 else 2) (fun s => s.fcForce p w) s

/-- Half of TX_QUANTA has passed since the last PAUSE, or since the last PFC of the classes of `mask`, while XOFF holds (R119). -/
def State.pauseRefresh (s : State) (p mask : Nat) : State :=
  if s.flag .MAC_STATUS_XOFF p then
    s.setMac p { s.macOf p with autoHeld := some ⟨false, 0, [s.get .MAC_FC_TX_TX_QUANTA p]⟩ }
  else
    let v := mask % 256 &&& s.get .MAC_STATUS_XOFF_CLASSES p
    if v = 0 then s else s.setMac p { s.macOf p with autoHeld := some (s.pfcFrame p (v ||| s.heldVec p)) }

/-- PAUSE_REFRESH. -/
def execPauseRefresh (t : Nat) (mask : Nat) (s : State) : Host.Outcome State Fault Refusal :=
  runOn 16 t 1 (fun s => (s.pauseRefresh (1024 + t) mask).ctrlTx (1024 + t)) s

/-! Low-power idle (R121 to R124). -/

/-- A copy of an extended port, or a MAC control frame for one, waits to be sent on trunk `m` (R120, R168). -/
def State.extWaits (s : State) (m : Nat) : Bool :=
  isTrunk m && (s.extPortsOn (m - 1024)).any fun n =>
    ((s.candOf n).any fun c => s.extReady n c) || (s.macOf n).forcedHeld.isSome

/-- Something waits to be sent on a port. -/
def State.lpiNeeded (s : State) (p : Nat) : Bool :=
  s.eligMask p != 0 || (s.candOf p).any (fun c => s.candReady p c) || (s.macOf p).autoHeld.isSome || (s.macOf p).forcedHeld.isSome
    || !(s.macOf p).own.isEmpty || s.extWaits p

/-- LPI_ENTER (R122, R123). -/
def State.lpiEnter (s : State) (p : Nat) : State :=
  if s.flag .MAC_EEE_EN p && s.enabled p && s.link p && !s.extended p && !s.flag .MAC_STATUS_TX_LPI p && !(s.macOf p).waking
      && (s.txOf p).isNone && !s.lpiNeeded p && !s.lpiBarred p then
    (s.put .MAC_STATUS_TX_LPI p 1).inc .MAC_TX_LPI_COUNT p
  else s

/-- LPI_EXIT (R122, R123): something waits, low-power idle is barred, or EN has been cleared. -/
def State.lpiExit (s : State) (p : Nat) : State :=
  if s.lpiNeeded p || s.lpiBarred p || !s.flag .MAC_EEE_EN p then s.lpiWake p else s

/-- LPI_ENTER. -/
def execLpiEnter (p : Nat) (s : State) : Host.Outcome State Fault Refusal :=
  runOn 1040 p (if isTrunk p then 1 else 2) (fun s => s.lpiEnter p) s
/-- LPI_EXIT. -/
def execLpiExit (p : Nat) (s : State) : Host.Outcome State Fault Refusal :=
  runOn 1040 p (if isTrunk p then 1 else 2) (fun s => s.lpiExit p) s
/-- LPI_WAKE_END (R122). -/
def execLpiWakeEnd (p : Nat) (s : State) : Host.Outcome State Fault Refusal :=
  runOn 1040 p (if isTrunk p then 1 else 2) (fun s => s.setMac p { s.macOf p with waking := false }) s

/-- RX_LPI_ENTER (R124); near-end loopback ignores the medium (R111). -/
def State.rxLpi (s : State) (p : Nat) : State :=
  if s.extended p || !s.enabled p || s.get .MAC_CFG_LOOP p == 1 then s
  else (s.put .MAC_STATUS_RX_LPI p 1).inc .MAC_RX_LPI_COUNT p

/-- RX_LPI_ENTER. -/
def execRxLpiEnter (p : Nat) (s : State) : Host.Outcome State Fault Refusal :=
  runOn 1040 p (if isTrunk p then 1 else 2) (fun s => s.rxLpi p) s

end Sys2Proof.Machine
end

