-- ==== Sys2Proof/Machine/Versions.lean ====
section
/-! DEFINITION. The versioned indexed tables: port entries, lookup profiles and policer profiles, one copy per live version
(R188 to R190, R200, R232). -/
namespace Sys2Proof.Machine

/-- Key of entry `i` of a classifier target: 3 port entry, 4 profile, 5 policer profile (R207). -/
def clsKey (target i : Nat) : Nat := target * 2 ^ 17 + i

/-- Words of an entry of a target. -/
def clsWords (target : Nat) : Nat := if target = 3 then 2 else if target = 4 then 5 else 4

/-- The active version A (R200). -/
def State.versionA (s : State) : Nat := s.get .CLS_VERSION_ACTIVE

/-- The staging version A + 1 (R200). -/
def State.versionS (s : State) : Nat := (s.versionA + 1) % 2 ^ 16

/-- The draining version A − 1 (R200). -/
def State.versionD (s : State) : Nat := (s.versionA + 2 ^ 16 - 1) % 2 ^ 16

/-- An entry of the active version: zero words where none was ever written (R190). -/
def State.entryA (s : State) (target i : Nat) : List Word :=
  (tfind s.clsA (clsKey target i)).getD (List.replicate (clsWords target) 0)

/-- An entry as version `v` sees it (R200). -/
def State.entryIn (s : State) (v target i : Nat) : List Word :=
  let k := clsKey target i
  if v = s.versionD then (tfind s.clsD k).getD (s.entryA target i)
  else if v = s.versionS then (tfind s.clsS k).getD (s.entryA target i)
  else s.entryA target i

end Sys2Proof.Machine
end

