-- ==== Sys2Proof/Machine/Policer.lean ====
section
/-! DEFINITION. The policers (R231 to R242) and their rows. -/
namespace Sys2Proof.Machine

/-- Units of a level in one byte: 1/(16 × 15,625) byte (R233). -/
def polUnit : Nat := 250000

/-- MODE of a profile: 3 acts as 0 (R232). -/
def profMode (w : List Word) : Nat := let m := wbits (nth w 0 0) 31 30; if m = 3 then 0 else m
def profAware (w : List Word) : Bool := wbit (nth w 0 0) 29
def profRedDrop (w : List Word) : Bool := wbit (nth w 0 0) 28
def profCir (w : List Word) : Nat := wbits (nth w 0 0) 23 0
def profGen (w : List Word) : Nat := wbits (nth w 1 0) 31 24
def profPir (w : List Word) : Nat := wbits (nth w 1 0) 23 0
def profCbs (w : List Word) : Nat := wbits (nth w 2 0) 23 0
def profEbs (w : List Word) : Nat := wbits (nth w 3 0) 23 0

/-- The policer profile `i` as version `v` sees it (R232). -/
def State.profile (s : State) (v i : Nat) : List Word := s.entryIn v 5 i

/-- A policer after a reset to full or to zero (R240). -/
def polReset (w : List Word) (toZero : Bool) (t : Nat) : Pol :=
  if toZero then ⟨0, 0, t, profGen w⟩ else ⟨profCbs w * polUnit, profEbs w * polUnit, t, profGen w⟩

/-- A policer refilled to time `t` (R234). -/
def polRefill (w : List Word) (p : Pol) (t : Nat) : Pol :=
  let e0 := (t + 2 ^ 32 - p.last) % 2 ^ 32
  let e := if 2 ^ 31 ≤ e0 then 0 else e0
  let cbs := profCbs w * polUnit
  let ebs := profEbs w * polUnit
  let c := p.levelC + e * profCir w * 16
  if profMode w = 1 then { p with levelC := min cbs c, levelE := min ebs (p.levelE + (c - cbs)), last := t }
  else { p with levelC := min cbs c, levelE := min ebs (p.levelE + e * profPir w * 16), last := t }

/-- The generation check before a meter or a refresher visit (R241). -/
def polAdopt (w : List Word) (p : Pol) (toZero : Bool) (t : Nat) : Pol :=
  let d := (profGen w + 256 - p.gen) % 256
  if 1 ≤ d ∧ d ≤ 127 then polReset w toZero t else p

/-- The meter's result on a refilled policer: 0 green, 1 yellow, 2 red (R236). -/
def polResult (w : List Word) (p : Pol) (b cin : Nat) : Nat :=
  let n := b * polUnit
  let aware := profAware w
  if profMode w = 1 then
    if (!aware || cin == 0) && n ≤ p.levelC then 0
    else if (!aware || cin != 2) && n ≤ p.levelE then 1
    else 2
  else
    if (aware && cin == 2) || p.levelE < n then 2
    else if (aware && cin == 1) || p.levelC < n then 1
    else 0

/-- The debit of a frame that is not dropped (R236). -/
def polDebit (w : List Word) (p : Pol) (b r : Nat) : Pol :=
  let n := b * polUnit
  if profMode w = 1 then
    if r = 0 then { p with levelC := p.levelC - n } else if r = 1 then { p with levelE := p.levelE - n } else p
  else
    if r = 0 then { p with levelC := p.levelC - n, levelE := p.levelE - n }
    else if r = 1 then { p with levelE := p.levelE - n } else p

/-- Whether resets of a kind of policer go to zero (POL_RESET_MODE, R240). -/
def State.polToZero (s : State) : PolKind → Bool
  | .port => s.flag .POL_RESET_MODE_PORT
  | .node => s.flag .POL_RESET_MODE_NODE
  | .flow => s.flag .POL_RESET_MODE_FLOW

/-- The stored state of a policer: node policers live in their context (R233). -/
def State.pol (s : State) : PolKind → Nat → Pol
  | .port, i => tget {} s.portPol i
  | .flow, i => tget {} s.flowPol i
  | .node, i => (s.ctxOf i).pol

/-- The word address of a policer state or profile in memory 7 of R380 (log 16): flow states, then port states, then profiles. -/
def polAddr : PolKind → Nat → Nat
  | .flow, i => i
  | .port, i => 2 ^ 16 + i
  | .node, i => i

/-- The state with a policer's state stored. -/
def State.setPol (s : State) (k : PolKind) (i : Nat) (p : Pol) : State :=
  match k with
  | .port => ({ s with portPol := tput {} s.portPol i p }).memWrite 7 (polAddr k i)
  | .flow => ({ s with flowPol := tput {} s.flowPol i p }).memWrite 7 (polAddr k i)
  | .node => (s.setCtx i { s.ctxOf i with pol := p }).memWrite 5 i

/-- The profile number of a policer (R231). -/
def State.polProfile (s : State) : PolKind → Nat → Nat
  | .port, i => s.get .POL_PORT_CFG_PROFILE i
  | .flow, i => i
  | .node, i => wbits (s.ctxOf i).cfg5 15 0

/-- The word of memory 7 that holds a profile (log 16). -/
def profAddr (i : Nat) : Nat := 2 ^ 17 + i

/-- Profile `i` as it is read: an uncorrectable error, injected or among the words `bad` of memory 7, is counted and reported, and what
is read is then four free values (R250, R376; log 44). -/
def State.readProf (s : State) (v i : Nat) (bad : List Nat) : List Word × State :=
  if s.badWord 7 bad (profAddr i) then
    ((List.range 4).map fun j => word (Config.freeNat (s.fresh + j)),
     ({ s with fresh := s.fresh + 4 }.inc .POL_ECC_COUNT).memFault 7 (profAddr i))
  else (s.profile v i, s)

/-- A policer reset now under its profile in version `v` (R240). -/
def State.resetPol (s : State) (k : PolKind) (i v : Nat) : State :=
  let r := s.readProf v (s.polProfile k i) []
  r.2.setPol k i (polReset r.1 (s.polToZero k) s.unit64)

/-- An uncorrectable error met in a flow or port policer state under profile `w`: it is set as by a reset, counted and reported
(R235). -/
def State.polUnread (s : State) (k : PolKind) (i : Nat) (w : List Word) : State :=
  ((s.setPol k i (polReset w (s.polToZero k) s.unit64)).inc .POL_ECC_COUNT).memFault 7 (polAddr k i)

/-- A policer is read under profile `w`. A node policer lies in its context, which binding has read (R224). -/
def State.readPol (s : State) (k : PolKind) (i : Nat) (w : List Word) (bad : List Nat) : State :=
  if k ≠ .node ∧ s.badWord 7 bad (polAddr k i) then s.polUnread k i w else s

/-- The meter of R236 for one policer under profile `w`: the refilled state and the result. -/
def State.meter (s : State) (k : PolKind) (i : Nat) (w : List Word) (b cin : Nat) : Nat × Pol :=
  let p := polRefill w (polAdopt w (s.pol k i) (s.polToZero k) s.unit64) s.unit64
  (polResult w p b cin, p)

/-- One policer that a frame has passed: its profile as read, its refilled state and its result. -/
structure Passed where
  kind : PolKind
  idx : Nat
  prof : List Word
  pol : Pol
  res : Nat

/-- Metering in order: the state, the colour so far, the policers passed, and the one that dropped. -/
structure Metered where
  st : State
  col : Nat
  done : List Passed := []
  drop : Option PolKind := none

/-- One more policer of R237: skipped when its profile is disabled or the frame is already dropped. -/
def meterNext (v b : Nat) (bad : List Nat) (m : Metered) (x : PolKind × Nat) : Metered :=
  if m.drop.isSome then m
  else
    let r := m.st.readProf v (m.st.polProfile x.1 x.2) bad
    if profMode r.1 = 0 then { m with st := r.2 }
    else
      let s := r.2.readPol x.1 x.2 r.1 bad
      let y := s.meter x.1 x.2 r.1 b m.col
      { st := s, col := max m.col y.1, done := m.done ++ [⟨x.1, x.2, r.1, y.2, y.1⟩]
        drop := if y.1 = 2 ∧ profRedDrop r.1 then some x.1 else none }

/-- The metered states written back, debited unless the frame is dropped (R237). -/
def Metered.store (m : Metered) (b : Nat) : State :=
  m.st.each m.done fun s x => s.setPol x.kind x.idx (if m.drop.isSome then x.pol else polDebit x.prof x.pol b x.res)

/-- A frame of `b` bytes received on port `n` passes its policers (R237, R238): the drop, the colour and the state after. `bad`: the
words of memory 7 that read with an uncorrectable error. -/
def State.police (s : State) (n v b cin : Nat) (node flow : Option Nat) (bad : List Nat) : Bool × Nat × State :=
  let l := (if s.flag .POL_PORT_CFG_EN n then [(PolKind.port, n)] else [])
    ++ (match node with
        | some i => if wbit (s.ctxOf i).cfg5 31 then [(PolKind.node, i)] else []
        | none => [])
    ++ (match flow with
        | some i => [(PolKind.flow, i)]
        | none => [])
  let m := l.foldl (meterNext v b bad) { st := s, col := cin }
  let s1 := m.store b
  match m.drop with
  | some .port => (true, m.col, s1.inc .POL_DROP_PORT_COUNT n)
  | some .node => (true, m.col, s1.inc .POL_DROP_NODE_COUNT n)
  | some .flow => (true, m.col, s1.inc .POL_DROP_FLOW_COUNT n)
  | none =>
    (false, m.col, if m.col = 0 then s1.inc .POL_GREEN_COUNT n else if m.col = 1 then s1.inc .POL_YELLOW_COUNT n
      else s1.inc .POL_RED_COUNT n)

/-- The pre-colour of a frame with field vector `vec` on port `n` (R239): the colour, and whether a map entry was 3. -/
def State.precolour (s : State) (n : Nat) (vec : List Byte) : Nat × Bool :=
  let m0 := leAt vec 0 4
  match s.get .POL_PORT_CFG_PRE_SRC n with
  | 1 => if bits m0 23 22 = 0 then (0, false) else (bits (beAt vec 28 2) 12 12, false)
  | 2 =>
    if bits m0 19 18 = 0 then (0, false)
    else
      let d := bits (beAt vec 35 1) 7 2
      let c := bits (s.get .POL_DSCP_MAP_COLOURS (d / 16)) (2 * (d % 16) + 1) (2 * (d % 16))
      if c = 3 then (2, true) else (c, false)
  | _ => (0, false)

/-! The rows. -/

/-- POL_PORT_CFG_WRITE (R240): the write of a port policer's configuration; a new PROFILE or a rising EN resets it. -/
def State.polPortCfgWrite (s : State) (n : Nat) (w : Word) : State :=
  let old := s.rd .POL_PORT_CFG n
  let new := w &&& 0xE000FFFF#32
  let s1 := s.wr .POL_PORT_CFG n new
  if wbits old 15 0 ≠ wbits new 15 0 ∨ (!wbit old 31 && wbit new 31) then s1.resetPol .port n s1.versionA else s1

/-- POL_PORT_CFG_WRITE. -/
def execPolPortCfgWrite (n : Nat) (w : Word) (s : State) : Host.Outcome State Fault Refusal :=
  runSoftOn 1040 n 7 (fun s => s.polPortCfgWrite n w) s

/-- The three state words of a policer (R233). -/
def polWords (p : Pol) : List Word :=
  [word (bits p.gen 7 4 <<< 28 ||| (p.levelC / 15625) % 2 ^ 28),
   word (bits p.gen 3 0 <<< 28 ||| (p.levelE / 15625) % 2 ^ 28), word p.last]

end Sys2Proof.Machine
end

