-- ==== Sys2Proof/Machine/Parser.lean ====
section
/-! DEFINITION. The parser (R170 to R185): the walk of a parse graph over a frame's window, the field vector, the checks for
malformed frames. -/
namespace Sys2Proof.Machine

/-- A header-type entry's fields (R80). -/
def htWord (t : List Word) (i : Nat) : Word := nth t i 0
def htFixed (t : List Word) : Nat := wbits (htWord t 0) 7 0
def htClass (t : List Word) : Nat := wbits (htWord t 1) 19 16

/-- Extract descriptor `i` of a header type: slot, size, offset. -/
def htExtract (t : List Word) (i : Nat) : Nat × Nat × Nat :=
  let d := bits (htWord t (2 + i / 2)).toNat (16 * (i % 2) + 15) (16 * (i % 2))
  (bits d 15 10, bits d 9 6, bits d 5 0)

/-- A byte of the parse window: 0 beyond the data or at offset 192 and beyond (R171, R174). -/
def winByte (d : List Byte) (i : Nat) : Nat := if i < 192 then (nth d i 0).toNat else 0

/-- `k` window bytes in network byte order. -/
def winBe (d : List Byte) (i : Nat) : Nat → Nat
  | 0 => 0
  | k + 1 => winBe d i k * 256 + winByte d (i + k)

/-- The length of a header of type `t` at `pos` (R80). -/
def headerLen (d : List Byte) (t : List Word) (pos : Nat) : Nat :=
  if htFixed t ≠ 0 then htFixed t
  else
    let w := htWord t 0
    let u := wbits (htWord t 1) 9 8
    (((winByte d (pos + wbits w 13 8) >>> wbits w 18 16) &&& wbits w 31 24) + wbits (htWord t 1) 7 0)
      * (if u = 1 then 4 else if u = 2 then 8 else 1)

/-- The walk so far. -/
structure Walk where
  node : Nat := 0
  pos : Nat := 0
  layers : Nat := 0
  vlan : Nat := 0
  etag : Nat := 0
  hsr : Nat := 0
  ext : Nat := 0
  /-- an Ethernet header has been walked -/
  eth : Bool := false
  /-- end of the payload of the nearest IP header -/
  bound : Nat
  /-- 0 none, 1 IPv4, 2 IPv6 -/
  l3 : Nat := 0
  l3Ofs : Nat := 0
  l4 : Nat := 0
  l4Ofs : Nat := 0
  ipv4Opt : Bool := false
  seen4 : Bool := false
  /-- the extension chain of the first IP header is being walked -/
  chain : Bool := false
  /-- the nearest IPv6 header, while its extension and transport headers follow: layer, offset, payload length, bytes so far -/
  v6 : Option (Nat × Nat × Nat × Nat) := none
  /-- built-in fields and user bytes: bytes 16 to 143 of the vector -/
  fv : List Byte := List.replicate 128 0
  mask : Nat := 0
  endOfs : Nat := 0
  mal : Option (Nat × Nat × Nat) := none

/-- The malformed condition recorded: the header nearest the start, then the lowest cause (R181). -/
def Walk.note (w : Walk) (cause layer ofs : Nat) : Walk :=
  match w.mal with
  | none => { w with mal := some (cause, layer, ofs) }
  | some (c, l, _) => if layer < l ∨ (layer = l ∧ cause < c) then { w with mal := some (cause, layer, ofs) } else w

/-- The condition noted where it holds. -/
def Walk.noteIf (w : Walk) (b : Bool) (cause layer ofs : Nat) : Walk := if b then w.note cause layer ofs else w

/-- A field of the vector set: `off` counts from byte 0 of the vector. -/
def Walk.fill (w : Walk) (off : Nat) (b : List Byte) : Walk := { w with fv := splice w.fv (off - 16) b }

/-- `k` window bytes. -/
def winBytes (d : List Byte) (i k : Nat) : List Byte := (List.range k).map fun j => byte (winByte d (i + j))

/-- One byte of an extract (R184). -/
def Walk.userByte (w : Walk) (d : List Byte) (slot src : Nat) : Walk :=
  if 64 ≤ slot then w
  else
    let ok := decide (src < d.length ∧ src < 192)
    { w with fv := splice w.fv (64 + slot) [byte (winByte d src)]
             mask := if ok then orBit w.mask slot else clrBit w.mask slot }

/-- The extract descriptors of a header, in order (R184). -/
def Walk.extracts (w : Walk) (d : List Byte) (t : List Word) : Walk :=
  (List.range 4).foldl (fun w i =>
    let x := htExtract t i
    (List.range x.2.1).foldl (fun w j => w.userByte d (x.1 + j) (w.pos + x.2.2 + j)) w) w

/-- ETYPE and the type/length check of a header of CLASS Ethernet, VLAN tag, E-TAG or HSR tag (R177 to R179). -/
def Walk.etype (w : Walk) (d : List Byte) (len : Nat) (ended : Bool) : Walk :=
  let ofs := w.pos + len - 2
  let v := winBe d ofs 2
  (w.fill 32 (winBytes d ofs 2)).noteIf (ended && decide (v < 0x600) && decide (w.bound < w.pos + len + v)) 9 w.layers w.pos

/-- The L3 fields of the first IP header (R176, R185). -/
def Walk.fillL3 (w : Walk) (d : List Byte) (six : Bool) : Walk :=
  if w.l3 ≠ 0 then { w with chain := false }
  else
    let p := w.pos
    if six then
      let w1 := (((w.fill 34 (winBytes d (p + 6) 1)).fill 35 [byte (bits (winBe d p 2) 11 4)]).fill 36
        (beBytes 4 (bits (winBe d p 4) 19 0))).fill 40 (winBytes d (p + 8) 32)
      { (w1.fill 77 (winBytes d (p + 7) 1)) with l3 := 2, l3Ofs := p, chain := true }
    else
      let w1 := (((w.fill 34 (winBytes d (p + 9) 1)).fill 35 (winBytes d (p + 1) 1)).fill 52 (winBytes d (p + 12) 4)).fill 68
        (winBytes d (p + 16) 4)
      { (w1.fill 77 (winBytes d (p + 8) 1)) with l3 := 1, l3Ofs := p, chain := false }

/-- The L4 fields of the first transport header after the first IP header (R176). -/
def Walk.fillL4 (w : Walk) (d : List Byte) (tcp : Bool) : Walk :=
  if w.l3 = 0 ∨ w.l4 ≠ 0 then w
  else
    let w1 := w.fill 72 (winBytes d w.pos 4)
    { (if tcp then w1.fill 76 (winBytes d (w.pos + 13) 1) else w1) with l4 := if tcp then 2 else 1, l4Ofs := w.pos }

/-- Bytes of an extension or transport header counted against the IPv6 header before it (cause 0x5 of R179). -/
def Walk.after6 (w : Walk) (len : Nat) (last ended : Bool) : Walk :=
  match w.v6 with
  | none => w
  | some (l, p, plen, acc) =>
    let w1 := w.noteIf (ended && decide (plen < acc + len)) 5 l p
    { w1 with v6 := if last then none else some (l, p, plen, acc + len) }

/-- The class rules of a header (R176, R179); `ended` says that the frame's length is known. -/
def Walk.classRules (w : Walk) (d : List Byte) (cls len : Nat) (ended : Bool) : Walk :=
  let p := w.pos
  let past := ended && decide (w.bound < p + len)
  match cls with
  | 1 =>
    let w1 := if w.eth then w else (w.fill 16 (winBytes d p 6)).fill 22 (winBytes d (p + 6) 6)
    ({ w1 with eth := true, chain := false, v6 := none }.etype d len ended).noteIf past 10 w.layers p
  | 2 =>
    let w1 := if w.vlan = 0 then w.fill 28 (winBytes d p 2) else if w.vlan = 1 then w.fill 30 (winBytes d p 2) else w
    ({ w1 with vlan := w.vlan + 1, chain := false, v6 := none }.etype d len ended).noteIf past 10 w.layers p
  | 3 => ({ w with etag := w.etag + 1, chain := false, v6 := none }.etype d len ended).noteIf past 10 w.layers p
  | 4 => ({ w with hsr := w.hsr + 1, chain := false, v6 := none }.etype d len ended).noteIf past 10 w.layers p
  | 5 =>
    let tot := winBe d (p + 2) 2
    let w1 := ((((w.noteIf (ended && decide (w.bound < p + tot)) 1 w.layers p).noteIf (decide (tot < len)) 2 w.layers p).noteIf
      (decide (len < 20)) 3 w.layers p).noteIf past 10 w.layers p).fillL3 d false
    { w1 with bound := p + tot, v6 := none, ipv4Opt := if w.seen4 then w.ipv4Opt else decide (20 < len), seen4 := true }
  | 6 =>
    let pl := winBe d (p + 4) 2
    let w1 := ((w.noteIf (ended && decide (w.bound < p + len + pl)) 4 w.layers p).noteIf past 10 w.layers p).fillL3 d true
    { w1 with bound := p + len + pl, v6 := some (w.layers, p, pl, 0) }
  | 7 =>
    let w1 := (w.noteIf past 10 w.layers p).after6 len false ended
    { (if w.chain then w1.fill 34 (winBytes d p 1) else w1) with ext := w.ext + 1 }
  | 8 => { (w.noteIf past 10 w.layers p).after6 len false ended with ext := w.ext + 1 }
  | 9 =>
    let ul := winBe d (p + 4) 2
    let w1 := ((w.noteIf (ended && decide (p + ul ≠ w.bound)) 6 w.layers p).noteIf (decide (ul < 8)) 7 w.layers p).noteIf past 10
      w.layers p
    { (w1.after6 len true ended).fillL4 d false with chain := false }
  | 10 =>
    let w1 := w.noteIf (ended && decide (len < 20) || past) 8 w.layers p
    { (w1.after6 len true ended).fillL4 d true with chain := false }
  | _ => { w.noteIf past 10 w.layers p with chain := false, v6 := none }

/-- The first transition that the selector takes, else DEFAULT_NEXT (R80). -/
def nextNode (g : Graph) (n : List Word) (sel : Nat) : Nat :=
  let first := wbits (nth n 1 0) 11 0
  match (slice g.trans first (wbits (nth n 1 0) 22 16)).find? fun t => sel &&& (nth t 1 0).toNat == (nth t 0 0).toNat with
  | some t => wbits (nth t 2 0) 8 0
  | none => wbits (nth n 2 0) 8 0

/-- How a walk ended: 0 parsed, 1 fragment, 2 depth, 3 malformed, 4 HSR supervision; and for a depth stop its cause. -/
def walkFrom (g : Graph) (d : List Byte) (ended : Bool) : Nat → Walk → Walk × Nat × Nat
  | 0, w => (w, 2, 1)
  | fuel + 1, w0 =>
    let n := nth g.nodes w0.node []
    let t := nth g.types (wbits (nth n 0 0) 5 0) []
    let cls := htClass t
    let w := { w0 with layers := w0.layers + 1 }
    if 12 < w.layers then (w, 2, 1)
    else if cls = 2 ∧ w.vlan = 3 then (w, 2, 2)
    else if cls = 3 ∧ w.etag = 1 then (w, 2, 3)
    else if cls = 4 ∧ w.hsr = 1 then (w, 2, 4)
    else if (cls = 7 ∨ cls = 8) ∧ w.ext = 4 then (w, 2, 5)
    else
      let len := headerLen d t w.pos
      if len = 0 then (w.note 11 w.layers w.pos, 3, 0)
      else if 192 < w.pos + len then
        (w.noteIf (ended && decide (w.bound < w.pos + len)) 10 w.layers w.pos, 2, 6)
      else
        let p := w.pos
        let w1 := { ((w.classRules d cls len ended).extracts d t) with endOfs := p + len }
        if cls = 5 ∧ (bits (winBe d (p + 6) 2) 13 13 = 1 ∨ bits (winBe d (p + 6) 2) 12 0 ≠ 0) then (w1, 1, 0)
        else if cls = 8 then (w1, 1, 0)
        else if cls = 4 ∧ winBe d (p + 4) 2 = 0x88FB then (w1, 4, 0)
        else
          let k := wbits (nth n 0 0) 17 16
          let sel := winBe d (p + wbits (nth n 0 0) 13 8) (if k = 3 then 4 else k)
          let nx := nextNode g n sel
          if nx = 0x1FF then ({ w1 with pos := p + len }, 0, 0)
          else walkFrom g d ended fuel { w1 with pos := p + len, node := nx }

/-- The field vector of a walk (R185); a stop at layer l fills the layers before it. -/
def Walk.vector (w : Walk) (outcome layers : Nat) : List Byte :=
  let m0 := outcome <<< 29 ||| layers <<< 24 ||| w.vlan <<< 22 ||| w.etag <<< 21 ||| w.hsr <<< 20 ||| w.l3 <<< 18 ||| w.l4 <<< 16
    ||| w.ext <<< 13 ||| b2n w.ipv4Opt <<< 12 ||| w.endOfs
  leBytes 4 m0 ++ leBytes 4 (w.l3Ofs <<< 8 ||| w.l4Ofs) ++ leBytes 8 w.mask ++ w.fv

/-- The parse of a frame's data under a graph (R173). `ended` says that the whole frame has arrived. -/
def parse (g : Graph) (d : List Byte) (ended : Bool) : Parsed :=
  let r := walkFrom g d ended 13 { bound := d.length }
  let filled := if r.2.1 = 2 ∨ r.2.1 = 3 then r.1.layers - 1 else r.1.layers
  let out := if r.1.mal.isSome then 3 else r.2.1
  { vec := r.1.vector out filled, stop := r.2.1
    depth := if r.2.1 = 2 then (r.2.2, r.1.layers, r.1.pos) else (0, 0, 0)
    mal := r.1.mal, hsr := r.1.hsr != 0 }

/-- The reduced vector of a forward-unparsed frame (R185). -/
def reducedVector (d : List Byte) : List Byte :=
  leBytes 4 (3 <<< 29 ||| 1 <<< 28 ||| 1 <<< 24 ||| 14) ++ List.replicate 12 0 ++ slice d 0 12 ++ List.replicate 4 0
    ++ slice d 12 2 ++ List.replicate 110 0

end Sys2Proof.Machine
end

