-- ==== Sys2Proof/Machine/Classifier.lean ====
section
/-! DEFINITION. The classifier: lookups, staging, versioned commits, and its rows (R188 to R211). -/
namespace Sys2Proof.Machine

/-! Keys (R189, R190). -/

/-- Segment `i` of a profile: offset and length; 0 to 5 flow segments, 6 to 9 prefix segments (R189). -/
def segment (w : List Word) (i : Nat) : Nat × Nat :=
  let v := bits (nth w (i / 2) 0).toNat (16 * (i % 2) + 15) (16 * (i % 2))
  (bits v 15 8, bits v 5 0)

/-- The bytes that some segments take from a vector. -/
def segBytes (w : List Word) (l : List Nat) (vec : List Byte) : List Byte :=
  l.flatMap fun i => slice vec (segment w i).1 (segment w i).2

/-- Length of a profile's flow key (R189). -/
def flowKeyLen (w : List Word) : Nat := ((List.range 6).map fun i => (segment w i).2).sum

/-- A profile whose flow key is wide (R189). -/
def profWide (w : List Word) : Bool := 16 < flowKeyLen w

/-- The padded flow key (R189). -/
def flowKey (w : List Word) (vec : List Byte) : List Byte :=
  padTo (if profWide w then 48 else 16) (segBytes w (List.range 6) vec)

/-- Bytes of a prefix key in the mode of CLS_PFX_CFG (R189). -/
def State.pfxLen (s : State) : Nat := if s.flag .CLS_PFX_CFG_WIDE then 40 else 20

/-- The prefix key (R189). -/
def State.pfxKey (s : State) (prof : Nat) (w : List Word) (vec : List Byte) : List Byte :=
  padTo s.pfxLen (byte prof :: segBytes w [6, 7, 8, 9] vec)

/-! The flow table (R191 to R194). -/

/-- Flow positions outside the stash (R79, R191). Before the first structure commit, when R205 has not fixed the size yet, the empty
image gives the smallest one (DESIGN CHOICE, log 44). -/
def State.flowSize (s : State) : Nat := 131072 <<< min 2 (wbits s.img.part 1 0)

/-- The key bytes of a flow entry: words 0 to 3, and 8 to 15 of a wide one (R192). -/
def entryKey (e : List Word) : List Byte := bytesOf (slice e 0 4 ++ slice e 8 8)

def entryProfile (e : List Word) : Nat := wbits (nth e 5 0) 27 24
def entryWide (e : List Word) : Bool := wbit (nth e 5 0) 28

/-- VALID, ADD_PEND and DEL_PEND with their versions: visible in version `v` (R200). `vw` is the version word, `fw` the flag word. -/
def visible (vw fw : Word) (v : Nat) : Bool :=
  wbit fw 31
    && !(wbit fw 30 && decide (0x8000 ≤ (v + 2 ^ 16 - wbits vw 31 16) % 2 ^ 16))
    && !(wbit fw 29 && decide ((v + 2 ^ 16 - wbits vw 15 0) % 2 ^ 16 < 0x8000))

/-- The two candidate buckets of a key (R191). -/
def State.flowBuckets (s : State) (prof : Nat) (key : List Byte) : Nat × Nat :=
  let n := s.flowSize / 4
  let h := fun (seed : Word) => crc32c (beBytes 4 seed.toNat ++ [byte prof] ++ key) % n
  let h1 := h (s.rd .CLS_FLOW_SEED0)
  let h2 := h (s.rd .CLS_FLOW_SEED1)
  (h1, if h2 = h1 then h1 ^^^ 1 else h2)

/-- The listed entries that a key's lookup probes: both buckets and the stash (R191). -/
def State.flowProbed (s : State) (prof : Nat) (key : List Byte) : List (Nat × List Word) :=
  let b := s.flowBuckets prof key
  s.flow.filter fun e => e.1 / 4 == b.1 || e.1 / 4 == b.2 || 0x80000 ≤ e.1

/-- An entry has this key, profile and width. -/
def flowSame (prof : Nat) (key : List Byte) (e : List Word) : Bool :=
  entryProfile e == prof && entryWide e == (key.length == 48) && entryKey e == key

/-- A flow entry reads with an uncorrectable error: an injected one, or one of the positions in `l` (R199, R376). A wide entry takes
two positions. -/
def State.flowEcc (s : State) (l : List Nat) (e : Nat × List Word) : Bool :=
  let bad := s.badWord 3 l
  bad e.1 || (entryWide e.2 && bad (e.1 + 1))

/-- The visible entry of a key in version `v`, the positions in `skip` apart (R191, R199). -/
def State.flowFind (s : State) (v prof : Nat) (key : List Byte) (skip : List Nat := []) : Option (Nat × List Word) :=
  (s.flowProbed prof key).find? fun e =>
    flowSame prof key e.2 && visible (nth e.2 4 0) (nth e.2 5 0) v && !skip.contains e.1

/-- The prefix entry of lowest row that matches a key and is visible in version `v` (R196). -/
def pfxMatch (key : List Byte) (e : List Word) : Bool :=
  (List.range (key.length / 4)).all fun i => (word (leAt key (4 * i) 4) &&& nth e (10 + i) 0) == nth e i 0

def State.pfxFind (s : State) (v : Nat) (key : List Byte) (skip : List Nat := []) : Option (Nat × List Word) :=
  s.pfx.find? fun e => pfxMatch key e.2 && visible (nth e.2 20 0) (nth e.2 21 0) v && !skip.contains e.1

/-- The positions that a key's lookup probes and that read with an uncorrectable error: injected ones, and those of `l` (R199). -/
def State.flowBad (s : State) (prof : Nat) (key : List Byte) (l : List Nat) : List Nat :=
  let b := s.flowBuckets prof key
  let free := l.filter fun a =>
    (a / 4 == b.1 || a / 4 == b.2 || (0x80000 ≤ a && decide (a < 0x81000))) && (tfind s.flow a).isNone && (a % 2 == 0 || (tfind s.flow (a - 1)).isNone)
  (((s.flowProbed prof key).filter (s.flowEcc l)).map (·.1) ++ free).eraseDups

/-- A prefix row reads with an uncorrectable error: an injected one, or one of `l`. -/
def State.pfxEcc (s : State) (l : List Nat) (a : Nat) : Bool := s.badWord 4 l a

/-- The rows that a key matches and that read with an uncorrectable error (R199). -/
def State.pfxBad (s : State) (key : List Byte) (l : List Nat) : List Nat :=
  (s.pfx.filter fun e => pfxMatch key e.2 && s.pfxEcc l e.1).map (·.1)

/-- FWD: 3 acts as 0 (R194). -/
def fwdCode (n : Nat) : Nat := if n = 3 then 0 else n

/-- The default class of a port entry (R190). -/
def defaultClass (pe : Word) (vec : List Byte) : Nat :=
  let m0 := leAt vec 0 4
  match wbits pe 25 24 with
  | 1 => if bits m0 23 22 = 0 then wbits pe 23 21 else bits (beAt vec 28 2) 15 13
  | 2 => if bits m0 19 18 = 0 then wbits pe 23 21 else bits (beAt vec 35 1) 7 5
  | _ => wbits pe 23 21

/-- The merged result of a frame's lookups under version `v` on receiving port `p` (R198). An entry that reads with an uncorrectable
error matches nothing, is counted and reported (R199): `fe` and `xe` are the flow positions and prefix rows in error. -/
def State.lookup (s : State) (v p : Nat) (vec : List Byte) (fe xe : List Nat) : Lookup × State :=
  let pe := nth (s.entryIn v 3 p) 0 0
  let prof := wbits pe 31 28
  let w := s.entryIn v 4 prof
  let fk := flowKey w vec
  let xk := s.pfxKey prof w vec
  let fBad := if wbit pe 20 then s.flowBad prof fk fe else []
  let xBad := if wbit pe 19 then s.pfxBad xk xe else []
  let f := if wbit pe 20 then s.flowFind v prof fk fBad else none
  let x := if wbit pe 19 then s.pfxFind v xk xBad else none
  let s1 := (s.each fBad fun s a => s.memFault 3 a).each xBad fun s a => s.memFault 4 a
  let fw := f.map (·.2)
  let xw := x.map (·.2)
  let r : Lookup :=
    { fwd := match fw, xw with
        | some a, _ => fwdCode (wbits (nth a 6 0) 31 30)
        | none, some b => fwdCode (wbits (nth b 21 0) 19 18)
        | none, none => fwdCode (wbits pe 27 26)
      cls := match fw.filter (fun a => wbit (nth a 6 0) 29), xw.filter (fun b => wbit (nth b 21 0) 17) with
        | some a, _ => wbits (nth a 6 0) 28 26
        | none, some b => wbits (nth b 21 0) 16 14
        | none, none => defaultClass pe vec
      pol := match fw.filter (fun a => wbit (nth a 6 0) 25), xw.filter (fun b => wbit (nth b 21 0) 13) with
        | some a, _ => some (wbits (nth a 6 0) 24 9)
        | none, some b => some (wbits (nth b 22 0) 15 0)
        | none, none => none
      flow := match fw with
        | some a => wbits (nth a 5 0) 18 0
        | none => 0x7FFFF
      chkOp := match fw with
        | some a => let o := wbits (nth a 7 0) 31 30; if o = 3 then 0 else o
        | none => 0
      chkUnit := match fw with
        | some a => wbits (nth a 7 0) 29 25
        | none => 0
      stamp := match fw with
        | some a => if wbit (nth a 7 0) 24 then some (wbits (nth a 7 0) 23 15) else none
        | none => none
      n := 1, flowHits := b2n f.isSome, pfxHits := b2n x.isSome, eccMiss := fBad.length + xBad.length }
  (r, s1)

/-- The symmetric hash of a field vector (R209). -/
def State.symHash (s : State) (vec : List Byte) : Nat :=
  let m0 := leAt vec 0 4
  let ip := bits m0 19 18 != 0
  let z10 := List.replicate 10 (0 : Byte)
  let a1 := if ip then slice vec 40 16 else z10 ++ slice vec 22 6
  let a2 := if ip then slice vec 56 16 else z10 ++ slice vec 16 6
  let x1 := a1 ++ slice vec 72 2
  let x2 := a2 ++ slice vec 74 2
  let proto := if ip then slice vec 34 1 else [0]
  let lohi := if beNat x1 ≤ beNat x2 then x1 ++ x2 else x2 ++ x1
  crc32c (beBytes 4 (s.rd .CLS_SYM_SEED).toNat ++ lohi ++ proto)

/-! Frames in flight (R20, R202). -/

/-- Frames in flight on version `v`; the Keep producer counts as one (R202, R407). -/
def State.inflight (s : State) (v : Nat) : Nat :=
  (s.rx.filter fun e => match e.2 with
    | some r => r.inflight && r.version == v
    | none => false).length + (if s.keep.pin = some v then 1 else 0)

/-! Staging (R201, R205, R207, R208). -/

/-- STATE codes of R203. -/
def clsIdle : Nat := 0
def clsStaging : Nat := 1
def clsWait : Nat := 2
def clsCommitting : Nat := 3
def clsDiscarding : Nat := 4

/-- Staged commands are refused with STAGE_LOCKED (R205, R208). -/
def State.stageLocked (s : State) : Bool :=
  !(s.get .CLS_COMMIT_STATUS_STATE == clsIdle || s.get .CLS_COMMIT_STATUS_STATE == clsStaging)
    || s.flag .CLS_COMMIT_STATUS_STAGE_FAIL || !s.committed

/-- A staging failure: discarding begins (R203). Causes: 1 stash, 2 prefix, 3 journal, 4 ECC. -/
def State.stageFail (s : State) (cause : Nat) : State :=
  ({ s with discardFailed := true }.put .CLS_COMMIT_STATUS_STATE 0 clsDiscarding |>.put .CLS_COMMIT_STATUS_STAGE_FAIL 0 1
    |>.put .CLS_COMMIT_STATUS_COMMIT_BUSY 0 0 |>.put .CLS_COMMIT_STATUS_FAIL_CAUSE 0 cause).pulse 1444

/-- A flow entry without its version words (R405). -/
def flowRecord (e : List Word) : List Word := (e.set 4 0).set 5 (nth e 5 0 &&& 0x1FFFFFFF#32)

/-- A prefix entry without its version words (R405). -/
def pfxRecord (e : List Word) : List Word := (e.set 20 0).set 21 (nth e 21 0 &&& 0x1FFFFFFF#32)

/-- A journal item (R413): operation (1 add, 2 delete, 3 write), target and index as in a table access command, entry (log 22). -/
def journalItem (op target i : Nat) (e : List Word) : List Word := [word op, word (target <<< 24 ||| i)] ++ e

/-- The staging is open, and an accepted command adds one item to its journal (R201). A command that was in progress at the COMMIT ends
while the state waits for it (R203). -/
def State.stageItem (s : State) (x : List Word) : State :=
  ({ s with journal := s.journal ++ [x] }.when (s.get .CLS_COMMIT_STATUS_STATE == clsIdle) fun s =>
    s.put .CLS_COMMIT_STATUS_STATE 0 clsStaging).put .CLS_JOURNAL_COUNT 0 (s.get .CLS_JOURNAL_COUNT + 1)

/-- A command that found the staging open at its GO is refused no more for a COMMIT after it; an ABORT or a failure since then refuses
it (R203, R205). -/
def State.stageShut (s : State) (opened : Bool) : Bool :=
  if opened then s.get .CLS_COMMIT_STATUS_STATE == clsDiscarding || s.flag .CLS_COMMIT_STATUS_STAGE_FAIL || !s.committed else true

/-- The outcome of a table command: result, POS, returned words. -/
abbrev TaeOut := Nat × Option Nat × List Word

/-- A refused staged command is counted (R208). -/
def State.stageRefuse (s : State) (res : Nat) : TaeOut × State := ((res, none, []), s.inc .CLS_STAGE_REJ_COUNT)

/-- A flow or stash position holds an entry: its own, or the second half of a wide one (R191). -/
def State.flowTaken (s : State) (p : Nat) : Bool :=
  (tfind s.flow p).isSome || (p % 2 == 1 && (match tfind s.flow (p - 1) with
    | some e => entryWide e
    | none => false))

/-- The free places of a bucket for a width, rising (R191). -/
def State.bucketFree (s : State) (b : Nat) (wide : Bool) : List Nat :=
  if wide then [4 * b, 4 * b + 2].filter fun p => !s.flowTaken p && !s.flowTaken (p + 1)
  else [4 * b, 4 * b + 1, 4 * b + 2, 4 * b + 3].filter fun p => !s.flowTaken p

/-- The lowest free stash place from position `k`, `n` positions left. -/
def State.stashFree (s : State) (wide : Bool) : Nat → Nat → Option Nat
  | 0, _ => none
  | n + 1, k =>
    let p := 0x80000 + k
    if wide then
      if k % 2 == 0 && n != 0 && !s.flowTaken p && !s.flowTaken (p + 1) then some p else s.stashFree wide n (k + 1)
    else if !s.flowTaken p then some p else s.stashFree wide n (k + 1)

/-- The place that a staged flow entry takes (R191). -/
def State.flowPlace (s : State) (prof : Nat) (key : List Byte) : Option Nat :=
  let b := s.flowBuckets prof key
  let wide := key.length == 48
  let f1 := s.bucketFree b.1 wide
  let f2 := s.bucketFree b.2 wide
  match (if f1.length < f2.length then f2 else f1) with
  | p :: _ => some p
  | [] => s.stashFree wide 4096 0

/-- The state with a flow position set or freed; a wide entry's second position is written with it. -/
def State.setFlow (s : State) (p : Nat) (e : Option (List Word)) : State :=
  let wide := e.any entryWide || (tfind s.flow p).any entryWide
  (({ s with flow := tset s.flow p e }).memWrite 3 p).when wide fun s => s.memWrite 3 (p + 1)

/-- A staged flow entry breaks a rule of R192. -/
def State.flowBadEntry (s : State) (d : List Word) : Bool :=
  let w5 := nth d 5 0
  let prof := s.entryIn s.versionS 4 (wbits w5 27 24)
  wbit w5 28 != profWide prof || wbits w5 23 19 != 0 || wbits (nth d 6 0) 8 0 != 0 || wbits (nth d 7 0) 14 0 != 0
    || (wbit (nth d 7 0) 24 && decide (wbits (nth d 7 0) 23 15 < 14))

/-- The key that a command's data words name, for the width of the profile in version `v`. -/
def State.dataKey (s : State) (v : Nat) (d : List Word) : Nat × List Byte :=
  let prof := wbits (nth d 5 0) 27 24
  (prof, bytesOf (slice d 0 4 ++ if profWide (s.entryIn v 4 prof) then slice d 8 8 else []))

/-- A staged command reads entries with an uncorrectable error: each is reported, and the staging fails (R203). -/
def State.stageEcc (s : State) (m : Nat) (l : List Nat) : TaeOut × State :=
  (s.each l fun s a => s.memFault m a).stageFail 4 |>.stageRefuse 5

/-- STAGE_ADD of a flow entry (R191, R201). -/
def State.stageAddFlow (s : State) (d : List Word) : TaeOut × State :=
  if s.flowBadEntry d then s.stageRefuse 3
  else
    let k := s.dataKey s.versionS d
    let bad := s.flowBad k.1 k.2 []
    if !bad.isEmpty then s.stageEcc 3 bad
    else if (s.flowFind s.versionS k.1 k.2).isSome then s.stageRefuse 1
    else if 65536 ≤ s.get .CLS_JOURNAL_COUNT then (s.stageFail 3).stageRefuse 5
    else match s.flowPlace k.1 k.2 with
      | none => (s.stageFail 1).stageRefuse 5
      | some p =>
        let w5 := (nth d 5 0 &&& 0x1F07FFFF#32) ||| 0xC0000000#32
        let e := slice d 0 4 ++ [word (s.versionS <<< 16), w5, nth d 6 0, nth d 7 0]
          ++ (if k.2.length = 48 then slice d 8 8 else [])
        ((0, some p, []), (s.setFlow p (some e)).stageItem (journalItem 1 1 0 (flowRecord e)))

/-- STAGE_DEL of a flow entry (R201). -/
def State.stageDelFlow (s : State) (d : List Word) : TaeOut × State :=
  let k := s.dataKey s.versionS d
  let bad := s.flowBad k.1 k.2 []
  if !bad.isEmpty then s.stageEcc 3 bad
  else match s.flowFind s.versionS k.1 k.2 with
  | none => s.stageRefuse 2
  | some (p, e) =>
    if 65536 ≤ s.get .CLS_JOURNAL_COUNT then (s.stageFail 3).stageRefuse 5
    else if wbit (nth e 5 0) 30 && wbits (nth e 4 0) 31 16 == s.versionS then
      ((0, some p, []), (s.setFlow p none).stageItem (journalItem 2 1 0 (flowRecord e)))
    else
      let e' := (e.set 4 ((nth e 4 0 &&& 0xFFFF0000#32) ||| word s.versionS)).set 5 (nth e 5 0 ||| 0x20000000#32)
      ((0, some p, []), (s.setFlow p (some e')).stageItem (journalItem 2 1 0 (flowRecord e)))

/-! The prefix table's placement (R195 to R197). -/

def pfxPlen (e : List Word) : Nat := wbits (nth e 21 0) 28 20

/-- The state with a prefix row set or freed. -/
def State.setPfx (s : State) (r : Nat) (e : Option (List Word)) : State :=
  ({ s with pfx := tset s.pfx r e }).memWrite 4 r

/-- Entries of the prefix table, each by its place: rows in narrow mode, pairs of rows in wide mode. -/
def State.pfxUnit (s : State) : Nat := if s.flag .CLS_PFX_CFG_WIDE then 2 else 1

/-- The nearest free place at or above `b`, over the rising list of taken places. -/
def freeUp (l : List Nat) (b : Nat) : Nat := l.foldl (fun b u => if u = b then b + 1 else b) b

/-- The nearest free place below `b`, plus one; 0 for none. -/
def freeDown (l : List Nat) (b : Nat) : Nat := l.foldr (fun u c => if u + 1 = c then c - 1 else c) b

/-- The values of a list without repeats, in order of their first place. -/
def distinct (l : List Nat) : List Nat := l.foldl (fun a x => if a.contains x then a else a ++ [x]) []

/-- The entry at place `a` is copied to place `b`, then cleared (R197). -/
def State.pfxMove (s : State) (a b : Nat) : State :=
  match tfind s.pfx a with
  | none => s
  | some e => (s.setPfx b (some e)).setPfx a none

/-- Where the move engine opens a place for rank `plen`, and the state after its moves; none for a full table (R197). -/
def State.pfxOpen (s : State) (plen : Nat) : Option (Nat × State) :=
  let u := s.pfxUnit
  let cap := 16384 / u
  let l := s.pfx.map fun e => (e.1 / u, pfxPlen e.2)
  let b := l.foldl (fun b e => if plen ≤ e.2 then e.1 + 1 else b) 0
  let hi := freeUp (l.map (·.1)) b
  let lo := freeDown (l.map (·.1)) b
  let gHi := distinct ((l.filter fun e => b ≤ e.1 && e.1 < hi).map (·.2))
  let gLo := distinct ((l.filter fun e => lo ≤ e.1 && e.1 < b && plen < e.2).map (·.2))
  let goHi := fun (s : State) =>
    gHi.reverse.foldl (fun (a : Nat × State) g =>
      let from' := ((l.find? fun e => b ≤ e.1 && e.2 == g).map (·.1)).getD b
      (from', a.2.pfxMove (u * from') (u * a.1))) (hi, s)
  let goLo := fun (s : State) =>
    gLo.foldl (fun (a : Nat × State) g =>
      let from' := ((l.reverse.find? fun e => e.1 < b && e.2 == g).map (·.1)).getD b
      (from', a.2.pfxMove (u * from') (u * a.1))) (lo - 1, s)
  if hi < cap ∧ (lo = 0 ∨ gHi.length ≤ gLo.length) then some (goHi s)
  else if lo ≠ 0 then some (goLo s)
  else none

/-- The key and mask words that count in the mode in force (R195). -/
def State.pfxData (s : State) (d : List Word) : List Word × List Word :=
  let n := s.pfxLen / 4
  (slice d 0 n ++ List.replicate (10 - n) 0, slice d 10 n ++ List.replicate (10 - n) 0)

/-- The entry with a key, mask and rank visible in version `v`. -/
def State.pfxSame (s : State) (v : Nat) (d : List Word) : Option (Nat × List Word) :=
  s.pfx.find? fun e => slice e.2 0 10 == (s.pfxData d).1 && slice e.2 10 10 == (s.pfxData d).2
    && pfxPlen e.2 == pfxPlen d && visible (nth e.2 20 0) (nth e.2 21 0) v

/-- The rows with the key, mask and rank of a command that read with an uncorrectable error. -/
def State.pfxSameBad (s : State) (d : List Word) : List Nat :=
  (s.pfx.filter fun e => slice e.2 0 10 == (s.pfxData d).1 && slice e.2 10 10 == (s.pfxData d).2 && pfxPlen e.2 == pfxPlen d
    && s.pfxEcc [] e.1).map (·.1)

/-- The rows that a move of the prefix table from `s` to `s1` reads with an uncorrectable error. -/
def State.pfxMovedBad (s s1 : State) : List Nat :=
  (s.pfx.filter fun e => tfind s1.pfx e.1 != some e.2 && s.pfxEcc [] e.1).map (·.1)

/-- STAGE_ADD of a prefix entry (R195, R197, R201). -/
def State.stageAddPfx (s : State) (d : List Word) : TaeOut × State :=
  let km := s.pfxData d
  if (km.1.zip km.2).any (fun x => x.1 &&& ~~~ x.2 != 0) || decide (8 * s.pfxLen < pfxPlen d) then s.stageRefuse 3
  else if !(s.pfxSameBad d).isEmpty then s.stageEcc 4 (s.pfxSameBad d)
  else if (s.pfxSame s.versionS d).isSome then s.stageRefuse 1
  else if 65536 ≤ s.get .CLS_JOURNAL_COUNT then (s.stageFail 3).stageRefuse 5
  else match s.pfxOpen (pfxPlen d) with
    | none => (s.stageFail 2).stageRefuse 5
    | some (r, s1) =>
      if !(s.pfxMovedBad s1).isEmpty then s.stageEcc 4 (s.pfxMovedBad s1)
      else
      let row := s.pfxUnit * r
      let w21 := (nth d 21 0 &&& 0x1FFFE000#32) ||| 0xC0000000#32
      let e := km.1 ++ km.2 ++ [word (s.versionS <<< 16), w21, nth d 22 0 &&& 0xFFFF#32]
      ((0, some row, []), (s1.setPfx row (some e)).stageItem (journalItem 1 2 0 (pfxRecord e)))

/-- STAGE_DEL of a prefix entry (R201). -/
def State.stageDelPfx (s : State) (d : List Word) : TaeOut × State :=
  if !(s.pfxSameBad d).isEmpty then s.stageEcc 4 (s.pfxSameBad d)
  else match s.pfxSame s.versionS d with
  | none => s.stageRefuse 2
  | some (r, e) =>
    if 65536 ≤ s.get .CLS_JOURNAL_COUNT then (s.stageFail 3).stageRefuse 5
    else if wbit (nth e 21 0) 30 && wbits (nth e 20 0) 31 16 == s.versionS then
      ((0, some r, []), (s.setPfx r none).stageItem (journalItem 2 2 0 (pfxRecord e)))
    else
      let e' := (e.set 20 ((nth e 20 0 &&& 0xFFFF0000#32) ||| word s.versionS)).set 21 (nth e 21 0 ||| 0x20000000#32)
      ((0, some r, []), (s.setPfx r (some e')).stageItem (journalItem 2 2 0 (pfxRecord e)))

/-! Staged writes (R189, R190, R232). -/

/-- Entries of an indexed target (R207). -/
def clsRange (target : Nat) : Nat := if target = 3 then 1040 else if target = 4 then 16 else 65536

/-- A staged profile breaks a rule of R189. -/
def State.profileBad (s : State) (d : List Word) : Bool :=
  let segs := (List.range 10).map (segment d)
  segs.any (fun x => decide (144 < x.1 + x.2) || decide (48 < x.2))
    || (List.range 5).any (fun i => wbits (nth d i 0) 7 6 != 0 || wbits (nth d i 0) 23 22 != 0)
    || decide (48 < flowKeyLen d)
    || decide (s.pfxLen - 1 < ((segs.drop 6).map (·.2)).sum)

/-- A staged policer profile breaks a rule of R232. -/
def polBad (d : List Word) : Bool :=
  wbits (nth d 0 0) 27 24 != 0 || wbits (nth d 2 0) 31 24 != 0 || wbits (nth d 3 0) 31 24 != 0
    || decide (12500000 < profCir d) || decide (12500000 < profPir d)
    || (profMode d == 2 && decide (profPir d < profCir d)) || (wbits (nth d 0 0) 31 30 == 1 && profPir d != 0)

/-- STAGE_WRITE (R200, R207, R241). -/
def State.stageWrite (s : State) (target i : Nat) (d0 : List Word) : TaeOut × State :=
  let d := slice (d0 ++ List.replicate 5 0) 0 (clsWords target)
  let bad := match target with
    | 3 => wbits (nth d 0 0) 18 0 != 0 || nth d 1 0 != 0
    | 4 => s.profileBad d
    | _ => polBad d
  if bad then s.stageRefuse 3
  else if target = 5 ∧ s.eccOf 7 (2 ^ 17 + i) .ok = .uncorr then s.stageEcc 7 [2 ^ 17 + i]
  else if 65536 ≤ s.get .CLS_JOURNAL_COUNT then (s.stageFail 3).stageRefuse 5
  else
    let d1 := if target = 5 then
        d.set 1 ((nth d 1 0 &&& 0xFFFFFF#32) ||| word (((profGen (s.entryA 5 i) + 1) % 256) <<< 24))
      else d
    ((0, none, []), ({ s with clsS := tset s.clsS (clsKey target i) (some d1) }).stageItem (journalItem 3 target i d1))

/-! Reads (R207). -/

/-- The version that VIEW names; none where it is not live. -/
def State.viewVersion (s : State) (view : Nat) : Option Nat :=
  match view with
  | 1 => if 1 ≤ s.get .CLS_COMMIT_STATUS_STATE ∧ s.get .CLS_COMMIT_STATUS_STATE ≤ 3 then some s.versionS else none
  | 2 => if s.get .CLS_COMMIT_STATUS_DRAIN ≠ 0 then some s.versionD else none
  | _ => some s.versionA

/-- ADDR is within the target's range (R207). -/
def State.clsAddrOk (s : State) (target i : Nat) : Bool :=
  match target with
  | 1 => decide (i < s.flowSize) || (0x80000 ≤ i && decide (i < 0x81000))
  | 2 => decide (i < 16384)
  | t => decide (i < clsRange t)

/-- The first position of the entry that a READ of position `i` returns (R207). -/
def State.clsFirst (s : State) (target i : Nat) : Nat :=
  match target with
  | 1 => if (tfind s.flow i).isNone && s.flowTaken i then i - 1 else i
  | 2 => i / s.pfxUnit * s.pfxUnit
  | _ => i

/-- READ (R207) of the entry whose first position is `p`: result, POS and the entry's words. -/
def State.clsRead (s : State) (target v p : Nat) : TaeOut :=
  match target with
  | 1 => (0, some p, (tfind s.flow p).getD (List.replicate 8 0))
  | 2 => (0, some p, (tfind s.pfx p).getD (List.replicate 23 0))
  | t => (0, none, s.entryIn v t p)

/-- SEARCH (R207): the hit, or NOT_FOUND. -/
def State.clsSearch (s : State) (target v : Nat) (d : List Word) : TaeOut :=
  let r := if target = 1 then let k := s.dataKey v d; s.flowFind v k.1 k.2
    else s.pfxFind v (slice (bytesOf d) 0 s.pfxLen)
  match r with
  | some (p, e) => (0, some p, e)
  | none => (2, none, [])

/-! The engine's commands. The command waits in the engine from its GO write (R431); the row executes it. -/

/-- The command latched in an engine and not yet executed. -/
def State.taeOf (s : State) (k : Nat) : Option Tae := (tget none s.tae k).filter (·.done.isNone)

/-- An engine's outcome latched. -/
def State.taeDone (s : State) (k : Nat) (t : Tae) (o : TaeOut) : State :=
  { s with tae := tput none s.tae k (some { t with done := some o }) }

/-- A latched command of engine `k` with operation `op` executed. -/
def State.taeRun (s : State) (k op : Nat) (f : Tae → State → TaeOut × State) : State :=
  match s.taeOf k with
  | some t =>
    if t.op = op then let r := f t s; r.2.taeDone k t r.1 else s
  | none => s

/-- The data-class memory of a target (R376, R380); port entries and profiles lie in none. -/
def clsMem (target : Nat) : Option Nat := match target with
  | 1 => some 3
  | 2 => some 4
  | 5 => some 7
  | _ => none

/-- The word of entry `i` of a target in its memory (log 16). -/
def clsWord (target i : Nat) : Nat := if target = 5 then 2 ^ 17 + i else i

/-- A read of entry `i` of a target meets an uncorrectable error: the one that the command carries, or an injected one. -/
def State.clsBad (s : State) (target i : Nat) (e : Ecc) : Bool :=
  e == .uncorr || (match clsMem target with
    | some m => s.eccOf m (clsWord target i) .ok == .uncorr
        || (target == 1 && (tfind s.flow i).any entryWide && s.eccOf m (i + 1) .ok == .uncorr)
    | none => false)

/-- A SEARCH meets an uncorrectable error: the one that the command carries, or that of an entry it reads. -/
def State.searchBad (s : State) (target v : Nat) (d : List Word) (e : Ecc) : Bool :=
  e == .uncorr || (if target = 1 then let k := s.dataKey v d; !(s.flowBad k.1 k.2 []).isEmpty
    else !(s.pfxBad (slice (bytesOf d) 0 s.pfxLen) []).isEmpty)

/-- An uncorrectable error in a word of a target's memory is reported (R380). -/
def State.clsFault (s : State) (target i : Nat) : State :=
  match clsMem target with
  | some m => s.memFault m (clsWord target i)
  | none => s

/-- An uncorrectable error in a word of a target's memory that the command does not name. -/
def State.clsFaultFree (s : State) (target : Nat) : State :=
  match clsMem target with
  | some m => s.memFaultFree m
  | none => s

/-- A staged command under the checks common to all (R205, R208); an uncorrectable error fails the staging. -/
def staged (e : Ecc) (ok : Tae → Bool) (f : Tae → State → TaeOut × State) (t : Tae) (s : State) : TaeOut × State :=
  if !ok t then s.stageRefuse 6
  else if s.stageShut t.opened then s.stageRefuse 4
  else if e = .uncorr then ((s.stageFail 4).clsFaultFree t.target).stageRefuse 5
  else f t s

/-- CLS_STAGE_ADD. -/
def execClsStageAdd (e : Ecc) (s : State) : Host.Outcome State Fault Refusal :=
  run 5 (fun s => s.engine 0 fun s => s.taeRun 0 1 (staged e (fun t => t.target == 1 || t.target == 2) fun t s =>
    if t.target = 1 then s.stageAddFlow t.data else s.stageAddPfx t.data)) s

/-- CLS_STAGE_DEL. -/
def execClsStageDel (e : Ecc) (s : State) : Host.Outcome State Fault Refusal :=
  run 5 (fun s => s.engine 0 fun s => s.taeRun 0 2 (staged e (fun t => t.target == 1 || t.target == 2) fun t s =>
    if t.target = 1 then s.stageDelFlow t.data else s.stageDelPfx t.data)) s

/-- CLS_STAGE_WRITE. -/
def execClsStageWrite (e : Ecc) (s : State) : Host.Outcome State Fault Refusal :=
  run 5 (fun s => s.engine 0 fun s => s.taeRun 0 3 (staged e
    (fun t => 3 ≤ t.target && t.target ≤ 5 && decide (t.addr < clsRange t.target))
    fun t s => s.stageWrite t.target t.addr t.data)) s

/-- CLS_READ. -/
def execClsRead (e : Ecc) (s : State) : Host.Outcome State Fault Refusal :=
  run 5 (fun s => s.taeRun 0 4 fun t s =>
    match s.viewVersion t.view with
    | none => ((6, none, []), s)
    | some v =>
      let p := s.clsFirst t.target t.addr
      if !(1 ≤ t.target && t.target ≤ 5) || !s.clsAddrOk t.target t.addr then ((6, none, []), s)
      else if s.clsBad t.target p e then ((7, none, []), (s.clsFault t.target p).when (t.target == 5) fun s => s.inc .POL_ECC_COUNT)
      else (s.clsRead t.target v p, s)) s

/-- CLS_SEARCH. -/
def execClsSearch (e : Ecc) (s : State) : Host.Outcome State Fault Refusal :=
  run 5 (fun s => s.taeRun 0 5 fun t s =>
    match s.viewVersion t.view with
    | none => ((6, none, []), s)
    | some v =>
      if !(t.target == 1 || t.target == 2) then ((6, none, []), s)
      else if s.searchBad t.target v t.data e then ((7, none, []), s.clsFaultFree t.target)
      else (s.clsSearch t.target v t.data, s)) s

/-! The commit sequence (R203 to R206). -/

/-- A commit, discard or empty commit has ended: RESULT and DONE; a rise of DONE raises the commit source (R203). -/
def State.commitDone (s : State) (result : Nat) : State :=
  let up := !s.flag .CLS_COMMIT_STATUS_DONE
  let s1 := (s.put .CLS_COMMIT_STATUS_RESULT 0 result).put .CLS_COMMIT_STATUS_DONE 0 1
  if up then s1.pulse 1445 else s1

/-- COMMIT (R203). -/
def State.clsCommit (s : State) : State :=
  let st := s.get .CLS_COMMIT_STATUS_STATE
  if st = clsIdle then s.commitDone 4
  else if st = clsStaging then
    if s.get .CLS_COMMIT_STATUS_DRAIN = 0 then s.put .CLS_COMMIT_STATUS_STATE 0 clsCommitting
    else (s.put .CLS_COMMIT_STATUS_STATE 0 clsWait).put .CLS_COMMIT_STATUS_COMMIT_BUSY 0 1
  else s

/-- ABORT (R203, R204). -/
def State.clsAbort (s : State) : State :=
  let st := s.get .CLS_COMMIT_STATUS_STATE
  if st = clsStaging ∨ st = clsWait ∨ st = clsCommitting then
    ({ s with discardFailed := false }.put .CLS_COMMIT_STATUS_STATE 0 clsDiscarding).put .CLS_COMMIT_STATUS_COMMIT_BUSY 0 0
  else if st = clsIdle ∧ s.get .CLS_COMMIT_STATUS_RESULT = 1 ∧ s.flag .CLS_COMMIT_STATUS_DONE then
    s.put .CLS_COMMIT_STATUS_ABORT_LATE 0 1
  else s

/-- The journal of a committed version joins the next set of an active mirror partner (R412). -/
def State.mirJournaled (s : State) : State :=
  if s.flag .KEEP_MIR_CFG_EN && !s.flag .KEEP_MIR_CFG_ROLE then
    { s with mirror := { s.mirror with items := s.mirror.items ++ s.journal }, journal := [] }
  else { s with journal := [] }

/-- The switch cycle of a commit (R203, R205). -/
def State.clsSwitch (s : State) : State :=
  if s.get .CLS_COMMIT_STATUS_STATE ≠ clsCommitting ∨ (s.taeOf 0).isSome then s
  else
    let old := s.versionA
    let s1 := { s with
      clsD := s.clsS.map fun (e : Nat × List Word) => (e.1, (tfind s.clsA e.1).getD (List.replicate (clsWords (e.1 / 2 ^ 17)) 0))
      clsA := s.clsS.foldl (fun a (e : Nat × List Word) => tset a e.1 (if e.2.all (· == 0) then none else some e.2)) s.clsA
      clsS := [], drainWarned := false }
    let s2 := s1.each (s.clsS.filter fun (e : Nat × List Word) => e.1 / 2 ^ 17 == 5) fun s e => s.memWrite 7 (2 ^ 17 + e.1 % 2 ^ 17)
    let s3 := (s2.put .CLS_VERSION_ACTIVE 0 s.versionS).put .CLS_JOURNAL_COUNT 0 0
    let s4 := (s3.put .CLS_COMMIT_STATUS_STATE 0 clsIdle).put .CLS_COMMIT_STATUS_DRAIN 0 (if s.inflight old = 0 then 2 else 1)
    s4.mirJournaled.commitDone 1

/-- An uncorrectable error in staged data before the switch cycle (R203). -/
def State.clsCommitEcc (s : State) : State :=
  if s.get .CLS_COMMIT_STATUS_STATE = clsCommitting then (s.stageFail 4).raiseFree 8 else s

/-- The last frame of the draining version has left: cleanup begins (R203). -/
def State.clsDrainEmpty (s : State) : State :=
  if s.get .CLS_COMMIT_STATUS_DRAIN = 1 ∧ s.inflight s.versionD = 0 then s.put .CLS_COMMIT_STATUS_DRAIN 0 2 else s

/-- An entry after cleanup of version `v`: freed where `v` deleted it, its pending add settled (R203). -/
def settle (v vi fi : Nat) (e : List Word) : Option (List Word) :=
  if wbit (nth e fi 0) 29 && wbits (nth e vi 0) 15 0 == v then none
  else if wbit (nth e fi 0) 30 && wbits (nth e vi 0) 31 16 == v then some (e.set fi (nth e fi 0 &&& 0xBFFFFFFF#32))
  else some e

/-- An entry after the discard of staging version `v`: freed where `v` added it, its pending delete undone (R203). -/
def undo (v vi fi : Nat) (e : List Word) : Option (List Word) :=
  if wbit (nth e fi 0) 30 && wbits (nth e vi 0) 31 16 == v then none
  else if wbit (nth e fi 0) 29 && wbits (nth e vi 0) 15 0 == v then some (e.set fi (nth e fi 0 &&& 0xDFFFFFFF#32))
  else some e

/-- A table with each entry kept, changed or freed. -/
def sweepTable (f : List Word → Option (List Word)) (m : List (Nat × List Word)) : List (Nat × List Word) :=
  m.filterMap fun e => (f e.2).map fun x => (e.1, x)

/-- Cleanup's walk ends: the draining version is retired, and a waiting commit goes on (R203). -/
def State.clsCleanupEnd (s : State) : State :=
  if s.get .CLS_COMMIT_STATUS_DRAIN ≠ 2 then s
  else
    let a := s.versionA
    let s1 := { s with flow := sweepTable (settle a 4 5) s.flow, pfx := sweepTable (settle a 20 21) s.pfx, clsD := [] }
    let s2 := s1.put .CLS_COMMIT_STATUS_DRAIN 0 0
    if s2.get .CLS_COMMIT_STATUS_STATE = clsWait then
      (s2.put .CLS_COMMIT_STATUS_STATE 0 clsCommitting).put .CLS_COMMIT_STATUS_COMMIT_BUSY 0 0
    else s2

/-- The discard of a staging: its entries go, its deletes are undone (R203). -/
def State.undoStaging (s : State) : State :=
  let v := s.versionS
  { s with flow := sweepTable (undo v 4 5) s.flow, pfx := sweepTable (undo v 20 21) s.pfx, clsS := [], journal := [] }.put
    .CLS_JOURNAL_COUNT 0 0

/-- Discarding's walk ends (R203). -/
def State.clsDiscardEnd (s : State) : State :=
  if s.get .CLS_COMMIT_STATUS_STATE ≠ clsDiscarding then s
  else
    let s1 := s.undoStaging.put .CLS_COMMIT_STATUS_STATE 0 clsIdle
    s1.commitDone (if s.discardFailed then 3 else 2)

/-- The drain has lasted LIMIT: once per draining version (R206). -/
def State.clsDrainWarn (s : State) : State :=
  if s.get .CLS_COMMIT_STATUS_DRAIN = 1 ∧ !s.drainWarned then
    ({ s with drainWarned := true }.put .CLS_DRAIN_WARN_FIRED 0 1).pulse 1445
  else s

/-- CLS_COMMIT. -/
def execClsCommit (s : State) : Host.Outcome State Fault Refusal := runSoft 5 State.clsCommit s
/-- CLS_ABORT. -/
def execClsAbort (s : State) : Host.Outcome State Fault Refusal := runSoft 5 State.clsAbort s
/-- CLS_COMMIT_SWITCH. -/
def execClsCommitSwitch (s : State) : Host.Outcome State Fault Refusal := run 5 State.clsSwitch s
/-- CLS_COMMIT_ECC. -/
def execClsCommitEcc (s : State) : Host.Outcome State Fault Refusal := run 5 State.clsCommitEcc s
/-- CLS_DRAIN_EMPTY. -/
def execClsDrainEmpty (s : State) : Host.Outcome State Fault Refusal := run 5 State.clsDrainEmpty s
/-- CLS_CLEANUP_END. -/
def execClsCleanupEnd (s : State) : Host.Outcome State Fault Refusal := run 5 (fun s => s.engine 0 State.clsCleanupEnd) s
/-- CLS_DISCARD_END. -/
def execClsDiscardEnd (s : State) : Host.Outcome State Fault Refusal := run 5 (fun s => s.engine 0 State.clsDiscardEnd) s
/-- CLS_DRAIN_WARN. -/
def execClsDrainWarn (s : State) : Host.Outcome State Fault Refusal := run 5 State.clsDrainWarn s

/-- Positions in use among some entries: two for a wide one (CLS_FLOW_USED, CLS_STASH_USED). -/
def flowUsed (l : List (Nat × List Word)) : Nat := (l.map fun e => if entryWide e.2 then 2 else 1).sum

end Sys2Proof.Machine
end

