-- ==== Sys2Proof/Machine/Registry.lean ====
section
/-! DEFINITION. The node registry: binding, learning, ageing, removal, the registry's commands (R212 to R230), and the policer
commands of POL_TAE (R248). -/
namespace Sys2Proof.Machine

/-- The state with a node context written to its memory. -/
def State.writeCtx (s : State) (i : Nat) (c : Ctx) : State := (s.setCtx i c).memWrite 5 i

/-- The registered nodes of a port, rising. -/
def State.nodesOf (s : State) (n : Nat) : List (Nat × Ctx) := s.ctx.filter fun e => e.1 / 256 == n && e.2.valid

/-- The registered count of a port (R218). -/
def State.nodeCount (s : State) (n : Nat) : Nat := (s.nodesOf n).length

/-- The node ID registered with an address on a port (R216). -/
def State.nodeByAddr (s : State) (n addr : Nat) : Option Nat :=
  ((s.nodesOf n).find? fun e => e.2.addr == addr).map fun e => e.1 % 256

/-- The lowest free node ID of a port, 1 to 254 (R216). -/
def State.freeNode (s : State) (n : Nat) : Option Nat :=
  ((List.range 254).map (· + 1)).find? fun k => !(s.ctxOf (n * 256 + k)).valid

/-- A source address that is never learned: a group address, or all zeros (R217). -/
def badAddr (a : Nat) : Bool := a.testBit 40 || a == 0

/-- Counter `j` of a node: 0 RX_FRAMES, 1 RX_OCTETS, 2 TX_FRAMES, 3 TX_OCTETS (R228). -/
def State.nodeCounter (s : State) (i j : Nat) : Nat := tget 0 s.nodeCnt (4 * i + j)

/-- A node counter raised, wrapping at 64 bits (R228). -/
def State.addNode (s : State) (i j n : Nat) : State :=
  ({ s with nodeCnt := tput 0 s.nodeCnt (4 * i + j) ((s.nodeCounter i j + n) % 2 ^ 64) }).memWrite 6 i

/-- The four counters of a node cleared together (R228). -/
def State.clearNode (s : State) (i : Nat) : State :=
  ({ s with nodeCnt := tdrop (fun k => k / 4 == i) s.nodeCnt }).memWrite 6 i

/-- A change of a node's configuration words; while its queue holds copies, the queue keeps its old class (R261). -/
def State.reclass (s : State) (i : Nat) (f : State → State) : State :=
  let old := s.queueClass i
  let s1 := f s
  let held := !(s1.queue i).isEmpty || (s1.cand.any fun e => match e.2 with
    | some c => c.q == i
    | none => false)
  if held ∧ s1.cfgClass i ≠ old then { s1 with oldClass := tput none s1.oldClass i (some old) }
  else { s1 with oldClass := tput none s1.oldClass i none }

/-- Bits 31:0 of the seconds field of the time base (R212). -/
def State.seconds32 (s : State) : Nat := (s.ns / 1000000000) % 2 ^ 32

/-- Registration of a node in context `i` (R219): the new context, its policer reset under version `v`, its counters cleared. -/
def State.register (s : State) (i addr origin v : Nat) (pin : Bool) (w4 w5 : Word) : State :=
  (s.reclass i fun s =>
    let c := { s.ctxOf i with valid := true, pin := pin, hit := true, seen := false, origin := origin, addr := addr
                              learnTs := s.seconds32, cfg4 := w4, cfg5 := w5 }
    (s.writeCtx i c).resetPol .node i v).clearNode i

/-- The default configuration words of learned nodes of a port (R219). -/
def State.defaultCfg (s : State) (n : Nat) : Word × Word :=
  (word (s.get .NREG_PORT_DEF_DEF_QCLASS_EN n <<< 20 ||| s.get .NREG_PORT_DEF_DEF_QCLASS n <<< 17
      ||| s.get .NREG_PORT_DEF_DEF_WEIGHT n),
   word (s.get .NREG_PORT_DEF_DEF_POL_EN n <<< 31 ||| s.get .NREG_PORT_POL_DEF_POL_PROFILE n))

/-- What binding decides for a frame (R214 to R218, R142). -/
inductive Binding where
  /-- bound to node ID `k`; `learn` is the origin of a new registration -/
  | node (k : Nat) (learn : Option Nat)
  /-- bound to no node; `unreg` is the UNREG flag -/
  | none (unreg : Bool)
  /-- discarded at its end -/
  | discard
  deriving DecidableEq, Repr

/-- What binding counts and reports beside its decision. -/
inductive BindCount where
  | nothing | badSa | drop | flood
  /-- context `i` could not be read (R224) -/
  | ecc (i : Nat)
  deriving DecidableEq, Repr

/-- A frame that would be learned as node `k`: learned, or an excess frame (R218). -/
def State.tryLearn (s : State) (n : Nat) (k : Option Nat) (origin : Nat) : Binding × BindCount :=
  let excess : Binding × BindCount :=
    if s.flag .NREG_PORT_CFG_EXCESS_ACT n then (.none true, .flood) else (.discard, .drop)
  match k with
  | none => excess
  | some k =>
    if !s.flag .NREG_PORT_CFG_LEARN_EN n || decide (s.get .NREG_PORT_CFG_LIMIT n ≤ s.nodeCount n) then excess
    else (.node k (some origin), .nothing)

/-- The decision for a frame of source address `sa` on field port `n`, in opportunity `opp` (R215 to R218, R142). The last part
says whether the cross-check failed. -/
def State.bindDecision (s : State) (n sa : Nat) (opp : Option Nat) : Binding × BindCount × Bool :=
  if badAddr sa then
    (if s.flag .NREG_PORT_CFG_EXCESS_ACT n then .none true else .discard, .badSa, false)
  else
    let j := s.nodeByAddr n sa
    match opp with
    | none =>
      match j with
      | some j => (.node j none, .nothing, false)
      | none => let r := s.tryLearn n (s.freeNode n) 1; (r.1, r.2, false)
    | some k =>
      let c := s.ctxOf (n * 256 + k)
      let other := match j with
        | some j => j != k
        | none => false
      if other || (c.valid && c.addr != sa) then
        match s.get .SEG_CFG_XCHK_ACT n, j with
        | 1, _ => (.discard, .nothing, true)
        | 2, some j => (.node j none, .nothing, true)
        | _, _ => (if c.valid then .node k none else .none false, .nothing, true)
      else if c.valid then (.node k none, .nothing, false)
      else let r := s.tryLearn n (some k) 0; (r.1, r.2, false)

/-- The first excess frame since FULL was cleared sets it and raises the learning-limit source (R218). -/
def State.noteFull (s : State) (n : Nat) : State :=
  if s.flag .NREG_PORT_STATUS_FULL n then s else (s.put .NREG_PORT_STATUS_FULL n 1).pulse 1446

/-- What a binding decision counts (R217, R218, R224, R142). -/
def State.bindCount (s : State) (n : Nat) (c : BindCount) (xchk : Bool) : State :=
  let s := if xchk then s.inc .SEG_XCHK_ERR_COUNT n else s
  match c with
  | .nothing => s
  | .badSa => s.inc .NREG_BAD_SA_COUNT n
  | .drop => (s.noteFull n).inc .NREG_LIMIT_DROP_COUNT n
  | .flood => (s.noteFull n).inc .NREG_LIMIT_FLOOD_COUNT n
  | .ecc i => (s.inc .NREG_ECC_COUNT).memFault 5 i

/-- The contexts that binding reads: that of the opportunity, that of the address, and the one decided on (R142, R214 to R216). -/
def State.bindReads (s : State) (n sa : Nat) (opp : Option Nat) : List Nat :=
  if badAddr sa then []
  else
    let k := match (s.bindDecision n sa opp).1 with
      | .node k _ => [k]
      | _ => []
    (opp.toList ++ (s.nodeByAddr n sa).toList ++ k).map (n * 256 + ·)

/-- The node decision of a frame of port `n` (R213 to R218, R224): a frame of a trunk, or of a port that is no longer there, is bound to
no node, and so is one for which a context cannot be read. `bad`: the contexts that read with an uncorrectable error. -/
def State.nodeOf (s : State) (n sa : Nat) (opp : Option Nat) (bad : List Nat) : Binding × BindCount × Bool :=
  if isTrunk n || !s.present' n then (.none false, .nothing, false)
  else match (s.bindReads n sa opp).find? (s.badWord 5 bad) with
    | some i => (.none false, .ecc i, false)
    | none => s.bindDecision n sa opp

/-- A frame of `len` bytes takes its binding: learning, HIT and the node's receive counters (R214, R219, R228). -/
def State.bind (s : State) (n sa len v : Nat) (b : Binding) : State :=
  match b with
  | .node k learn =>
    let i := n * 256 + k
    let s1 := match learn with
      | some o =>
        let d := s.defaultCfg n
        (s.register i sa o v false d.1 d.2).inc .NREG_LEARNED_COUNT
      | none => s.writeCtx i { s.ctxOf i with hit := true }
    (s1.addNode i 0 1).addNode i 1 len
  | _ => s

/-! Removal and ageing (R220 to R224). -/

/-- A node removed: reason 1 aged, 2 deleted, 3 memory error (R223). -/
def State.removeNode (s : State) (i reason : Nat) : State :=
  let c := s.ctxOf i
  let s1 := s.writeCtx i { c with valid := false, hit := false, seen := false, pin := false }
  ((s1.inc .NREG_REMOVED_COUNT).pulse 1447).record 2 0
    [word (reason <<< 24 ||| i), word c.addr, word (c.addr >>> 32), 0, 0]

/-- The sweeper runs: a structure is committed and PERIOD is not 0 (R220, R222). -/
def State.sweeping (s : State) : Bool := s.committed && s.get .NREG_AGE_PERIOD != 0

/-- A visit meets an uncorrectable error in a context (R224): a registered node is removed, and so is one whose VALID cannot be read.
Which bits an error takes is open: of an empty context a free value says whether its VALID could be read (log 44). -/
def State.badCtx (s : State) (i : Nat) : State :=
  if (s.ctxOf i).valid then (s.removeNode i 3).memFault 5 i
  else (if s.free % 2 = 0 then s.used else s.used.removeNode i 3).memFault 5 i

/-- The visit of one context in pass `j` (R220, R224). -/
def State.visit (s : State) (i j : Nat) (e : Ecc) : State :=
  let c := s.ctxOf i
  if s.eccOf 5 i e = .uncorr then s.badCtx i
  else if !c.valid || c.pin || !s.flag .NREG_PORT_CFG_AGE_EN (i / 256) then s
  else if j = 0 then s.writeCtx i { c with hit := false, seen := false }
  else if c.hit then s.writeCtx i { c with seen := false, hit := j % 2 != 0 }
  else if !c.seen then s.writeCtx i { c with seen := true }
  else s.removeNode i 1

/-- POLICER_REFRESH (R235): a visit without a frame. An uncorrectable error in a node context acts as R224 has it. -/
def State.refresh (s : State) (k : PolKind) (i : Nat) (e : Ecc) : State :=
  if k = .node ∧ s.eccOf 5 i e = .uncorr then s.badCtx i
  else
    let r := s.readProf s.versionA (s.polProfile k i) []
    let on := match k with
      | .port => s.flag .POL_PORT_CFG_EN i
      | .node => (s.ctxOf i).valid && wbit (s.ctxOf i).cfg5 31
      | .flow => false
    if !(on || profMode r.1 != 0) then r.2
    else
      let s1 := r.2.readPol k i r.1 (if e = .uncorr then [polAddr k i] else [])
      s1.setPol k i (polRefill r.1 (polAdopt r.1 (s1.pol k i) (s1.polToZero k) s1.unit64) s1.unit64)

/-- POLICER_REFRESH: kinds have 262,144 node, 65,536 flow and 1,040 port policers (R231). -/
def execPolicerRefresh (k : PolKind) (i : Nat) (e : Ecc) (s : State) : Host.Outcome State Fault Refusal :=
  runOn (match k with | .node => 262144 | .flow => 65536 | .port => 1040) i 7 (fun s => s.refresh k i e) s

/-- The next visit of the sweeper, in index order; a new PERIOD acts from the start of an even pass (R220, R222). -/
def State.ageingVisit (s : State) (e : Ecc) : State :=
  if !s.sweeping then s
  else
    let s0 := if s.sweepPos = 0 ∧ s.sweepPass % 2 = 0 then { s with agePeriod := s.get .NREG_AGE_PERIOD } else s
    let s1 := s0.visit s.sweepPos s.sweepPass e
    if s.sweepPos = 262143 then { s1 with sweepPos := 0, sweepPass := s.sweepPass + 1 }
    else { s1 with sweepPos := s.sweepPos + 1 }

/-- AGEING_VISIT. -/
def execAgeingVisit (e : Ecc) (s : State) : Host.Outcome State Fault Refusal :=
  run 6 (fun s => if s.sweeping then s.engine 1 fun s => s.ageingVisit e else s) s

/-- NREG_AGE_WRITE (R222): a PERIOD that becomes non-zero starts again from pass 0. -/
def State.ageWrite (s : State) (w : Word) : State :=
  let old := s.get .NREG_AGE_PERIOD
  let s1 := s.put .NREG_AGE_PERIOD 0 (wbits w 15 0)
  if old = 0 ∧ wbits w 15 0 ≠ 0 then { s1 with sweepPass := 0, sweepPos := 0, agePeriod := wbits w 15 0 } else s1

/-- NREG_AGE_WRITE. -/
def execNregAgeWrite (w : Word) (s : State) : Host.Outcome State Fault Refusal := runSoft 6 (fun s => s.ageWrite w) s

/-! Commands (R225, R226). -/

/-- The address in data words 1 and 2 (R212). -/
def dataAddr (d : List Word) : Nat := wbits (nth d 2 0) 15 0 * 2 ^ 32 + (nth d 1 0).toNat

/-- The index names an absent port, or node ID 0 or 255 (R226). -/
def State.nregBadIndex (s : State) (i : Nat) : Bool := !s.present' (i / 256) || i % 256 == 0 || i % 256 == 255

/-- Data word 4 without its reserved bits. -/
def cfg4Of (d : List Word) : Word := nth d 4 0 &&& 0x001EFFFF#32
/-- Data word 5 without its reserved bits. -/
def cfg5Of (d : List Word) : Word := nth d 5 0 &&& 0x8000FFFF#32

/-- A refused registry command. -/
def refusedCmd (r : Nat) (s : State) : TaeOut × State := ((r, none, []), s)

/-- The context of a port that a search of the port meets with an injected uncorrectable error, if there is one (R226, R376). -/
def State.portUnread (s : State) (n : Nat) : Option Nat :=
  (s.injected.find? fun x => x.mem == 5 && x.double && x.addr / 256 == n).map (·.addr)

/-- INSERT (R225). -/
def State.nregInsert (s : State) (i : Nat) (d : List Word) (e : Ecc) : TaeOut × State :=
  let a := dataAddr d
  if s.nregBadIndex i || wbits (nth d 4 0) 15 0 == 0 || badAddr a then refusedCmd 6 s
  else if s.eccOf 5 i e = .uncorr then refusedCmd 7 (s.memFault 5 i)
  else if (s.ctxOf i).valid then refusedCmd 3 s
  else match s.portUnread (i / 256) with
  | some j => refusedCmd 7 (s.memFault 5 j)
  | none =>
  if (s.nodeByAddr (i / 256) a).isSome then refusedCmd 1 s
  else ((0, none, []), s.register i a 2 s.versionA (wbit (nth d 0 0) 30) (cfg4Of d) (cfg5Of d))

/-- DELETE (R225). -/
def State.nregDelete (s : State) (i : Nat) (e : Ecc) : TaeOut × State :=
  if s.nregBadIndex i then refusedCmd 6 s
  else if s.eccOf 5 i e = .uncorr then refusedCmd 7 (s.memFault 5 i)
  else if !(s.ctxOf i).valid then refusedCmd 2 s
  else ((0, none, []), s.removeNode i 2)

/-- WRITE_CFG (R225, R240, R261). -/
def State.nregWriteCfg (s : State) (i : Nat) (d : List Word) (e : Ecc) : TaeOut × State :=
  if s.nregBadIndex i || wbits (nth d 4 0) 15 0 == 0 then refusedCmd 6 s
  else if s.eccOf 5 i e = .uncorr then refusedCmd 7 (s.memFault 5 i)
  else if !(s.ctxOf i).valid then refusedCmd 2 s
  else
    let c := s.ctxOf i
    let s1 := s.reclass i fun s => s.writeCtx i { c with pin := wbit (nth d 0 0) 30, cfg4 := cfg4Of d, cfg5 := cfg5Of d }
    let reset := wbits c.cfg5 15 0 != wbits (cfg5Of d) 15 0 || (!wbit c.cfg5 31 && wbit (cfg5Of d) 31)
    ((0, none, []), if reset then s1.resetPol .node i s1.versionA else s1)

/-- The sixteen words of a context (R212). Q_HEAD and Q_TAIL, and HEAD_TS of an empty queue, are free values once the queue has held a
copy (log 1), and zero until then (R213). -/
def State.ctxWords (s : State) (i : Nat) : List Word :=
  let c := s.ctxOf i
  let q := s.queue i
  let f := fun j => if tget false s.qUsed i then word (Config.freeNat (s.fresh + j)) else 0
  [word (b2n c.valid <<< 31 ||| b2n c.pin <<< 30 ||| b2n c.hit <<< 29 ||| b2n c.seen <<< 28 ||| c.origin <<< 26),
   word c.addr, word (c.addr >>> 32), word c.learnTs, c.cfg4, c.cfg5] ++ polWords c.pol ++
  [f 0, f 1, word (s.queueCells i), word q.length,
   word (tget 0 s.fLast i), match q with
     | x :: _ => word x.join
     | [] => f 2, 0]

/-- READ of a context or of the counters (R225). -/
def State.nregRead (s : State) (target i : Nat) (e : Ecc) : TaeOut × State :=
  if s.nregBadIndex i || !(target == 1 || target == 2) then refusedCmd 6 s
  else if s.eccOf (if target = 1 then 5 else 6) i e = .uncorr then refusedCmd 7 (s.memFault (if target = 1 then 5 else 6) i)
  else if target = 1 then ((0, none, s.ctxWords i), { s with fresh := s.fresh + 3 })
  else ((0, none, (List.range 4).flatMap fun j => natWords 2 (s.nodeCounter i j)), s)

/-- SEARCH (R225). -/
def State.nregSearch (s : State) (i : Nat) (d : List Word) (e : Ecc) : TaeOut × State :=
  let n := i / 256
  if !s.present' n || badAddr (dataAddr d) then refusedCmd 6 s
  else if e = .uncorr then refusedCmd 7 (s.memFaultFree 5)
  else match s.portUnread n with
    | some j => refusedCmd 7 (s.memFault 5 j)
    | none => match s.nodeByAddr n (dataAddr d) with
      | some k => ((0, some (n * 256 + k), []), s)
      | none => refusedCmd 2 s

/-- CLEAR (R225). -/
def State.nregClear (s : State) (i : Nat) (e : Ecc) : TaeOut × State :=
  if s.nregBadIndex i then refusedCmd 6 s
  else if s.eccOf 6 i e = .uncorr then refusedCmd 7 (s.memFault 6 i)
  else ((0, none, []), s.clearNode i)

/-- A registry command allowed for one target only (R226). -/
def onTarget (k : Nat) (f : Tae → State → TaeOut × State) (t : Tae) (s : State) : TaeOut × State :=
  if t.target = k then f t s else refusedCmd 6 s

/-- NREG_INSERT. -/
def execNregInsert (e : Ecc) (s : State) : Host.Outcome State Fault Refusal :=
  run 6 (fun s => s.taeRun 1 1 (onTarget 1 fun t s => s.nregInsert t.addr t.data e)) s
/-- NREG_DELETE. -/
def execNregDelete (e : Ecc) (s : State) : Host.Outcome State Fault Refusal :=
  run 6 (fun s => s.taeRun 1 2 (onTarget 1 fun t s => s.nregDelete t.addr e)) s
/-- NREG_WRITE_CFG. -/
def execNregWriteCfg (e : Ecc) (s : State) : Host.Outcome State Fault Refusal :=
  run 6 (fun s => s.taeRun 1 3 (onTarget 1 fun t s => s.nregWriteCfg t.addr t.data e)) s
/-- NREG_READ. -/
def execNregRead (e : Ecc) (s : State) : Host.Outcome State Fault Refusal :=
  run 6 (fun s => s.taeRun 1 4 fun t s => s.nregRead t.target t.addr e) s
/-- NREG_SEARCH. -/
def execNregSearch (e : Ecc) (s : State) : Host.Outcome State Fault Refusal :=
  run 6 (fun s => s.taeRun 1 5 (onTarget 1 fun t s => s.nregSearch t.addr t.data e)) s
/-- NREG_CLEAR. -/
def execNregClear (e : Ecc) (s : State) : Host.Outcome State Fault Refusal :=
  run 6 (fun s => s.taeRun 1 6 (onTarget 2 fun t s => s.nregClear t.addr e)) s

/-! Policer commands (R248). -/

/-- The policer that POL_TAE names; none where TARGET is invalid or INDEX out of range. -/
def polTarget (target i : Nat) : Option PolKind :=
  match target with
  | 1 => some .flow
  | 2 => if i < 1040 then some .port else none
  | _ => none

/-- A POL_TAE command on a named policer; an uncorrectable error ends it with ECC and resets the state (R235, R248). -/
def State.polCmd (s : State) (t : Tae) (e : Ecc) (f : PolKind → State → TaeOut × State) : TaeOut × State :=
  match polTarget t.target t.addr with
  | none => refusedCmd 6 s
  | some k =>
    if s.eccOf 7 (polAddr k t.addr) e = .uncorr then
      let r := s.readProf s.versionA (s.polProfile k t.addr) []
      refusedCmd 7 (r.2.polUnread k t.addr r.1)
    else f k s

/-- POL_READ. -/
def execPolRead (e : Ecc) (s : State) : Host.Outcome State Fault Refusal :=
  run 7 (fun s => s.taeRun 2 4 fun t s => s.polCmd t e fun k s => ((0, none, polWords (s.pol k t.addr)), s)) s
/-- POL_RESET. -/
def execPolReset (e : Ecc) (s : State) : Host.Outcome State Fault Refusal :=
  run 7 (fun s => s.taeRun 2 7 fun t s => s.polCmd t e fun k s => ((0, none, []), s.resetPol k t.addr s.versionA)) s

end Sys2Proof.Machine
end

