-- ==== Sys2Proof/Machine/Spire.lean ====
section
/-! DEFINITION. The Spire: which frames it takes, duplicate discard, the decision, fallback (R301 to R311). -/
namespace Sys2Proof.Machine

/-! Which frames (R301 to R304). -/

/-- A MAC control frame (R112). -/
def isCtrl (d : List Byte) : Bool := beAt d 12 2 == 0x8808

/-- Where an HSR tag stands (R303). -/
def hsrAt (d : List Byte) : Option Nat :=
  if beAt d 12 2 = 0x892F then some 12 else if beAt d 12 2 = 0x8100 ∧ beAt d 16 2 = 0x892F then some 16 else none

/-- Direction of a frame received on trunk `m` of pair `p`. -/
def State.spiDir (s : State) (p m : Nat) : Nat := if (s.pairTrunks p).1 = m then 0 else 1

/-- An express entry matches a frame of a pair and direction (R302). -/
def expMatch (p dir : Nat) (d : List Byte) (e : List Word) : Bool :=
  let w := nth e 1 0
  let t := beAt d 12 2
  wbit w 31 && wbits w 29 27 == p && wbit w (if dir = 0 then 26 else 25)
    && beAt d 0 6 == wbits w 15 0 * 2 ^ 32 + (nth e 0 0).toNat
    && (!wbit w 30 || ((t == 0x8100 || t == 0x88A8) && beAt d 14 2 % 4096 == wbits (nth e 2 0) 11 0))

/-- The station address (R304). -/
def State.hsrSa (s : State) : Nat := s.get .SPI_HSR_SA_HI_SA_HI * 2 ^ 32 + s.get .SPI_HSR_SA_LO_SA_LO

/-- The treatment of an HSR frame by SA and DA (R304): what the Spire holds of it, and whether it would be forwarded. -/
def State.hsrTreat (s : State) (p dir o : Nat) (d : List Byte) : SpiRx × Bool :=
  let sa := beAt d 6 6
  let da := beAt d 0 6
  let x : SpiRx := { pair := p, dir := dir, cls := s.get .SPI_PAIR_CFG_HSR_CLASS p }
  let k := some (sa, beAt d (o + 4) 2)
  if sa = s.hsrSa then (x, false)
  else if da = s.hsrSa then ({ x with own := true, key := k }, false)
  else if da.testBit 40 then ({ x with own := true, key := k }, true)
  else ({ x with key := k }, true)

/-- What the Spire would do with a frame on trunk `m`, and whether it would be forwarded; none for a frame that is not its own
(R301). The entries `bad` read with an error and match nothing (R302). -/
def State.spiTreat (s : State) (m : Nat) (d : List Byte) (bad : List Nat) : Option (SpiRx × Bool) :=
  if isCtrl d then none
  else match s.pairOf m with
  | none => none
  | some p =>
    let dir := s.spiDir p m
    if !s.flag .SPI_PAIR_CFG_EN p then none
    else match (if s.flag .SPI_PAIR_CFG_HSR_EN p then hsrAt d else none) with
      | some o => some (s.hsrTreat p dir o d)
      | none =>
        (s.exp.find? fun e => !bad.contains e.1 && expMatch p dir d e.2).map fun e =>
          ({ pair := p, dir := dir, cls := wbits (nth e.2 1 0) 24 22 }, true)

/-- The express table is consulted for a frame (R301). -/
def State.expAsked (s : State) (m : Nat) (d : List Byte) : Bool :=
  match s.pairOf m with
  | none => false
  | some p => s.flag .SPI_PAIR_CFG_EN p && !isCtrl d && !(s.flag .SPI_PAIR_CFG_HSR_EN p && (hsrAt d).isSome)

/-! The duplicate tables (R305). -/

/-- The duplicate table of a pair. -/
def State.dups (s : State) (p : Nat) : List Dup := tget [] s.dup p

/-- An entry is not older than DUP_AGE. -/
def State.dupLive (s : State) (p : Nat) (x : Dup) : Bool := decide (s.ns - x.made ≤ s.get .SPI_PAIR_CFG_DUP_AGE p * 1000000)

/-- The live entry of a key. -/
def State.dupFind (s : State) (p : Nat) (k : Nat × Nat) : Option Dup :=
  (s.dups p).find? fun x => x.sa == k.1 && x.seq == k.2 && s.dupLive p x

/-- The flag of what a frame did, set in its entry: 0 FWD0, 1 FWD1, 2 LOCAL. -/
def Dup.mark (x : Dup) (f : Nat) : Dup :=
  if f = 0 then { x with fwd0 := true } else if f = 1 then { x with fwd1 := true } else { x with own := true }

/-- A frame that passed its check sets its flag; a new key may overwrite the oldest entry. -/
def State.dupMark (s : State) (p : Nat) (k : Nat × Nat) (f : Nat) : State :=
  if !s.flag .SPI_PAIR_CFG_DUP_EN p then s
  else
    let l := s.dups p
    match s.dupFind p k with
    | some x => { s with dup := tput [] s.dup p (l.map fun y => if y = x then y.mark f else y) }
    | none =>
      let live := l.filter (s.dupLive p)
      let x : Dup := ({ sa := k.1, seq := k.2, fwd0 := false, fwd1 := false, own := false, made := s.ns } : Dup).mark f
      if 4096 ≤ live.length then { s with dup := tput [] s.dup p (live.tail ++ [x]) }.inc .SPI_HSR_EVICT_COUNT p
      else { s with dup := tput [] s.dup p (live ++ [x]) }

/-- A frame would be a duplicate if forwarded, or if passed to the frame path. -/
def State.isDup (s : State) (x : SpiRx) (fwd : Bool) : Bool :=
  s.flag .SPI_PAIR_CFG_DUP_EN x.pair &&
    (match x.key with
     | none => false
     | some k => match s.dupFind x.pair k with
       | none => false
       | some e => if fwd then e.fwd0 || e.fwd1 else e.own)

/-! The decision (R306 to R308). -/

/-- The MAC is sending the gap after a frame (R94): fewer than 96 bit times have passed since its end. -/
def State.gapOn (s : State) (m : Nat) : Bool :=
  match (s.macOf m).endAt with
  | some t => decide ((s.now - t) * (2 * s.rateMb m) < 96 * 3000)
  | none => false

/-- The egress trunk of an express frame is busy (R306). -/
def State.spiBusy (s : State) (x : SpiRx) : Bool :=
  let m := s.spiEgress x
  let st := s.gclState m
  let run := s.get .SPI_PAIR_CFG_MAX_RUN x.pair
  !s.enabled m || !s.link m || !s.txFree m || s.gapOn m
    || s.flag .MAC_STATUS_RX_PAUSED m || s.get .MAC_STATUS_RX_PFC_PAUSED m != 0
    || (st != gclIdle && st != gclPending && !s.fits m x.cls (s.maxFrame m))
    || ((s.queue (classQueue m x.cls)).any fun c => c.spi == some (spiIndex x))
    || (run != 0 && !(s.portCopies m).isEmpty && decide (run ≤ tget 0 s.spiRun m))

/-- Ocora does not write frames into the Dome while it is held (R372). -/
def State.domeHeld (s : State) : Bool := s.flag .FLT_STATUS_DOME_HOLD || !s.up 8

/-- A head cell may be taken (R243). -/
def State.aboveFloor (s : State) : Bool := decide (s.get .DOME_CFG_INGRESS_FLOOR < s.freeCells)

/-- A reception takes its head cell, its version and its parse graph; at or below the floor it takes none (R20, R90, R243). -/
def State.takeHead (s : State) (m : Nat) (r : Rx) : State :=
  if s.domeHeld then s.setRx m (some { r with cut := true })
  else if !s.aboveFloor then s.setRx m (some { r with noCell := true })
  else
    let r1 := { r with head := some s.pickHead, cells := cellsFor (min r.bytes.length 256), inflight := true
                       version := s.versionA, graph := s.img.graph }
    ((s.used.headWrite (r1.head.getD 0)).setRx m (some r1)).notePeak.flowControl m

/-- A reception gives its head cell back and leaves its version. -/
def State.dropHead (s : State) (m : Nat) (r : Rx) : State :=
  (s.setRx m (some { r with head := none, inflight := false })).flowControl m

/-- An express frame falls back: it takes a head cell, or is dropped and counted (R308); a held Dome discards it at its end
(R372). -/
def State.spiFall (s : State) (m : Nat) (x : SpiRx) (r : Rx) : State :=
  if s.domeHeld then s.setRx m (some { r with spi := some x, cut := true })
  else if !s.aboveFloor then (s.setRx m (some { r with spi := some x })).inc .SPI_FB_NOCELL_COUNT (spiIndex x)
  else
    (((s.used.headWrite s.pickHead).setRx m (some
      { r with spi := some { x with fallback := true }, fbHead := some s.pickHead
               cells := max r.cells (cellsFor (min r.bytes.length 256)) })).notePeak).flowControl m

/-- The decision on a frame that would be forwarded (R306). -/
def State.spiForward (s : State) (m : Nat) (x : SpiRx) (r : Rx) : State :=
  if s.isDup x true then (s.setRx m (some { r with spi := some x })).inc .SPI_HSR_DUP_COUNT (spiIndex x)
  else if s.spiBusy x then s.spiFall m x r
  else
    let e := s.spiEgress x
    ((s.startGap e 0).setRx m (some { r with spi := some { x with cut := true } })).setTx e
      (some { copy := none, bytes := r.bytes, good := true, cls := x.cls, octets := 0, owner := e, cut := true })

/-- The local part of a decision: the duplicate check on the frame path (R304, R305). -/
def State.spiLocal (s : State) (m : Nat) (x : SpiRx) (r : Rx) : SpiRx × State :=
  if x.own && s.isDup x false then
    ({ x with own := false }, (s.dropHead m { r with spi := some { x with own := false } }).inc .SPI_HSR_DUP_COUNT (spiIndex x))
  else if x.own then
    (x, if r.head.isSome || r.noCell || r.cut then s.setRx m (some { r with spi := some x }) else s.takeHead m { r with spi := some x })
  else (x, s.dropHead m { r with spi := some x })

/-- The entries of the express table that a decision reads with an uncorrectable error: each is counted and reported (R302). -/
def State.expErrors (s : State) (l : List Nat) : State := s.each l fun s j => (s.inc .SPI_ECC_COUNT).memFault 0xC j

/-- The Spire's decision on a reception (R306): it is made once, when byte 32 has arrived. `bad`: the entries of the express table
that read with an uncorrectable error in it. -/
def State.spiDecide (s : State) (m : Nat) (bad : List Nat) : State :=
  match s.rxOf m with
  | none => s
  | some r =>
    if r.badStart || r.oversize || (r.spi.isSome && !r.express) || decide (r.bytes.length < 28) then s
    else
      let l := if s.expAsked m r.bytes then (bad.eraseDups).filter (· < 256) else []
      let s1 := s.expErrors l
      let r1 := { r with express := false, spi := none }
      match s1.spiTreat m r.bytes l with
      | none => if r.express && r.head.isNone && !r.noCell && !r.cut then s1.takeHead m r1 else s1.setRx m (some r1)
      | some (x, fwd) =>
        let l := s1.spiLocal m x r1
        if !fwd then (if x.key.isNone then l.2.inc .SPI_HSR_OWN_COUNT (spiIndex x) else l.2)
        else match l.2.rxOf m with
          | some r2 => l.2.spiForward m l.1 r2
          | none => l.2

/-- SPIRE_DECISION. -/
def execSpireDecision (t : Nat) (bad : List Nat) (s : State) : Host.Outcome State Fault Refusal :=
  runOn 16 t 12 (fun s => s.spiDecide (1024 + t) bad) s

/-- A fallback frame that passed R97 and R99 is enqueued green in the class queue of its class on the egress trunk, or rejected
(R308). The Boolean says whether it was enqueued. -/
def State.spiEnqueue (s : State) (m : Nat) (x : SpiRx) (h cells : Nat) (d : List Byte) : Bool × State :=
  let q := classQueue (s.spiEgress x) x.cls
  let i := spiIndex x
  let f : DFrame := { length := d.length + 4, cells := cells, refs := 0, data := d, tagged := hasTag d, port := some m }
  let s1 := s.setFrame h f
  let r := s1.offer h f q 0 0 0 x.cls
  if r.1 then
    let s2 := r.2.setQueue q ((r.2.queue q).map fun c => if c.head = h then { c with spi := some i } else c)
    (true, s2.inc .SPI_FALLBACK_COUNT i)
  else (false, (r.2.freeFrame h).inc .SPI_FB_DROP_COUNT i)

/-! The engine's commands (R310). -/

/-- A reserved bit of an express entry is set. -/
def expBad (d : List Word) : Bool := wbits (nth d 1 0) 21 16 != 0 || wbits (nth d 2 0) 31 12 != 0 || nth d 3 0 != 0

/-- SPI_WRITE_ENTRY. -/
def execSpiWriteEntry (e : Ecc) (s : State) : Host.Outcome State Fault Refusal :=
  run 12 (fun s => s.taeRun 4 3 fun t s =>
    let d := slice (t.data ++ [0, 0, 0, 0]) 0 4
    if expBad d then ((6, none, []), s)
    else if e = .uncorr then ((7, none, []), s.memFault 0xC t.addr)
    else ((0, none, []), { s with exp := tset s.exp (t.addr % 256) (if d.all (· == 0) then none else some d) })) s

/-- SPI_READ_ENTRY. -/
def execSpiReadEntry (e : Ecc) (s : State) : Host.Outcome State Fault Refusal :=
  run 12 (fun s => s.taeRun 4 4 fun t s =>
    if e = .uncorr then ((7, none, []), s.memFault 0xC t.addr)
    else ((0, none, (tfind s.exp (t.addr % 256)).getD [0, 0, 0, 0]), s)) s

end Sys2Proof.Machine
end

