-- ==== Sys2Proof/Machine/Ticket.lean ====
section
/-! DEFINITION. The ticket interfaces with the switch core (R25 to R33, R40 to R45). -/
namespace Sys2Proof.Machine

/-- The ticket and release interfaces act: after the first commit, and while the Dome is not held (R87, R372). -/
def State.switchOpen (s : State) : Bool := s.committed && !s.flag .FLT_STATUS_DOME_HOLD && s.up 8

/-- Ingress tickets that wait on a lane (R43). -/
def State.itk (s : State) (lane : Nat) : List (List Word) := tget [] s.itkQ lane

/-- ITK_TRANSFER (R40, R41). -/
def State.itkTransfer (s : State) (lane : Nat) : State :=
  match s.itk lane with
  | [] => s
  | t :: rest => if s.switchOpen then ({ s with itkQ := tput [] s.itkQ lane rest }).emit (.ticket lane t) else s

/-- ITK_TRANSFER. -/
def execItkTransfer (lane : Nat) (s : State) : Host.Outcome State Fault Refusal :=
  runOn 2 lane 8 (fun s => s.itkTransfer lane) s

/-- Egress tickets accepted and not yet processed (R44). -/
def State.etk (s : State) (lane : Nat) : List (List Word) := tget [] s.etkQ lane

/-- ETK_TRANSFER (R40, R44): READY is 0 while the buffer holds 64 tickets, and the transfer does not take place. -/
def State.etkTransfer (s : State) (lane : Nat) (tk : List Word) : State :=
  if s.switchOpen && decide ((s.etk lane).length < 64) then { s with etkQ := tput [] s.etkQ lane (s.etk lane ++ [tk]) } else s

/-- ETK_TRANSFER. -/
def execEtkTransfer (lane : Nat) (w0 w1 w2 w3 : Word) (s : State) : Host.Outcome State Fault Refusal :=
  runOn 2 lane 8 (fun s => s.etkTransfer lane [w0, w1, w2, w3]) s

/-- The cycle ends unless more changes of it are to come (R32). -/
def State.endUnless (s : State) (more : Bool) : State := if more then s else s.cycleEnd

/-- An egress ticket processed (R26, R27, R31, R244): checked, enqueued or rejected, then its release, which takes effect at the
end of the cycle (R32). A frame whose descriptor reads in error is lost before the checks (R247; DESIGN CHOICE, log 44). -/
def State.processTicket (s0 : State) (tk : List Word) : State :=
  let w0 := nth tk 0 0
  let w1 := nth tk 1 0
  let w2 := nth tk 2 0
  let h := wbits w0 16 0
  let dst := wbits w1 10 0
  let s := s0.descRead h
  let e := s.ticketError h (wbits w0 30 17) dst (wbits w1 18 11)
  let s1 := if e ≠ 0 then s.egtError e false dst
    else (s.enqueueTicket h dst (wbits w1 18 11) (wbits w1 24 23) (wbits w1 21 19) (wbits w2 19 12) (wbits w2 11 0) tk).2
  if wbit w0 31 && (s.frame h).isSome then s1.dropRef h else s1

/-- EGRESS_TICKET_PROCESS: the oldest ticket of a lane. `more`: more changes of reference counts fall in the same cycle (R32). -/
def State.etkProcess (s : State) (lane : Nat) (more : Bool) : State :=
  match s.etk lane with
  | [] => s.endUnless more
  | tk :: rest => (({ s with etkQ := tput [] s.etkQ lane rest }).processTicket tk).endUnless more

/-- EGRESS_TICKET_PROCESS. -/
def execEgressTicketProcess (lane : Nat) (more : Bool) (s : State) : Host.Outcome State Fault Refusal :=
  runOn 2 lane 8 (fun s => s.etkProcess lane more) s

/-- A release on the release interface (R45). -/
def State.release (s : State) (h : Nat) : State :=
  if !s.switchOpen then s
  else if (s.frame h).isSome then s.dropRef h
  else s.egtError 1 true 0

/-- REFERENCE_RELEASE. `more`: more changes of reference counts fall in the same cycle (R32). -/
def execReferenceRelease (lane : Nat) (h : Nat) (more : Bool) (s : State) : Host.Outcome State Fault Refusal :=
  runOn 2 lane 8 (fun s => (s.release h).endUnless more) s

/-- BABBLE_CLEAR (R146). -/
def execBabbleClear (p : Nat) (s : State) : Host.Outcome State Fault Refusal := runSoftOn 1024 p 2 (fun s => s.babbleClear p) s

end Sys2Proof.Machine
end

