-- ==== Sys2Proof/Machine/Frame.lean ====
section
/-! DEFINITION. The path of a received frame from its start to its ticket, its diversion or its discard (R19 to R24, R34, R97 to
R102, R112, R135, R140, R154 to R156, R181 to R183, R194, R214, R237, R243, R331). -/
namespace Sys2Proof.Machine

/-! Which port a frame belongs to (R102, R153 to R156). -/

/-- An extender trunk (R75). -/
def State.extTrunkRole (s : State) (m : Nat) : Bool := isTrunk m && s.role m == 1

/-- The frame carries an E-TAG (R153). -/
def hasEtag (d : List Byte) : Bool := beAt d 12 2 == 0x893F

/-- The field port that the E-TAG of a frame on trunk `m` resolves to (R154). -/
def State.resolve (s : State) (m : Nat) (d : List Byte) : Option Nat :=
  let cid := beAt d 16 2 % 4096
  if bits (beAt d 16 2) 13 12 ≠ 0 then none
  else
    ((s.slotsOn (m - 1024)).find? fun e =>
      let b := wbits (s.slotWords e).2 11 0
      s.extState e == extJoined && decide (b ≤ cid) && decide (cid < b + 16)).bind fun e =>
        s.portOfSlot (16 * e + (cid - wbits (s.slotWords e).2 11 0))

/-- The port whose rules and counters apply to a frame on MAC port `m` (R102). -/
def State.rxPort (s : State) (m : Nat) (d : List Byte) : Nat :=
  if s.extTrunkRole m && hasEtag d then (s.resolve m d).getD m else m

/-- The frame as it is stored: without an E-TAG (R19). -/
def State.stored (s : State) (m : Nat) (d : List Byte) : List Byte :=
  if s.extTrunkRole m && hasEtag d then d.take 12 ++ d.drop 20 else d

/-! Frames that take no cell: MAC control, management, session and mirror frames (R112, R156, R412, R415). -/

/-- A management session frame received on trunk `m` (R415). -/
def State.isSession (s : State) (m : Nat) (d : List Byte) : Bool :=
  isTrunk m && (s.get .SES_CFG_TRUNKS).testBit (m - 1024)
    && beAt d 0 6 == s.get .SES_SA_HI_SA_HI * 2 ^ 32 + s.get .SES_SA_LO_SA_LO
    && beAt d 12 2 == s.get .SES_CFG_ETYPE && beAt d 14 1 == 0x53

/-- A mirror frame received on the mirror link (R412, R413). -/
def State.isMirror (s : State) (m : Nat) (d : List Byte) : Bool :=
  isTrunk m && s.role m == 2 && beAt d 12 2 == s.get .SES_CFG_ETYPE && beAt d 14 1 == 0x4D

/-- A frame that the MAC, the extender manager or the endpoint consumes. -/
def State.consumed (s : State) (m : Nat) (d : List Byte) : Bool :=
  isCtrl d || (s.extTrunkRole m && s.isMgmt d) || s.isSession m d || s.isMirror m d

/-! The start (R20). -/

/-- The opportunity of a reception at its start (R140, R147, R155); only the frames of a multidrop segment carry one (R216). A
reception that starts in TO_NORMAL belongs to the node in service still, and one of TO_SERVICE after the cycle has ended to no
opportunity (log 42). -/
def State.rxOpp (s : State) (m n : Nat) (d : List Byte) : Option Nat :=
  if s.extended n then (let k := beAt d 19 1; if k = 0 ∨ k = 255 ∨ s.kind n ≠ 0 then none else some k)
  else if isTrunk m || s.kind m ≠ 0 then none
  else if s.segState m = segService ∨ s.segState m = segToNormal then some (s.get .SEG_CFG_SERVICE_NODE m)
  else if s.plcaPort m then some ((s.segOf m).carrier.getD (s.get .SEG_STATUS_CUR_ID m))
  else none

/-- A port listens to its medium: it is enabled, or the carrier in progress rose while it was (R109, R132); a field port has its own
lane. -/
def State.listens (s : State) (m : Nat) : Bool :=
  if isTrunk m then s.enabled m
  else s.onLane m && !(s.segOf m).deaf && (s.enabled m || (s.plcaPort m && (s.segOf m).carrier.isSome))

/-- A frame starts on a MAC port (R20): what the reception keeps of the port as it is at the start. -/
def State.rxBegin (s : State) (m : Nat) (sfdOk : Bool) (back : Option (List Byte)) (b : List Byte) : State :=
  let s0 := s.put .MAC_STATUS_RX_LPI m 0
  let n := s.rxPort m b
  let st := s.segState m
  let r : Rx :=
    { bytes := b, port := n, badStart := !sfdOk, ts := s.rxStamp n, maxFrame := s.maxFrame n, opp := s.rxOpp m n b, back := back
      half := s.halfDuplex m, plca := s.plcaPort m && st != segService && st != segToNormal
      quar := !isTrunk m && st == segQuarantine }
  let s1 := s0.used
  if !sfdOk || s.consumed m b || r.quar then s1.setRx m (some r)
  else match s1.spiTreat m b [] with
    | some (x, _) =>
      let r1 := { r with express := true, spi := some x }
      if x.own then s1.takeHead m r1 else s1.setRx m (some r1)
    | none => s1.takeHead m r

/-- RX_FRAME_START (R20): a frame starts on a MAC port. `b` holds what has arrived: 32 bytes or more, or the whole frame. A port that
is disabled, without link, or in far-end loopback receives nothing; in near-end loopback it receives what it has sent, and not the
medium (R111). -/
def State.rxStart (s : State) (m : Nat) (sfdOk : Bool) (b : List Byte) : State :=
  let loop := s.get .MAC_CFG_LOOP m
  if !s.listens m || !s.link m || loop == 2 || (s.rxOf m).isSome then s
  else if loop = 1 then
    match (s.macOf m).back with
    | [] => s
    | x :: l => (s.setMac m { s.macOf m with back := l }).rxBegin m true (some x) (x.take (x.length - 4))
  else s.rxBegin m sfdOk none b

/-- The block of a MAC port. -/
def macBlock (m : Nat) : Nat := if isTrunk m then 1 else 2

/-- RX_FRAME_START. -/
def execRxFrameStart (p : Nat) (sfdOk : Bool) (bytes : List Byte) (s : State) : Host.Outcome State Fault Refusal :=
  runOn 1040 p (macBlock p) (fun s => s.rxStart p sfdOk bytes) s

/-! During the reception. -/

/-- More bytes have arrived: the frame takes the cells that it needs, or runs out of cells (R243). -/
def State.rxGrow (s : State) (m : Nat) (b : List Byte) : State :=
  match s.rxOf m with
  | none => s
  | some r =>
    let need := cellsFor (s.stored m b).length
    let k := b2n (r.head.isSome && !r.noCell) + b2n (r.fbHead.isSome && !r.fbNoCell)
    if k = 0 ∨ need ≤ r.cells then s.setRx m (some { r with bytes := b })
    else if (need - r.cells) * k ≤ s.freeCells then
      ((s.setRx m (some { r with bytes := b, cells := need })).notePeak).flowControl m
    else s.setRx m (some { r with bytes := b, noCell := r.noCell || r.head.isSome, fbNoCell := r.fbNoCell || r.fbHead.isSome })

/-- RX_OVERSIZE_DETECT (R100, R307): byte MAX_FRAME + 1 has arrived, or for a frame being cut through the byte after the lesser of
the two trunks' MAX_FRAME. -/
def State.rxOversize (s : State) (m : Nat) (b : List Byte) : State :=
  match s.rxOf m with
  | none => s
  | some r =>
    let big := decide (r.maxFrame < (s.stored m b).length)
    let r1 := if big then { r with bytes := b, oversize := true, head := none, fbHead := none, cells := 0, inflight := false }
      else { r with bytes := b }
    match r.spi.filter (·.cut) with
    | some x =>
      let cap := min r.maxFrame (s.maxFrame (s.spiEgress x))
      if cap < b.length then
        ((s.setRx m (some { r1 with spi := some { x with cut := false, key := none } })).flowControl m).cutEnd x (b.take (cap - 4)) false
      else s
    | none => if big then (s.setRx m (some r1)).flowControl m else s

/-- RX_OVERSIZE_DETECT. -/
def execRxOversizeDetect (p : Nat) (bytes : List Byte) (s : State) : Host.Outcome State Fault Refusal :=
  runOn 1040 p (macBlock p) (fun s => s.rxOversize p bytes) s

/-- RX_JABBER (R97, R100, R144, R145): a reception that reaches 16,384 bytes ends there. It is counted in the first counter of
R97 that applies, which is MAC_RX_OVERSIZE after a good start without a receive error. -/
def State.rxJabber (s : State) (m : Nat) (rxErr : Bool) : State :=
  match s.rxOf m with
  | none => s
  | some r =>
    let s1 := s.dropRx m
    let multi := !isTrunk m && s.kind m == 0
    if multi && (r.quar || s.segState m == segQuarantine) then s1.inc .SEG_QUAR_RX_COUNT m
    else
      let s2 :=
        if r.cut then s1.inc .FLT_RST_FRAMES_COUNT
        else if r.badStart then s1.inc .MAC_RX_PREAMBLE_COUNT m
        else if rxErr || r.symbol then s1.inc .MAC_RX_SYMBOL_COUNT m
        else s1.inc .MAC_RX_OVERSIZE_COUNT r.port
      if multi then s2.babbleEvent m else s2

/-- RX_JABBER. -/
def execRxJabber (p : Nat) (rxErr : Bool) (s : State) : Host.Outcome State Fault Refusal :=
  runOn 1040 p (macBlock p) (fun s => s.rxJabber p rxErr) s

/-- A reception that loses its frame to a block reset: it is discarded at its end (R371). -/
def cutRx (r : Rx) : Rx := { r with head := none, fbHead := none, cells := 0, cut := true }

/-- A block in reset drops a reception that it holds (R371): the frame is discarded at its end, or here where the Spire goes on with it. -/
def State.rxDrop (s : State) (m : Nat) (r : Rx) : State :=
  if r.spi.any fun x => x.cut || x.fallback then
    (s.setRx m (some { r with head := none, inflight := false, parsed := none, lookup := none })).inc .FLT_RST_FRAMES_COUNT
  else s.setRx m (some (cutRx r))

/-- The walk of a reception of which 192 bytes have arrived; a walk that ends parsed and without a malformed cause starts the lookups
(R19, R172, R182). A parser or a classifier in reset drops the frame (R371). -/
def State.rxParse (s : State) (m : Nat) (bad : List (Nat × Nat)) : State :=
  match s.rxOf m with
  | none => s
  | some r =>
    if r.head.isNone || r.parsed.isSome || decide ((s.stored m r.bytes).length < 192) then s
    else if !s.up 4 then s.rxDrop m r
    else
      let d := parse r.graph (s.stored m r.bytes) false
      if d.stop ≠ 0 ∨ d.mal.isSome then s.setRx m (some { r with parsed := some d })
      else if !s.up 5 then s.rxDrop m r
      else
        let l := s.lookup r.version r.port d.vec (badIn 3 bad) (badIn 4 bad)
        l.2.setRx m (some { r with parsed := some d, lookup := some l.1 })

/-- What arrives on a port: in near-end loopback, the frame that its transmitter has returned (R111). -/
def State.rxWire (s : State) (m : Nat) (b : List Byte) (fcs : Word) : List Byte × Nat :=
  match (s.rxOf m).bind (·.back) with
  | some x => (x.take (x.length - 4), leNat (x.drop (x.length - 4)))
  | none => (b, fcs.toNat)

/-- PARSE_START (R173): 192 bytes have arrived. `bad`: the words of the flow table and of the prefix table that read with an
uncorrectable error. -/
def execParseStart (p : Nat) (bytes : List Byte) (bad : List (Nat × Nat)) (s : State) : Host.Outcome State Fault Refusal :=
  runOn 1040 p (macBlock p) (fun s => (s.rxGrow p (s.rxWire p bytes 0).1).rxParse p bad) s

/-! The end: discards (R21, R97, R135). -/

/-- A reception that began on a half-duplex segment is a collision fragment (R135); near-end loopback sees no collision (R111). -/
def State.isFragment (s : State) (m : Nat) (r : Rx) (len : Nat) (coll : Bool) : Bool :=
  r.half && r.back.isNone && (coll || (decide (len < 64) && (s.txOf m).isSome))

/-- The receive discard counter of R97 for a frame of `len` bytes; none for a frame that passes. -/
def rxDiscard (r : Rx) (len : Nat) (fcsOk rxErr : Bool) : Option Fld :=
  if r.badStart then some .MAC_RX_PREAMBLE_COUNT
  else if rxErr then some .MAC_RX_SYMBOL_COUNT
  else if len < 64 then some .MAC_RX_RUNT_COUNT
  else if r.maxFrame < len then some .MAC_RX_OVERSIZE_COUNT
  else if !fcsOk then some .MAC_RX_FCS_ERR_COUNT
  else none

/-- The port that counts a discard: the MAC itself for what makes an E-TAG untrustworthy, else the port of the frame (R97, R166). -/
def discardPort (m : Nat) (r : Rx) (f : Fld) : Nat :=
  if f = .MAC_RX_RUNT_COUNT ∨ f = .MAC_RX_OVERSIZE_COUNT then r.port else m

/-- A reception in the BEACON or in opportunity 0 of a PLCA segment (R140). -/
def ownOpp (r : Rx) : Bool := r.plca && (r.opp == some 0 || r.opp == some 0xFF)

/-- A frame of `len` bytes is counted at port `n` (R126). -/
def State.countRx (s : State) (n len : Nat) : State :=
  (s.add64 .MAC_RX_FRAMES_LO .MAC_RX_FRAMES_HI n 1).add64 .MAC_RX_OCTETS_LO .MAC_RX_OCTETS_HI n len

/-- A frame that passed R97 is counted by its port, and at the trunk that it came in on (R126, R166). -/
def State.countGood (s : State) (m : Nat) (r : Rx) (len : Nat) : State :=
  if r.port = m then s.countRx m len else (s.countRx r.port len).countRx m len

/-! The end: tickets, the slow path (R22, R23, R34, R43, R331). -/

/-- What the frame path has found of a frame. -/
structure Found where
  /-- 0 for the switch core, else REASON of R23 -/
  reason : Nat
  vec : List Byte
  look : Lookup
  unparsed : Bool := false
  etag : Bool := false
  unreg : Bool := false
  learned : Bool := false
  node : Nat := 0
  col : Nat := 0

/-- The ingress ticket of a frame (R22, R23). -/
def State.ticket (s : State) (r : Rx) (h : Nat) (d : List Byte) (x : Found) : List Word :=
  let flags := (x.reason ||| b2n x.unreg <<< 6 ||| b2n x.unparsed <<< 7 ||| b2n x.learned <<< 8 ||| b2n x.etag <<< 9
    ||| b2n ((r.parsed.map (·.hsr)).getD false) <<< 10 ||| b2n ((beAt d 0 1).testBit 0) <<< 11)
  [word ((d.length + 4) <<< 17 ||| h), word (x.col <<< 22 ||| x.look.cls <<< 19 ||| x.node <<< 11 ||| r.port), word x.look.flow,
   word (flags <<< 16 ||| r.version), word (s.symHash x.vec), word r.ts, word (r.ts >>> 32), 0]

/-- The frame as it is held at its head cell, with no reference yet. -/
def heldFrame (m : Nat) (r : Rx) (d : List Byte) (x : Found) : DFrame :=
  let f : DFrame := { length := d.length + 4, cells := r.cells, refs := 0, data := d, tagged := hasTag d, port := some m
                      ingress := some x.look.cls }
  if x.reason = 0 then { f with chkOp := x.look.chkOp, chkUnit := x.look.chkUnit, stamp := x.look.stamp } else f

/-- The ingress ticket enters its lane's holding queue, and the reference count becomes 1 (R31, R42, R43). -/
def State.issueTicket (s : State) (m : Nat) (r : Rx) (h : Nat) (d : List Byte) (x : Found) : State :=
  let lane := ticketLane r.port
  let s1 := s.addRef h (heldFrame m r d x)
  ({ s1 with itkQ := tput [] s1.itkQ lane (s.itk lane ++ [s.ticket r h d x]) }).flowControl m

/-- The slow-path channels, rising (R331). -/
def State.slowSet (s : State) : List Nat :=
  bitList 64 (s.get .DMA_SLOW_SET_HI_SET * 2 ^ 32 + s.get .DMA_SLOW_SET_LO_SET)

/-- The ticket image of a slow-path frame enters the host queue that the symmetric hash chooses (R34, R245, R331). -/
def State.divert (s : State) (m : Nat) (r : Rx) (h : Nat) (d : List Byte) (x : Found) : State :=
  let l := s.slowSet
  if l.isEmpty then (s.flowControl m).inc .DMA_SLOW_NOSET_COUNT
  else
    let c := nth l (((s.symHash x.vec >>> 16) * l.length) >>> 16) 0
    let o := s.offerHost c h (heldFrame m r d x) (s.ticket r h d x)
    o.2.flowControl m

/-! The end: the frame path (R181 to R183, R194, R214, R237). -/

/-- A capture register takes the first frame since its VALID was cleared (R182, R183). -/
def State.capture (s : State) (valid cause layer ofs port : Fld) (c l o n : Nat) : State :=
  if s.flag valid then s
  else ((((s.put valid 0 1).put cause 0 c).put layer 0 l).put ofs 0 o).put port 0 n

/-- A malformed frame is counted and captured (R182). -/
def State.noteMalformed (s : State) (n : Nat) (d : Parsed) : State :=
  let c := d.mal.getD (0, 0, 0)
  (s.inc .PRS_MALFORMED_COUNT n).capture .PRS_MALF_CAP_VALID .PRS_MALF_CAP_CAUSE .PRS_MALF_CAP_LAYER .PRS_MALF_CAP_OFFSET
    .PRS_MALF_CAP_SRC_PORT c.1 c.2.1 c.2.2 n

/-- A frame's parse outcome is counted (R182, R183): each slow-path counter with its REASON. -/
def State.countParse (s : State) (n : Nat) (d : Parsed) (x : Found) : State :=
  let s1 := if d.mal.isSome then s.noteMalformed n d else s
  match x.reason with
  | 1 => s1.inc .PRS_FRAGMENT_COUNT
  | 2 =>
    (s1.inc .PRS_DEPTH_COUNT).capture .PRS_DEPTH_CAP_VALID .PRS_DEPTH_CAP_CAUSE .PRS_DEPTH_CAP_LAYER .PRS_DEPTH_CAP_OFFSET
      .PRS_DEPTH_CAP_SRC_PORT d.depth.1 d.depth.2.1 d.depth.2.2 n
  | 3 => s1.inc .PRS_MALF_SLOW_COUNT
  | 4 => s1.inc .PRS_HSR_SUP_COUNT
  | _ => if x.unparsed then s1.inc .PRS_UNPARSED_COUNT else s1

/-- A frame's lookups are counted (R198, R199, R211). -/
def State.countLookups (s : State) (l : Lookup) (slow : Bool) : State :=
  let s1 := ((s.add64 .CLS_LOOKUPS_LO .CLS_LOOKUPS_HI 0 l.n).add64 .CLS_FLOW_HITS_LO .CLS_FLOW_HITS_HI 0 l.flowHits).add64
    .CLS_PFX_HITS_LO .CLS_PFX_HITS_HI 0 l.pfxHits
  let s2 := s1.add .CLS_ECC_MISS_COUNT 0 l.eccMiss
  if slow then s2.inc .CLS_ACT_SLOW_COUNT else s2

/-- The result of a frame without lookups: the default class of its port entry (R183, R190). -/
def State.noLookup (s : State) (v n : Nat) (vec : List Byte) (old : Option Lookup) : Lookup :=
  { fwd := 1, cls := defaultClass (nth (s.entryIn v 3 n) 0 0) vec, pol := none, flow := 0x7FFFF
    n := (old.map (·.n)).getD 0, flowHits := (old.map (·.flowHits)).getD 0, pfxHits := (old.map (·.pfxHits)).getD 0
    eccMiss := (old.map (·.eccMiss)).getD 0 }

/-- What the parser and the classifier make of a frame; none for one discarded as malformed (R181 to R183, R194). -/
def State.findFrame (s : State) (r : Rx) (p : Parsed) (d : List Byte) (unknown : Bool) (bad : List (Nat × Nat)) :
    Option Found × State :=
  let n := r.port
  let look := fun vec => s.lookup r.version n vec (badIn 3 bad) (badIn 4 bad)
  let slow := fun (reason : Nat) => (some ({ reason := reason, vec := p.vec, look := s.noLookup r.version n p.vec r.lookup } : Found), s)
  if unknown then slow 6
  else if p.mal.isSome then
    match s.get .PRS_PORT_CFG_MALF_ACT n with
    | 1 => slow 3
    | 2 =>
      let vec := reducedVector d
      let l := look vec
      let k := l.1
      let o := r.lookup
      (some { reason := if k.fwd = 1 then 5 else 0, vec := vec, unparsed := true
              look := { k with n := k.n + (o.map (·.n)).getD 0, flowHits := k.flowHits + (o.map (·.flowHits)).getD 0
                               pfxHits := k.pfxHits + (o.map (·.pfxHits)).getD 0, eccMiss := k.eccMiss + (o.map (·.eccMiss)).getD 0 } }, l.2)
    | _ => (none, s)
  else if p.stop = 1 ∨ p.stop = 2 ∨ p.stop = 4 then slow p.stop
  else match r.lookup with
    | some k => (some { reason := if k.fwd = 1 then 5 else 0, vec := p.vec, look := k }, s)
    | none => let l := look p.vec; (some { reason := if l.1.fwd = 1 then 5 else 0, vec := p.vec, look := l.1 }, l.2)

/-- A frame that nothing discards: counted, bound, policed, then ticketed or diverted (R19 steps 5 to 7). -/
def State.finish (s : State) (m : Nat) (r : Rx) (h : Nat) (p : Parsed) (d : List Byte) (x : Found) (b : Binding) (c : BindCount)
    (xchk : Bool) (bad : List Nat) : State :=
  let n := r.port
  let s2 := ((s.countParse n p x).countLookups x.look (x.reason == 5)).bindCount n c xchk
  let s3 := s2.bind n (beAt d 6 6) (d.length + 4) r.version b
  let node := match b with
    | .node k _ => k
    | _ => 0
  let pre := s3.precolour n x.vec
  let s4 := if pre.2 then s3.inc .POL_COLOUR_INV_COUNT else s3
  let flow := if x.reason = 0 ∨ x.reason = 5 then x.look.pol else none
  let q := s4.police n r.version (d.length + 4) pre.1 (if node = 0 then none else some (n * 256 + node)) flow bad
  let y := { x with col := q.2.1, node := node, etag := s.extTrunkRole m && hasEtag r.bytes
                    unreg := b == .none true, learned := (match b with | .node _ (some _) => true | _ => false) }
  if q.1 then q.2.2.flowControl m
  else if x.reason = 0 then q.2.2.issueTicket m r h d y
  else q.2.2.divert m r h d y

/-- The parser, the classifier, the policers and, for a frame of a field port, the node registry can act (R371). -/
def State.pathUp (s : State) (n : Nat) : Bool := s.up 4 && s.up 5 && s.up 7 && (isTrunk n || s.up 6)

/-- The frame path of a frame that passed R97 and is held in the Dome. `unknown` is whether its E-TAG resolved to no port; `bad` are
the words that read with an uncorrectable error. A frame that a block in reset would have to handle is discarded (R371). -/
def State.framePath (s : State) (m : Nat) (r : Rx) (d : List Byte) (unknown : Bool) (bad : List (Nat × Nat)) : State :=
  match r.head with
  | none => s.flowControl m
  | some h =>
    let n := r.port
    let p := parse r.graph d true
    let f := s.findFrame r p d unknown bad
    if !s.pathUp n then (s.inc .FLT_RST_FRAMES_COUNT).flowControl m
    else match f.1 with
    | none => ((s.noteMalformed n p).inc .PRS_MALF_DROP_COUNT).flowControl m
    | some x =>
      let s1 := f.2
      if (x.reason = 0 ∨ x.reason = 5) ∧ x.look.fwd = 2 then (s1.inc .CLS_ACT_DROP_COUNT).flowControl m
      else
        let b := s1.nodeOf n (beAt d 6 6) r.opp (badIn 5 bad)
        if b.1 = .discard then (s1.bindCount n b.2.1 b.2.2).flowControl m
        else if x.reason = 0 ∧ 1024 ≤ (s1.itk (ticketLane n)).length then (s1.inc .MAC_RX_TKT_OVF_COUNT n).flowControl m
        else s1.finish m { r with parsed := some p } h p d x b.1 b.2.1 b.2.2 (badIn 7 bad)

/-- The local copy of an HSR frame whose key the frame path has taken since the decision is not passed: it is counted (R305). -/
def State.spiOwnEnd (s : State) (r : Rx) : Rx × State :=
  match r.spi.filter (·.own) with
  | some x =>
    if s.isDup x false && r.head.isSome && !r.noCell then
      ({ r with head := none, spi := some { x with own := false } }, s.inc .SPI_HSR_DUP_COUNT (spiIndex x))
    else (r, s)
  | none => (r, s)

/-- The fallback frame at the end of its reception: enqueued, or given up as a duplicate or for want of a cell (R243, R305, R308).
The Boolean says whether it goes on. -/
def State.spiFallEnd (s : State) (m : Nat) (r : Rx) (x : SpiRx) (d : List Byte) : Bool × State :=
  match r.fbHead with
  | none => (false, s)
  | some h =>
    if r.fbNoCell then (false, s)
    else if s.isDup x true then (false, s.inc .SPI_HSR_DUP_COUNT (spiIndex x))
    else s.spiEnqueue m x h r.cells d

/-- What the Spire does with a reception that passed R97: the frame being cut through has ended, the fallback frame is enqueued, and
the duplicate table learns what has been done (R305, R307, R308). -/
def State.spiEnd (s : State) (m : Nat) (r : Rx) (d : List Byte) : State :=
  match r.spi with
  | none => s
  | some x =>
    let f := s.spiFallEnd m r x d
    match x.key with
    | none => f.2
    | some k =>
      let s3 := if x.cut || f.1 then f.2.dupMark x.pair k x.dir else f.2
      if x.own && r.head.isSome && !r.noCell then s3.dupMark x.pair k 2 else s3

/-- A frame being cut through ends: at the lesser MAX_FRAME of the two trunks it is cut short, with an inverted FCS (R307). -/
def State.cutDone (s : State) (r : Rx) (b : List Byte) (good : Bool) : State :=
  match r.spi.filter (·.cut) with
  | none => s
  | some x =>
    let cap := min r.maxFrame (s.maxFrame (s.spiEgress x))
    if cap < b.length + 4 then s.cutEnd x (b.take (cap - 4)) false else s.cutEnd x b good

/-- A frame that passed R97, and that nothing consumed (R19, R140, R154, R156, R243). -/
def State.rxGood (s : State) (m : Nat) (r0 : Rx) (d : List Byte) (bad : List (Nat × Nat)) : State :=
  let o := s.spiOwnEnd r0
  let r := o.1
  let tagged := s.extTrunkRole m && hasEtag r.bytes
  let unknown := tagged && isTrunk r.port
  let s1 := o.2.spiEnd m r d
  if s.extTrunkRole m && !tagged then (s1.inc .EXT_TRK_UNTAGGED_COUNT (m - 1024)).flowControl m
  else
    let s2 := if unknown then s1.inc .EXT_TRK_UNKNOWN_COUNT (m - 1024) else s1
    if unknown && !s.flag .EXT_TRUNK_CFG_UNKNOWN_ACT (m - 1024) then s2.flowControl m
    else
      let lost := r.noCell && (r.spi.map (·.own)).getD true
      let s3 := if lost || r.fbNoCell then s2.inc .DOME_RX_NOCELL_COUNT r.port else s2
      if r.noCell then s3.flowControl m else s3.framePath m r d unknown bad

/-- A trunk in far-end loopback sends back what its PCS receives (R111; log 41). -/
def State.farEnd (s : State) (m : Nat) (b : List Byte) (fcs : Word) : State :=
  if s.get .MAC_CFG_LOOP m = 2 ∧ s.txen m then s.emit (.frame m (preamble ++ b ++ leBytes 4 fcs.toNat) (crc32 b == fcs.toNat)) else s

/-- The end of a reception: quarantine, collision fragments, frames cut by a block reset, receptions in opportunity 0 (R140), R97,
consumed frames, then the frame path. `consume` is what the manager and the endpoint make of a frame; `bad` are the words that read
with an uncorrectable error. An express frame that ends before byte 32 has no decision (R306). -/
def State.rxEnd (s : State) (consume : State → Nat → List Byte → State) (m : Nat) (bytes : List Byte) (fcs : Word) (rxErr coll : Bool)
    (bad : List (Nat × Nat)) : State :=
  let w := s.rxWire m bytes fcs
  let b := w.1
  let s0 := (s.rxGrow m b).when (((s.rxOf m).map (·.express)).getD false) fun s => s.spiDecide m (badIn 0xC bad)
  match s0.rxOf m with
  | none => s.farEnd m bytes fcs
  | some r =>
    let d := s0.stored m b
    let len := d.length + 4
    let err := rxDiscard r len (crc32 b == w.2) ((rxErr && r.back.isNone) || r.symbol)
    let s1 := s0.setRx m none
    let viol := fun (s : State) => if r.plca then s.violation m ((r.opp).getD 0) else s
    if r.quar || (!isTrunk m && s0.segState m == segQuarantine) then (s1.inc .SEG_QUAR_RX_COUNT m).flowControl m
    else if s0.isFragment m r len coll then viol ((s1.inc .SEG_RX_COLL_COUNT m).flowControl m)
    else if r.cut then ((s1.inc .FLT_RST_FRAMES_COUNT).cutDone r b false).flowControl m
    else if ownOpp r then viol (((s1.when err.isNone fun s => s.countRx r.port len).inc .SEG_OPP_RX_ERR_COUNT m).flowControl m)
    else match err with
      | some f => ((s1.inc f (discardPort m r f)).cutDone r b false).flowControl m
      | none =>
        let s2 := (s1.countGood m r len).cutDone r b true
        if isCtrl b then s2.ctrlFrame m b
        else if s0.consumed m b then consume s2 m b
        else s2.rxGood m r d bad

/-- MAC_CONTROL_FRAME (R97, R112): the end of a MAC control frame. -/
def execMacControlFrame (p : Nat) (bytes : List Byte) (fcs : Word) (rxErr : Bool) (s : State) : Host.Outcome State Fault Refusal :=
  runOn 1040 p (macBlock p) (fun s => if isCtrl (s.rxWire p bytes fcs).1 then s.rxEnd (fun s _ _ => s) p bytes fcs rxErr false []
    else s) s

/-- SPIRE_CUT_END (R307): the end of a frame that is being cut through. -/
def execSpireCutEnd (t : Nat) (bytes : List Byte) (fcs : Word) (rxErr : Bool) (s : State) : Host.Outcome State Fault Refusal :=
  runOn 16 t 1 (fun s =>
    if (((s.rxOf (1024 + t)).bind (·.spi)).map (·.cut)).getD false then
      s.rxEnd (fun s _ _ => s) (1024 + t) bytes fcs rxErr false [] else s) s

/-- SPIRE_FALLBACK_END (R308): the end of a fallback frame. -/
def execSpireFallbackEnd (t : Nat) (bytes : List Byte) (fcs : Word) (rxErr : Bool) (s : State) : Host.Outcome State Fault Refusal :=
  runOn 16 t 1 (fun s =>
    if (((s.rxOf (1024 + t)).bind (·.spi)).map (·.fallback)).getD false then
      s.rxEnd (fun s _ _ => s) (1024 + t) bytes fcs rxErr false [] else s) s

end Sys2Proof.Machine
end

