-- ==== Sys2Proof/Machine/Dma.lean ====
section
/-! DEFINITION. The DMA engine: the fabric ports, the channels' states, descriptors, data and status (R46, R47, R312 to R337), with
the check-value units on its descriptors (R344, R345). -/
namespace Sys2Proof.Machine

/-! Channels. -/

/-- A channel. -/
def State.chan (s : State) (c : Nat) : Chan := tget {} s.dma.chans c

/-- The state with a channel set. -/
def State.setChan (s : State) (c : Nat) (x : Chan) : State := { s with dma := { s.dma with chans := tput {} s.dma.chans c x } }

/-- STATE codes of DMA_CH_STATUS. -/
def chOff : Nat := 0
def chIdle : Nat := 1
def chRun : Nat := 2
def chStopping : Nat := 3
def chStopped : Nat := 4
def chHalted : Nat := 5

/-- STATE of a channel. -/
def State.chState (s : State) (c : Nat) : Nat := s.get .DMA_CH_STATUS_STATE c

/-- MODE of a channel (R312): 0 MEM, 1 HOST_RX, 2 INJECT, 3 STREAM, 4 SWEEP, 5 KEEP_OUT, 6 KEEP_IN. -/
def State.chMode (s : State) (c : Nat) : Nat := s.get .DMA_CH_CFG_MODE c

/-- No transaction is awaited (R329). -/
def Dma.quiet (d : Dma) : Bool := d.txns.all (·.lost)

/-- The engine has halted on a bus error (R329). -/
def State.busErr (s : State) : Bool := s.flag .DMA_GLB_STATUS_BUS_ERR

/-- A channel that processes its ring. -/
def State.chRuns (s : State) (c : Nat) : Bool := s.chState c == chRun || s.chState c == chStopping

/-- The address of descriptor `i` of a channel (R314). -/
def State.descAddr (s : State) (c i : Nat) : Nat :=
  (s.get .DMA_CH_RING_HI_BASE_HI c * 2 ^ 32 + s.get .DMA_CH_RING_LO_BASE_LO c * 32 + 32 * i) % 2 ^ 48

/-! Descriptors (R315 to R318). -/

/-- One side of a transfer. -/
structure Side where
  addr : Nat
  llen : Nat
  lcnt : Nat
  stride : Nat
  /-- width code -/
  w : Nat

/-- Width of a side in bytes. -/
def Side.bytes (x : Side) : Nat := 2 ^ x.w

/-- Bytes of a side. -/
def Side.total (x : Side) : Nat := x.llen * x.lcnt

/-- The source side of a descriptor. -/
def srcSide (d : List Word) : Side :=
  ⟨wbits (nth d 2 0) 15 0 * 2 ^ 32 + (nth d 1 0).toNat, wbits (nth d 4 0) 15 0, wbits (nth d 4 0) 27 16, wbits (nth d 6 0) 15 0,
   wbits (nth d 0 0) 25 23⟩

/-- The destination side of a descriptor. -/
def dstSide (d : List Word) : Side :=
  ⟨wbits (nth d 2 0) 31 16 * 2 ^ 32 + (nth d 3 0).toNat, wbits (nth d 5 0) 15 0, wbits (nth d 5 0) 27 16, wbits (nth d 6 0) 31 16,
   wbits (nth d 0 0) 22 20⟩

/-- A side breaks a rule of R317. -/
def Side.bad (x : Side) : Bool :=
  decide (5 < x.w) || x.llen == 0 || x.lcnt == 0 || x.addr % x.bytes != 0 || x.llen % x.bytes != 0 || x.stride % x.bytes != 0

/-- The address and the length of the burst at position `pos` of a side (R46, R316). -/
def Side.burst (x : Side) (pos : Nat) : Nat × Nat :=
  let a := (x.addr + pos / x.llen * x.stride + pos % x.llen) % 2 ^ 48
  (a, min (x.llen - pos % x.llen) (min (512 - a % 512) (16 * x.bytes)))

/-- The mode reads a source side, or writes a destination side, in memory (R318). -/
def usesSrc (mode : Nat) : Bool := mode == 0 || mode == 2 || mode == 6
def usesDst (mode : Nat) : Bool := mode == 0 || mode == 1 || mode == 3 || mode == 4 || mode == 5

/-- The bits of the fields that a mode does not use, and its reserved bits, by word (R315, R318). The length fields of the unused side
of a Keep descriptor are judged apart (log 21). -/
def descMask (mode : Nat) : List Nat :=
  let src := [7 <<< 23, 0xFFFFFFFF, 0xFFFF, 0, 0x0FFFFFFF, 0, 0xFFFF]
  let rsv := [7 <<< 16, 0, 0, 0, 0xF0000000, 0xF0000000, 0]
  let ts := [1 <<< 27, 0, 0, 0, 0, 0, 0]
  let clr := [1 <<< 26, 0, 0, 0, 0, 0, 0]
  let m := fun (a b : List Nat) => (a.zip b).map fun x => x.1 ||| x.2
  match mode with
  | 0 => m rsv (m ts clr)
  | 1 => m rsv (m ts (m clr src))
  | 2 => m (m rsv clr) [7 <<< 20, 0, 0xFFFF0000, 0xFE000000, 0, 0xFFF00000, 0xFFFF0000]
  | 3 => m rsv (m ts (m clr src))
  | 4 => m (m [7 <<< 16, 0, 0, 0, 0, 0xF0000000, 0] ts) [7 <<< 23, 0xFFFC0000, 0xFFFF, 0, 0xFFF80000, 0, 0xFFFF]
  | 5 => m rsv (m ts (m clr [7 <<< 23, 0xFFFFFFFF, 0xFFFF, 0, 0, 0, 0xFFFF]))
  | _ => m rsv (m ts (m clr [7 <<< 20, 0, 0xFFFF0000, 0xFFFFFFFF, 0, 0, 0xFFFF0000]))

/-- FIRST and COUNT of a SWEEP descriptor (R318). -/
def sweepFirst (d : List Word) : Nat := wbits (nth d 1 0) 17 0
def sweepCount (d : List Word) : Nat := wbits (nth d 4 0) 18 0

/-- The descriptor is invalid for a mode (R317, R318, R408, R409). -/
def descBad (mode : Nat) (d : List Word) : Bool :=
  let a := srcSide d
  let b := dstSide d
  ((d.zip (descMask mode)).any fun x => x.1.toNat &&& x.2 != 0)
    || (usesSrc mode && a.bad) || (usesDst mode && b.bad)
    || (match mode with
        | 0 => a.total != b.total
        | 1 => decide (b.total < 96)
        | 3 => b.total % 16 != 0
        | 4 => sweepCount d == 0 || decide (262144 < sweepCount d) || decide (262144 < sweepFirst d + sweepCount d)
                 || decide (b.total < 32 * sweepCount d)
        | 5 => b.w != 5 || b.llen % 32 != 0 || !(nth d 4 0 == 0 || a.total == b.total)
        | 6 => a.w != 5 || a.llen % 32 != 0 || !(nth d 5 0 == 0 || a.total == b.total)
        | _ => false)

/-! Check-value units on descriptors (R344, R345). -/

/-- The unit that would serve a descriptor; none where CHK_EN is ignored. -/
def State.chanUnit (s : State) (c : Nat) (d : List Word) : Option Nat :=
  let u := s.get .DMA_CH_CFG_CHK_UNIT c
  let mode := s.chMode c
  if wbit (nth d 0 0) 19 && s.flag .DMA_CH_CFG_CHK_ATTACH c
      && (mode == 0 || mode == 2 || (mode == 1 && s.get .CHK_CFG_DMA_DIR u != 0)) then some u else none

/-- The running value of a unit. -/
def State.chkReg (s : State) (u : Nat) : Nat := s.chkParam .CHK_RUN_LO .CHK_RUN_HI u

/-- RUN takes a value. -/
def State.setRun (s : State) (u r : Nat) : State := (s.wr .CHK_RUN_LO u (word r)).wr .CHK_RUN_HI u (word (r >>> 32))

/-- A unit is claimed: RUN starts from INIT or goes on (R345). -/
def State.claim (s : State) (u : Nat) : State :=
  let s1 := s.put .CHK_CFG_BUSY u 1
  s1.setRun u (if s.flag .CHK_CFG_CONT u then s.chkReg u else s.chkInit u)

/-- RUN goes on over some bytes. -/
def State.chkFeed (s : State) (u : Nat) (l : List Byte) : State := s.setRun u (s.chkRun u (s.chkReg u) l)

/-- A mismatch on incoming data (R344). -/
def State.chkMiss (s : State) (u : Nat) : State := (s.inc .CHK_FAIL_COUNT u).pulse (1408 + u)

/-! Posting and completion (R321 to R323). -/

/-- BYTES_DONE: the longest prefix of the descriptor's destination whose writes have all been answered with OK (R322). -/
def State.bytesDone (s : State) (c : Nat) : Nat :=
  let x := s.chan c
  let open' := (s.dma.txns.filter fun t => t.c == c && t.kind == 1 && t.serial == x.serial).map (·.pos)
  let open2 := match x.failPos with
    | some p => p :: open'
    | none => open'
  open2.foldl min x.wrPos

/-- The status writes of a descriptor: word 7, then word 0 with OWN = 0 (R321). -/
def State.statusWrites (s : State) (c code : Nat) (d : List Word) : List (Nat × List Byte) :=
  let a := s.descAddr c (s.get .DMA_CH_IDX_IDX c)
  [(a + 28, leBytes 4 (code <<< 28 ||| s.bytesDone c % 2 ^ 28)), (a, leBytes 4 ((nth d 0 0).toNat % 2 ^ 31))]

/-- A unit claimed by a channel is free again. -/
def State.unclaim (s : State) (c : Nat) : State :=
  match (s.chan c).unit with
  | some u => s.put .CHK_CFG_BUSY u 0
  | none => s

/-- The channel source (R319). -/
def State.chanSource (s : State) (c : Nat) : State := s.pulse (1344 + c)

/-- A descriptor has completed: IDX advances, it is counted (R319, R321, R339). -/
def State.retire (s : State) (c : Nat) (d : List Word) : State :=
  let i := s.get .DMA_CH_IDX_IDX c
  let x := s.chan c
  let s1 := (s.unclaim c).setChan c { count := x.count + 1, last := some i, serial := x.serial + 1, out := x.out,
                                           ahead := x.ahead, more := x.more }
  let s2 := (s1.put .DMA_CH_IDX_IDX c (if i = s.get .DMA_CH_RING_HI_SIZE_M1 c then 0 else i + 1)).inc .DMA_CH_DESC_COUNT c
  let s3 := (s2.add64 .DMA_CH_BYTES_LO .DMA_CH_BYTES_HI c x.bytes).put .DMA_CH_POS_BYTES_DONE c 0
  if wbit (nth d 0 0) 28 then s3.chanSource c else s3

/-- STOP_STATUS at an entry to STOPPED (R324). -/
def State.stopStatus (s : State) (c : Nat) : State :=
  let l := (s.chan c).last
  ((s.put .DMA_CH_STOP_STATUS_VALID c 1).putFlag .DMA_CH_STOP_STATUS_NONE c l.isNone).put .DMA_CH_STOP_STATUS_LAST_IDX c (l.getD 0)

/-- A channel enters a state with a reason. -/
def State.chEnter (s : State) (c st reason : Nat) : State := (s.put .DMA_CH_STATUS_STATE c st).put .DMA_CH_STATUS_REASON c reason

/-- A channel lets go of what it has read of its ring, and of what it is reading (R320). -/
def State.ringDrop (s : State) (c : Nat) : State :=
  let s1 := { s with dma := { s.dma with txns := s.dma.txns.map fun (t : Txn) => if t.c = c ∧ t.kind = 2 then { t with dead := true } else t } }
  s1.setChan c { s1.chan c with want := false, arrived := none, ahead := [], more := [] }

/-- A channel enters STOPPED; a unit that it has claimed is free (R319, R324, R345). -/
def State.chStop (s : State) (c reason : Nat) : State :=
  let s1 := (s.unclaim c).ringDrop c
  (((s1.setChan c { s1.chan c with desc := none, waits := 0, unit := none }).chEnter c chStopped reason).stopStatus c).chanSource c

/-! What moves without the fabric. -/

/-- Write transactions of a channel that are not answered: data writes, and status writes. -/
def State.writesOpen (s : State) (c : Nat) : Bool := s.dma.txns.any fun t => t.c == c && (t.kind == 1 || t.kind == 3)

/-- A descriptor ends with a code. -/
def State.chanEnd (s : State) (c code : Nat) : State :=
  let x := s.chan c
  s.setChan c { x with ended := true, code := some (x.code.getD code) }

/-- Source bytes of MEM, in order (R344): RUN, and the bytes that go to the destination. -/
def State.feedMem (s : State) (c n : Nat) (l : List Byte) : State :=
  let x := s.chan c
  match x.unit with
  | none => s.setChan c { x with fifo := x.fifo ++ l, fed := x.fed + l.length }
  | some u =>
    let dir := s.get .CHK_CFG_DMA_DIR u
    let k := s.chkLen u
    let lim := if dir ≤ 1 then n - k else n
    let s1 := s.chkFeed u (l.take (lim - x.fed))
    let chk := s1.chkBytes u (s1.chkOut u (s1.chkReg u))
    let rest := l.drop (lim - x.fed)
    let tail := if dir = 0 ∧ k ≤ n then slice chk (x.fed + (l.length - rest.length) - lim) rest.length else rest
    s1.setChan c { x with fifo := x.fifo ++ l.take (l.length - rest.length) ++ tail, fed := x.fed + l.length, tail := x.tail ++ rest }

/-- The end of a MEM stream: an outgoing check is counted, an incoming one compared (R344). -/
def State.endMem (s : State) (c n : Nat) : State :=
  let x := s.chan c
  match x.unit with
  | none => s.chanEnd c 0
  | some u =>
    let dir := s.get .CHK_CFG_DMA_DIR u
    if 2 ≤ dir then s.chanEnd c 0
    else if n < s.chkLen u then (if dir = 1 then (s.chkMiss u).chanEnd c 9 else s.chanEnd c 0)
    else if dir = 0 then (s.chkDone u).chanEnd c 0
    else if s.chkField u x.tail = s.chkOut u (s.chkReg u) then (s.chkDone u).chanEnd c 0
    else ((s.chkDone u).chkMiss u).chanEnd c 9

/-- Source bytes of INJECT, in order (R344). -/
def State.feedInject (s : State) (c : Nat) (l : List Byte) : State :=
  let x := s.chan c
  let s1 := match x.unit with
    | none => s
    | some u =>
      if 2 ≤ s.get .CHK_CFG_DMA_DIR u then s.chkFeed u l else s.chkFeed u (l.drop (s.get .CHK_REGION_REGION_OFS u - x.fed))
  s1.setChan c { x with fifo := x.fifo ++ l, fed := x.fed + l.length }

/-- The fields of an inject descriptor's ticket (R318). -/
def injWord (d : List Word) : Word := nth d 3 0
def injNoFcs (d : List Word) : Bool := wbit (injWord d) 22

/-- The unit appends a check to injected data. -/
def State.injAppends (s : State) (c : Nat) (d : List Word) : Bool :=
  match (s.chan c).unit with
  | some u => s.get .CHK_CFG_DMA_DIR u < 2 && !injNoFcs d
  | none => false

/-- Bytes of the frame that an inject descriptor makes. -/
def State.injLength (s : State) (c : Nat) (d : List Word) : Nat :=
  (srcSide d).total + (match (s.chan c).unit with
    | some u => if s.injAppends c d then s.chkLen u else 0
    | none => 0)

/-- The length rules of R104: 0 passes, else CODE. -/
def State.injSize (s : State) (c : Nat) (d : List Word) : Nat :=
  let n := s.injLength c d
  let dst := wbits (injWord d) 10 0
  let cap := if dst < 1040 then s.maxFrame dst else 16384
  if injNoFcs d then (if n < 64 then 2 else if cap < n then 3 else 0) else if cap < n + 4 then 3 else 0

/-- The gathered data becomes a frame and its ticket is checked and admitted (R35, R334). -/
def State.injTicket (s : State) (c : Nat) (d : List Word) : State :=
  let x := s.chan c
  let w := injWord d
  let dst := wbits w 10 0
  let data := match x.unit with
    | some u => if s.injAppends c d then x.fifo ++ s.chkBytes u (s.chkOut u (s.chkReg u)) else x.fifo
    | none => x.fifo
  let s0 := match x.unit with
    | some u => if s.injAppends c d then s.chkDone u else if injNoFcs d && s.get .CHK_CFG_DMA_DIR u < 2 then s.inc .CHK_SKIP_COUNT u else s
    | none => s
  let h := x.head.getD 0
  let ts := wbit (nth d 0 0) 27
  let f : DFrame := { length := if injNoFcs d then data.length else data.length + 4, cells := x.cells, refs := 0, data := data
                      tagged := hasTag data, noFcs := injNoFcs d, inject := some (c, x.serial, ts) }
  let s1 := (s0.setChan c { x with fifo := [], head := none, cells := 0, fed := x.fed }).setFrame h f
  let e := if dst = 0x7FF then 3 else s1.ticketError h f.length dst (wbits w 18 11)
  if e ≠ 0 then (({ s1 with frames := tset s1.frames h none }).egtError e false dst).chanEnd c 4
  else
    let r := s1.enqueueTicket h dst (wbits w 18 11) (wbits w 24 23) (wbits w 21 19) (wbits (nth d 5 0) 19 12) (wbits (nth d 5 0) 11 0) []
    if !r.1 then ({ r.2 with frames := tset r.2.frames h none }).chanEnd c 5
    else if ts then
      r.2.setChan c { r.2.chan c with waits := 3, ended := true }
    else r.2.chanEnd c 0

/-- The copy of a timestamped injection has ended (R334). -/
def State.injDone (s : State) (c : Nat) : State :=
  match tget none s.injEnd c with
  | none => s
  | some r =>
    let s1 := { s with injEnd := tput none s.injEnd c none }
    let x := s1.chan c
    if x.waits ≠ 3 then s1
    else s1.setChan c { x with waits := 0, ts := r, code := some (if r.isSome then 0 else 8) }

/-- The next bytes in order, out of those that have arrived; `n` pieces at most. -/
def inOrder : Nat → Nat → List (Nat × List Byte) → List Byte × List (Nat × List Byte)
  | 0, _, l => ([], l)
  | n + 1, pos, l =>
    match l.find? fun e => e.1 == pos with
    | none => ([], l)
    | some e =>
      let r := inOrder n (pos + e.2.length) (l.filter fun y => y.1 != pos)
      (e.2 ++ r.1, r.2)

/-- A channel's holding buffer takes a piece of data (R376; log 16). -/
def State.bufPut (s : State) (c : Nat) (x : Chan) : State := (s.setChan c x).memWrite 8 c

/-- What a channel holds is read from its word of the DMA region: an uncorrectable error ends the descriptor with ECC (R323). -/
def State.bufRead (s : State) (c : Nat) : State :=
  let x := s.chan c
  if (x.rdBuf.isEmpty && x.fifo.isEmpty) || !s.badWord 8 [] c then s
  else
    let y := { x with rdBuf := [], fifo := [], ended := true, code := some 7 }
    (s.setChan c (if s.chMode c = 2 then { y with head := none, cells := 0 } else y)).memFault 8 c

/-- Source bytes that have arrived are taken in order. -/
def State.takeSource (s : State) (c : Nat) (d : List Word) : State :=
  let x := s.chan c
  let n := (srcSide d).total
  let r := inOrder x.rdBuf.length x.fed x.rdBuf
  if r.1.isEmpty || x.ended then s
  else
    let s1 := s.setChan c { x with rdBuf := r.2 }
    match s.chMode c with
    | 0 =>
      let s2 := s1.feedMem c n r.1
      if (s2.chan c).fed = n then s2.endMem c n else s2
    | 2 =>
      let s2 := s1.feedInject c r.1
      if (s2.chan c).fed = n then s2.injTicket c d else s2
    | _ =>
      let s2 := (s1.setChan c { x with rdBuf := r.2, fed := x.fed + r.1.length })
      let s3 := { s2 with keep := { s2.keep with loaded := s2.keep.loaded ++ r.1 } }
      if x.fed + r.1.length = n then s3.chanEnd c 0 else s3

/-- Oculus records are taken (R335). -/
def State.takeRecords (s : State) (c : Nat) (d : List Word) : State :=
  let x := s.chan c
  let cap := (dstSide d).total
  let k := min s.ocuBuf.length ((cap - x.fed) / 16)
  if s.get .OCU_STREAM_CFG_CHANNEL ≠ c ∨ k = 0 ∨ x.ended then s
  else
    let s1 := ({ s with ocuBuf := s.ocuBuf.drop k }).bufPut c
      { x with fifo := x.fifo ++ (s.ocuBuf.take k).flatMap bytesOf, fed := x.fed + 16 * k }
    if x.fed + 16 * k = cap then s1.chanEnd c 0 else s1

/-- The counters of the next `k` nodes are read, and cleared under CLEAR (R336). -/
def State.sweepNodes (s : State) (c : Nat) (d : List Word) : Nat → State
  | 0 => s
  | k + 1 =>
    let x := s.chan c
    let i := sweepFirst d + x.fed / 32
    if x.ended || sweepCount d * 32 ≤ x.fed then s
    else if s.eccOf 6 i .ok = .uncorr then (s.memFault 6 i).chanEnd c 7
    else
      let b := (List.range 4).flatMap fun j => leBytes 8 (s.nodeCounter i j)
      let s1 := s.bufPut c { x with fifo := x.fifo ++ b, fed := x.fed + 32 }
      let s2 := if wbit (nth d 0 0) 26 then s1.clearNode i else s1
      (if x.fed + 32 = sweepCount d * 32 then s2.chanEnd c 0 else s2).sweepNodes c d k

/-- Bytes of the Keep image in production are taken (R407, R408). -/
def State.takeKeep (s : State) (c : Nat) (d : List Word) : State :=
  let x := s.chan c
  let k := min (s.keep.image.length - s.keep.pos) ((dstSide d).total - x.fed)
  if s.get .KEEP_CFG_OUT_CH ≠ c ∨ s.get .KEEP_STATUS_STATE ≠ 1 ∨ k = 0 ∨ x.ended then s
  else
    let pos := s.keep.pos + k
    let kp := { s.keep with pos := pos, pin := if s.keep.prefixEnd ≤ pos then none else s.keep.pin }
    let s1 := ({ s with keep := kp }).bufPut c { x with fifo := x.fifo ++ slice s.keep.image s.keep.pos k, fed := x.fed + k }
    if pos = s.keep.image.length ∨ x.fed + k = (dstSide d).total then s1.chanEnd c 0 else s1

/-- The writes of a host frame delivered in descriptor `n` of a channel have all been issued and answered. -/
def State.hostWritten (s : State) (c n : Nat) : Bool :=
  let x := s.chan c
  !(s.dma.txns.any fun t => t.c == c && t.kind == 1 && t.serial == n) && (n != x.serial || x.fifo.isEmpty)

/-- A host frame's copy ends when every write of it has been answered (R333). -/
def State.hostDone (s : State) (c : Nat) : State :=
  s.each ((s.chan c).out.filter fun e => s.hostWritten c e.1) fun s e =>
    let x := s.chan c
    ({ s with hostQ := tput [] s.hostQ c ((s.host c).filter fun it => it.head != e.2) }.setChan c { x with out := x.out.erase e }).deref e.2

/-- The status writes follow when the data has been issued, and under BARRIER answered (R321). -/
def State.postStatus (s : State) (c : Nat) (d : List Word) : State :=
  let x := s.chan c
  match x.code with
  | none => s
  | some code =>
    if x.posted || !x.ended || !x.fifo.isEmpty || x.waits != 0 || (wbit (nth d 0 0) 30 && s.writesOpen c) then s
    else
      let a := s.descAddr c (s.get .DMA_CH_IDX_IDX c)
      let ts := match x.ts with
        | some t => [(a + 4, leBytes 8 t)]
        | none => []
      s.setChan c { x with posted := true, post := ts ++ s.statusWrites c code d, bytes := s.bytesDone c }

/-- A descriptor in progress takes what there is for it, and its status follows. -/
def State.gather (s : State) (c : Nat) (d : List Word) : State :=
  let s1 := s.bufRead c
  (match s1.chMode c with
   | 0 => s1.takeSource c d
   | 2 => s1.takeSource c d
   | 3 => s1.takeRecords c d
   | 4 => if (s1.chan c).fifo.length < 512 then s1.sweepNodes c d 16 else s1
   | 5 => s1.takeKeep c d
   | 6 => s1.takeSource c d
   | _ => s1).postStatus c d

/-- A channel takes every step that needs no fabric transaction. A held channel is not ready (R326), and a halted one only follows the
responses (R329). -/
def State.advance (s : State) (c : Nat) : State :=
  let s0 := s.injDone c
  let s1 := match (s0.chan c).desc with
    | none => s0
    | some d =>
      if s0.busErr || !s0.chRuns c || s0.flag .DMA_CH_STATUS_PACED c || (s0.chan c).waits == 1 || (s0.chan c).waits == 2 then s0
      else s0.gather c d
  let s2 := s1.hostDone c
  if (s2.chan c).desc.isSome then s2.put .DMA_CH_POS_BYTES_DONE c (s2.bytesDone c) else s2

/-! Transactions (R46, R325). -/

/-- Request credits of a port. -/
def State.reqCredit (s : State) (m : Nat) : Nat := tget 0 s.dma.req m

/-- The lowest free tag of a port, 0 to 95 (R46). -/
def State.freeTag (s : State) (m : Nat) : Option Nat :=
  (List.range 96).find? fun t => !(s.dma.txns.any fun x => x.m == m && x.tag == t)

/-- A request as a channel would issue it: its transaction, port and tag apart, and the data of a write. -/
structure Request where
  txn : Txn
  data : List Byte := []

/-- A request goes out: one credit, one tag; the beats of a write wait for write-data credits (R46). -/
def State.issue (s : State) (m : Nat) (r : Request) (snoop : Bool) : State :=
  match s.freeTag m with
  | none => s
  | some t =>
    let x := { r.txn with m := m, tag := t }
    let wr := x.kind == 1 || x.kind == 3
    let beats := ceilDiv x.len x.w
    let q := if wr then (List.range beats).map fun i => (m, t, slice r.data (i * x.w) x.w) else []
    let d := s.dma
    ({ s with dma := { d with req := tput 0 d.req m (s.reqCredit m - 1), txns := d.txns ++ [x], wdq := d.wdq ++ q
                              next := tput 0 d.next (2 * m + b2n wr) (x.c + 1) } }).emit (.request m x.addr wr beats t snoop)

/-- A channel's next write, and the channel after it: a status write, of which one is open at a time (R321), or data. -/
def State.nextWrite (s : State) (c : Nat) : Option (Request × Chan) :=
  let x := s.chan c
  if s.flag .DMA_CH_STATUS_PACED c && !x.abort then none
  else match x.post with
  | (a, b) :: rest =>
    if (s.dma.txns.any fun t => t.c == c && t.kind == 3 && !t.lost) || !(s.chRuns c || x.abort) then none
    else some (⟨{ m := 0, tag := 0, kind := 3, c := c, addr := a, pos := 0, len := b.length, serial := x.serial }, b⟩, { x with post := rest })
  | [] =>
    match x.desc with
    | none => none
    | some d =>
      let dst := dstSide d
      let wb := dst.burst x.wrPos
      if s.chRuns c && x.waits != 1 && x.waits != 2 && usesDst (s.chMode c) && !x.fifo.isEmpty && (x.ended || decide (wb.2 ≤ x.fifo.length)) then
        let n := min wb.2 x.fifo.length
        some (⟨{ m := 0, tag := 0, kind := 1, c := c, addr := wb.1, pos := x.wrPos, len := n, w := dst.bytes, serial := x.serial },
          x.fifo.take n⟩, { x with fifo := x.fifo.drop n, wrPos := x.wrPos + n })
      else none

/-- A channel's next read, and the channel after it: the descriptor at IDX, a descriptor ahead of it, or data. -/
def State.nextRead (s : State) (c : Nat) : Option (Request × Chan) :=
  let x := s.chan c
  let i := s.get .DMA_CH_IDX_IDX c
  if !s.chRuns c || s.flag .DMA_CH_STATUS_PACED c then none
  else if x.want then
    some (⟨{ m := 0, tag := 0, kind := 2, c := c, addr := s.descAddr c i, pos := i, len := 32, serial := x.serial }, []⟩, { x with want := false })
  else match x.more with
  | j :: rest =>
    some (⟨{ m := 0, tag := 0, kind := 2, c := c, addr := s.descAddr c j, pos := j, len := 32, serial := x.serial, early := true }, []⟩,
      { x with more := rest })
  | [] =>
    match x.desc with
    | none => none
    | some d =>
      let src := srcSide d
      let mode := s.chMode c
      if x.waits != 1 && x.waits != 2 && usesSrc mode && !x.ended && decide (x.rdPos < src.total)
          && (mode != 6 || (s.get .KEEP_CFG_IN_CH == c && s.get .KEEP_STATUS_STATE == 2)) then
        let rb := src.burst x.rdPos
        some (⟨{ m := 0, tag := 0, kind := 0, c := c, addr := rb.1, pos := x.rdPos, len := rb.2, w := src.bytes, serial := x.serial }, []⟩,
          { x with rdPos := x.rdPos + rb.2 })
      else none

/-- A channel's next transaction in a direction; a halted engine makes only the status writes of aborted descriptors (R329, R330). -/
def State.nextTxn (s : State) (wr : Bool) (c : Nat) : Option (Request × Chan) :=
  if s.busErr && !(s.chan c).abort then none else if wr then s.nextWrite c else s.nextRead c

/-- The channels with something to keep, rising. -/
def State.chans (s : State) : List Nat := s.dma.chans.map (·.1)

/-- The channel that port `m` serves next in a direction: highest PRIO, then round robin (R325). -/
def State.pickChan (s : State) (m : Nat) (wr : Bool) : Option Nat :=
  let l := s.chans.filter fun c => s.get .DMA_CH_CFG_PORT c == m && (s.nextTxn wr c).isSome
  let k := tget 0 s.dma.next (2 * m + b2n wr)
  (l.filter (k ≤ ·) ++ l.filter (· < k)).foldl (fun best c =>
    match best with
    | none => some c
    | some b => if s.get .DMA_CH_CFG_PRIO b < s.get .DMA_CH_CFG_PRIO c then some c else some b) none

/-- One request on port `m` in a direction, where it has credit, a tag and a ready channel. -/
def State.issueOne (s : State) (m : Nat) (wr : Bool) : Option State :=
  if s.reqCredit m = 0 ∨ (s.freeTag m).isNone then none
  else match s.pickChan m wr with
    | none => none
    | some c => match s.nextTxn wr c with
      | none => none
      | some (r, x) =>
        let co := match (s.chan c).desc with
          | some d => wbit (nth d 0 0) 29
          | none => false
        some ((s.setChan c x).issue m r (if 2 ≤ r.txn.kind then s.flag .DMA_CH_CFG_DESC_COHERENT c else co))

/-- Requests on port `m`, `n` at most; the two directions take turns at the request channel. -/
def State.issueAll (s : State) (m : Nat) : Nat → State
  | 0 => s
  | n + 1 => match s.issueOne m (n % 2 == 1) with
    | some s1 => s1.issueAll m n
    | none => match s.issueOne m (n % 2 == 0) with
      | some s1 => s1.issueAll m n
      | none => s

/-- Write beats go out in the order of their requests, each for a credit (R46). -/
def State.sendBeats (s : State) (m : Nat) : Nat → State
  | 0 => s
  | n + 1 =>
    match (if tget 0 s.dma.wd m = 0 then none else s.dma.wdq.find? fun e => e.1 == m) with
    | none => s
    | some e =>
      let d := s.dma
      (({ s with dma := { d with wd := tput 0 d.wd m (tget 0 d.wd m - 1), wdq := d.wdq.erase e } }).emit
        (.writeData e.1 e.2.1 e.2.2)).sendBeats m n

/-- Everything that the engine can do now, `n` rounds. -/
def State.dmaRounds (s : State) : Nat → State
  | 0 => s
  | n + 1 => ((s.each s.chans State.advance).each [0, 1] fun s m => (s.issueAll m 96).sendBeats m 32).dmaRounds n

/-- Everything that the engine can do now; in a cycle that the budget arbiter takes from it, nothing (R325, R390). -/
def State.dmaPump (s : State) : State :=
  if s.chans.isEmpty && s.dma.wdq.isEmpty then s else s.engine 4 fun s => s.dmaRounds 3

/-! Bus errors (R47, R329, R330). -/

/-- A channel is halted: it lets go of what it gathers, the data of its reads is not wanted, and a host frame whose writes have not all
been issued stays in its queue (R329). -/
def State.chHalt (s : State) (c : Nat) : State :=
  if s.chState c = chOff then s
  else
    let s1 := s.ringDrop c
    let x := s1.chan c
    (s1.setChan c { x with rdBuf := [], fifo := [], waits := 0, desc := if x.waits = 1 then none else x.desc, cells := 0, head := none
                           out := if x.fifo.isEmpty then x.out else x.out.filter fun e => e.1 != x.serial }).put .DMA_CH_STATUS_STATE c chHalted

/-- A bus error on a transaction (R329). -/
def State.busError (s : State) (t : Txn) (timeout : Bool) : State :=
  let s1 := s.inc .DMA_BUS_ERRORS_COUNT
  if s1.flag .DMA_GLB_STATUS_BUS_ERR then s1
  else
    let s2 := ((s1.put .DMA_GLB_STATUS_BUS_ERR 0 1).put .DMA_GLB_STATUS_KIND 0 t.kind).put .DMA_GLB_STATUS_PORT 0 t.m
    let s3 := ((s2.putFlag .DMA_GLB_STATUS_TIMEOUT 0 timeout).put .DMA_ERR_ADDR_LO_ADDR 0 t.addr).put .DMA_ERR_ADDR_HI_ADDR 0 (t.addr >>> 32)
    let s4 := s3.each (List.range 64) State.chHalt
    let s5 := { s4 with dma := { s4.dma with txns := s4.dma.txns.map fun (x : Txn) => if x.kind = 0 ∨ x.kind = 2 then { x with dead := true } else x } }
    (s5.raise 10 (word s5.free)).used.pulse 1449

/-- The transactions with one of them replaced, or gone. -/
def State.setTxn (s : State) (t : Txn) (u : Option Txn) : State :=
  let d := s.dma
  { s with dma := { d with txns := match u with
      | some u => d.txns.map fun (x : Txn) => if x.m = t.m ∧ x.tag = t.tag then u else x
      | none => d.txns.filter fun x => !(x.m == t.m && x.tag == t.tag) } }

/-- A read still has beats to come (R46). -/
def Txn.short (t : Txn) : Bool := (t.kind == 0 || t.kind == 2) && decide (t.data.length < t.len)

/-- A channel is told that a transaction of its descriptor has failed: a failed data write ends the prefix, and the host frame that it
wrote stays in its queue (R322, R329). -/
def State.txnFailed (s : State) (t : Txn) : State :=
  let x := s.chan t.c
  let fail := some (match x.failPos with
    | some p => min p t.pos
    | none => t.pos)
  match t.kind with
  | 1 => s.setChan t.c { x with out := x.out.filter fun e => e.1 != t.serial, failPos := if t.serial = x.serial then fail else x.failPos }
  | 3 => s.setChan t.c { x with stFail := x.stFail || t.serial == x.serial }
  | _ => s

/-- A completion beat with ERROR, or the end of a transaction's time: its first makes a bus error (R47). The beats of a read that follow
are awaited, and the tag of a transaction that has run out of time stays in use. -/
def State.failTxn (s : State) (t : Txn) (timeout : Bool) : State :=
  let u := { t with dead := true, err := true, lost := t.lost || timeout, data := if timeout then t.data else t.data ++ List.replicate t.w 0 }
  let s1 := s.setTxn t (if timeout || u.short then some u else none)
  if t.err then s1 else (s1.txnFailed t).busError t timeout

/-- A descriptor has been read (R319, R320): at IDX it begins by its OWN, unless it was read ahead with OWN = 0, when it is read again;
ahead of IDX it is kept if OWN is 1. -/
def State.gotDesc (s : State) (t : Txn) (d : List Word) : State :=
  let x := s.chan t.c
  let own := wbit (nth d 0 0) 31
  if s.get .DMA_CH_IDX_IDX t.c = t.pos ∧ x.desc.isNone ∧ x.arrived.isNone ∧ !x.want then
    s.setChan t.c (if t.early && !own then { x with want := true } else { x with arrived := some d })
  else if own then s.setChan t.c { x with ahead := x.ahead ++ [(t.pos, d)] }
  else s

/-- A completion beat with OK (R46). -/
def State.completeTxn (s : State) (t : Txn) (data : List Byte) : State :=
  let u := { t with data := t.data ++ data }
  if u.short then s.setTxn t (some u)
  else
    let s1 := s.setTxn t none
    if t.dead then s1
    else match t.kind with
      | 0 => let x := s1.chan t.c; s1.bufPut t.c { x with rdBuf := x.rdBuf ++ [(t.pos, u.data.take t.len)] }
      | 2 => s1.gotDesc t (wordsOf (u.data.take 32))
      | _ => s1

/-- FABRIC_COMPLETION: a completion for a tag that is outstanding. While the block waits in reset, the transaction is only
taken off (R371). -/
def State.fabricCompletion (s : State) (m tag : Nat) (data : List Byte) (err : Bool) : State :=
  match s.dma.txns.find? fun t => t.m == m && t.tag == tag with
  | none => s
  | some t =>
    if s.up 13 then (if err then s.failTxn t false else s.completeTxn t data).dmaPump
    else if err then
      let u := { t with dead := true, data := t.data ++ List.replicate t.w 0 }
      s.setTxn t (if u.short then some u else none)
    else s.completeTxn { t with dead := true } data

/-- FABRIC_COMPLETION. -/
def execFabricCompletion (m : Nat) (tag : Nat) (data : List Byte) (err : Bool) (s : State) : Host.Outcome State Fault Refusal :=
  runOn 2 m 20 (fun s => s.fabricCompletion m tag data err) s

/-- FABRIC_TIMEOUT (R47). -/
def execFabricTimeout (m : Nat) (tag : Nat) (s : State) : Host.Outcome State Fault Refusal :=
  runOn 2 m 20 (fun s => match s.dma.txns.find? fun t => t.m == m && t.tag == tag with
    | none => s
    | some t => if s.up 13 then s.failTxn t true else s.setTxn t (some { t with dead := true, lost := true })) s

/-- FABRIC_CREDIT (R46): at most 32 of a kind. -/
def State.fabricCredit (s : State) (m : Nat) (wd : Bool) : State :=
  let d := s.dma
  (if wd then { s with dma := { d with wd := tput 0 d.wd m (min 32 (tget 0 d.wd m + 1)) } }
   else { s with dma := { d with req := tput 0 d.req m (min 32 (tget 0 d.req m + 1)) } }).inBlock 13 State.dmaPump

/-- FABRIC_CREDIT. -/
def execFabricCredit (m : Nat) (wd : Bool) (s : State) : Host.Outcome State Fault Refusal :=
  runOn 2 m 20 (fun s => s.fabricCredit m wd) s

/-- DMA_QUIESCED (R329): nothing is outstanding since the halt. -/
def execDmaQuiesced (s : State) : Host.Outcome State Fault Refusal :=
  run 13 (fun s => if s.busErr && s.dma.quiet then s.put .DMA_GLB_STATUS_QUIESCED 0 1 else s) s

/-- A halted channel within a descriptor completes it with ABORTED (R330), unless its status has been written in full. -/
def State.chAbort (s : State) (c : Nat) : State :=
  let x := s.chan c
  match (if s.chState c = chHalted then x.desc else none) with
  | none => s
  | some d =>
    if x.posted && x.post.isEmpty && !x.stFail then s.retire c d
    else s.setChan c { x with post := s.statusWrites c 10 d, posted := true, abort := true, code := some 10, bytes := s.bytesDone c }

/-- A halted channel leaves the halt (R330); a host frame whose delivery was cut short is delivered again. -/
def State.chLeave (s : State) (c : Nat) : State :=
  if s.chState c ≠ chHalted then s
  else ((s.setChan c { s.chan c with out := [] }).chEnter c chStopped 5).stopStatus c

/-- When no aborted descriptor is left, the halt ends (R330). -/
def State.clearDone (s : State) : State :=
  if !s.dma.clearing || s.dma.chans.any (fun e => e.2.abort) then s
  else
    let s1 := { s with dma := { s.dma with clearing := false } }.each (List.range 64) State.chLeave
    (s1.put .DMA_GLB_STATUS_BUS_ERR 0 0).put .DMA_GLB_STATUS_QUIESCED 0 0

/-- CLEAR (R330): the status writes of the aborted descriptors come first. -/
def State.dmaClear (s : State) : State :=
  if !s.flag .DMA_GLB_STATUS_QUIESCED || s.dma.clearing then s
  else
    let s1 := s.each (List.range 64) State.chAbort
    ({ s1 with dma := { s1.dma with clearing := true } }.clearDone).dmaPump

/-- DMA_CLEAR. -/
def execDmaClear (s : State) : Host.Outcome State Fault Refusal := runSoft 13 State.dmaClear s

/-! The channels' states (R319, R324). -/

/-- EN written 1 (R313, R319, R326): discarded before the first commit; a batch hold begins. -/
def State.chEnable (s : State) (c : Nat) : State :=
  if !s.committed || s.chState c ≠ chOff then s
  else ((s.put .DMA_CH_CFG_EN c 1).put .DMA_CH_STATUS_STATE c chIdle).putFlag .DMA_CH_STATUS_PACED c (s.get .DMA_CH_PACE_PACE_MODE c == 2)

/-- EN written 0 (R319): discarded outside IDLE, STOPPED and OFF. -/
def State.chDisable (s : State) (c : Nat) : State :=
  if s.chState c = chIdle ∨ s.chState c = chStopped then
    (s.put .DMA_CH_CFG_EN c 0).put .DMA_CH_STATUS_STATE c chOff
  else s

/-- DMA_CHANNEL_ENABLE. -/
def execDmaChannelEnable (c : Nat) (s : State) : Host.Outcome State Fault Refusal := runSoftOn 64 c 13 (fun s => s.chEnable c) s
/-- DMA_CHANNEL_DISABLE. -/
def execDmaChannelDisable (c : Nat) (s : State) : Host.Outcome State Fault Refusal := runSoftOn 64 c 13 (fun s => s.chDisable c) s

/-- DMA_CH_CFG written (R313, R319). -/
def State.chCfgWrite (s : State) (c : Nat) (w : Word) : State :=
  let lim := Fld.DMA_CH_CFG_LIMIT.of w
  let s1 := if lim = 0 then s else s.put .DMA_CH_CFG_LIMIT c lim
  let st := s.chState c
  if !(st = chOff ∨ st = chIdle ∨ st = chStopped) then s1
  else
    let m := Fld.DMA_CH_CFG_MODE.of w
    let s2 := if m = 7 then s1 else s1.put .DMA_CH_CFG_MODE c m
    let s3 := ((s2.put .DMA_CH_CFG_PRIO c (Fld.DMA_CH_CFG_PRIO.of w)).put .DMA_CH_CFG_PORT c (Fld.DMA_CH_CFG_PORT.of w)).put
      .DMA_CH_CFG_DESC_COHERENT c (Fld.DMA_CH_CFG_DESC_COHERENT.of w)
    let s4 := (s3.put .DMA_CH_CFG_CHK_ATTACH c (Fld.DMA_CH_CFG_CHK_ATTACH.of w)).put .DMA_CH_CFG_CHK_UNIT c (Fld.DMA_CH_CFG_CHK_UNIT.of w)
    if wbit w 31 then s4.chEnable c else s4.chDisable c

/-- DOORBELL (R319). -/
def State.doorbell (s : State) (c : Nat) : State :=
  let st := s.chState c
  let x := s.chan c
  if st = chIdle ∨ st = chStopped then
    (((s.setChan c { x with count := 0, last := none, want := true }).put .DMA_CH_STATUS_STATE c chRun).put .DMA_CH_STATUS_DB_PEND c 0).dmaPump
  else if st = chRun then (s.setChan c { x with count := 0 }).put .DMA_CH_STATUS_DB_PEND c 1
  else if st = chStopping then s.setChan c { x with count := 0 }
  else s

/-- DMA_DOORBELL. -/
def execDmaDoorbell (c : Nat) (s : State) : Host.Outcome State Fault Refusal := runSoftOn 64 c 13 (fun s => s.doorbell c) s

/-- STOP (R319, R324): a stream descriptor completes at once with what it holds. -/
def State.dmaStop (s : State) (c : Nat) : State :=
  if s.chState c ≠ chRun then s
  else
    let s1 := s.put .DMA_CH_STATUS_STATE c chStopping
    (if s.chMode c = 3 ∧ (s.chan c).desc.isSome then s1.chanEnd c 0 else s1).dmaPump

/-- DMA_STOP. -/
def execDmaStop (c : Nat) (s : State) : Host.Outcome State Fault Refusal := runSoftOn 64 c 13 (fun s => s.dmaStop c) s

/-- A stopping channel is at a boundary (R324). -/
def State.atBoundary (s : State) (c : Nat) : Bool :=
  let x := s.chan c
  x.post.isEmpty && (x.desc.isNone || x.waits == 1 || (s.chMode c == 1 && !x.ended))

/-- DMA_STOPPED (R324): a descriptor read that is under way is let go. -/
def State.dmaStopped (s : State) (c : Nat) : State :=
  if s.chState c = chStopping && s.atBoundary c then s.chStop c 3 else s

/-- DMA_STOPPED. -/
def execDmaStopped (c : Nat) (s : State) : Host.Outcome State Fault Refusal := runOn 64 c 13 (fun s => s.dmaStopped c) s

/-! A descriptor begins (R317, R320, R334, R345). -/

/-- An inject descriptor begins: length rules, then the floor (R334). -/
def State.injBegin (s : State) (c : Nat) (d : List Word) : State :=
  let code := s.injSize c d
  if code ≠ 0 then s.chanEnd c code
  else
    let n := cellsFor (s.injLength c d)
    if s.aboveFloor && !s.domeHeld && decide (n ≤ s.freeCells) then
      (((s.used.headWrite s.pickHead).setChan c { s.chan c with waits := 0, head := some s.pickHead, cells := n })).notePeak
    else s.setChan c { s.chan c with waits := 2 }

/-- A valid descriptor begins, once its unit is its own (R345). -/
def State.descBegin (s : State) (c : Nat) (d : List Word) : State :=
  let go := fun (s : State) =>
    let s1 := s.setChan c { s.chan c with waits := 0 }
    match s.chMode c with
    | 1 => s1.setChan c { s1.chan c with waits := 4 }
    | 2 => s1.injBegin c d
    | _ => s1
  match s.chanUnit c d with
  | none => go s
  | some u =>
    if s.flag .CHK_CFG_BUSY u && (s.chan c).unit != some u then s.setChan c { s.chan c with waits := 1 }
    else go ((s.claim u).setChan c { s.chan c with unit := some u })

/-- The engine reads up to four descriptors ahead of IDX (R320): `n` says how many, which the manual leaves to it. -/
def State.readAhead (s : State) (c n : Nat) : State :=
  let x := s.chan c
  let i := s.get .DMA_CH_IDX_IDX c
  let l := ((List.range (min n 4)).map fun j => (i + 1 + j) % (s.get .DMA_CH_RING_HI_SIZE_M1 c + 1)).eraseDups
  s.setChan c { x with more := x.more ++ l.filter fun j =>
    j != i && !x.more.contains j && !(x.ahead.any fun e => e.1 == j)
      && !(s.dma.txns.any fun t => t.c == c && t.kind == 2 && t.pos == j && !t.dead) }

/-- The channel comes to the descriptor at IDX: it has read it ahead, is reading it, or reads it now (R320). -/
def State.reach (s : State) (c : Nat) : State :=
  let x := s.chan c
  let i := s.get .DMA_CH_IDX_IDX c
  match x.ahead.find? fun e => e.1 == i with
  | some e => s.setChan c { x with arrived := some e.2, ahead := x.ahead.filter fun y => y.1 != i }
  | none =>
    if s.dma.txns.any fun t => t.c == c && t.kind == 2 && t.pos == i && !t.dead then s
    else s.setChan c { x with want := true, more := x.more.filter (· != i) }

/-- DMA_DESCRIPTOR_FETCH (R319, R320): the descriptor at IDX has arrived; a stopping channel begins none (R324). -/
def State.descFetch (s : State) (c n : Nat) : State :=
  let x := s.chan c
  match x.arrived with
  | none => s
  | some d =>
    if s.chState c = chStopping then s.setChan c { x with arrived := none }
    else if s.chState c ≠ chRun then s
    else if !wbit (nth d 0 0) 31 then
      if s.flag .DMA_CH_STATUS_DB_PEND c then
        ((s.setChan c { x with arrived := none, want := true }).put .DMA_CH_STATUS_DB_PEND c 0).dmaPump
      else (s.ringDrop c).chEnter c chIdle 1
    else
      let s1 := s.setChan c { x with arrived := none, desc := some d }
      ((if descBad (s.chMode c) d then s1.chanEnd c 1 else s1.descBegin c d).readAhead c n).dmaPump

/-- DMA_DESCRIPTOR_FETCH. -/
def execDmaDescriptorFetch (c n : Nat) (s : State) : Host.Outcome State Fault Refusal := runOn 64 c 13 (fun s => s.descFetch c n) s

/-- DMA_DESCRIPTOR_COMPLETE (R319, R321, R330): the status writes have been made. -/
def State.descComplete (s : State) (c : Nat) : State :=
  let x := s.chan c
  match x.desc with
  | none => s
  | some d =>
    if !x.posted || !x.post.isEmpty then s
    else if x.abort then (s.retire c d).clearDone
    else if !s.chRuns c then s
    else
      let code := x.code.getD 0
      let s1 := s.retire c d
      if code = 1 then s1.chStop c 4
      else if s1.chState c = chStopping then s1
      else if s1.get .DMA_CH_CFG_LIMIT c ≤ (s1.chan c).count then
        (((s1.ringDrop c).chEnter c chIdle 2).inc .DMA_CH_LIMITS_COUNT c).chanSource c
      else (s1.reach c).dmaPump

/-- DMA_DESCRIPTOR_COMPLETE. -/
def execDmaDescriptorComplete (c : Nat) (s : State) : Host.Outcome State Fault Refusal :=
  runOn 64 c 13 (fun s => s.descComplete c) s

/-- CHK_UNIT_CLAIM (R345): a waiting descriptor begins once its unit is free. -/
def State.unitClaim (s : State) (c : Nat) : State :=
  match (s.chan c).desc with
  | some d => if (s.chan c).waits = 1 && s.chRuns c then (s.descBegin c d).dmaPump else s
  | none => s

/-- CHK_UNIT_CLAIM. -/
def execChkUnitClaim (c : Nat) (s : State) : Host.Outcome State Fault Refusal := runOn 64 c 14 (fun s => s.unitClaim c) s

/-- INJECT_FLOOR_CLEAR (R243, R334): a waiting inject descriptor gathers its data once the free count is above the floor. -/
def State.floorClear (s : State) (c : Nat) : State :=
  match (s.chan c).desc with
  | some d => if (s.chan c).waits = 2 && s.chRuns c then (s.injBegin c d).dmaPump else s
  | none => s

/-- INJECT_FLOOR_CLEAR. -/
def execInjectFloorClear (c : Nat) (s : State) : Host.Outcome State Fault Refusal := runOn 64 c 13 (fun s => s.floorClear c) s

/-! Pacing, stream flush (R326, R335). -/

/-- Fill of the paced queue. -/
def State.paceFill (s : State) (c : Nat) : Nat :=
  if s.flag .DMA_CH_PACE_QKIND c then s.hostCells (s.get .DMA_CH_PACE_QUEUE c) else s.queueCells (s.get .DMA_CH_PACE_QUEUE c)

/-- DMA_PACE_HOLD. -/
def State.paceHold (s : State) (c : Nat) : State :=
  let m := s.get .DMA_CH_PACE_PACE_MODE c
  if s.chState c ≠ chOff && ((m == 1 && decide (s.get .DMA_CH_PACE_WM_HIGH c ≤ s.paceFill c))
      || (m == 2 && decide (s.paceFill c ≤ s.get .DMA_CH_PACE_WM_LOW c))) then s.put .DMA_CH_STATUS_PACED c 1 else s

/-- DMA_PACE_RELEASE. -/
def State.paceRelease (s : State) (c : Nat) : State :=
  let m := s.get .DMA_CH_PACE_PACE_MODE c
  if (m == 1 && decide (s.paceFill c ≤ s.get .DMA_CH_PACE_WM_LOW c)) || (m == 2 && decide (s.get .DMA_CH_PACE_WM_HIGH c ≤ s.paceFill c))
      || m == 0 || m == 3 then (s.put .DMA_CH_STATUS_PACED c 0).dmaPump else s

/-- DMA_PACE_TIMEOUT. -/
def State.paceTimeout (s : State) (c : Nat) : State :=
  if s.get .DMA_CH_PACE_PACE_MODE c = 2 ∧ s.get .DMA_CH_TIMERS_PACE_TIMEOUT c ≠ 0 then (s.put .DMA_CH_STATUS_PACED c 0).dmaPump else s

/-- DMA_PACE_HOLD. -/
def execDmaPaceHold (c : Nat) (s : State) : Host.Outcome State Fault Refusal := runOn 64 c 13 (fun s => s.paceHold c) s
/-- DMA_PACE_RELEASE. -/
def execDmaPaceRelease (c : Nat) (s : State) : Host.Outcome State Fault Refusal := runOn 64 c 13 (fun s => s.paceRelease c) s
/-- DMA_PACE_TIMEOUT. -/
def execDmaPaceTimeout (c : Nat) (s : State) : Host.Outcome State Fault Refusal := runOn 64 c 13 (fun s => s.paceTimeout c) s

/-- DMA_STREAM_FLUSH (R335). -/
def State.streamFlush (s : State) (c : Nat) : State :=
  let x := s.chan c
  if s.chMode c = 3 ∧ s.chRuns c ∧ x.desc.isSome ∧ !x.ended ∧ 0 < x.fed ∧ s.get .DMA_CH_TIMERS_STREAM_FLUSH c ≠ 0 then
    (s.chanEnd c 0).dmaPump
  else s

/-- DMA_STREAM_FLUSH. -/
def execDmaStreamFlush (c : Nat) (s : State) : Host.Outcome State Fault Refusal := runOn 64 c 13 (fun s => s.streamFlush c) s

/-! Host frames (R333, R344). -/

/-- The check of a host frame: its data as it is written, and CODE (R344). -/
def State.hostCheck (s : State) (c : Nat) (d : List Byte) : List Byte × Nat × State :=
  match (s.chan c).unit with
  | none => (d, 0, s)
  | some u =>
    match s.chkRegion u d.length 0 0 with
    | none => (d, 9, s.chkMiss u)
    | some (ofs, len, field) =>
      let s1 := s.chkFeed u (slice d ofs len)
      if s.get .CHK_CFG_DMA_DIR u ≠ 1 then (d, 0, s1)
      else if s1.chkField u (slice d field (s.chkLen u)) = s1.chkOut u (s1.chkReg u) then
        (d.take field ++ d.drop (field + s.chkLen u), 0, s1.chkDone u)
      else (d, 9, (s1.chkDone u).chkMiss u)

/-- The oldest frame of a host queue that is not in delivery. -/
def State.hostNext (s : State) (c : Nat) : Option HostItem :=
  (s.host c).find? fun it => !((s.chan c).out.any fun e => e.2 == it.head)

/-- A host frame's data as the Dome gives it, and whether it could be read: data that reads with an uncorrectable error is free (R247;
log 1). -/
def State.hostData (s : State) (h : Nat) (f : DFrame) (e : Ecc) : List Byte × Bool × State :=
  match s.eccOf 1 h e with
  | .uncorr => (s.freeBytes f.data.length, true, s.used.memFault 1 h)
  | .corr => (f.data, false, s.inc .DOME_ECC_CORR_COUNT)
  | .ok => (f.data, false, s)

/-- HOST_RX_DELIVER (R333): the oldest frame of the host queue is delivered into the owned descriptor; CODE is ECC where it could not
be read (R323). -/
def State.hostDeliver (s : State) (c : Nat) (e : Ecc) : State :=
  let x := s.chan c
  match x.desc, s.hostNext c with
  | some d, some it =>
    if s.chMode c ≠ 1 || !s.chRuns c || x.waits ≠ 4 || s.flag .DMA_CH_STATUS_PACED c || !s.mayRun 4 then s
    else
      let s0 := s.descRead it.head
      match s0.frame it.head with
      | none => s0
      | some f =>
        let y := s0.hostData it.head f e
        let r := y.2.2.hostCheck c y.1
        let all := bytesOf it.image ++ r.1
        let cap := (dstSide d).total
        let code := if y.2.1 then 7 else if r.2.1 ≠ 0 then r.2.1 else if cap < all.length then 6 else 0
        let z := r.2.2.chan c
        ((r.2.2.bufPut c { z with waits := 0, fifo := all.take cap, out := z.out ++ [(z.serial, it.head)] }).chanEnd c code).dmaPump
  | _, _ => s

/-- HOST_RX_DELIVER. -/
def execHostRxDeliver (c : Nat) (e : Ecc) (s : State) : Host.Outcome State Fault Refusal :=
  runOn 64 c 13 (fun s => s.hostDeliver c e) s

end Sys2Proof.Machine
end

