-- ==== Sys2Proof/Machine/Clock.lean ====
section
/-! DEFINITION. What one cycle of the clocks does when no command waits: time passes, shapers gain credit, and the DMA engine goes
on (log 3). -/
namespace Sys2Proof.Machine

/-- One cycle: of CORE_CLK while the core domain runs, else of PTP_REFCLK for the always-on copy of the time (R272, R379). -/
def State.tick (s : State) : State :=
  if s.coreUp then
    (((({ s with now := s.now + 1, time := (s.time + s.timeIncr) % timeModulus }).inBlock 8 State.cycleEnd).inBlock 15 State.spurCount).inBlock 9
      State.creditsTick).inBlock 13 State.dmaPump
  else if s.aonUp then { s with logCopy := s.logCopy + 8 }
  else s

end Sys2Proof.Machine
end

