-- ==== Sys2Proof/Machine/Budget.lean ====
section
/-! DEFINITION. The budget arbiter: activity credits, the voltage loop and the PoDL budget (R388 to R399). -/
namespace Sys2Proof.Machine

/-- A bit of PWR_STATUS is set, which raises the budget arbiter source (R399). -/
def State.pwrEvent (s : State) (f : Fld) : State := (s.put f 0 1).pulse 1466

/-! Activity credits (R388 to R391). -/

/-- What an engine is granted in stage 1 (R389). -/
def State.floorGrant (s : State) (e : Nat) : Nat := min (s.get .PWR_ENG_CFG_FLOOR e) (s.get .PWR_ENG_CFG_MAX e)

/-- One pass of stage 2 over the engines of one priority: the credits left, and the grants (R389). -/
def creditPass (maxOf : Nat → Nat) (share : Nat) (l : List Nat) (x : Nat × List (Nat × Nat)) : Nat × List (Nat × Nat) :=
  l.foldl (fun (x : Nat × List (Nat × Nat)) e =>
    let g := tget 0 x.2 e
    let n := min (min share (maxOf e - g)) x.1
    (x.1 - n, tput 0 x.2 e (g + n))) x

/-- Stage 2 for one priority (R389); seven passes are enough, since each pass but the last two fills an engine. -/
def creditPrio (maxOf : Nat → Nat) : Nat → List Nat → Nat × List (Nat × Nat) → Nat × List (Nat × Nat)
  | 0, _, x => x
  | k + 1, l, x =>
    let l1 := l.filter fun e => decide (tget 0 x.2 e < maxOf e)
    if x.1 = 0 ∨ l1 = [] then x
    else creditPrio maxOf k l1 (creditPass maxOf (max 1 (x.1 / l1.length)) l1 x)

/-- A background engine has work pending (R388, R389): a staged command, cleanup or discard; the sweeper, a sweep or a watch that is on;
an image in production; a channel or a transaction of the DMA engine. -/
def State.hasWork (s : State) (e : Nat) : Bool :=
  match e with
  | 0 => ((tget none s.tae 0).any fun t => t.done.isNone && decide (t.op ≤ 3)) || s.get .CLS_COMMIT_STATUS_STATE == 3
          || s.get .CLS_COMMIT_STATUS_STATE == 4
  | 1 => s.committed && s.get .NREG_AGE_PERIOD != 0
  | 2 => s.flag .OCU_CTRL_SWEEP_EN || s.flag .OCU_CTRL_WATCH_EN
  | 3 => s.get .KEEP_STATUS_STATE == 1 || s.get .KEEP_STATUS_STATE == 3
  | _ => !s.dma.txns.isEmpty || (List.range 64).any fun c => s.get .DMA_CH_STATUS_STATE c == 2 || s.get .DMA_CH_STATUS_STATE c == 3

/-- The grants at an epoch boundary, by engine (R389); in an emergency every engine has its floor and no more (R393). -/
def State.epochGrants (s : State) : List Nat :=
  if s.flag .PWR_STATUS_EMERG then (List.range 5).map s.floorGrant
  else
    let req := (List.range 5).filter s.hasWork
    let maxOf := fun e => s.get .PWR_ENG_CFG_MAX e
    let floors := req.foldl (fun (m : List (Nat × Nat)) e => tput 0 m e (s.floorGrant e)) []
    let left := s.get .PWR_POOL_POOL - (req.map s.floorGrant).sum
    let all := ([3, 2, 1, 0].foldl (fun x p => creditPrio maxOf 7 (req.filter fun e => s.get .PWR_ENG_CFG_PRIO e == p) x) (left, floors)).2
    (List.range 5).map fun e => tget 0 all e

/-- An epoch boundary: the credits granted and used in the epoch that ends are shown, and the next is granted (R388, R389, R399). -/
def State.epochGrant (s : State) : State :=
  let s1 := s.each (List.range 5) fun s e =>
    (s.put .PWR_ENG_STATUS_GRANT e (s.grantOf e)).put .PWR_ENG_STATUS_USED e (min (tget 0 s.spent e) (s.grantOf e))
  { s1 with grants := s.epochGrants, epochAt := s.now, spent := [] }

/-- EPOCH_GRANT (R389). -/
def execEpochGrant (s : State) : Host.Outcome State Fault Refusal := run 16 State.epochGrant s

/-! The voltage loop (R392, R393). -/

/-- A byte read as a signed number. -/
def signed8 (n : Nat) : Int := if n < 128 then n else (n : Int) - 256

/-- REQ as a signed number of steps. -/
def State.trim (s : State) : Int := signed8 (s.get .PWR_AVS_STATUS_REQ)

/-- REQ takes a value; a change raises the source (R392). -/
def State.setTrim (s : State) (v : Int) : State :=
  if v = s.trim then s else (s.put .PWR_AVS_STATUS_REQ 0 (v % 256).toNat).pwrEvent .PWR_STATUS_REQ_CHG

/-- REQ rises by one, to at most TRIM_MAX. -/
def State.trimUp (s : State) : State :=
  if s.trim < signed8 (s.get .PWR_AVS_CFG_TRIM_MAX) then s.setTrim (s.trim + 1) else s

/-- REQ falls by one, to at least TRIM_MIN. -/
def State.trimDown (s : State) : State :=
  if signed8 (s.get .PWR_AVS_CFG_TRIM_MIN) < s.trim then s.setTrim (s.trim - 1) else s

/-- The end of a voltage period with least margin `m` (R392, R393). -/
def State.avsPeriod (s : State) (m : Nat) : State :=
  let least := min (m % 256) s.avsMin
  let s1 := s.put .PWR_AVS_STATUS_MARGIN 0 least
  let s2 := if !s.flag .PWR_AVS_CFG_EN then s1
    else if least < s.get .PWR_AVS_THR_LOW then s1.trimUp
    else if s.get .PWR_AVS_THR_HIGH < least then s1.trimDown
    else s1
  let s3 := s2.when (s.flag .PWR_STATUS_EMERG && !s.avsNew && decide (s.get .PWR_AVS_THR_LOW ≤ least)) fun s =>
    s.put .PWR_STATUS_EMERG 0 0
  { s3 with avsHit := false, avsNew := false, avsMin := 255 }

/-- AVS_PERIOD. -/
def execAvsPeriod (m : Nat) (s : State) : Host.Outcome State Fault Refusal := run 16 (fun s => s.avsPeriod m) s

/-- A margin sample below CRIT (R393). -/
def State.avsSample (s : State) (m : Nat) : State :=
  if s.get .PWR_AVS_THR_CRIT ≤ m then s
  else
    let s0 := { s with avsMin := min s.avsMin m, avsHit := true }
    if s.flag .PWR_STATUS_EMERG then (if s.avsHit then s0 else s0.trimUp)
    else
      let s1 := (((s0.trimUp).put .PWR_STATUS_EMERG 0 1).inc .PWR_AVS_EMERGS_COUNT).pwrEvent .PWR_STATUS_EMERG_HIT
      { s1.record 0x1D 0 [word ((m % 256) <<< 8 ||| s1.get .PWR_AVS_STATUS_REQ)] with avsNew := true }

/-- AVS_EMERGENCY. -/
def execAvsEmergency (m : Nat) (s : State) : Host.Outcome State Fault Refusal := run 16 (fun s => s.avsSample m) s

/-! The PoDL budget (R394 to R398). -/

/-- PODL_REQ_STABLE (R56, R394). -/
def State.podlStable (s : State) (lane : Nat) (valid : Bool) (cls : Nat) : State :=
  match s.portOfLane lane with
  | none => s
  | some n => s.podlRequest n (if valid && decide (cls < 10) then some cls else none)

/-- PODL_REQ_STABLE. -/
def execPodlReqStable (lane : Nat) (valid : Bool) (cls : Nat) (s : State) : Host.Outcome State Fault Refusal :=
  runOn 256 lane 16 (fun s => s.podlStable lane valid cls) s

/-- A segment's request and grant. -/
def State.podlOf (s : State) (n : Nat) : Podl := tget {} s.podl n

/-- A segment's request and grant set, and its register with them. -/
def State.setPodl (s : State) (n : Nat) (x : Podl) : State :=
  (((({ s with podl := tput {} s.podl n x, podlSeq := s.podlSeq + 1 }).putFlag .PWR_PODL_SEG_GRANTED n x.grant.isSome).putFlag
    .PWR_PODL_SEG_WAIT n (x.req.isSome && x.grant.isNone)).put .PWR_PODL_SEG_CLASS n ((x.grant.or x.req).getD 0))

/-- The charge of a class (R395). -/
def State.podlCharge (s : State) (c : Nat) : Nat := s.get .PWR_PODL_CLASS_MW c

/-- The charges of the grants held. -/
def State.podlGranted (s : State) : Nat := (s.podl.map fun e => (e.2.grant.map s.podlCharge).getD 0).sum

/-- USED (R395): the grants' charges and the charges still settling. -/
def State.podlUsed (s : State) : Nat := s.podlGranted + (s.settling.map (·.mw)).sum

/-- PRIO of a segment. -/
def State.podlPrio (s : State) (n : Nat) : Nat := s.get .PWR_PODL_SEG_PRIO n

/-- A grant ends: the lane's line falls, or the extender is told (R395, R397). -/
def State.podlDrop (s : State) (n : Nat) (x : Podl) : State := (s.setPodl n { x with grant := none }).sendGrant n false

/-- A revocation with its cause (R397), for the request of segment `dest`; the segment's request is aged from now. -/
def State.podlRevoke (s : State) (n cause : Nat) (dest : Option Nat) : State :=
  let x := s.podlOf n
  match x.grant with
  | none => s
  | some c =>
    let mw := s.podlCharge c
    let hold := s.get .PWR_PODL_CFG_SETTLE
    let s1 := s.podlDrop n { x with age := s.podlSeq }
    let s2 := if hold = 0 then s1 else { s1 with settling := s1.settling ++ [⟨mw, hold, dest⟩] }
    ((s2.inc .PWR_PODL_REVOKES_COUNT).record 0x1C 0 [word (cause <<< 28 ||| n), word mw]).pwrEvent .PWR_STATUS_PODL_EVT

/-- The grants that may be revoked, lowest PRIO first and youngest first within one (R396). -/
def State.podlVictims (s : State) : List Nat :=
  sortBy (fun a b => decide (s.podlPrio a < s.podlPrio b) ||
      (s.podlPrio a == s.podlPrio b && decide ((s.podlOf b).since < (s.podlOf a).since)))
    ((s.podl.filter fun e => e.2.grant.isSome && !s.flag .PWR_PODL_SEG_NOREVOKE e.1).map (·.1))

/-- The waiting requests, highest PRIO first and oldest first within one (R395). -/
def State.podlWaiting (s : State) : List Nat :=
  sortBy (fun a b => decide (s.podlPrio b < s.podlPrio a) ||
      (s.podlPrio a == s.podlPrio b && decide ((s.podlOf a).age < (s.podlOf b).age)))
    ((s.podl.filter fun e => e.2.req.isSome && e.2.grant.isNone && !s.flag .PWR_PODL_SEG_FORCE_OFF e.1).map (·.1))

/-- Budget revocations, while USED exceeds BUDGET (R396). -/
def State.podlBudget (s : State) : List Nat → State
  | [] => s
  | n :: t =>
    if s.podlUsed ≤ s.get .PWR_PODL_BUDGET_BUDGET then s else (s.podlRevoke n 1 none).podlBudget t

/-- The shortest run of victims whose charges make `need` fit; none if even all of them do not (R396). -/
def State.podlEnough (s : State) (need : Nat) : List Nat → Option (List Nat)
  | [] => if need = 0 then some [] else none
  | n :: t =>
    if need = 0 then some []
    else (s.podlEnough (need - ((s.podlOf n).grant.map s.podlCharge).getD 0) t).map (n :: ·)

/-- Pre-emption for the first waiting request (R396). -/
def State.podlPreempt (s : State) : State :=
  match s.podlWaiting with
  | [] => s
  | n :: _ =>
    let total := s.podlUsed + s.podlCharge ((s.podlOf n).req.getD 0)
    let budget := s.get .PWR_PODL_BUDGET_BUDGET
    if total ≤ budget ∨ s.settling.any (·.dest == some n) then s
    else
      match s.podlEnough (total - budget) (s.podlVictims.filter fun m => decide (s.podlPrio m < s.podlPrio n)) with
      | none => s
      | some l => s.each l fun s m => s.podlRevoke m 2 (some n)

/-- Grants in order, up to the first request that does not fit (R395). -/
def State.podlGrant (s : State) : List Nat → State
  | [] => s
  | n :: t =>
    let x := s.podlOf n
    if s.podlUsed + s.podlCharge (x.req.getD 0) ≤ s.get .PWR_PODL_BUDGET_BUDGET then
      ((((s.setPodl n { x with grant := x.req, since := s.podlSeq }).sendGrant n true).pwrEvent .PWR_STATUS_PODL_EVT)).podlGrant t
    else s

/-- A change of class revokes the grant, and the new request keeps its age (R395, R397). The manual names no cause for it: a free value
(log 34). -/
def State.podlChanged (s : State) (n : Nat) : State :=
  let s1 := s.used.podlRevoke n (s.free % 16) none
  s1.setPodl n { s1.podlOf n with age := (s.podlOf n).age }

/-- Grants released at a tick: all of them while EN is 0, else those whose request has gone or has another class (R395). -/
def State.podlRelease (s : State) : State :=
  s.each (s.podl.map (·.1)) fun s n =>
    let x := s.podlOf n
    if x.grant.isNone then s
    else if !s.flag .PWR_PODL_CFG_EN ∨ x.req.isNone then s.podlDrop n x
    else if x.req ≠ x.grant then s.podlChanged n
    else s

/-- Charges that have settled leave USED (R397). -/
def State.podlSettle (s : State) : State :=
  { s with settling := (s.settling.map fun (x : Settling) => { x with left := x.left - 1 }).filter fun (x : Settling) => x.left != 0 }

/-- Revocations at a tick: FORCE_OFF, then the policy (R395, R396). -/
def State.podlRevocations (s : State) : State :=
  let s1 := s.each (s.podl.map (·.1)) fun s n => if s.flag .PWR_PODL_SEG_FORCE_OFF n then s.podlRevoke n 3 none else s
  let policy := s.get .PWR_PODL_CFG_REVOKE
  let s2 := if policy = 0 then s1 else s1.podlBudget s1.podlVictims
  if policy = 2 then s2.podlPreempt else s2

/-- A tick of the PoDL arbiter (R395). -/
def State.podlTick (s : State) : State :=
  let s1 := s.podlSettle.podlRelease.podlRevocations
  let s2 := if s1.flag .PWR_PODL_CFG_EN then s1.podlGrant s1.podlWaiting else s1
  let s3 := s2.put .PWR_PODL_USED_USED 0 s2.podlUsed
  let isOver := decide (s3.get .PWR_PODL_BUDGET_BUDGET < s3.podlUsed)
  let s4 := s3.putFlag .PWR_STATUS_OVER 0 isOver
  s4.when (isOver && !s.flag .PWR_STATUS_OVER) fun s => s.pulse 1466

/-- PODL_TICK. -/
def execPodlTick (s : State) : Host.Outcome State Fault Refusal := run 16 State.podlTick s

/-! Register writes (R391, R392, R399). -/

/-- The sum of FLOOR over the engines. -/
def State.floorSum (s : State) : Nat := ((List.range 5).map fun e => s.get .PWR_ENG_CFG_FLOOR e).sum

/-- PWR_POOL written. -/
def State.poolWrite (s : State) (w : Word) : State :=
  let p := Fld.PWR_POOL_POOL.of w
  if p ≤ 7500 ∧ s.floorSum ≤ p then s.put .PWR_POOL_POOL 0 p else s

/-- PWR_ENG_CFG written: FLOOR and MAX each within 1,500, and the whole of it only as R391 allows. -/
def State.engWrite (s : State) (e : Nat) (w : Word) : State :=
  let f := Fld.PWR_ENG_CFG_FLOOR.of w
  let m := Fld.PWR_ENG_CFG_MAX.of w
  let f1 := if f ≤ 1500 then f else s.get .PWR_ENG_CFG_FLOOR e
  let m1 := if m ≤ 1500 then m else s.get .PWR_ENG_CFG_MAX e
  let s1 := ((s.put .PWR_ENG_CFG_PRIO e (Fld.PWR_ENG_CFG_PRIO.of w)).put .PWR_ENG_CFG_FLOOR e f1).put .PWR_ENG_CFG_MAX e m1
  if f1 ≤ m1 ∧ s1.floorSum ≤ s.get .PWR_POOL_POOL then s1 else s

/-- PWR_AVS_CFG written: TRIM_MIN above TRIM_MAX discards both. -/
def State.avsCfgWrite (s : State) (w : Word) : State :=
  let p := Fld.PWR_AVS_CFG_PERIOD.of w
  let s1 := (s.putFlag .PWR_AVS_CFG_EN 0 (wbit w 31)).when (p != 0) fun s => s.put .PWR_AVS_CFG_PERIOD 0 p
  let lo := Fld.PWR_AVS_CFG_TRIM_MIN.of w
  let hi := Fld.PWR_AVS_CFG_TRIM_MAX.of w
  if signed8 hi < signed8 lo then s1 else (s1.put .PWR_AVS_CFG_TRIM_MIN 0 lo).put .PWR_AVS_CFG_TRIM_MAX 0 hi

/-- PWR_AVS_THR written: LOW above HIGH discards both. -/
def State.avsThrWrite (s : State) (w : Word) : State :=
  let s1 := s.put .PWR_AVS_THR_CRIT 0 (Fld.PWR_AVS_THR_CRIT.of w)
  let lo := Fld.PWR_AVS_THR_LOW.of w
  let hi := Fld.PWR_AVS_THR_HIGH.of w
  if hi < lo then s1 else (s1.put .PWR_AVS_THR_LOW 0 lo).put .PWR_AVS_THR_HIGH 0 hi

end Sys2Proof.Machine
end

