-- ==== Sys2Proof/Machine/Fault.lean ====
section
/-! DEFINITION. The fault collector, the Lantern, fault injection and the event log (R360 to R383). All of it lies in the
always-on domain. -/
namespace Sys2Proof.Machine

/-- Fault sources (R360). -/
def faultSources : Nat := 512

/-- The reserved sources, which never fire (R361, R384). -/
def faultReserved (i : Nat) : Bool := (decide (5 ≤ i) && decide (i ≤ 7)) || (decide (12 ≤ i) && decide (i ≤ 47)) || decide (352 ≤ i)

/-- The block that owns a memory (R380); a code that names none gives block 0. -/
def memOwner (m : Nat) : Nat :=
  match m with
  | 1 | 2 => 8
  | 3 | 4 => 5
  | 5 | 6 => 6
  | 7 => 7
  | 8 => 13
  | 9 => 17
  | 10 => 11
  | 11 => 19
  | 12 => 12
  | _ => 0

/-- The block that owns a fault source (R384). -/
def faultOwner (i : Nat) (syn : Word) : Nat :=
  if i = 8 ∨ i = 9 then memOwner (wbits syn 31 28)
  else if i = 1 then 20
  else if i = 10 then 13
  else if i = 11 then 15
  else if 48 ≤ i then (i - 32) / 16
  else 0

/-- The blocks that can be reset (R371). -/
def resettable (b : Nat) : Bool := decide (1 ≤ b) && decide (b ≤ 18)

/-- The reactions of a severity, bit 0 IRQ to bit 4 PIN (R362). -/
def severityReact (v : Nat) : Nat := if v = 1 then 1 else if v = 2 then 7 else if v = 3 then 27 else 0

/-- The reactions of a source (R362, R363). -/
def State.faultReact (s : State) (i : Nat) : Nat :=
  if s.flag .FLT_SRC_CFG_MASK_EN i then s.get .FLT_SRC_CFG_REACT i else severityReact (s.get .FLT_SRC_CFG_SEVERITY i)

/-- The syndrome that a source gave last. -/
def State.synOf (s : State) (i : Nat) : Word := tget 0 s.faultSyn i

/-- The syndrome of a source as it stands: a wire fault has none (R379, R380). -/
def State.synNow (s : State) (i : Nat) : Word := if s.get .FLT_SRC_STATUS_RAIL i = 2 then 0 else s.synOf i

/-- The block that owns a source as it stands (R370, R384). -/
def State.ownerOf (s : State) (i : Nat) : Nat := faultOwner i (s.synNow i)

/-- A source is in the reset shadow of its block (R372). -/
def State.inShadow (s : State) (i : Nat) : Bool := s.shadowed.contains (s.ownerOf i)

/-- The body of a FAULT record (R380). -/
def State.faultBody (s : State) (i leader react : Nat) : List Word :=
  [word (leader <<< 23 ||| s.get .FLT_SRC_STATUS_RAIL i <<< 21 ||| react <<< 16 ||| s.get .FLT_SRC_CFG_SEVERITY i <<< 12 ||| i),
   s.synNow i]

/-- A chip reset request (R59, R373). -/
def State.chipRequest (s : State) (maint : Bool) (src : Nat) : State :=
  ((s.put .MNT_RST_STATUS_CHIP_REQ 0 1).inc .FLT_CHIP_REQ_CNT_COUNT).record 5 0 [word (b2n maint <<< 31 ||| src)]

/-- The Lantern stops; the record says why (R374). -/
def State.lanternHold (s : State) (why : Nat) : State := (s.put .FLT_LANTERN_STATE 0 2).record 6 0 [word why]

/-- The PIN reaction (R374, R375). -/
def State.pinReaction (s : State) : State :=
  (s.put .FLT_STATUS_PIN_HOLD 0 1).when (s.get .FLT_LANTERN_STATE == 1) fun s => s.lanternHold 2

/-- The IRQ reaction (R368). -/
def State.irqReaction (s : State) (i : Nat) : State := (s.put .FLT_SRC_STATUS_IRQ i 1).levelChange (1536 + i) true

/-- The NMT reaction (R369). -/
def State.nmtReaction (s : State) : State := s.put .FLT_NMT_PEND 0 (s.get .FLT_NMT_PEND ||| s.get .FLT_CFG_NMT_TARGETS)

/-- A block's reset is asserted, unless one is in progress (R370, R371, R372). -/
def State.blockReset (s : State) (b : Nat) (maint : Bool) (src : Nat) : State :=
  if s.blkReset.contains b then s
  else
    ({ s with blkReset := insertRising b s.blkReset, shadowed := insertRising b (s.shadowed.erase b) }.inc .FLT_BLK_RESETS_COUNT).record
      4 0 [word (b2n maint <<< 31 ||| b <<< 16 ||| src)]

/-- The first-error record takes a leading fault, or its overflow bit is set (R365). -/
def State.firstError (s : State) (i : Nat) : State :=
  if s.flag .FLT_FIRST_SRC_VALID then { s.put .FLT_FIRST_SRC_OVERFLOW 0 1 with episodeFirst := false }
  else
    let wire := s.get .FLT_SRC_STATUS_RAIL i = 2
    let s1 := s.wr .FLT_FIRST_SRC 0 (word (2 ^ 31 ||| b2n wire <<< 29 ||| s.get .FLT_SRC_CFG_SEVERITY i <<< 27 ||| i))
    let s2 := s1.wr .FLT_FIRST_SYN 0 (s.synNow i)
    { (s2.wr .FLT_FIRST_TS_LO 0 (word s.logTime)).wr .FLT_FIRST_TS_HI 0 (word (s.logTime >>> 32)) with episodeFirst := true }

/-- FIRED and FIRE_CNT of a source (R364, R366). -/
def State.fireCount (s : State) (i : Nat) : State :=
  (s.put .FLT_SRC_STATUS_FIRED i 1).put .FLT_SRC_STATUS_FIRE_CNT i (min 15 (s.get .FLT_SRC_STATUS_FIRE_CNT i + 1))

/-- A leading fault (R364 to R373). -/
def State.leadingFault (s : State) (i : Nat) : State :=
  let s1 := s.fireCount i
  let react := s1.faultReact i
  let b := s1.ownerOf i
  let limit := s1.get .FLT_CFG_REPEAT_LIMIT
  let more := react.testBit 2 && limit != 0 && decide (limit < s1.get .FLT_SRC_STATUS_FIRE_CNT i)
  let taken := if more then orBit (clrBit react 2) 3 else react
  let frozen := s1.get .FLT_SRC_CFG_SEVERITY i == 3
  let flags := (if frozen then 4 else 0) ||| (if react.testBit 2 && !resettable b then 8 else 0)
  let resets := taken.testBit 2 && resettable b
  let s2 := (s1.record 1 flags (s1.faultBody i 0 taken) frozen).firstError i
  let s3 := { s2.put .FLT_STATUS_EPISODE 0 1 with episode := some (i, if resets && !s2.blkReset.contains b then [b] else []) }
  let s4 := (s3.when (taken.testBit 0) fun s => s.irqReaction i).when (taken.testBit 1) State.nmtReaction
  let s5 := s4.when resets fun s => s.blockReset b false i
  (s5.when (taken.testBit 3) fun s => s.chipRequest false i).when (taken.testBit 4) State.pinReaction

/-- A firing merged into the open episode (R366, R367). -/
def State.mergedFault (s : State) (i leader : Nat) : State :=
  let s1 := s.fireCount i
  let taken := s1.faultReact i &&& 24
  let frozen := s1.get .FLT_SRC_CFG_SEVERITY i == 3
  let s2 := s1.record 1 (1 ||| if frozen then 4 else 0) (s1.faultBody i leader taken) frozen
  let s3 := s2.when s.episodeFirst fun s => s.put .FLT_FIRST_SRC_MERGED 0 (min 0xFFF (s.get .FLT_FIRST_SRC_MERGED + 1))
  (s3.when (taken.testBit 3) fun s => s.chipRequest false i).when (taken.testBit 4) State.pinReaction

/-- A source fires: leading, or merged (R364, R366). -/
def State.fire (s : State) (i : Nat) : State :=
  match s.episode with
  | none => s.leadingFault i
  | some (l, _) => s.mergedFault i l

/-- A source's rail state leaves OK for FAULT or WIRE, with the syndrome it gives (R361, R372). -/
def State.railLeaves (s : State) (i : Nat) (wire : Bool) (syn : Word) : State :=
  if faultReserved i || s.get .FLT_SRC_STATUS_RAIL i != 0 then s
  else
    let s1 := { s.put .FLT_SRC_STATUS_RAIL i (if wire then 2 else 1) with faultSyn := tput 0 s.faultSyn i syn }
    if s1.inShadow i then s1.inc .FLT_SHADOWED_COUNT else s1.fire i

/-- The capture of a source: what it has reported if it has, else what the command says (R360). -/
def State.capture' (s : State) (i : Nat) (wire : Bool) (syn : Word) : State :=
  match s.raised.find? fun x => x.source == i with
  | some x => { s with raised := s.raised.erase x }.railLeaves i x.wire x.syndrome
  | none => s.railLeaves i wire syn

/-- FAULT_CAPTURE (R360 to R373). -/
def execFaultCapture (i : Nat) (wire : Bool) (syn : Word) (s : State) : Host.Outcome State Fault Refusal :=
  runAonOn faultSources i (fun s => s.capture' i wire syn) s

/-- A rail state follows its pair without a firing (R360, R361). The syndrome of a change to FAULT is not given: a free
value (log 1). -/
def State.railFollows (s : State) (i : Nat) (st : Rail) : State :=
  match st with
  | .ok => s.put .FLT_SRC_STATUS_RAIL i 0
  | .wire => s.when (s.get .FLT_SRC_STATUS_RAIL i == 1) fun s => s.put .FLT_SRC_STATUS_RAIL i 2
  | .fault => s.when (s.get .FLT_SRC_STATUS_RAIL i == 2) fun s =>
      { s.used.put .FLT_SRC_STATUS_RAIL i 1 with faultSyn := tput 0 s.faultSyn i (word s.free) }

/-- RAIL_STATE_CHANGE (R360). -/
def execRailStateChange (i : Nat) (st : Rail) (s : State) : Host.Outcome State Fault Refusal :=
  runAonOn faultSources i (fun s => s.railFollows i st) s

/-- The sources of a block, rising (R384). -/
def State.blockSources (s : State) (b : Nat) : List Nat :=
  (List.range faultSources).filter fun i => !faultReserved i && s.ownerOf i == b

/-- The end of a reset shadow: the sources of the block that are not OK fire (R361, R372). -/
def State.shadowEnd (s : State) (b : Nat) : State :=
  if !s.shadowed.contains b || s.blkReset.contains b then s
  else
    let s1 := { s with
      shadowed := s.shadowed.erase b
      episode := s.episode.map fun (e : Nat × List Nat) => (e.1, e.2.erase b) }
    s1.each (s1.blockSources b) fun s i => if s.get .FLT_SRC_STATUS_RAIL i = 0 then s else s.fire i

/-- RESET_SHADOW_END. -/
def execResetShadowEnd (b : Nat) (s : State) : Host.Outcome State Fault Refusal :=
  runAonOn 32 b (fun s => s.shadowEnd b) s

/-- The open episode ends, once no shadow of its leading fault's block reset is left (R366). -/
def State.episodeEnd (s : State) : State :=
  match s.episode with
  | some (_, []) => { s.put .FLT_STATUS_EPISODE 0 0 with episode := none, episodeFirst := false }
  | _ => s

/-- EPISODE_END. -/
def execEpisodeEnd (s : State) : Host.Outcome State Fault Refusal := runAon State.episodeEnd s

/-- CHIP_RST_REQ_RELEASE (R59): only while BLK_RST_N is low. -/
def execChipRstReqRelease (s : State) : Host.Outcome State Fault Refusal :=
  runAon (fun s => if s.blkLow then s.put .MNT_RST_STATUS_CHIP_REQ 0 0 else s) s

/-- CORE_CLK stops: the copy of the time runs on its own (R379). -/
def State.copyTime (s : State) : State := if s.coreUp then { s with logCopy := s.ns } else s

/-- CORE_CLK runs or stands still. -/
def State.clocked (s : State) (runs : Bool) : State := { s with coreClk := runs }

/-- The collector watches CORE_CLK (R383): source 0 leaves OK while it stands still with BLK_RST_N released, and is OK again
otherwise. Its syndrome is not given: a free value (log 1). -/
def State.watchClock (s : State) : State :=
  if !s.aonUp then s
  else if s.blkLow || s.coreClk then s.railFollows 0 .ok
  else s.used.railLeaves 0 false (word s.free)

/-- CORE_CLK_STOP (R65, R383). -/
def execCoreClkStop (s : State) : Host.Outcome State Fault Refusal :=
  let s1 := s.copyTime.clocked false
  s1.become s1.watchClock

/-- CORE_CLK_RETURN (R371, R383): source 0's rail returns to OK. -/
def execCoreClkReturn (s : State) : Host.Outcome State Fault Refusal :=
  let s1 := s.clocked true
  s1.become s1.watchClock

/-- PTP_REFCLK_STOP (R65). -/
def execPtpRefclkStop (s : State) : Host.Outcome State Fault Refusal := .next { s with refClk := false }

/-- PTP_REFCLK_RETURN (R65): the collector samples again (R383). -/
def execPtpRefclkReturn (s : State) : Host.Outcome State Fault Refusal :=
  let s1 := { s with refClk := true }
  s1.become s1.watchClock

/-! Software's side of the collector (R368 to R377, R385). -/

/-- FLT_STATUS written (R372, R374, R375, R377). -/
def State.fltStatusWrite (s : State) (w : Word) : State :=
  (((s.when (wbit w 31 && Fld.FLT_STATUS_KEY.of w == 0x5A) fun s => s.put .FLT_STATUS_PIN_HOLD 0 0).when (wbit w 30)
    fun s => s.put .FLT_STATUS_DOME_HOLD 0 0).when (wbit w 27) fun s => s.put .FLT_STATUS_INJ_REJ 0 0).when (wbit w 26)
    fun s => s.put .FLT_STATUS_LANTERN_REJ 0 0

/-- DOME_HOLD_CLEAR. -/
def execDomeHoldClear (w : Word) (s : State) : Host.Outcome State Fault Refusal := runAon (fun s => s.fltStatusWrite w) s

/-- PIN_HOLD_CLEAR. -/
def execPinHoldClear (w : Word) (s : State) : Host.Outcome State Fault Refusal := runAon (fun s => s.fltStatusWrite w) s

/-- FLT_IRQ_CLEAR (R368): the interrupt reaction ends. -/
def State.irqClear (s : State) (i : Nat) : State := (s.put .FLT_SRC_STATUS_IRQ i 0).levelChange (1536 + i) false

/-- FLT_IRQ_CLEAR. -/
def execFltIrqClear (i : Nat) (s : State) : Host.Outcome State Fault Refusal :=
  runAonOn faultSources i (fun s => s.irqClear i) s

/-- FIRED cleared, and FIRE_CNT with it (R370). -/
def State.firedClear (s : State) (i : Nat) : State := (s.put .FLT_SRC_STATUS_FIRED i 0).put .FLT_SRC_STATUS_FIRE_CNT i 0

/-- FIRED_CLEAR. -/
def execFiredClear (i : Nat) (s : State) : Host.Outcome State Fault Refusal :=
  runAonOn faultSources i (fun s => s.firedClear i) s

/-- Trap bits cleared (R369). -/
def State.nmtClear (s : State) (mask : Nat) : State := s.put .FLT_NMT_PEND 0 (andNot (s.get .FLT_NMT_PEND) mask)

/-- NMT_CLEAR. -/
def execNmtClear (mask : Nat) (s : State) : Host.Outcome State Fault Refusal := runAon (fun s => s.nmtClear mask) s

/-- VALID cleared: the first-error record is armed again (R365). -/
def State.firstClear (s : State) : State :=
  { ((s.put .FLT_FIRST_SRC_VALID 0 0).put .FLT_FIRST_SRC_OVERFLOW 0 0).put .FLT_FIRST_SRC_MERGED 0 0 with episodeFirst := false }

/-- FIRST_ERROR_CLEAR. -/
def execFirstErrorClear (s : State) : Host.Outcome State Fault Refusal := runAon State.firstClear s

/-- ARM (R374). -/
def State.lanternArm (s : State) (key : Nat) : State :=
  if key ≠ 0x5A ∨ s.flag .FLT_STATUS_PIN_HOLD then s.put .FLT_STATUS_LANTERN_REJ 0 1
  else
    let st := s.get .FLT_LANTERN_STATE
    if st = 1 then s
    else
      ({ s.put .FLT_LANTERN_STATE 0 1 with lantern := false, halfNow := s.get .FLT_LANTERN_HALF }).when (st == 2) fun s => s.record 6 0 [1]

/-- LANTERN_ARM. -/
def execLanternArm (key : Nat) (s : State) : Host.Outcome State Fault Refusal := runAon (fun s => s.lanternArm key) s

/-- STOP (R374). -/
def State.lanternStop (s : State) (key : Nat) : State :=
  if key ≠ 0x5A then s.put .FLT_STATUS_LANTERN_REJ 0 1 else s.when (s.get .FLT_LANTERN_STATE == 1) fun s => s.lanternHold 3

/-- LANTERN_STOP. -/
def execLanternStop (key : Nat) (s : State) : Host.Outcome State Fault Refusal := runAon (fun s => s.lanternStop key) s

/-- An edge of a running Lantern (R374). -/
def State.lanternEdge (s : State) : State :=
  if s.get .FLT_LANTERN_STATE = 1 then { s with lantern := !s.lantern, halfNow := s.get .FLT_LANTERN_HALF } else s

/-- LANTERN_HALF_PERIOD. -/
def execLanternHalfPeriod (s : State) : Host.Outcome State Fault Refusal := runAon State.lanternEdge s

/-- FLT_LANTERN written (R374, R385): HALF within its range, then ARM, then STOP. -/
def State.lanternWrite (s : State) (w : Word) : State :=
  let h := Fld.FLT_LANTERN_HALF.of w
  ((s.when (decide (1250 ≤ h) && decide (h ≤ 62500)) fun s => s.put .FLT_LANTERN_HALF 0 h).when (wbit w 31)
    fun s => s.lanternArm (Fld.FLT_LANTERN_KEY.of w)).when (wbit w 30) fun s => s.lanternStop (Fld.FLT_LANTERN_KEY.of w)

/-- FLT_INJ_DATA written (R376, R385). -/
def State.injDataWrite (s : State) (w : Word) : State :=
  let m := Fld.FLT_INJ_DATA_MEM.of w
  let b := Fld.FLT_INJ_DATA_BITS.of w
  (((s.putFlag .FLT_INJ_DATA_ADDR_EN 0 (wbit w 30)).when (b == 1 || b == 2) fun s => s.put .FLT_INJ_DATA_BITS 0 b).when
    ((decide (1 ≤ m) && decide (m ≤ 9)) || m == 0xD) fun s => s.put .FLT_INJ_DATA_MEM 0 m).when (wbit w 31)
    fun s => s.put .FLT_INJ_DATA_ARM 0 1

/-- FLT_INJ_ARM. -/
def execFltInjArm (w : Word) (s : State) : Host.Outcome State Fault Refusal := runAon (fun s => s.injDataWrite w) s

/-- MNT_RST_REQ.CHIP (R64). -/
def State.mntChip (s : State) (key : Nat) : State :=
  if key = 0xC5 then s.chipRequest true 0 else s.put .MNT_RST_STATUS_KEY_ERR 0 1

/-- MNT_CHIP_RESET. -/
def execMntChipReset (key : Nat) (s : State) : Host.Outcome State Fault Refusal := runAon (fun s => s.mntChip key) s

/-- MNT_RST_REQ.BLOCK_GO (R64, R370): without the key the write is ignored as a whole; with it the field BLOCK takes its value. -/
def State.mntBlock (s : State) (key b : Nat) : State :=
  if key ≠ 0xC5 then s.put .MNT_RST_STATUS_KEY_ERR 0 1
  else
    let s1 := s.put .MNT_RST_REQ_BLOCK 0 b
    if resettable b then s1.blockReset b true 0 else s1.put .MNT_RST_STATUS_BLOCK_REJ 0 1

/-- MNT_BLOCK_RESET. -/
def execMntBlockReset (key : Nat) (block : Nat) (s : State) : Host.Outcome State Fault Refusal :=
  runAon (fun s => s.mntBlock key (block % 32)) s

/-- MNT_RST_REQ written (R64): with both bits, the chip reset request only. -/
def State.mntReqWrite (s : State) (w : Word) : State :=
  let key := Fld.MNT_RST_REQ_KEY.of w
  let b := Fld.MNT_RST_REQ_BLOCK.of w
  if wbit w 31 then (if key = 0xC5 then s.put .MNT_RST_REQ_BLOCK 0 b else s).mntChip key
  else if wbit w 30 then s.mntBlock key b
  else s.put .MNT_RST_REQ_BLOCK 0 b

/-! The event log (R378 to R382). -/

/-- The fill of the log (R378). -/
def State.logFill (s : State) : Nat := (s.get .LOG_WR_IDX_IDX + 65536 - s.get .LOG_RD_IDX_IDX) % 65536

/-- The fill has changed: it may have reached THRESH (R378). -/
def State.logThresh (s : State) (old : Nat) : State :=
  if old < s.get .LOG_CFG_THRESH ∧ s.get .LOG_CFG_THRESH ≤ s.logFill then (s.put .LOG_STATUS_THRESH_HIT 0 1).logSource else s

/-- The log freezes, by software or by a fault (R381). -/
def State.logFreeze (s : State) (sw : Bool) : State :=
  if s.flag .LOG_STATUS_FROZEN then s else ((s.put .LOG_STATUS_FROZEN 0 1).putFlag .LOG_STATUS_FREEZE_SW 0 sw).logSource

/-- A record is written into the ring (R378, R379). -/
def State.logStore (s : State) (kind flags time : Nat) (body : List Word) : State :=
  let wr := s.get .LOG_WR_IDX_IDX
  let old := s.logFill
  let s1 := if old < 32768 then s
    else ((s.put .LOG_RD_IDX_IDX 0 (s.get .LOG_RD_IDX_IDX + 1)).put .LOG_STATUS_OVERRUN 0 1).inc .LOG_OVERWRITES_COUNT
  let r := word (kind <<< 24 ||| flags <<< 20 ||| wr) :: word time :: word (time >>> 32) :: (body ++ List.replicate (5 - body.length) 0)
  let s2 := { s1 with logRing := tset s1.logRing (wr % 32768) (some r) }.memWrite 0xD (wr % 32768)
  (s2.put .LOG_WR_IDX_IDX 0 (wr + 1)).logThresh old

/-- The oldest queued record is written, or dropped while the log is frozen (R378, R381). -/
def State.logDrain (s : State) : State :=
  match s.logQ with
  | [] => s
  | (kind, flags, time, body, freeze) :: rest =>
    let s1 := { s with logQ := rest }
    if s1.flag .LOG_STATUS_FROZEN then s1.inc .LOG_DROPPED_COUNT
    else (s1.logStore kind flags time body).when freeze fun s => s.logFreeze false

/-- LOG_RECORD_WRITE. -/
def execLogRecordWrite (s : State) : Host.Outcome State Fault Refusal := runAon State.logDrain s

/-- LOG_FREEZE (R381). -/
def execLogFreeze (s : State) : Host.Outcome State Fault Refusal := runAon (fun s => s.logFreeze true) s

/-- UNFREEZE (R381). -/
def State.logUnfreeze (s : State) : State := (s.put .LOG_STATUS_FROZEN 0 0).put .LOG_STATUS_FREEZE_SW 0 0

/-- LOG_UNFREEZE. -/
def execLogUnfreeze (s : State) : Host.Outcome State Fault Refusal := runAon State.logUnfreeze s

/-- LOG_CTRL written (R387): FREEZE wins. -/
def State.logCtrlWrite (s : State) (w : Word) : State :=
  if wbit w 31 then s.logFreeze true else if wbit w 30 then s.logUnfreeze else s

/-- LOG_RD_IDX written: the fill follows (R378). -/
def State.logRdWrite (s : State) (w : Word) : State := (s.put .LOG_RD_IDX_IDX 0 (wbits w 15 0)).logThresh s.logFill

/-- LOG_ACC_IDX written (R382). -/
def State.logAccWrite (s : State) (w : Word) : State :=
  (s.put .LOG_ACC_IDX_INDEX 0 (wbits w 14 0)).put .LOG_ACC_IDX_READY 0 0

/-- LOG_ACC_IDX_WRITE. -/
def execLogAccIdxWrite (w : Word) (s : State) : Host.Outcome State Fault Refusal := runAon (fun s => s.logAccWrite w) s

/-- The record is in LOG_ACC_DATA (R382). A record in uncorrectable error is reported, and its words are free values. -/
def State.logAccReady (s : State) : State :=
  let i := s.get .LOG_ACC_IDX_INDEX
  let bad := s.eccOf 0xD i .ok == .uncorr
  let r := if bad then natWords 8 s.free else tget [] s.logRing i
  let s1 := if bad then s.used.memFault 0xD i else s
  (s1.each (List.range 8) fun s k => s.wr .LOG_ACC_DATA k (nth r k 0)).put .LOG_ACC_IDX_READY 0 1

/-- LOG_ACCESS_READY. -/
def execLogAccessReady (s : State) : Host.Outcome State Fault Refusal :=
  runAon (fun s => if s.flag .LOG_ACC_IDX_READY then s else s.logAccReady) s

end Sys2Proof.Machine
end

