-- ==== Sys2Proof/Machine/StructImage.lean ====
section
/-! DEFINITION. The structure image: its format and its checks (R69 to R86), and its path up to the switch cycle (R87 to R89). -/
namespace Sys2Proof.Machine

/-! The register map read by offset (R428, R442). -/

/-- The instance of register `r` at offset `a`; none where the offset is not the register's. -/
def regHit (a : Nat) (r : Reg) : Option Nat :=
  let x := regInfo r
  let d := a - x.base
  let i := if x.count ≤ 1 then 0 else d / x.stride
  let d1 := d - x.stride * i
  let j := if x.count2 ≤ 1 then 0 else d1 / x.stride2
  if x.base ≤ a ∧ d1 = x.stride2 * j ∧ x.first ≤ i ∧ i < max 1 x.count ∧ j < max 1 x.count2 then some (i * max 1 x.count2 + j) else none

/-- The byte offset of instance `i` of a singly indexed register (R428). -/
def regAddr (r : Reg) (i : Nat) : Nat := (regInfo r).base + (regInfo r).stride * i

/-- The register at a byte offset, by its own offsets, and its instance. -/
def regAt (a : Nat) : Option (Reg × Nat) := allRegs.findSome? fun r => (regHit a r).map fun i => (r, i)

/-- The bits of a register that a plain write sets: its RW fields (R10). -/
def writable (r : Reg) : Word :=
  word (((regInfo r).fields.filter fun f => f.acc == .rw || f.acc == .rwl).foldl
    (fun a f => a ||| ((2 ^ (f.hi + 1 - f.lo) - 1) <<< f.lo)) 0)

/-- A plain write of a register's RW fields; every other bit stays (R10). -/
def State.store (s : State) (r : Reg) (i : Nat) (w : Word) : State :=
  s.wr r i ((s.rd r i &&& ~~~ writable r) ||| (w &&& writable r))

/-! Sections (R71). -/

/-- A section of an image: its type and flags, its offset and its length in bytes. -/
structure Section where
  typ : Nat
  flags : Nat
  off : Nat
  len : Nat
  deriving DecidableEq, Repr

/-- The sections of an image, and the offset at which their framing fails (R71, R85). -/
def readSections (ws : List Word) (length : Nat) : Nat → Nat → List Section × Option Nat
  | 0, pos => ([], if pos = length then none else some pos)
  | k + 1, pos =>
    let h := nth ws (pos / 4) 0
    let ln := (nth ws (pos / 4 + 1) 0).toNat
    if length < pos + 8 ∨ wbits h 31 17 ≠ 0 ∨ ln < 8 ∨ ln % 4 ≠ 0 ∨ length < pos + ln then ([], some pos)
    else
      let r := readSections ws length k (pos + ln)
      (⟨wbits h 15 0, wbits h 23 16, pos, ln⟩ :: r.1, r.2)

/-- The body of a section in words. -/
def sectionBody (ws : List Word) (x : Section) : List Word := slice ws (x.off / 4 + 2) ((x.len - 8) / 4)

/-- The body of the section of a type; empty where there is none. -/
def bodyOf (ws : List Word) (l : List Section) (t : Nat) : List Word :=
  ((l.find? fun x => x.typ == t).map (sectionBody ws)).getD []

/-- Offset of the first of `n` items of `size` bytes that breaks its rule. -/
def firstItem (off size n : Nat) (bad : Nat → Bool) : Option Nat := ((List.range n).find? bad).map fun i => off + size * i

/-- The first section whose type does not rise above the one before it (R71). -/
def orderFail : List Section → Option Nat
  | a :: b :: t => if b.typ ≤ a.typ then some b.off else orderFail (b :: t)
  | _ => none

/-- Where the lowest missing mandatory type would have stood (R85). -/
def missingFail (l : List Section) (length : Nat) : Option Nat :=
  ((List.range 7).find? fun t => !(l.any fun x => x.typ == t + 1)).map fun t =>
    ((l.find? fun x => decide (t + 1 < x.typ)).map (·.off)).getD length

/-- The first section of an unknown type without SKIP (R72). -/
def unknownFail (l : List Section) : Option Nat :=
  (l.find? fun x => !(decide (1 ≤ x.typ) && decide (x.typ ≤ 8)) && x.flags % 2 == 0).map (·.off)

/-! The rules of each section's items (R74 to R84). -/

/-- A field port word that names a lane or a slot (R74). -/
def bound (w : Word) : Bool := wbits w 31 30 == 1 || wbits w 31 30 == 2

/-- Word `i` of LANE_MAP breaks a rule of R74 to R76. -/
def laneBad (lanes ext tmpl : List Word) (i : Nat) : Bool :=
  let w := nth lanes i 0
  if i < 1024 then
    let b := wbits w 31 30
    let slot := nth ext (2 * (wbits w 15 0 / 16)) 0
    if b = 0 then w != 0
    else b == 3 || decide (4 < wbits w 29 27) || wbits w 22 16 != 0
      || (b == 1 && decide (255 < wbits w 15 0))
      || (b == 2 && (decide (767 < wbits w 15 0) || wbits w 29 27 == 4 || !wbit slot 31))
      || (lanes.take i).any fun v => wbits v 31 30 == b && wbits v 15 0 == wbits w 15 0
  else if !wbit w 31 then w != 0
  else
    let rate := wbits w 30 28
    let role := wbits w 27 26
    decide (4 < rate) || role == 3 || wbits w 21 0 != 0 || (role == 1 && !(rate == 1 || rate == 2))
      || (role == 2 && ((lanes.take i).drop 1024).any fun v => wbit v 31 && wbits v 27 26 == 2)
      || wbit (nth tmpl (2 * wbits w 25 22) 0) 0

/-- Entry `e` of EXTENDER_SLOTS breaks a rule of R77. -/
def slotBad (lanes ext : List Word) (e : Nat) : Bool :=
  let w0 := nth ext (2 * e) 0
  let w1 := nth ext (2 * e + 1) 0
  let trunk := nth lanes (1024 + wbits w0 27 24) 0
  if !wbit w0 31 then w0 != 0 || w1 != 0
  else w0 &&& 0x70FCFFF8#32 != 0 || w1 &&& 0xFFFFF000#32 != 0
    || wbits w0 17 16 == 0 || wbits w1 11 0 == 0 || decide (4080 < wbits w1 11 0)
    || !(wbit trunk 31 && wbits trunk 27 26 == 1)
    || (List.range e).any fun d =>
      let v0 := nth ext (2 * d) 0
      let v1 := nth ext (2 * d + 1) 0
      wbit v0 31 && wbits v0 27 24 == wbits w0 27 24 && decide (wbits v1 11 0 < wbits w1 11 0 + 16)
        && decide (wbits w1 11 0 < wbits v1 11 0 + 16)

/-- Word `i` of TRANSIT_PAIRS breaks a rule of R78. -/
def pairBad (lanes pairs : List Word) (i : Nat) : Bool :=
  let w := nth pairs i 0
  let a := wbits w 3 0
  let b := wbits w 11 8
  let ta := nth lanes (1024 + a) 0
  let tb := nth lanes (1024 + b) 0
  if !wbit w 31 then w != 0
  else w &&& 0x7FFFF0F0#32 != 0 || a == b
    || !(wbit ta 31 && wbits ta 27 26 == 0 && wbit tb 31 && wbits tb 27 26 == 0) || wbits ta 30 28 != wbits tb 30 28
    || (pairs.take i).any fun v => wbit v 31 && (wbits v 3 0 == a || wbits v 3 0 == b || wbits v 11 8 == a || wbits v 11 8 == b)

/-- Word `i` of SRAM_PARTITION breaks R79. -/
def partBad (body : List Word) (i : Nat) : Bool :=
  let w := nth body i 0
  if i = 0 then
    let f := wbits w 1 0
    w &&& 0xFFC0F0FC#32 != 0 || f == 3 || decide (wbits w 11 8 < 2) || decide (8 < wbits w 11 8) || decide (wbits w 21 16 < 8)
      || (8 <<< f) + wbits w 11 8 + wbits w 21 16 != 42
  else w != 0

/-- A header-type entry breaks R81. -/
def typeBad (t : List Word) : Bool :=
  nth t 0 0 &&& 0x00F8C000#32 != 0 || nth t 1 0 &&& 0xFFF0FC00#32 != 0
    || decide (64 < wbits (nth t 0 0) 7 0) || wbits (nth t 1 0) 9 8 == 3 || decide (10 < wbits (nth t 1 0) 19 16)

/-- A next-node value breaks R81. -/
def nextBad (nodes n : Nat) : Bool := (decide (0x100 ≤ n) && decide (n ≤ 0x1FE)) || (decide (nodes ≤ n) && decide (n ≤ 0xFF))

/-- Bytes of a selector by its code (R80). -/
def selBytes (c : Nat) : Nat := if c = 3 then 4 else c

/-- Parse-node entry `i` breaks R81. -/
def nodeBad (types : List (List Word)) (nodes trans i : Nat) (n : List Word) : Bool :=
  let w0 := nth n 0 0
  let w1 := nth n 1 0
  let ty := nth types (wbits w0 5 0) []
  let fixed := wbits (nth ty 0 0) 7 0
  let k := selBytes (wbits w0 17 16)
  w0 &&& 0xFFFCC0C0#32 != 0 || w1 &&& 0xFF80F000#32 != 0 || nth n 2 0 &&& 0xFFFFFE00#32 != 0 || nth n 3 0 != 0
    || decide (types.length ≤ wbits w0 5 0) || decide (64 < wbits w1 22 16) || decide (trans < wbits w1 11 0 + wbits w1 22 16)
    || nextBad nodes (wbits (nth n 2 0) 8 0) || (i == 0 && wbits (nth ty 1 0) 19 16 != 1)
    || (k != 0 && decide ((if fixed = 0 then 64 else fixed) < wbits w0 13 8 + k))

/-- A transition entry breaks R81. -/
def transBad (nodes : Nat) (t : List Word) : Bool :=
  nth t 0 0 &&& ~~~ nth t 1 0 != 0 || nth t 2 0 &&& 0xFFFFFE00#32 != 0 || nth t 3 0 != 0 || nextBad nodes (wbits (nth t 2 0) 8 0)

/-- The entries of four words from word `first` on. -/
def quads (body : List Word) (first n : Nat) : List (List Word) := (List.range n).map fun i => slice body (first + 4 * i) 4

/-- The counts of PARSE_GRAPH: types, nodes, transitions (R80). -/
def graphCounts (body : List Word) : Nat × Nat × Nat :=
  (wbits (nth body 0 0) 6 0, wbits (nth body 0 0) 24 16, wbits (nth body 1 0) 12 0)

/-- The parse graph of a PARSE_GRAPH body. -/
def graphOf (body : List Word) : Graph :=
  let c := graphCounts body
  { types := quads body 2 c.1, nodes := quads body (2 + 4 * c.1) c.2.1, trans := quads body (2 + 4 * (c.1 + c.2.1)) c.2.2 }

/-- The first failing item of PARSE_GRAPH (R81, R85): the header, the two count words, then the entries. A LENGTH that disagrees with the
counts fails at the later of the items compared, the second count word. -/
def graphFail (x : Section) (body : List Word) : Option Nat :=
  let c := graphCounts body
  let g := graphOf body
  let at0 := x.off + 16
  if x.len < 12 then some x.off
  else if x.len < 16 ∨ c.1 < 1 ∨ 64 < c.1 ∨ c.2.1 < 1 ∨ 256 < c.2.1 ∨ nth body 0 0 &&& 0xFE00FF80#32 ≠ 0 then some (x.off + 8)
  else if 4096 < c.2.2 ∨ x.len ≠ 16 + 16 * (c.1 + c.2.1 + c.2.2) ∨ nth body 1 0 &&& 0xFFFFE000#32 ≠ 0 then some (x.off + 12)
  else
    (firstItem at0 16 c.1 fun i => typeBad (nth g.types i [])).orElse fun _ =>
    (firstItem (at0 + 16 * c.1) 16 c.2.1 fun i => nodeBad g.types c.2.1 c.2.2 i (nth g.nodes i [])).orElse fun _ =>
    firstItem (at0 + 16 * (c.1 + c.2.1)) 16 c.2.2 fun i => transBad c.2.1 (nth g.trans i [])

/-- Template `t` breaks R82. -/
def templateBad (body : List Word) (t : Nat) : Bool :=
  let w := nth body (2 * t) 0
  w &&& 0xFFF0F8FE#32 != 0 || decide (8 < wbits w 19 16) || nth body (2 * t + 1) 0 != 0

/-- A preset's offset breaks R84. -/
def presetBad (a : Nat) : Bool :=
  a % 4 != 0 || decide (a < 0x0200000) || decide (0x1F00000 ≤ a)
    || match regAt a with
       | some (r, _) => (regInfo r).aon
       | none => true

/-- The body length of each section type; none for a variable one (R72). -/
def fixedBody (t : Nat) : Option Nat :=
  match t with
  | 1 => some 4160
  | 2 => some 384
  | 3 => some 32
  | 4 => some 8
  | 6 => some 128
  | 7 => some 512
  | _ => none

/-- The first failing item of the section of a type (R74 to R85). -/
def contentFail (ws : List Word) (l : List Section) (x : Section) : Option Nat :=
  let body := sectionBody ws x
  let at0 := x.off + 8
  let lanes := bodyOf ws l 1
  let ext := bodyOf ws l 2
  if (fixedBody x.typ).any fun k => x.len != 8 + k then some x.off
  else match x.typ with
    | 1 => firstItem at0 4 1040 (laneBad lanes ext (bodyOf ws l 6))
    | 2 => firstItem at0 8 48 (slotBad lanes ext)
    | 3 => firstItem at0 4 8 (pairBad lanes body)
    | 4 => firstItem at0 4 2 (partBad body)
    | 5 => graphFail x body
    | 6 => firstItem at0 8 16 (templateBad body)
    | 7 => firstItem at0 1 512 fun i => bits (nth body (i / 4) 0).toNat (8 * (i % 4) + 6) (8 * (i % 4) + 2) != 0
    | _ =>
      let n := body.length
      if n % 2 ≠ 0 ∨ 2048 < n then some x.off else firstItem at0 8 (n / 2) fun i => presetBad (nth body (2 * i) 0).toNat

/-- The first content failure in the order of the codes: code and offset (R85). -/
def contentFails (ws : List Word) (l : List Section) : Option (Nat × Nat) :=
  (List.range 8).findSome? fun t =>
    ((l.find? fun x => x.typ == t + 1).bind (contentFail ws l)).map fun o => (0x0C + t, o)

/-- The failing checks of the header, in order: code and offset (R69, R73, R85). -/
def headerFails (s : State) (b : List Byte) (count : Nat) : Option (Nat × Nat) :=
  let rev := beAt b 6 1
  let len := leAt b 8 4
  if beAt b 0 4 ≠ 0x4F435349 then some (0x01, 0)
  else if 8 ≤ beAt b 7 1 then some (0x01, 7)
  else match [14, 15, 20, 21, 22, 23, 24, 25, 26, 27].find? fun i => beAt b i 1 != 0 with
    | some i => some (0x01, i)
    | none =>
      if beAt b 5 1 ≠ 3 then some (0x02, 5)
      else if rev / 16 ≠ s.get .GLB_REV_STEP ∨ s.get .GLB_REV_METAL < rev % 16 then some (0x03, 6)
      else if len % 4 ≠ 0 ∨ len < 64 ∨ 524288 < len ∨ len ≠ count ∨ s.flag .STI_STATUS_OVERRUN then some (0x04, 8)
      else none

/-- The checks of CRC, key and TAG (R70, R85, R403). -/
def sealFails (key : Option (List Byte)) (b : List Byte) : Option (Nat × Nat) :=
  if crc32c (splice b 28 (List.replicate 36 0)) ≠ leAt b 28 4 then some (0x05, 28)
  else match key with
    | none => some (0x06, 7)
    | some k => if hmac k (splice b 32 (List.replicate 32 0)) ≠ slice b 32 32 then some (0x07, 32) else none

/-- The checks of the sections (R71, R72, R85). -/
def sectionFails (ws : List Word) (b : List Byte) : Option (Nat × Nat) :=
  let len := leAt b 8 4
  let r := readSections ws len (leAt b 12 2) 64
  match r.2 with
  | some o => some (0x08, o)
  | none =>
    ((orderFail r.1).map fun o => (0x09, o)).orElse fun _ =>
    ((missingFail r.1 len).map fun o => (0x0A, o)).orElse fun _ =>
    ((unknownFail r.1).map fun o => (0x0B, o)).orElse fun _ => contentFails ws r.1

/-- The first failing check of the image in the staging half: code and offset (R85). -/
def State.imageFail (s : State) : Option (Nat × Nat) :=
  let ws := s.sti.words
  let b := padTo 64 (bytesOf ws)
  (headerFails s b (4 * ws.length)).orElse fun _ => (sealFails s.sti.key b).orElse fun _ => sectionFails ws b

/-- Words that are not zero, by index. -/
def listed {α : Type} [DecidableEq α] (d : α) (l : List α) : List (Nat × α) :=
  (l.zipIdx.filter fun (x : α × Nat) => x.1 ≠ d).map fun (x : α × Nat) => (x.2, x.1)

/-- A valid image decoded. -/
def decodeImage (ws : List Word) : Image :=
  let b := bytesOf (slice ws 0 16)
  let l := (readSections ws (leAt b 8 4) (leAt b 12 2) 64).1
  let body := bodyOf ws l
  let ext := body 2
  let pre := body 8
  { lanes := listed 0 (body 1)
    ext := listed (0, 0) ((List.range 48).map fun e => (nth ext (2 * e) 0, nth ext (2 * e + 1) 0))
    pairs := listed 0 (body 3)
    part := nth (body 4) 0 0
    graph := graphOf (body 5)
    templates := listed 0 ((List.range 16).map fun t => nth (body 6) (2 * t) 0)
    severity := listed 0 (bytesOf (body 7))
    presets := (List.range (pre.length / 2)).map fun i => (nth pre (2 * i) 0, nth pre (2 * i + 1) 0)
    major := beAt b 5 1, minor := beAt b 4 1, rev := beAt b 6 1, serial := leAt b 16 4 }

/-! The path (R87, R88). -/

def stiIdle : Nat := 0
def stiLoading : Nat := 1
def stiValidating : Nat := 2
def stiValid : Nat := 3
def stiCommitting : Nat := 4

/-- STATE of the path. -/
def State.stiState (s : State) : Nat := s.get .STI_STATUS_STATE

/-- The path enters a state. -/
def State.stiEnter (s : State) (st : Nat) : State := s.put .STI_STATUS_STATE 0 st

/-- A rise of DONE raises the structure-image source (R87). -/
def State.stiDone (s : State) : State :=
  if s.flag .STI_STATUS_DONE then s else (s.put .STI_STATUS_DONE 0 1).pulse 1443

/-- A write that the path does not take (R87). -/
def State.stiSeqErr (s : State) : State := s.put .STI_STATUS_SEQ_ERR 0 1

/-- The staging is discarded: IDLE. -/
def State.stiDiscard (s : State) : State := { s.stiEnter stiIdle with sti := {} }

/-- The path belongs to another issuer (R88): none is the register slave port. -/
def State.stiOther (s : State) (who : Option Nat) : Bool := s.stiState != stiIdle && s.sti.owner != who

/-- A write of the path by its issuer: in the states listed it acts, elsewhere it sets SEQ_ERR (R87, R88). -/
def State.stiAct (s : State) (who : Option Nat) (states : List Nat) (f : State → State) : State :=
  if s.stiOther who || !states.contains s.stiState then s.stiSeqErr else f s

/-- LOAD_START. -/
def State.stiStart (s : State) (who : Option Nat) : State :=
  s.stiAct who [stiIdle, stiLoading, stiValid] fun s =>
    let s1 := { s.stiEnter stiLoading with sti := { owner := who } }
    ((((s1.put .STI_LOAD_COUNT_COUNT 0 0).put .STI_STATUS_OVERRUN 0 0).put .STI_STATUS_VAL_ERR 0 0).put .STI_STATUS_COMMIT_ERR 0 0).putFlag
      .STI_STATUS_OWNER 0 who.isSome

/-- An image word. -/
def State.stiWord (s : State) (who : Option Nat) (w : Word) : State :=
  s.stiAct who [stiLoading] fun s =>
    if 4 * s.sti.words.length < 524288 then
      { s.put .STI_LOAD_COUNT_COUNT 0 (4 * s.sti.words.length + 4) with sti := { s.sti with words := s.sti.words ++ [w] } }
    else s.put .STI_STATUS_OVERRUN 0 1

/-- VALIDATE: the key of the image's slot is the one that stands now (R403). -/
def State.stiCheck (s : State) (who : Option Nat) : State :=
  s.stiAct who [stiLoading] fun s =>
    let slot := wbits (nth s.sti.words 1 0) 26 24
    let key := if (s.get .SES_KEY_STATUS_WRITTEN).testBit slot then some (s.key slot) else none
    { s.stiEnter stiValidating with sti := { s.sti with key := key } }

/-- The end of validation (R85, R87). An uncorrectable error gives code ECC also where a check listed before it fails (log 44); its offset is
not given: a free value (log 1). -/
def State.stiResult (s : State) (e : Ecc) : State :=
  if s.stiState ≠ stiValidating then s
  else
    let r := if e = .uncorr then some (0x14, s.free % 2 ^ 17 * 4) else s.imageFail
    let s1 := if e = .uncorr then s.used.memFault 0xB (s.free % 2 ^ 17) else s
    match r with
    | none => (s1.stiEnter stiValid).stiDone
    | some (code, off) => (((s1.put .STI_STATUS_VAL_ERR 0 code).put .STI_ERR_OFFSET_OFFSET 0 off).stiDiscard).stiDone

/-- The ports bound to an extender under an image. -/
def Image.portsOf (m : Image) (e : Nat) : List Nat :=
  (m.lanes.filter fun x => decide (x.1 < 1024) && wbits x.2 31 30 == 2 && wbits x.2 15 0 / 16 == e).map (·.1)

/-- The ports that use a template under an image. -/
def Image.portsUsing (m : Image) (t : Nat) : List Nat :=
  (m.lanes.filter fun x => if x.1 < 1024 then wbits x.2 26 23 == t else wbits x.2 25 22 == t).map (·.1)

/-- The trunks of a pair's word. -/
def pairPorts (w : Word) : List Nat := if wbit w 31 then [1024 + wbits w 3 0, 1024 + wbits w 11 8] else []

/-- The live-commit checks: the code of the first that fails, 0 for none (R72, R89). -/
def State.liveFail (s : State) (new : Image) : Nat :=
  let old := s.img
  let on := fun (l : List Nat) => l.any s.enabled
  let diff := fun {α : Type} [DecidableEq α] (d : α) (a b : List (Nat × α)) (k : Nat) => tget d a k ≠ tget d b k
  if (List.range 1040).any (fun p => decide (diff 0 old.lanes new.lanes p) && s.enabled p)
      || (List.range 48).any (fun e => decide (diff (0, 0) old.ext new.ext e) && on (old.portsOf e ++ new.portsOf e))
      || (List.range 8).any (fun i => decide (diff 0 old.pairs new.pairs i)
          && on (pairPorts (tget 0 old.pairs i) ++ pairPorts (tget 0 new.pairs i))) then 1
  else if old.part ≠ new.part then 2
  else if (List.range 16).any (fun t => decide (diff 0 old.templates new.templates t) && on (old.portsUsing t ++ new.portsUsing t)) then 3
  else 0

/-- COMMIT (R87, R89). -/
def State.stiGo (s : State) (who : Option Nat) : State :=
  s.stiAct who [stiValid] fun s =>
    let code := if s.committed then s.liveFail (decodeImage s.sti.words) else 0
    let s1 := s.put .STI_STATUS_COMMIT_ERR 0 code
    if code = 0 then s1.stiEnter stiCommitting else s1.stiDone

/-- ABORT (R87): ignored in COMMITTING. -/
def State.stiStop (s : State) (who : Option Nat) : State :=
  s.stiAct who [stiLoading, stiValidating, stiValid, stiCommitting] fun s => if s.stiState = stiCommitting then s else s.stiDiscard

/-- An uncorrectable error before the switch cycle (R87). -/
def State.stiEcc (s : State) : State :=
  if s.stiState = stiCommitting then
    (((s.put .STI_STATUS_COMMIT_ERR 0 4).stiDiscard).stiDone.memFault 0xB s.free).used
  else s

/-- STI_CTRL written (R87, R93). -/
def State.stiCtrl (s : State) (who : Option Nat) (w : Word) : State :=
  match wbit w 31, wbit w 2, wbit w 1, wbit w 0 with
  | true, false, false, false => s.stiStop who
  | false, true, false, false => s.stiGo who
  | false, false, true, false => s.stiCheck who
  | false, false, false, true => s.stiStart who
  | false, false, false, false => s
  | _, _, _, _ => s.stiSeqErr

/-- STI_LOAD_START. -/
def execStiLoadStart (s : State) : Host.Outcome State Fault Refusal := runSoft 19 (fun s => s.stiStart none) s
/-- STI_LOAD_DATA. -/
def execStiLoadData (w : Word) (s : State) : Host.Outcome State Fault Refusal := runSoft 19 (fun s => s.stiWord none w) s
/-- STI_VALIDATE. -/
def execStiValidate (s : State) : Host.Outcome State Fault Refusal := runSoft 19 (fun s => s.stiCheck none) s
/-- STI_VALIDATION_END. -/
def execStiValidationEnd (ecc : Ecc) (s : State) : Host.Outcome State Fault Refusal := run 19 (fun s => s.stiResult ecc) s
/-- STI_COMMIT. -/
def execStiCommit (s : State) : Host.Outcome State Fault Refusal := runSoft 19 (fun s => s.stiGo none) s
/-- STI_ABORT. -/
def execStiAbort (s : State) : Host.Outcome State Fault Refusal := runSoft 19 (fun s => s.stiStop none) s
/-- STI_COMMIT_ECC. -/
def execStiCommitEcc (s : State) : Host.Outcome State Fault Refusal := run 19 State.stiEcc s

end Sys2Proof.Machine
end

