-- ==== Sys2Proof/Machine/Keep.lean ====
section
/-! DEFINITION. Keep images: their format, their production and their loading (R404 to R411). -/
namespace Sys2Proof.Machine

/-! The sections (R405). -/

/-- A section with its header. -/
def keepSection (t : Nat) (body : List Word) : List Word := [word t, word (8 + 4 * body.length)] ++ body

/-- The TIME body: time base and TIME_INCR. -/
def State.timeBody (s : State) : List Word :=
  let sec := s.ns / 1000000000
  [word sec, word (sec >>> 32), word (s.ns % 1000000000), word s.timeFrac, word s.timeIncr, word (s.timeIncr >>> 32), 0, 0]

/-- The VERSION body of version `v`. -/
def State.versionBody (s : State) (v : Nat) : List Word :=
  word v :: ((List.range 1040).flatMap fun n => s.entryIn v 3 n) ++ (List.range 16).flatMap fun i => s.entryIn v 4 i

/-- The flow entries visible in version `v`, in the order of their positions. -/
def State.flowRecords (s : State) (v : Nat) : List (List Word) :=
  (s.flow.filter fun x => visible (nth x.2 4 0) (nth x.2 5 0) v).map fun x => flowRecord x.2

/-- The prefix entries visible in version `v`, in ascending index. -/
def State.pfxRecords (s : State) (v : Nat) : List (List Word) :=
  (s.pfx.filter fun x => visible (nth x.2 20 0) (nth x.2 21 0) v).map fun x => pfxRecord x.2

/-- The policer profiles of version `v` that are not all zero: number and words. -/
def State.profileRecords (s : State) (v : Nat) : List (Nat × List Word) :=
  let keys := distinct (((s.clsA ++ s.clsD ++ s.clsS).map (·.1)).filter fun k => k / 2 ^ 17 == 5)
  ((sortBy (fun a b => decide (a < b)) keys).map fun k => (k % 2 ^ 17, s.entryIn v 5 (k % 2 ^ 17))).filter fun x => x.2.any (· != 0)

/-- The POLICERS body. -/
def State.policerBody (s : State) (v : Nat) : List Word :=
  let l := s.profileRecords v
  s.rd .POL_RESET_MODE :: ((List.range 4).map fun j => s.rd .POL_DSCP_MAP j) ++ ((List.range 1040).map fun n => s.rd .POL_PORT_CFG n)
    ++ word l.length :: l.flatMap fun x => word x.1 :: x.2

/-- The SCHEDULER body. -/
def State.schedulerBody (s : State) : List Word :=
  s.rd .SCH_GLB_CFG :: ((List.range 1040).map fun n => s.rd .SCH_PORT_CFG n)
    ++ (List.range 8320).flatMap fun i => [s.rd .SCH_CLASS_CFG i, s.rd .SCH_CBS_SLOPE i, s.rd .SCH_CBS_HI i]

/-- The GATES record of a port. -/
def State.gateRecord (s : State) (n : Nat) : List Word :=
  let g := s.operPlan n
  let cfg := (s.rd .TPG_GCL_CFG n &&& 0x4000FFFF#32) ||| word (b2n g.angle <<< 28 ||| g.src <<< 27)
  [word n, cfg, s.rd .TPG_GCL_OPER_LIST n, s.rd .TPG_GCL_OPER_CYCLE n, s.rd .TPG_GCL_OPER_BASE_NS n,
   s.rd .TPG_GCL_OPER_BASE_SEC_LO n, s.rd .TPG_GCL_OPER_BASE_SEC_HI n] ++
  (List.range g.len).flatMap fun j => let e := s.gateEntry (g.base + j); [word e.1, word e.2]

/-- The GATES body: the ports whose list runs, in fallback too. -/
def State.gatesBody (s : State) : List Word :=
  let l := (List.range 1040).filter fun n => s.gclState n == gclRunning || s.gclState n == gclFallTime || s.gclState n == gclFallClosed
  word l.length :: l.flatMap s.gateRecord

/-- The NODES record of a context. -/
def nodeRecord (i : Nat) (c : Ctx) : List Word :=
  [word (i ||| c.origin <<< 26 ||| b2n c.pin <<< 31), word c.addr, word (c.addr >>> 32), word c.learnTs, c.cfg4, c.cfg5]

/-- The records of the registered nodes, in ascending node index. -/
def State.nodeRecords (s : State) : List (Nat × List Word) :=
  (s.ctx.filter fun x => x.2.valid).map fun x => (x.1, nodeRecord x.1 x.2)

/-- The sections up to PREFIX, and those after it. -/
def State.keepSections (s : State) (v : Nat) : List Word × List Word :=
  let fl := s.flowRecords v
  let pf := s.pfxRecords v
  (keepSection 0x0101 s.timeBody ++ keepSection 0x0102 (s.versionBody v)
     ++ keepSection 0x0103 (word fl.length :: fl.flatten)
     ++ keepSection 0x0104 (word (s.get .CLS_PFX_CFG_WIDE ||| pf.length <<< 16) :: pf.flatten),
   keepSection 0x0105 (s.policerBody v) ++ keepSection 0x0106 s.schedulerBody ++ keepSection 0x0107 s.gatesBody
     ++ keepSection 0x0108 (word s.nodeRecords.length :: (s.nodeRecords.map (·.2)).flatten))

/-- The whole image, and the end of its PREFIX section (R404, R405). -/
def State.keepImage (s : State) : List Byte × Nat :=
  let v := s.versionA
  let slot := s.get .KEEP_CFG_KEY_SLOT
  let x := s.keepSections v
  let len := 64 + 4 * (x.1.length + x.2.length)
  let head : List Word := [0x504B434F#32, word (0x0100 ||| slot <<< 16), word len, word 8, s.rd .STI_ACTIVE_SERIAL, s.rd .KEEP_SEQ, word v]
  let body := bytesOf x.1 ++ bytesOf x.2
  let crc := leBytes 4 (crc32c (bytesOf head ++ List.replicate 36 0 ++ body))
  let tag := hmac (s.key slot) (bytesOf head ++ crc ++ List.replicate 32 0 ++ body)
  (bytesOf head ++ crc ++ tag ++ body, 64 + 4 * x.1.length)

/-! Production (R406 to R408). -/

def keepIdle : Nat := 0
def keepProducing : Nat := 1
def keepLoading : Nat := 2
def keepFetching : Nat := 3

/-- STATE of the Keep image block. -/
def State.keepState (s : State) : Nat := s.get .KEEP_STATUS_STATE

/-- A bit of KEEP_STATUS is set, which raises the Keep image source (R424). -/
def State.keepEvent (s : State) (f : Fld) : State := (s.put f 0 1).pulse 1464

/-- A KEEP record (R426). -/
def State.keepRecord (s : State) (event seq : Nat) : State :=
  s.record 0x10 0 [word (event <<< 28 ||| s.get .KEEP_STATUS_ERR), word seq]

/-- IMAGE_SEQ of the image in work: a load's own, once its header's word has arrived, else the producer's (R404, R426; log 35). -/
def State.keepSeq (s : State) : Nat :=
  if s.keepState = keepLoading ∧ 24 ≤ s.keep.loaded.length then leAt s.keep.loaded 20 4 else s.get .KEEP_SEQ_SEQ

/-- A production or load fails with a code (R408, R411). -/
def State.keepFail (s : State) (code : Nat) : State :=
  let s1 := { (s.put .KEEP_STATUS_STATE 0 keepIdle).put .KEEP_STATUS_ERR 0 code with keep := {} }
  (s1.keepEvent .KEEP_STATUS_FAIL).keepRecord 3 s.keepSeq

/-- An injected error is armed for the staging region's next `n` words (R376): the production's or load's writes meet it. -/
def State.stagingWrite (s : State) (n : Nat) : State :=
  let a := s.get .FLT_INJ_ADDR_ADDR
  s.memWrite 9 (if s.flag .FLT_INJ_DATA_ADDR_EN && decide (a < n) then a else 0)

/-- An uncorrectable error lies in the staging region. -/
def State.stagingBad (s : State) : Bool := s.injected.any fun x => x.mem == 9 && x.double

/-- The error in the staging region is reported (R380). -/
def State.stagingFault (s : State) : State :=
  match s.injected.find? fun x => x.mem == 9 && x.double with
  | some x => s.memFault 9 x.addr
  | none => s

/-- Production starts: the image is formed, and its version is held (R406, R407). -/
def State.keepStart (s : State) (session : Option Nat) : State :=
  let x := s.keepImage
  let s1 := (s.put .KEEP_STATUS_STATE 0 (if session.isSome then keepFetching else keepProducing)).put .KEEP_STATUS_ERR 0 0
  { s1 with keep := { image := x.1, prefixEnd := x.2, pin := some s.versionA, session := session } }.stagingWrite (x.1.length / 4)

/-- GO (R406). -/
def State.keepGo (s : State) : State := if s.keepState = keepIdle then s.keepStart none else s.keepEvent .KEEP_STATUS_GO_REJ

/-- KEEP_GO. -/
def execKeepGo (s : State) : Host.Outcome State Fault Refusal := runSoft 17 State.keepGo s

/-- The production period expires (R406). -/
def State.keepPeriod (s : State) : State :=
  if s.get .KEEP_CFG_PERIOD = 0 then s
  else if s.keepState = keepIdle then s.keepStart none
  else s.inc .KEEP_SKIPPED_COUNT

/-- KEEP_PERIOD. -/
def execKeepPeriod (s : State) : Host.Outcome State Fault Refusal := run 17 State.keepPeriod s

/-- The image has been taken whole: production ends (R408). -/
def State.keepEnd (s : State) : State :=
  if !(s.keepState == keepProducing || s.keepState == keepFetching) || s.keep.pos != s.keep.image.length then s
  else if s.stagingBad then s.stagingFault.keepFail 0x0C
  else
    let seq := s.get .KEEP_SEQ_SEQ
    let s1 := { ((s.put .KEEP_STATUS_STATE 0 keepIdle).put .KEEP_LEN_LEN 0 s.keep.image.length).put .KEEP_SEQ_SEQ 0 (seq + 1) with keep := {} }
    ((s1.inc .KEEP_PRODUCED_COUNT).keepEvent .KEEP_STATUS_DONE).keepRecord 1 seq

/-- KEEP_PRODUCTION_END. -/
def execKeepProductionEnd (s : State) : Host.Outcome State Fault Refusal := run 17 (fun s => s.engine 3 State.keepEnd) s

/-- KEEP_OUT_TIMEOUT (R408). -/
def execKeepOutTimeout (s : State) : Host.Outcome State Fault Refusal :=
  run 17 (fun s => if s.keepState = keepProducing ∨ s.keepState = keepFetching then s.keepFail 0x0E else s) s

/-- ABORT (R408, R411). -/
def State.keepStop (s : State) : State := if s.keepState = keepIdle then s else s.keepFail 0x0D

/-- KEEP_ABORT. -/
def execKeepAbort (s : State) : Host.Outcome State Fault Refusal := runSoft 17 State.keepStop s

/-! Loading (R409 to R411). -/

/-- Whether a load may start (R409). -/
def State.loadAllowed (s : State) : Bool :=
  let c := s.get .KEEP_CFG_IN_CH
  s.committed && s.keepState == keepIdle
    && (List.range 16).all (fun t => !s.flag .MAC_CFG_EN (1024 + t)) && (List.range 1024).all (fun n => !s.flag .SEG_CFG_EN n)
    && !(s.ctx.any fun x => x.2.valid)
    && s.get .CLS_COMMIT_STATUS_STATE == clsIdle && s.get .CLS_COMMIT_STATUS_DRAIN == 0
    && (List.range 1040).all (fun n => !s.flag .TPG_GCL_CFG_EN n)
    && s.flag .DMA_CH_CFG_EN c && s.chMode c == 6

/-- A load is refused: it fails at its first point; an image in production goes on (R409, R411). -/
def State.loadRefused (s : State) : State :=
  ((s.put .KEEP_STATUS_ERR 0 0x0B).keepEvent .KEEP_STATUS_FAIL).keepRecord 3 (s.get .KEEP_SEQ_SEQ)

/-- LOAD (R409). A later write of a key slot does not affect it (R403). -/
def State.keepLoad (s : State) : State :=
  if s.loadAllowed then { (s.put .KEEP_STATUS_STATE 0 keepLoading).put .KEEP_STATUS_ERR 0 0 with
      keep := { keys := s.keys, written := s.get .SES_KEY_STATUS_WRITTEN } }
  else s.loadRefused

/-- KEEP_LOAD. -/
def execKeepLoad (s : State) : Host.Outcome State Fault Refusal := runSoft 17 State.keepLoad s

/-- Key slot `k` as it stood when the load began. -/
def Keep.key (x : Keep) (k : Nat) : List Byte := tget (List.replicate 32 0) x.keys k

/-- The first failing check of an image's header; 0 for none (R404, R410). `written`: the key slots that have been written. -/
def State.keepHeaderFail (s : State) (written : Nat) (b : List Byte) : Nat :=
  let len := leAt b 8 4
  if beAt b 0 4 ≠ 0x4F434B50 ∨ 8 ≤ beAt b 6 1 ∨ beAt b 7 1 ≠ 0 ∨ beAt b 14 2 ≠ 0 ∨ beAt b 26 2 ≠ 0 ∨ leAt b 12 2 ≠ 8 then 0x01
  else if beAt b 5 1 ≠ 1 then 0x02
  else if len % 4 ≠ 0 ∨ len < 64 ∨ 67108864 < len then 0x03
  else if !written.testBit (beAt b 6 1) then 0x04
  else if leAt b 16 4 ≠ (s.rd .STI_ACTIVE_SERIAL).toNat then 0x05
  else 0

/-- The 64 header bytes are checked (R410). -/
def State.keepHeader (s : State) : State :=
  if s.keepState ≠ keepLoading ∨ s.keep.checked ∨ s.keep.loaded.length < 64 then s
  else
    let code := s.keepHeaderFail s.keep.written s.keep.loaded
    if code ≠ 0 then s.keepFail code
    else { s with keep := { s.keep with checked := true } }.stagingWrite (leAt s.keep.loaded 8 4 / 4)

/-- KEEP_HEADER_CHECK. -/
def execKeepHeaderCheck (s : State) : Host.Outcome State Fault Refusal := run 17 State.keepHeader s

/-- What a step of a load gives: the state, or the code it fails with and the state in which it failed. -/
abbrev LoadStep := Except (Nat × State) State

/-- The code of a staged command's result: STAGE_FAILED for a failed staging, BAD_SECTION for an entry refused (R410, R411). -/
def stageStep (r : TaeOut × State) : LoadStep :=
  if r.1.1 = 0 then .ok r.2 else .error (if r.1.1 = 5 then 0x09 else 0x06, r.2)

/-- Entries of a FLOW body, one by one (R192, R405). -/
def flowEntries : Nat → List Word → Option (List (List Word))
  | 0, l => if l = [] then some [] else none
  | k + 1, l =>
    let n := if wbit (nth l 5 0) 28 then 16 else 8
    if l.length < n then none else (flowEntries k (l.drop n)).map (l.take n :: ·)

/-- Records of `n` words. -/
def fixedEntries (n : Nat) : Nat → List Word → Option (List (List Word))
  | 0, l => if l = [] then some [] else none
  | k + 1, l => if l.length < n then none else (fixedEntries n k (l.drop n)).map (l.take n :: ·)

/-- A GATES record names a port and a list that lie in the machine (R282, R405). -/
def gateRecordOk (d : List Word) : Bool :=
  decide ((nth d 0 0).toNat < 1040) && decide (wbits (nth d 2 0) 12 0 ≤ 4096) && decide (wbits (nth d 2 0) 31 16 + wbits (nth d 2 0) 12 0 ≤ 65536)

/-- GATES records: each seven words and two for each entry of its list. -/
def gateRecords : Nat → List Word → Option (List (List Word))
  | 0, l => if l = [] then some [] else none
  | k + 1, l =>
    let n := 7 + 2 * wbits (nth l 2 0) 12 0
    if decide (l.length < n) || !gateRecordOk l then none else (gateRecords k (l.drop n)).map (l.take n :: ·)

/-- A list folded with steps that may fail. -/
def loadAll {α : Type} (f : State → α → LoadStep) : State → List α → LoadStep
  | s, [] => .ok s
  | s, x :: t => match f s x with
    | .ok s1 => loadAll f s1 t
    | .error c => .error c

/-- Staged adds need a staging data layout with a flow entry's fields in place (R192): the record is that layout. -/
def State.loadFlow (s : State) (e : List Word) : LoadStep := stageStep (s.stageAddFlow e)

/-- A prefix record staged (R195). -/
def State.loadPfx (s : State) (e : List Word) : LoadStep := stageStep (s.stageAddPfx e)

/-- A NODES record written to its context (R410). -/
def State.loadNode (s : State) (d : List Word) : LoadStep :=
  let i := wbits (nth d 0 0) 17 0
  if s.nregBadIndex i then .error (0x0A, s)
  else
    let s1 := s.register i (dataAddr d) (wbits (nth d 0 0) 27 26) s.versionA (wbit (nth d 0 0) 31) (cfg4Of d) (cfg5Of d)
    .ok (s1.setCtx i { s1.ctxOf i with learnTs := (nth d 3 0).toNat })

/-- A GATES record applied: the admin registers and the gate entries (R405, R410). -/
def State.loadGate (s : State) (d : List Word) : State :=
  let n := (nth d 0 0).toNat
  let base := wbits (nth d 2 0) 31 16
  let s1 := (((((s.store .TPG_GCL_CFG n (nth d 1 0 &&& 0x5800FFFF#32)).store .TPG_GCL_ADMIN_LIST n (nth d 2 0)).store
    .TPG_GCL_ADMIN_CYCLE n (nth d 3 0)).store .TPG_GCL_ADMIN_BASE_NS n (nth d 4 0)).store .TPG_GCL_ADMIN_BASE_SEC_LO n (nth d 5 0)).store
    .TPG_GCL_ADMIN_BASE_SEC_HI n (nth d 6 0)
  s1.each (List.range ((d.length - 7) / 2)) fun s j =>
    { s with gmem := tput (0, 0) s.gmem (base + j) (wbits (nth d (7 + 2 * j) 0) 7 0, (nth d (8 + 2 * j) 0).toNat) }

/-- The sections of a Keep image, if their framing and lengths are right (R71, R405). -/
structure KeepBody where
  time : List Word
  version : List Word
  flow : List (List Word)
  pfxWide : Bool
  pfx : List (List Word)
  policers : List Word
  profiles : List (List Word)
  sched : List Word
  gates : List (List Word)
  nodes : List (List Word)

/-- The bodies of an image's sections; none where the framing or a body breaks R405. -/
def keepBody (b : List Byte) : Option KeepBody :=
  let ws := wordsOf b
  let r := readSections ws (leAt b 8 4) 8 64
  if r.2.isSome || r.1.map (·.typ) != [0x101, 0x102, 0x103, 0x104, 0x105, 0x106, 0x107, 0x108] then none
  else
    let body := bodyOf ws r.1
    let time := body 0x101
    let version := body 0x102
    let pol := body 0x105
    let sched := body 0x106
    if time.length ≠ 8 ∨ version.length ≠ 2161 ∨ pol.length < 1046 ∨ sched.length ≠ 26001 then none
    else do
      let flow ← flowEntries (nth (body 0x103) 0 0).toNat ((body 0x103).drop 1)
      let pfx ← fixedEntries 23 (wbits (nth (body 0x104) 0 0) 30 16) ((body 0x104).drop 1)
      let prof ← fixedEntries 5 (nth pol 1045 0).toNat (pol.drop 1046)
      let gates ← gateRecords (nth (body 0x107) 0 0).toNat ((body 0x107).drop 1)
      let nodes ← fixedEntries 6 (nth (body 0x108) 0 0).toNat ((body 0x108).drop 1)
      some { time := time, version := version, flow := flow, pfxWide := wbit (nth (body 0x104) 0 0) 0, pfx := pfx,
             policers := pol.take 1045, profiles := prof, sched := sched, gates := gates, nodes := nodes }

/-- The staged part of a load: VERSION, FLOW, PREFIX, profiles; then NODES (R410). -/
def State.loadStaged (s : State) (k : KeepBody) : LoadStep := do
  let s1 ← loadAll (fun s n => stageStep (s.stageWrite 3 n (slice k.version (1 + 2 * n) 2))) s (List.range 1040)
  let s2 ← loadAll (fun s i => stageStep (s.stageWrite 4 i (slice k.version (2081 + 5 * i) 5))) s1 (List.range 16)
  let s3 ← loadAll State.loadFlow s2 k.flow
  let s4 ← loadAll State.loadPfx s3 k.pfx
  let s5 ← loadAll (fun s d => if 65535 < (nth d 0 0).toNat then .error (0x06, s) else stageStep (s.stageWrite 5 (nth d 0 0).toNat (d.drop 1))) s4
    k.profiles
  loadAll State.loadNode s5 k.nodes

/-- The held part of a load: POLICERS, SCHEDULER and GATES (R410). -/
def State.loadHeld (s : State) (k : KeepBody) : State :=
  let s1 := s.store .POL_RESET_MODE 0 (nth k.policers 0 0)
  let s2 := s1.each (List.range 4) fun s j => s.store .POL_DSCP_MAP j (nth k.policers (1 + j) 0)
  let s3 := s2.each (List.range 1040) fun s n => s.polPortCfgWrite n (nth k.policers (5 + n) 0)
  let s4 := s3.store .SCH_GLB_CFG 0 (nth k.sched 0 0)
  let s5 := s4.each (List.range 1040) fun s n => s.store .SCH_PORT_CFG n (nth k.sched (1 + n) 0)
  let s6 := s5.each (List.range 8320) fun s i =>
    ((s.shaperWrite .SCH_CLASS_CFG i (nth k.sched (1041 + 3 * i) 0)).shaperWrite .SCH_CBS_SLOPE i
      (nth k.sched (1042 + 3 * i) 0)).shaperWrite .SCH_CBS_HI i (nth k.sched (1043 + 3 * i) 0)
  s6.each k.gates State.loadGate

/-- A load or a mirror set that failed in `t` is undone: what it staged is discarded, and every context is as before, with no removal
event (R411, R412). -/
def State.loadUndo (s t : State) : State :=
  let staged := t.get .CLS_COMMIT_STATUS_STATE == clsStaging && t.get .CLS_JOURNAL_COUNT != s.get .CLS_JOURNAL_COUNT
  { t.when staged State.clsAbort with ctx := s.ctx, nodeCnt := s.nodeCnt, oldClass := s.oldClass }

/-- A whole image applied, its TAG keyed by `key`: the new state, or the failure (R410, R411). -/
def State.loadImage (s : State) (key : List Byte) (b : List Byte) : LoadStep :=
  match keepBody b with
  | none => .error (0x06, s)
  | some k =>
    if k.pfxWide != s.flag .CLS_PFX_CFG_WIDE then .error (0x06, s)
    else if s.stageLocked then .error (0x09, s)
    else match s.loadStaged k with
      | .error e => .error e
      | .ok s1 =>
        if crc32c (splice b 28 (List.replicate 36 0)) ≠ leAt b 28 4 then .error (0x07, s1)
        else if hmac key (splice b 32 (List.replicate 32 0)) ≠ slice b 32 32 then .error (0x08, s1)
        else
          let t := wordsNat (slice k.time 0 2) * 1000000000 + (nth k.time 2 0).toNat
          let s2 := ((s1.loadHeld k).clsCommit).clsSwitch
          .ok ((s2.put .KEEP_LD_TS_LO_LD_TS_LO 0 t).put .KEEP_LD_TS_HI_LD_TS_HI 0 (t >>> 32))

/-- The image has arrived whole: it is checked and applied (R410, R411). -/
def State.keepApply (s : State) : State :=
  let len := leAt s.keep.loaded 8 4
  if s.keepState ≠ keepLoading ∨ !s.keep.checked ∨ s.keep.loaded.length < len then s
  else if s.stagingBad then s.stagingFault.keepFail 0x0C
  else
    let b := s.keep.loaded.take len
    match s.loadImage (s.keep.key (beAt b 6 1)) b with
    | .error e => (s.loadUndo e.2).keepFail e.1
    | .ok s1 =>
      let s2 := { (s1.put .KEEP_STATUS_STATE 0 keepIdle).put .KEEP_LEN_LEN 0 len with keep := {} }
      (s2.keepEvent .KEEP_STATUS_DONE).keepRecord 2 (leAt b 20 4)

/-- KEEP_LOAD_APPLY. -/
def execKeepLoadApply (s : State) : Host.Outcome State Fault Refusal := run 17 State.keepApply s

/-- KEEP_CTRL written (R424): GO, LOAD, then ABORT. -/
def State.keepCtrl (s : State) (w : Word) : State :=
  ((s.when (wbit w 31) State.keepGo).when (wbit w 30) State.keepLoad).when (wbit w 29) State.keepStop

end Sys2Proof.Machine
end

