-- ==== Sys2Proof/Machine/Mirror.lean ====
section
/-! DEFINITION. Mirror mode (R412 to R414). What the manual leaves open of it is in log 22. -/
namespace Sys2Proof.Machine

def mirOff : Nat := 0
def mirResync : Nat := 1
def mirRunning : Nat := 2
def mirLost : Nat := 3
def mirRefused : Nat := 4

/-- STATE of mirror mode. -/
def State.mirState (s : State) : Nat := s.get .KEEP_MIR_STATUS_STATE

/-- STATE set; a change sets MIR_EVT (R424). -/
def State.mirEnter (s : State) (st : Nat) : State :=
  if s.mirState = st then s else (s.put .KEEP_MIR_STATUS_STATE 0 st).keepEvent .KEEP_STATUS_MIR_EVT

/-- ROLE of this partner: STANDBY. -/
def State.standby (s : State) : Bool := s.flag .KEEP_MIR_CFG_ROLE

/-- The mirror link (R75, R412). -/
def State.mirTrunk (s : State) : Option Nat := ((List.range 16).find? fun t => s.role (1024 + t) == 2).map (1024 + ·)

/-! Frames (R413). -/

/-- A mirror frame goes out on the mirror link. Its two addresses are not given: free bytes (log 1). -/
def State.mirSend (s : State) (msg cycle : Nat) (body : List Byte) : State :=
  match s.mirTrunk with
  | none => s
  | some m =>
    let d := s.freeBytes 12 ++ beBytes 2 (s.get .SES_CFG_ETYPE) ++ [0x4D, 1, byte msg, 0] ++ beBytes 2 body.length ++ [0, 0]
      ++ beBytes 4 cycle ++ body
    s.used.sendFrame m d

/-- Byte strings cut into groups of at most `n` bytes, no string across two groups. -/
def packUp (n : Nat) (l : List (List Byte)) : List (List Byte) :=
  (l.foldl (fun (a : List (List Byte)) x =>
    match a with
    | [] => [x]
    | y :: t => if y.length + x.length ≤ n then (y ++ x) :: t else x :: y :: t) []).reverse

/-- HELLO: ROLE, KIND and the highest field port served (R413). -/
def State.mirHello (s : State) : State :=
  let top := (((List.range 1024).filter s.present').getLast?).getD 0
  s.mirSend 0x07 (s.get .KEEP_MIR_CYCLE_MIR_CYCLE) ([byte (b2n s.standby), byte (s.get .KEEP_MIR_CFG_KIND)] ++ beBytes 2 top)

/-! Sets (R412). -/

/-- NODE_DELTA records from the node records `old` to those of now (log 22). -/
def nodeDelta (old new : List (Nat × List Word)) : List (List Word) :=
  ((new.filter fun x => tfind old x.1 != some x.2).map fun x => 1 :: x.2)
    ++ (old.filter fun x => (tfind new x.1).isNone).map fun x => 2 :: x.2

/-- The active partner's full image, sent as RESYNC in pieces of 1,400 bytes (R414). -/
def State.mirSendResync (s : State) : State :=
  let b := s.keepImage.1
  let cycle := s.get .KEEP_MIR_CYCLE_MIR_CYCLE
  let s1 := s.each (List.range (ceilDiv b.length 1400)) fun s k => s.mirSend 0x06 cycle (beBytes 4 (1400 * k) ++ slice b (1400 * k) 1400)
  let s2 := { (s1.inc .KEEP_MIR_RESYNCS_COUNT).put .KEEP_MIR_STATUS_UNACKED 0 0 with mirror := { nodes := s.nodeRecords } }
  (s2.mirEnter mirRunning).keepRecord 5 (s.get .KEEP_SEQ_SEQ)

/-- A delta set and its CYCLE_END (R412, R413). -/
def State.mirSendSet (s : State) (nodes items : List (List Word)) : State :=
  let cycle := s.get .KEEP_MIR_CYCLE_MIR_CYCLE + 1
  let frames := (packUp 1400 (nodes.map bytesOf)).map (fun b => ((1 : Nat), b)) ++ (packUp 1400 (items.map bytesOf)).map (fun b => (2, b))
    ++ [(3, bytesOf s.timeBody)]
  let s1 := s.each frames fun s x => s.mirSend x.1 cycle x.2
  let s2 := s1.mirSend 0x04 cycle (beBytes 4 frames.length ++ beBytes 4 (crc32c (frames.flatMap (·.2))))
  { (s2.put .KEEP_MIR_CYCLE_MIR_CYCLE 0 cycle).put .KEEP_MIR_STATUS_UNACKED 0 (s.get .KEEP_MIR_STATUS_UNACKED + 1) with
    mirror := { s2.mirror with nodes := s.nodeRecords, items := [] } }

/-- A cycle without an ACK or a set (R414): counted, and LOST after MISS_LIMIT of them. -/
def State.mirMiss (s : State) : State :=
  let s1 := { s.inc .KEEP_MIR_MISSES_COUNT with mirror := { s.mirror with missed := s.mirror.missed + 1 } }
  if s1.get .KEEP_MIR_CFG_MISS_LIMIT ≤ s1.mirror.missed then (s1.mirEnter mirLost).keepRecord 4 (s.get .KEEP_SEQ_SEQ) else s1

/-- Whether the cycle that ends was missed. -/
def State.mirMissed (s : State) : Bool := !s.mirror.heard && (s.standby || s.get .KEEP_MIR_STATUS_UNACKED != 0)

/-- The end of a mirror cycle (R412, R414). -/
def State.mirCycle (s : State) : State :=
  if s.mirState ≠ mirRunning then s
  else
    let s1 := if s.mirMissed then s.mirMiss else { s with mirror := { s.mirror with missed := 0 } }
    let s2 := { s1 with mirror := { s1.mirror with heard := false } }
    if s2.standby || s2.mirState != mirRunning then s2
    else
      let nodes := nodeDelta s2.mirror.nodes s2.nodeRecords
      let items := s2.mirror.items
      if 8 ≤ s2.get .KEEP_MIR_STATUS_UNACKED ∨ 65536 < nodes.length ∨ 65536 < items.length then s2.mirSendResync
      else s2.mirSendSet nodes items

/-- MIRROR_CYCLE. -/
def execMirrorCycle (s : State) : Host.Outcome State Fault Refusal := run 17 State.mirCycle s

/-! Receiving (R412 to R414). -/

/-- LEN of a mirror frame. -/
def mirLen (d : List Byte) : Nat := beAt d 18 2

/-- CYCLE of a mirror frame. -/
def mirCycleOf (d : List Byte) : Nat := beAt d 22 4

/-- BODY of a mirror frame. -/
def mirBody (d : List Byte) : List Byte := slice d 26 (mirLen d)

/-- A well-formed mirror frame of version 1. -/
def mirOk (d : List Byte) : Bool :=
  beAt d 14 1 == 0x4D && beAt d 15 1 == 1 && beAt d 17 1 == 0 && beAt d 20 2 == 0 && decide (26 + mirLen d ≤ d.length)

/-- The standby takes a set of cycle `c` (R412): from the cycle after the RESYNC that it loaded on (R414). -/
def State.mirTakes (s : State) (c : Nat) : Bool := s.standby && s.mirState == mirRunning && decide (s.mirror.since < c)

/-- A frame of a set is held (R412). -/
def State.mirHold (s : State) (d : List Byte) : State :=
  if !s.mirTakes (mirCycleOf d) then s
  else
    let old := if s.mirror.heldCycle = mirCycleOf d then s.mirror.held else []
    { s with mirror := { s.mirror with held := old ++ [(beAt d 16 1, mirBody d)], heldCycle := mirCycleOf d } }

/-- Journal items of a body. -/
def journalItems : Nat → List Word → List (List Word)
  | 0, _ => []
  | _ + 1, [] => []
  | k + 1, w :: t =>
    let target := wbits (nth t 0 0) 27 24
    let n := 1 + (if target = 1 then (if wbit (nth t 6 0) 28 then 16 else 8) else if target = 2 then 23 else clsWords target)
    (w :: t.take n) :: journalItems k (t.drop n)

/-- A journal item staged (R412). -/
def State.mirJournal (s : State) (x : List Word) : LoadStep :=
  let target := wbits (nth x 1 0) 27 24
  let e := x.drop 2
  match (nth x 0 0).toNat, target with
  | 1, 1 => stageStep (s.stageAddFlow e)
  | 1, 2 => stageStep (s.stageAddPfx e)
  | 2, 1 => stageStep (s.stageDelFlow e)
  | 2, 2 => stageStep (s.stageDelPfx e)
  | 3, 3 | 3, 4 | 3, 5 => stageStep (s.stageWrite target (wbits (nth x 1 0) 19 0) e)
  | _, _ => .error (0x06, s)

/-- A node leaves the standby, without a removal event. -/
def State.dropNode (s : State) (i : Nat) : State := (s.writeCtx i {}).clearNode i

/-- A NODE_DELTA record applied. -/
def State.mirNode (s : State) (x : List Word) : LoadStep :=
  match (nth x 0 0).toNat with
  | 1 => s.loadNode (x.drop 1)
  | 2 => .ok (s.dropNode (wbits (nth x 1 0) 17 0))
  | _ => .error (0x06, s)

/-- The held set applied as a whole, or not at all (R412). -/
def State.mirApply (s : State) : LoadStep := do
  let body := fun (m : Nat) => (s.mirror.held.filter fun x => x.1 == m).flatMap fun x => wordsOf x.2
  let nodes := body 1
  let items := journalItems (body 2).length (body 2)
  let s1 ← loadAll State.mirNode s ((List.range (nodes.length / 7)).map fun i => slice nodes (7 * i) 7)
  if items = [] then .ok s1
  else if s.stageLocked || s.get .CLS_COMMIT_STATUS_STATE != clsIdle then .error (0x09, s)
  else do
    let s2 ← loadAll State.mirJournal s1 items
    .ok (s2.clsCommit).clsSwitch

/-- CYCLE_END at the standby (R412). -/
def State.mirSetEnd (s : State) (d : List Byte) : State :=
  if !s.mirTakes (mirCycleOf d) then s
  else
    let b := mirBody d
    let cycle := mirCycleOf d
    let held := if s.mirror.heldCycle = cycle then s.mirror.held else []
    let s0 := { s with mirror := { s.mirror with held := held } }
    let drop := fun (s : State) => { s with mirror := { s.mirror with held := [] } }
    if beAt b 0 4 ≠ held.length ∨ beAt b 4 4 ≠ crc32c (held.flatMap (·.2)) then drop s
    else match s0.mirApply with
      | .error e => drop (s.loadUndo e.2)
      | .ok s1 =>
        let s2 := (drop s1).put .KEEP_MIR_CYCLE_MIR_CYCLE 0 cycle
        { s2 with mirror := { s2.mirror with heard := true } }.mirSend 0x05 cycle (beBytes 4 cycle)

/-- An ACK at the active partner: the sets up to its cycle are acknowledged (R412, R414). -/
def State.mirAcked (s : State) (d : List Byte) : State :=
  let ago := s.get .KEEP_MIR_CYCLE_MIR_CYCLE - beAt (mirBody d) 0 4
  if s.standby || s.mirState != mirRunning || decide (s.get .KEEP_MIR_STATUS_UNACKED ≤ ago)
      || decide (s.get .KEEP_MIR_CYCLE_MIR_CYCLE < beAt (mirBody d) 0 4) then s
  else { s.put .KEEP_MIR_STATUS_UNACKED 0 ago with mirror := { s.mirror with heard := true } }

/-- The standby without the content that a RESYNC replaces: its nodes go, and its entries are deleted in the staging version. -/
def State.mirClear (s : State) : State :=
  let s1 := s.each ((s.ctx.filter fun x => x.2.valid).map (·.1)) State.dropNode
  let s2 := s1.each (s1.flowRecords s1.versionA) fun s e => (s.stageDelFlow e).2
  s2.each (s2.pfxRecords s2.versionA) fun s e => (s.stageDelPfx e).2

/-- The RESYNC image of cycle `cycle` has arrived whole: it is loaded under R410 and R411 (R414), with the keys of its start (R403). -/
def State.mirLoad (s : State) (cycle : Nat) (b : List Byte) : State :=
  let s0 := { s with mirror := { s.mirror with resync := [] } }
  let fail := fun (s : State) (c : Nat) => ((s.put .KEEP_STATUS_ERR 0 c).keepEvent .KEEP_STATUS_FAIL).keepRecord 3 (leAt b 20 4)
  let code := s0.keepHeaderFail s.mirror.written b
  if code ≠ 0 then fail s0 code
  else if s0.get .CLS_COMMIT_STATUS_STATE ≠ clsIdle then fail s0 0x0B
  else match s0.mirClear.loadImage (tget (List.replicate 32 0) s.mirror.keys (beAt b 6 1)) b with
    | .error e => fail (s0.loadUndo e.2) e.1
    | .ok s1 =>
      let s2 := ((s1.put .KEEP_STATUS_ERR 0 0).inc .KEEP_MIR_RESYNCS_COUNT).keepRecord 5 (leAt b 20 4)
      { s2 with mirror := { heard := true, since := cycle } }.mirEnter mirRunning

/-- A piece of a RESYNC at the standby (R414). -/
def State.mirPiece (s : State) (d : List Byte) : State :=
  let b := mirBody d
  let off := beAt b 0 4
  if !s.standby || s.mirState == mirOff || s.mirState == mirRefused then s
  else
    let old := if off = 0 then [] else s.mirror.resync
    if old.length ≠ off then s
    else
      let all := old ++ b.drop 4
      let s0 := if off = 0 then { s with mirror := { s.mirror with keys := s.keys, written := s.get .SES_KEY_STATUS_WRITTEN } } else s
      if 64 ≤ all.length ∧ leAt all 8 4 ≤ all.length then s0.mirLoad (mirCycleOf d) (all.take (max 64 (leAt all 8 4)))
      else { s0 with mirror := { s0.mirror with resync := all } }

/-- A partner's HELLO (R414): the active partner sends its image while it is not running; a standby that is not running answers. -/
def State.mirHeard (s : State) : State :=
  if s.mirState = mirResync ∨ s.mirState = mirLost then (if s.standby then s.mirHello else s.mirSendResync) else s

/-- A mirror frame acts by its message (R413). -/
def State.mirFrame (s : State) (d : List Byte) : State :=
  if !s.flag .KEEP_MIR_CFG_EN || !mirOk d then s
  else match beAt d 16 1 with
    | 0x01 | 0x02 | 0x03 => s.mirHold d
    | 0x04 => s.mirSetEnd d
    | 0x05 => s.mirAcked d
    | 0x06 => s.mirPiece d
    | 0x07 => s.mirHeard
    | _ => s

/-- A mirror frame received on trunk `t` with one of the messages `l`, counted by the MAC. -/
def State.mirRx (s : State) (t : Nat) (l : List Nat) (d : List Byte) : State :=
  let m := 1024 + t
  if s.role m == 2 && s.enabled m && s.link m && beAt d 12 2 == s.get .SES_CFG_ETYPE && l.contains (beAt d 16 1) then
    ((s.add64 .MAC_RX_FRAMES_LO .MAC_RX_FRAMES_HI m 1).add64 .MAC_RX_OCTETS_LO .MAC_RX_OCTETS_HI m (max 60 d.length + 4)).mirFrame d
  else s

/-- MIRROR_CYCLE_END. -/
def execMirrorCycleEnd (t : Nat) (frame : List Byte) (s : State) : Host.Outcome State Fault Refusal :=
  runOn 16 t 17 (fun s => s.mirRx t [4] frame) s
/-- MIRROR_ACK. -/
def execMirrorAck (t : Nat) (frame : List Byte) (s : State) : Host.Outcome State Fault Refusal :=
  runOn 16 t 17 (fun s => s.mirRx t [5] frame) s
/-- MIRROR_RESYNC. -/
def execMirrorResync (t : Nat) (frame : List Byte) (s : State) : Host.Outcome State Fault Refusal :=
  runOn 16 t 17 (fun s => s.mirRx t [6] frame) s
/-- MIRROR_HELLO. -/
def execMirrorHello (t : Nat) (frame : List Byte) (s : State) : Host.Outcome State Fault Refusal :=
  runOn 16 t 17 (fun s => s.mirRx t [7] frame) s
/-- MIRROR_DELTA_RECEIVE. -/
def execMirrorDeltaReceive (t : Nat) (frame : List Byte) (s : State) : Host.Outcome State Fault Refusal :=
  runOn 16 t 17 (fun s => s.mirRx t [1, 2, 3] frame) s

/-! Control (R414, R424). -/

/-- Mirror mode starts: refused with an Irgan partner while a field port above F255 is present, else RESYNC and a HELLO (R414). -/
def State.mirStart (s : State) : State :=
  let s1 := { s.put .KEEP_MIR_STATUS_UNACKED 0 0 with mirror := {} }
  if s.flag .KEEP_MIR_CFG_KIND && (List.range 1024).any (fun n => decide (255 < n) && s.present' n) then s1.mirEnter mirRefused
  else (s1.mirEnter mirResync).mirHello

/-- Mirror mode stops (R414). -/
def State.mirStop (s : State) : State := { s.put .KEEP_MIR_STATUS_UNACKED 0 0 with mirror := {} }.mirEnter mirOff

/-- KEEP_MIR_CFG written (R414, R424). -/
def State.mirCfg (s : State) (w : Word) : State :=
  let was := s.flag .KEEP_MIR_CFG_EN
  let miss := Fld.KEEP_MIR_CFG_MISS_LIMIT.of w
  let cyc := Fld.KEEP_MIR_CFG_CYCLE.of w
  let s1 := (((s.putFlag .KEEP_MIR_CFG_EN 0 (wbit w 31)).putFlag .KEEP_MIR_CFG_ROLE 0 (wbit w 30)).putFlag .KEEP_MIR_CFG_KIND 0 (wbit w 29))
  let s2 := (s1.when (miss != 0) fun s => s.put .KEEP_MIR_CFG_MISS_LIMIT 0 miss).when (cyc != 0) fun s => s.put .KEEP_MIR_CFG_CYCLE 0 cyc
  match was, wbit w 31 with
  | false, true => s2.mirStart
  | true, false => s2.mirStop
  | _, _ => s2

/-- MIRROR_ENABLE: KEEP_MIR_CFG written with EN 1. -/
def execMirrorEnable (w : Word) (s : State) : Host.Outcome State Fault Refusal :=
  runSoft 17 (fun s => s.mirCfg (w ||| 0x80000000#32)) s

/-- MIRROR_DISABLE: EN written 0. -/
def execMirrorDisable (s : State) : Host.Outcome State Fault Refusal :=
  runSoft 17 (fun s => s.mirCfg (s.rd .KEEP_MIR_CFG &&& 0x7FFFFFFF#32)) s

end Sys2Proof.Machine
end

