-- ==== Sys2Proof/Machine/Session.lean ====
section
/-! DEFINITION. Key slots and management sessions: opening, responses, closing (R402, R403, R415 to R419). -/
namespace Sys2Proof.Machine

def sesFree : Nat := 0
def sesChallenged : Nat := 1
def sesOpened : Nat := 2

/-- A session's data. -/
def State.sesOf (s : State) (i : Nat) : Session := tget {} s.ses i

/-- A session's data set. -/
def State.setSes (s : State) (i : Nat) (x : Session) : State := { s with ses := tput {} s.ses i x }

/-- STATE of a session. -/
def State.sesState (s : State) (i : Nat) : Nat := s.get .SES_SESS_STATE i

/-- The client's address. -/
def State.sesClient (s : State) (i : Nat) : Nat := s.get .SES_SESS_SA_HI_SA_HI i * 2 ^ 32 + s.get .SES_SESS_SA_LO_SA_LO i

/-- The endpoint's address. -/
def State.sesSa (s : State) : Nat := s.get .SES_SA_HI_SA_HI * 2 ^ 32 + s.get .SES_SA_LO_SA_LO

/-- A bit of SES_STATUS is set, which raises the session endpoint source (R425). -/
def State.sesEvent (s : State) (f : Fld) : State := (s.put f 0 1).pulse 1465

/-- A SESSION record (R426). -/
def State.sesRecord (s : State) (event cause i : Nat) : State :=
  let a := s.sesClient i
  s.record 0x11 0 [word (event <<< 28 ||| cause <<< 24 ||| s.get .SES_SESS_SLOT i <<< 8 ||| i), word a, word (a >>> 32)]

/-! Frames (R415). -/

def sesMsg (d : List Byte) : Nat := beAt d 16 1
def sesLen (d : List Byte) : Nat := beAt d 18 2
def sesSid (d : List Byte) : Nat := beAt d 20 2
def sesSeq (d : List Byte) : Nat := beAt d 22 4
def sesBody (d : List Byte) : List Byte := slice d 26 (sesLen d)
def sesFrom (d : List Byte) : Nat := beAt d 6 6

/-- A frame that holds its header and its body (R415). -/
def sesWhole (d : List Byte) : Bool := beAt d 15 1 == 1 && decide (sesLen d ≤ 1408) && decide (26 + sesLen d ≤ d.length)

/-- The bytes of a session message up to its BODY. -/
def State.sesBytes (s : State) (da msg status sid seq : Nat) (body : List Byte) : List Byte :=
  beBytes 6 da ++ beBytes 6 s.sesSa ++ beBytes 2 (s.get .SES_CFG_ETYPE) ++ [0x53, 1, byte msg, byte status]
    ++ beBytes 2 body.length ++ beBytes 2 sid ++ beBytes 4 seq ++ body

/-- A response enters the class queue of SES_TIMERS.CLASS of its trunk, green; a rejected one is counted (R244, R415). -/
def State.sesSend (s : State) (m : Nat) (d : List Byte) : State :=
  let cls := s.get .SES_TIMERS_CLASS
  let cells := cellsFor (d.length + 4)
  if s.freeCells < cells || s.domeHeld then s.inc .SES_RSP_DROP_COUNT
  else
    let h := s.pickHead
    let f : DFrame := { length := d.length + 4, cells := cells, refs := 0, data := d, tagged := hasTag d }
    let s1 := ((s.used.headWrite h).setFrame h f).notePeak
    let r := s1.offer h f (classQueue m cls) 0 0 0 cls
    if r.1 then r.2 else (r.2.freeFrame h).inc .SES_RSP_DROP_COUNT

/-- A response to an open session, with its TAG; it is stored for repetition (R418). -/
def State.sesRespond (s : State) (i msg status : Nat) (body : List Byte) : State :=
  let x := s.sesOf i
  let d := s.sesBytes (s.sesClient i) (msg ||| 0x80) status (s.get .SES_SESS_SID i) x.seq body
  let all := d ++ (hmac x.sk (0x02 :: d)).take 16
  (s.setSes i { x with resp := all, waits := none }).sesSend (1024 + s.get .SES_SESS_TRUNK i) all

/-! Closing (R419). -/

/-- A session is over: its image path is aborted, its fetch abandoned, its record written (R88, R419). -/
def State.sesEnd (s : State) (i cause : Nat) : State :=
  let s1 := s.when (s.stiState != stiIdle && s.sti.owner == some i) fun s => s.stiStop (some i)
  let s2 := s1.when (s1.keepState == keepFetching && s1.keep.session == some i) fun s => s.keepFail 0x0D
  (((s2.sesRecord 2 cause i).put .SES_SESS_STATE i sesFree).setSes i {}).sesEvent .SES_STATUS_CLOSED

/-- A session closes; a command in execution completes first (R419). -/
def State.sesClose (s : State) (i cause : Nat) : State :=
  let x := s.sesOf i
  if s.sesState i ≠ sesOpened then s
  else if x.waits.isSome then s.setSes i { x with closing := x.closing.or (some cause) }
  else s.sesEnd i cause

/-- Every session opened with a slot closes (R403). -/
def State.closeSlot (s : State) (slot : Nat) : State :=
  s.each (List.range 4) fun s i => if s.get .SES_SESS_SLOT i = slot then s.sesClose i 4 else s

/-- SES_IDLE_TIMEOUT. -/
def execSesIdleTimeout (i : Nat) (s : State) : Host.Outcome State Fault Refusal :=
  runOn 4 i 18 (fun s => s.sesClose i 2) s

/-! Key slots (R402, R403). -/

/-- A control write is refused as a whole (R402). -/
def State.keyRefuse (s : State) : State := s.sesEvent .SES_STATUS_KEY_REJ

/-- The slot is locked (R402). -/
def State.keyLocked (s : State) (slot : Nat) : Bool := (s.get .SES_KEY_STATUS_LOCKED).testBit slot

/-- WRITE: the slot takes the eight data words, which return to 0 (R402, R403). -/
def State.keyWrite (s : State) (slot key : Nat) : State :=
  if key ≠ 0x3C ∨ s.keyLocked slot then s.keyRefuse
  else
    let k := (List.range 8).flatMap fun j => leBytes 4 (s.rd .SES_KEY_DATA j).toNat
    let s1 := { s.put .SES_KEY_STATUS_WRITTEN 0 (orBit (s.get .SES_KEY_STATUS_WRITTEN) slot) with keys := tput (List.replicate 32 0) s.keys slot k }
    (s1.each (List.range 8) fun s j => s.wr .SES_KEY_DATA j 0).closeSlot slot

/-- ERASE (R402, R403). -/
def State.keyErase (s : State) (slot key : Nat) : State :=
  if key ≠ 0x3C ∨ s.keyLocked slot then s.keyRefuse
  else
    let s1 := { s.put .SES_KEY_STATUS_WRITTEN 0 (clrBit (s.get .SES_KEY_STATUS_WRITTEN) slot) with
      keys := tput (List.replicate 32 0) s.keys slot (List.replicate 32 0) }
    s1.closeSlot slot

/-- LOCK (R402). -/
def State.keyLock (s : State) (slot key : Nat) : State :=
  if key ≠ 0x3C then s.keyRefuse else s.put .SES_KEY_STATUS_LOCKED 0 (orBit (s.get .SES_KEY_STATUS_LOCKED) slot)

/-- A control write by its command: the slot named is stored as well, unless the write is refused (R402). -/
def State.keyCtrl (s : State) (w : Word) : State :=
  let slot := Fld.SES_KEY_CTRL_SLOT.of w
  let key := Fld.SES_KEY_CTRL_KEY.of w
  let put := fun (s : State) => s.put .SES_KEY_CTRL_SLOT 0 slot
  let bad := key != 0x3C
  match wbit w 31, wbit w 30, wbit w 29 with
  | false, false, false => put s
  | true, false, false => (if bad || s.keyLocked slot then s else put s).keyWrite slot key
  | false, true, false => (if bad || s.keyLocked slot then s else put s).keyErase slot key
  | false, false, true => (if bad then s else put s).keyLock slot key
  | _, _, _ => s.keyRefuse

/-- The word of a control write. -/
def keyWord (op slot key : Nat) : Word := word (op <<< 29 ||| (key % 256) <<< 8 ||| slot % 8)

/-- KEY_WRITE. -/
def execKeyWrite (slot key : Nat) (s : State) : Host.Outcome State Fault Refusal := runSoftOn 8 slot 18 (fun s => s.keyCtrl (keyWord 4 slot key)) s
/-- KEY_ERASE. -/
def execKeyErase (slot key : Nat) (s : State) : Host.Outcome State Fault Refusal := runSoftOn 8 slot 18 (fun s => s.keyCtrl (keyWord 2 slot key)) s
/-- KEY_LOCK. -/
def execKeyLock (slot key : Nat) (s : State) : Host.Outcome State Fault Refusal := runSoftOn 8 slot 18 (fun s => s.keyCtrl (keyWord 1 slot key)) s

/-! Opening (R416, R417). -/

/-- A frame the endpoint discards. -/
def State.sesReject (s : State) : State := s.inc .SES_REJ_COUNT

/-- A session identifier: a free value, moved past those in use and past 0 (R416, log 1). -/
def State.freshSid (s : State) : Nat :=
  let used := 0 :: ((List.range 4).filter fun i => s.sesState i != sesFree).map fun i => s.get .SES_SESS_SID i
  (((List.range 6).map fun j => (s.free + j) % 2 ^ 16).find? fun x => !used.contains x).getD 0

/-- The 46 bytes m of R416. -/
def State.sesNonces (s : State) (i : Nat) : List Byte :=
  let x := s.sesOf i
  x.nonceC ++ x.nonceO ++ beBytes 2 (s.get .SES_SESS_SID i) ++ beBytes 6 (s.sesClient i) ++ beBytes 6 s.sesSa

/-- OPEN (R416, R417). The nonce and the identifier are free values. -/
def State.sesOpen (s : State) (t : Nat) (d : List Byte) : State :=
  let b := sesBody d
  let slot := beAt b 0 1
  let used := (List.range 4).find? fun i => s.sesState i == sesFree
  if sesLen d ≠ 20 ∨ sesSid d ≠ 0 ∨ sesSeq d ≠ 0 ∨ beAt b 1 3 ≠ 0 ∨ 7 < slot ∨ !(s.get .SES_KEY_STATUS_WRITTEN).testBit slot
      ∨ (s.get .SES_STATUS_SLOT_OUT).testBit slot then s.sesReject
  else match used with
    | none => s.sesReject
    | some i =>
      let sid := s.freshSid
      let s1 := s.used
      let nonce := s1.freeBytes 16
      let a := sesFrom d
      let s2 := ((((s1.used.put .SES_SESS_STATE i sesChallenged).put .SES_SESS_SLOT i slot).put .SES_SESS_TRUNK i t).put .SES_SESS_SID i sid)
      let s3 := ((s2.put .SES_SESS_SA_LO_SA_LO i a).put .SES_SESS_SA_HI_SA_HI i (a >>> 32)).setSes i { nonceC := slice b 4 16, nonceO := nonce }
      s3.sesSend (1024 + t) (s3.sesBytes a 0x02 0 sid 0 nonce)

/-- The session that a frame names, in one of two states, on its trunk and of its client (R418). -/
def State.sesFind (s : State) (t st : Nat) (d : List Byte) : Option Nat :=
  (List.range 4).find? fun i => s.sesState i == st && s.get .SES_SESS_SID i == sesSid d && s.get .SES_SESS_TRUNK i == t
    && s.sesClient i == sesFrom d

/-- A wrong PROOF (R417). -/
def State.sesWrong (s : State) (i : Nat) : State :=
  let slot := s.get .SES_SESS_SLOT i
  let n := tget 0 s.sesFails slot + 1
  let s1 := (s.inc .SES_AUTH_FAIL_COUNT).sesRecord 3 0 i
  let s2 := (((({ s1 with sesFails := tput 0 s1.sesFails slot n }).put .SES_SESS_STATE i sesFree).setSes i {}).sesEvent .SES_STATUS_AUTH_FAIL)
  if s.get .SES_TIMERS_FAIL_LIMIT ≤ n then
    ((s2.put .SES_STATUS_SLOT_OUT 0 (orBit (s2.get .SES_STATUS_SLOT_OUT) slot)).sesRecord 4 0 i).sesEvent .SES_STATUS_LOCKED_EVT
  else s2

/-- PROOF (R416, R417). -/
def State.sesProof (s : State) (t : Nat) (d : List Byte) : State :=
  match s.sesFind t sesChallenged d with
  | none => s.sesReject
  | some i =>
    if sesLen d ≠ 32 ∨ sesSeq d ≠ 0 then s.sesReject
    else
      let slot := s.get .SES_SESS_SLOT i
      let k := s.key slot
      let m := s.sesNonces i
      if sesBody d ≠ hmac k (0x11 :: m) then s.sesWrong i
      else
        let s1 := ({ s with sesFails := tput 0 s.sesFails slot 0 }.put .SES_SESS_STATE i sesOpened).setSes i { sk := hmac k (0x13 :: m) }
        let s2 := (s1.sesRecord 1 0 i).sesEvent .SES_STATUS_OPENED
        s2.sesSend (1024 + t) (s2.sesBytes (s2.sesClient i) 0x04 0 (s2.get .SES_SESS_SID i) 0 (hmac k (0x12 :: m)))

/-- SES_CHALLENGE_TIMEOUT (R417). -/
def execSesChallengeTimeout (i : Nat) (s : State) : Host.Outcome State Fault Refusal :=
  runOn 4 i 18 (fun s => if s.sesState i = sesChallenged then (s.put .SES_SESS_STATE i sesFree).setSes i {} else s) s

/-- SES_LOCKOUT_EXPIRE (R417). -/
def execSesLockoutExpire (slot : Nat) (s : State) : Host.Outcome State Fault Refusal :=
  runOn 8 slot 18 (fun s => s.put .SES_STATUS_SLOT_OUT 0 (clrBit (s.get .SES_STATUS_SLOT_OUT) slot)) s

/-! Commands: acceptance (R418). -/

/-- The TAG of a command is right. -/
def State.sesTagged (s : State) (i : Nat) (d : List Byte) : Bool :=
  let n := 26 + sesLen d
  slice d n 16 == (hmac (s.sesOf i).sk (0x01 :: d.take n)).take 16

/-- A session frame after ACCEPT: executed by `f`, answered again, or discarded (R418, R419). -/
def State.sesAccept (s : State) (t : Nat) (d : List Byte) (f : State → Nat → State) : State :=
  match s.sesFind t sesOpened d with
  | none => s.sesReject
  | some i =>
    let x := s.sesOf i
    if !s.sesTagged i d then s.sesReject
    else if sesSeq d = x.seq ∧ x.seq ≠ 0 then (if x.resp = [] then s else s.sesSend (1024 + t) x.resp)
    else if sesSeq d ≤ x.seq then s.sesReject
    else
      let s1 := f (s.setSes i { x with seq := sesSeq d, resp := [], waits := none }) i
      if 0xFFFFFFF0 ≤ sesSeq d then s1.sesClose i 3 else s1

/-- A command is in execution (R418). -/
def State.sesBusy (s : State) : Bool := (List.range 4).any fun i => (s.sesOf i).waits.isSome

end Sys2Proof.Machine
end

