-- ==== Sys2Proof/Machine/Tae.lean ====
section
/-! DEFINITION. The table access engines' registers and the end of their commands (R430 to R435), and the gate control
memory's commands (R300). -/
namespace Sys2Proof.Machine

/-- The registers of an engine (R430). -/
structure TaeRegs where
  cmd : Reg
  status : Reg
  addr : Reg
  data : Reg
  /-- data words -/
  words : Nat
  deriving DecidableEq, Repr

/-- The registers of engine `k`. -/
def taeRegs (k : Nat) : TaeRegs :=
  match k with
  | 0 => ⟨.CLS_TAE_CMD, .CLS_TAE_STATUS, .CLS_TAE_ADDR, .CLS_TAE_DATA, 32⟩
  | 1 => ⟨.NREG_TAE_CMD, .NREG_TAE_STATUS, .NREG_TAE_ADDR, .NREG_TAE_DATA, 16⟩
  | 2 => ⟨.POL_TAE_CMD, .POL_TAE_STATUS, .POL_TAE_ADDR, .POL_TAE_DATA, 3⟩
  | 3 => ⟨.TPG_TAE_CMD, .TPG_TAE_STATUS, .TPG_TAE_ADDR, .TPG_TAE_DATA, 4⟩
  | _ => ⟨.SPI_TAE_CMD, .SPI_TAE_STATUS, .SPI_TAE_ADDR, .SPI_TAE_DATA, 4⟩

/-- The number of an engine. -/
def engineNum : Engine → Nat
  | .cls => 0
  | .nreg => 1
  | .pol => 2
  | .tpg => 3
  | .spi => 4

/-- The block in which an engine lies: its region's. -/
def taeBlock (k : Nat) : Nat := match k with
  | 0 => 5
  | 1 => 6
  | 2 => 7
  | 3 => 11
  | _ => 12

/-- The operations of an engine (R207, R225, R300, and the registers of chapters 10 and 13). -/
def taeOps (k : Nat) : List Nat := match k with
  | 0 => [1, 2, 3, 4, 5]
  | 1 => [1, 2, 3, 4, 5, 6]
  | 2 => [4, 7]
  | _ => [3, 4]

/-- The engine whose CMD, ADDR or DATA a register is. -/
def taeEngine (r : Reg) : Option Nat :=
  (List.range 5).find? fun k => let x := taeRegs k; r == x.cmd || r == x.addr || r == x.data

/-- An engine's command is in progress. -/
def State.taeBusy (s : State) (k : Nat) : Bool := (tget none s.tae k).isSome

/-- The data words of an engine as they stand. -/
def State.taeData (s : State) (k : Nat) : List Word := (List.range (taeRegs k).words).map fun j => s.rd (taeRegs k).data j

/-- GO: the command takes TARGET, OP and VIEW of the write, and ADDR and DATA as they stand (R431). An operation that the
engine does not have ends with BAD_CMD (R432). -/
def State.taeGo (s : State) (k : Nat) (w : Word) (session : Option Nat) : State :=
  let x := taeRegs k
  let op := wbits w 19 16
  let s1 := s.wr x.status 0 (s.rd x.status 0 ||| 0x80000000#32)
  let t : Tae := { target := wbits w 27 24, op, view := wbits w 13 12, addr := (s.rd x.addr 0).toNat, data := s.taeData k
                   done := if (taeOps k).contains op then none else some (6, none, []), session, opened := !s.stageLocked }
  { s1 with tae := tput none s1.tae k (some t) }

/-- A session's command owns CLS_TAE until its response is formed (R435). -/
def State.taeOwned (s : State) (k : Nat) : Bool := k == 0 && (List.range 4).any fun i => (s.sesOf i).waits == some 0x20

/-- A write of an engine's CMD, ADDR or DATA, ignored while BUSY is 1 or a session owns the engine (R432, R435). -/
def State.taeWrite (s : State) (k : Nat) (r : Reg) (i : Nat) (w : Word) (session : Option Nat) : State :=
  if s.taeBusy k || (session.isNone && s.taeOwned k) then s
  else
    let s1 := s.store r i w
    if r = (taeRegs k).cmd ∧ wbit w 31 then s1.taeGo k w session else s1

/-- The end of a command: BUSY falls, and RESULT, POS and the returned words are written (R431). POS is a free value where no
rule says which position the command returns (log 1). -/
def State.taeEnd (s : State) (k : Nat) : State :=
  let x := taeRegs k
  match tget none s.tae k with
  | some t => match t.done with
    | some (res, pos, data) =>
      let s1 := { s with tae := tput none s.tae k none }
      let p := if k = 0 then pos.getD s1.free % 2 ^ 20 else if k = 1 then pos.getD s1.free % 2 ^ 18 else 0
      let s2 := (s1.wr x.status 0 (word (res <<< 20 ||| p))).used
      s2.each ((List.range (min x.words data.length))) fun s j => s.wr x.data j (nth data j 0)
    | none => s
  | none => s

/-- TAE_COMMAND_DONE. -/
def execTaeCommandDone (e : Engine) (s : State) : Host.Outcome State Fault Refusal :=
  run (taeBlock (engineNum e)) (fun s => s.taeEnd (engineNum e)) s

/-! The gate control memory (R282, R300). -/

/-- An entry lies in a port's operating list or pending change. -/
def State.gateInUse (s : State) (i : Nat) : Bool :=
  let inside := fun (g : GclPlan) => decide (g.base ≤ i) && decide (i < g.base + g.len)
  s.gcl.any (fun e => match e.2.pend with
    | some p => inside p.plan
    | none => false)
  || s.regs.any fun e => e.1 % 512 == Reg.TPG_GCL_STATUS.ctorIdx &&
    (let st := s.gclState (e.1 / 512)
     st != gclIdle && st != gclPending && inside (s.operPlan (e.1 / 512)))

/-- A reserved bit of a gate entry is set (R282, R300). -/
def gateBad (d : List Word) : Bool := nth d 0 0 &&& 0xFFFFFF00#32 != 0 || nth d 2 0 != 0 || nth d 3 0 != 0

/-- TPG_WRITE_ENTRY. -/
def execTpgWriteEntry (e : Ecc) (s : State) : Host.Outcome State Fault Refusal :=
  run 11 (fun s => s.taeRun 3 3 fun t s =>
    let i := t.addr % 65536
    if gateBad t.data then ((6, none, []), s)
    else if s.gateInUse i then ((8, none, []), s)
    else if e = .uncorr then ((7, none, []), s.memFault 0xA i)
    else ((0, none, []), { s with gmem := tput (0, 0) s.gmem i (wbits (nth t.data 0 0) 7 0, (nth t.data 1 0).toNat) })) s

/-- TPG_READ_ENTRY. -/
def execTpgReadEntry (e : Ecc) (s : State) : Host.Outcome State Fault Refusal :=
  run 11 (fun s => s.taeRun 3 4 fun t s =>
    let i := t.addr % 65536
    if e = .uncorr then ((7, none, []), s.memFault 0xA i)
    else
      let g := s.gateEntry i
      ((0, none, [word g.1, word g.2, 0, 0]), s)) s

end Sys2Proof.Machine
end

