-- ==== Sys2Proof/Machine/Views.lean ====
section
/-! DEFINITION. What a read of a register returns: the stored word, or what the register shows of the tables, queues and
buffers, and the effects that a read has (R10, R16, R48). -/
namespace Sys2Proof.Machine

/-- The bits of a register that a read returns: write-only fields read 0 (R10), and so do fields whose 1 starts an action, each
accepted with the write (R14). -/
def readable (r : Reg) : Word :=
  word (((regInfo r).fields.filter fun f => f.acc != .wo && f.acc != .w1s).foldl
    (fun a f => a ||| ((2 ^ (f.hi + 1 - f.lo) - 1) <<< f.lo)) 0)

/-- The low halves of the 64-bit counters and their high halves (R16). -/
def counters64 : List (Reg × Reg) :=
  [(.CHK_DONE_LO, .CHK_DONE_HI), (.CLS_FLOW_HITS_LO, .CLS_FLOW_HITS_HI), (.CLS_LOOKUPS_LO, .CLS_LOOKUPS_HI),
   (.CLS_PFX_HITS_LO, .CLS_PFX_HITS_HI), (.DMA_CH_BYTES_LO, .DMA_CH_BYTES_HI), (.MAC_RX_FRAMES_LO, .MAC_RX_FRAMES_HI),
   (.MAC_RX_OCTETS_LO, .MAC_RX_OCTETS_HI), (.MAC_TX_FRAMES_LO, .MAC_TX_FRAMES_HI), (.MAC_TX_OCTETS_LO, .MAC_TX_OCTETS_HI),
   (.SEG_CYCLES_LO, .SEG_CYCLES_HI), (.SPI_CUT_LO, .SPI_CUT_HI)]

/-- The high half of a 64-bit counter, by its low half. -/
def highHalf (r : Reg) : Option Reg := (counters64.find? fun x => x.1 == r).map (·.2)

/-- The low half of a 64-bit counter, by its high half. -/
def lowHalf (r : Reg) : Option Reg := (counters64.find? fun x => x.2 == r).map (·.1)

/-- SCH_PORT_STATUS (R270). -/
def State.portStatus (s : State) (p : Nat) : Word :=
  let back := (List.range 8).foldl (fun a k => if s.classHolds p k then orBit a k else a) 0
  let own := s.tx.findSome? fun e => e.2.filter fun t => t.copy.isSome && t.owner == p
  let busy := match own with
    | some t => 2 ^ 31 + t.cls % 8 * 2 ^ 28
    | none => 0
  word (busy + s.eligMask p * 2 ^ 16 + back * 2 ^ 8)

/-- Registered nodes on all ports. -/
def State.nodeTotal (s : State) : Nat := (s.ctx.filter (·.2.valid)).length

/-- BEL_SRC_STATUS (R353, R359). -/
def State.srcStatus (s : State) (i : Nat) : Word :=
  let b := s.belSrc i
  word (s.pendMask i % 256 * 2 ^ 24 + b.claimed % 256 * 2 ^ 16 + b.held)

/-- BEL_TGT_STATUS (R359). -/
def State.tgtStatus (s : State) (t : Nat) : Word :=
  let st := s.stackOf t
  let top := st.head?.getD (0, 0)
  s.rd .BEL_TGT_STATUS t ||| word (b2n (s.presented t).isSome * 2 ^ 30 + st.length * 2 ^ 24 + top.2 * 2 ^ 16 + top.1)

/-- BEL_STACK, entry 0 at the bottom (R359). -/
def State.stackWord (s : State) (t i : Nat) : Word :=
  match (s.stackOf t).reverse[i]? with
  | some (v, p) => word (2 ^ 31 + p * 2 ^ 16 + v)
  | none => 0

/-- The credit of a shaped class in 1/16 byte (R259, log 18). -/
def State.creditShown (s : State) (i : Nat) : Word := BitVec.ofInt 32 (tget 0 s.credit i / 3000000)

/-- What a read of register `r`, instance `i`, returns. -/
def State.view (s : State) (r : Reg) (i : Nat) : Word :=
  match r with
  | .BEL_SRC_STATUS => s.srcStatus i
  | .BEL_TGT_STATUS => s.tgtStatus i
  | .BEL_STACK => s.stackWord (i / 32) (i % 32)
  | .CLS_FLOW_USED => word (flowUsed s.flow)
  | .CLS_STASH_USED => word (flowUsed (s.flow.filter fun e => decide (s.flowSize ≤ e.1)))
  | .CLS_PFX_USED => word (s.pfx.length * s.pfxUnit)
  | .CLS_INFLIGHT_ACT => word (s.inflight s.versionA)
  | .CLS_INFLIGHT_DRN => word (s.inflight s.versionD)
  | .DOME_FREE => word (if s.soft then s.freeCells else 0)
  | .DOME_USED_PEAK => s.rd r i ||| word (b2n (s.soft && s.usedCells == 0) * 2 ^ 31)
  | .DOME_CLASS_CELLS => word (s.classCells i)
  | .FLT_INJ_DATA => s.rd r i
  | .FLT_SRC_STATUS => s.rd r i ||| word (b2n (s.inShadow i) * 2 ^ 27)
  | .LOG_STATUS => s.rd r i ||| word s.logFill
  | .MNT_RST_STATUS => s.rd r i ||| word (b2n (!s.blkReset.isEmpty) * 2)
  | .NREG_STATUS => word (b2n (s.sweepPass % 2 == 0 && s.sweeping) * 2 ^ 31 + s.nodeTotal)
  | .NREG_PORT_STATUS => s.rd r i ||| word (s.nodeCount i)
  | .SCH_PORT_STATUS => s.portStatus i
  | .SCH_PORT_COPIES => word (s.portCopies i).length
  | .SCH_CQ_CELLS => word (s.queueCells (classQueue (i / 8) (i % 8)))
  | .SCH_CQ_COPIES => word (s.queue (classQueue (i / 8) (i % 8))).length
  | .SCH_CBS_CREDIT => s.creditShown i
  | .SPI_PAIR_STATUS => s.rd r i ||| word (((s.dups i).filter (s.dupLive i)).length * 2 ^ 16)
  | .TPG_FCAL => word ((s.fcal i).2 % 2 ^ 16 * 2 ^ 16 + (s.fcal i).1 % 2 ^ 16)
  | .TPG_PH_FCAL => word (s.phFcal i % 2 ^ 16)
  | .TPG_PH_STATUS => s.phStatus i
  | .TPG_TIME_FRAC => word s.timeFrac
  | .CHK_RUN_LO => word (s.chkReg i)
  | .CHK_RUN_HI => word (s.chkReg i >>> 32)
  | _ => match lowHalf r with
    | some lo => tget 0 s.shadows (regKey lo i)
    | none => s.rd r i &&& readable r

/-- The effect of a read: the shadow copies of R16, R274 and R298. -/
def State.readEffect (s : State) (r : Reg) (i : Nat) : State :=
  match r with
  | .TPG_TIME_FRAC => s.fracRead
  | .TPG_PH_STATUS => s.phRead i
  | _ => match highHalf r with
    | some hi => { s with shadows := tput 0 s.shadows (regKey r i) (s.rd hi i) }
    | none => s

/-- A read of a register: its word, and the state after it. -/
def State.readReg (s : State) (r : Reg) (i : Nat) : Word × State := (s.view r i, s.readEffect r i)

end Sys2Proof.Machine
end

