-- ==== Sys2Proof/Machine/RegWrite.lean ====
section
/-! DEFINITION. What a write of a register does: its fields by their access codes, and the effects that the chapters give
(R10 to R15). -/
namespace Sys2Proof.Machine

/-! Fields that keep their value where the value written is refused. -/

/-- The word with field `f` as it stands. -/
def State.keepField (s : State) (f : Fld) (i : Nat) (w : Word) : Word := f.into w (s.get f i)

/-- The word with field `f` as it stands where the written value is 0. -/
def State.nonzero (s : State) (f : Fld) (i : Nat) (w : Word) : Word := if f.of w = 0 then s.keepField f i w else w

/-- The word with field `f` as it stands where the written value is above `n`. -/
def State.atMost (s : State) (f : Fld) (i n : Nat) (w : Word) : Word := if n < f.of w then s.keepField f i w else w

/-! The access codes (R10 to R15). -/

/-- The ones of the fields of register `r` with an access code. -/
def maskOf (r : Reg) (p : FieldInfo → Bool) : Word :=
  word (((regInfo r).fields.filter p).foldl (fun a f => a ||| ((2 ^ (f.hi + 1 - f.lo) - 1) <<< f.lo)) 0)

/-- A counter that stops at all-ones. -/
def isSat (r : Reg) : Bool := (regInfo r).fields.any fun f => f.acc == .sat

/-- A counter register: one of 32 bits, or a half of one of 64. -/
def isCounter (r : Reg) : Bool := (regInfo r).fields.any fun f => f.acc == .sat || f.acc == .wrap

/-- A write of 0 clears a counter; the low half of a 64-bit counter clears both (R15, R16). -/
def State.clearCounter (s : State) (r : Reg) (i : Nat) : State :=
  if isSat r then s.wr r i 0
  else match highHalf r with
    | some hi => (s.wr r i 0).wr hi i 0
    | none => s

/-- RW and RWL fields take the word, RWL fields only while they are not locked; W1C bits written 1 clear (R10, R12). -/
def State.fieldsWrite (s : State) (r : Reg) (i : Nat) (w : Word) (locked : Bool) : State :=
  let rw := maskOf r fun f => f.acc == .rw || (f.acc == .rwl && !locked)
  let clr := maskOf r (fun f => f.acc == .w1c) &&& w
  s.wr r i ((s.rd r i &&& ~~~ clr &&& ~~~ rw) ||| (w &&& rw))

/-- A write without an effect of its own. -/
def State.plainWrite (s : State) (r : Reg) (i : Nat) (w : Word) (locked : Bool) : State :=
  if isCounter r then (if w = 0 then s.clearCounter r i else s) else s.fieldsWrite r i w locked

/-! Effects by region. -/

/-- DMA_CH_RING_LO, DMA_CH_RING_HI and DMA_CH_IDX are written in OFF, IDLE and STOPPED only (R313). -/
def State.ringWrite (s : State) (r : Reg) (c : Nat) (w : Word) : State :=
  let st := s.chState c
  if st = chOff ∨ st = chIdle ∨ st = chStopped then
    if r = .DMA_CH_IDX ∧ s.get .DMA_CH_RING_HI_SIZE_M1 c < wbits w 15 0 then s else s.store r c w
  else s

/-- DMA_CH_PACE: a QUEUE out of its range keeps its value (R338). -/
def State.paceWrite (s : State) (c : Nat) (w : Word) : State :=
  let lim := if Fld.DMA_CH_PACE_QKIND.of w = 1 then 63 else 270463
  s.store .DMA_CH_PACE c (s.atMost .DMA_CH_PACE_QUEUE c lim w)

/-- TPG_GCL_CFG written: EN starts or stops the list, and CHANGE counts only where EN does not start it (R285 to R287). -/
def State.gclCfgWrite (s : State) (n : Nat) (w : Word) : State :=
  let s1 := s.store .TPG_GCL_CFG n (s.keepField .TPG_GCL_CFG_EN n w)
  if !wbit w 31 then s1.gclStop n
  else if s1.gclState n = gclIdle then s1.gclStart n []
  else if wbit w 29 then s1.gclChange n
  else s1

/-- SEG_PLCA written: while PLCA runs, the old word stays in force until the next BEACON (R138). -/
def State.plcaWrite (s : State) (p : Nat) (w : Word) : State :=
  let v1 := s.nonzero .SEG_PLCA_TO_TIMER p (s.nonzero .SEG_PLCA_BURST_TIMER p w)
  let v := if Fld.SEG_PLCA_NODE_COUNT.of w < 2 then s.keepField .SEG_PLCA_NODE_COUNT p v1 else v1
  let old := s.inForce .SEG_PLCA p
  let s1 := s.store .SEG_PLCA p v
  { s1 with shaper := tput none s1.shaper (regKey .SEG_PLCA p) (if s.flag .SEG_STATUS_PLCA_ACTIVE p then some old else none) }

/-- SPI_PAIR_CFG written: EN is refused for a pair that is not VALID (R310). -/
def State.pairWrite (s : State) (p : Nat) (w : Word) : State :=
  let v := if wbit w 31 ∧ !s.flag .SPI_PAIR_STATUS_VALID p then s.keepField .SPI_PAIR_CFG_EN p w else w
  s.store .SPI_PAIR_CFG p (s.nonzero .SPI_PAIR_CFG_DUP_AGE p v)

/-- TPG_PH_CFG written: EN enters ACQUIRE or OFF (R279). -/
def State.phCfgWrite (s : State) (a : Nat) (w : Word) : State :=
  let s1 := s.store .TPG_PH_CFG a (s.nonzero .TPG_PH_CFG_LOCK_CNT a w)
  if wbit w 31 then s1.phEnable a else s1.phDisable a

/-- A maximum of the Oculus: a 1 in any bit clears it (R270). -/
def State.maxClear (s : State) (r : Reg) (i : Nat) (w : Word) : State := if w &&& maskOf r (fun f => f.acc == .w1c) = 0 then s else s.wr r i 0

/-- LIMIT of NREG_PORT_CFG keeps its value where 0 or 255 is written (R229). -/
def State.limitWrite (s : State) (n : Nat) (w : Word) : State :=
  let v := s.nonzero .NREG_PORT_CFG_LIMIT n w
  s.store .NREG_PORT_CFG n (if wbits w 7 0 = 255 then s.keepField .NREG_PORT_CFG_LIMIT n v else v)

/-- A write in the session, Spire, structure image and time regions, or one without an effect of its own. -/
def State.writeLow (s : State) (r : Reg) (i : Nat) (w : Word) (locked : Bool) : State :=
  match r with
  | .SES_TIMERS => s.store r i (s.nonzero .SES_TIMERS_IDLE i (s.nonzero .SES_TIMERS_LOCK_TIME i (s.nonzero .SES_TIMERS_FAIL_LIMIT i w)))
  | .SES_KEY_CTRL => s.keyCtrl w
  | .SES_KEY_DATA => s.wr r i w
  | .SPI_PAIR_CFG => s.pairWrite i w
  | .STI_CTRL => s.stiCtrl none w
  | .STI_LOAD_DATA => s.stiWord none w
  | .TPG_INCR_LO => { s with incrHeld := some w }
  | .TPG_INCR_HI => s.incrHi w
  | .TPG_SET_NS => if 1000000000 ≤ w.toNat then s else s.store r i w
  | .TPG_TIME_CTRL => if wbit w 31 then s.timeSet [] else s.when (wbit w 30) fun s => s.timeAdj []
  | .TPG_CLKCMP => s.clkcmp w
  | .TPG_PH_CFG => s.phCfgWrite i w
  | .TPG_PH_THR => if wbits w 31 16 < wbits w 15 0 then s else s.store r i w
  | .TPG_GCL_CFG => s.gclCfgWrite i w
  | _ => s.plainWrite r i w locked

/-- A write in the Keep, log, MAC, maintenance, registry, Oculus, policer, budget, scheduler and segment regions, or in those above. -/
def State.writeMid (s : State) (r : Reg) (i : Nat) (w : Word) (locked : Bool) : State :=
  match r with
  | .KEEP_CTRL => s.keepCtrl w
  | .KEEP_MIR_CFG => s.mirCfg w
  | .KEEP_TIMERS => s.store r i (s.nonzero .KEEP_TIMERS_OUT_TIMEOUT i w)
  | .LOG_CFG => if wbits w 15 0 = 0 ∨ 32768 < wbits w 15 0 then s else s.store r i w
  | .LOG_CTRL => s.logCtrlWrite w
  | .LOG_RD_IDX => s.logRdWrite w
  | .LOG_ACC_IDX => s.logAccWrite w
  | .MAC_CFG => s.macCfg i w
  | .MAC_EEE => s.macEee i w
  | .MAC_FC_THR | .MAC_FC_TX => (s.store r i w).flowControl i
  | .MAC_FC_FORCE => s.fcForce i w
  | .MNT_RST_REQ => s.mntReqWrite w
  | .NREG_AGE => s.ageWrite w
  | .NREG_PORT_CFG => s.limitWrite i w
  | .NREG_PORT_DEF => s.store r i (s.nonzero .NREG_PORT_DEF_DEF_WEIGHT i w)
  | .OCU_CTRL => s.ocuCtrl w
  | .OCU_WATCH => s.ocuWatch i w
  | .OCU_MAX_CELLS | .OCU_WATCH_MAXC | .OCU_WATCH_MAXD => s.maxClear r i w
  | .OCU_MAX_DELAY => if w = 0 then s else (s.wr r i 0).wr .OCU_MAX_QUEUE i 0
  | .POL_PORT_CFG => s.polPortCfgWrite i w
  | .PWR_POOL => s.poolWrite w
  | .PWR_ENG_CFG => s.engWrite i w
  | .PWR_AVS_CFG => s.avsCfgWrite w
  | .PWR_AVS_THR => s.avsThrWrite w
  | .SCH_CLASS_CFG => s.shaperWrite r i (s.nonzero .SCH_CLASS_CFG_QUANTUM i (s.nonzero .SCH_CLASS_CFG_CQ_WEIGHT i w) &&& writable r)
  | .SCH_CBS_SLOPE => s.shaperWrite r i (s.atMost .SCH_CBS_SLOPE_IDLE_SLOPE i 12500000 w &&& writable r)
  | .SCH_CBS_HI => s.shaperWrite r i (w &&& writable r)
  | .SEG_CFG => s.segCfg i w
  | .SEG_PLCA => s.plcaWrite i w
  | .SEG_BABBLE => s.store r i (s.nonzero .SEG_BABBLE_THRESH i (s.nonzero .SEG_BABBLE_WINDOW i w))
  | .SEG_STATUS => if wbit w 27 then s.babbleClear i else s
  | _ => s.writeLow r i w locked

/-- A write in the Belfry, check unit, classifier, DMA, Dome, extender and fault regions, or in those above. -/
def State.writeHigh (s : State) (r : Reg) (i : Nat) (w : Word) (locked : Bool) : State :=
  match r with
  | .BEL_EOI => s.belEoi i w
  | .BEL_SWI => s.belSwi w
  | .BEL_SRC_CFG => s.srcCfg i w
  | .BEL_SRC_COAL => s.store r i (s.nonzero .BEL_SRC_COAL_COUNT i (s.nonzero .BEL_SRC_COAL_TIME i w))
  | .BEL_SRC_STATUS => s.pendClear i w
  | .BEL_SRC_VEC_LO | .BEL_SRC_VEC_HI => (s.store r i w).presentAll
  | .BEL_TGT_CFG => (s.store r i w).presentAll
  | .CHK_CFG | .CHK_REGION | .CHK_POLY_LO | .CHK_POLY_HI | .CHK_INIT_LO | .CHK_INIT_HI | .CHK_XOR_LO | .CHK_XOR_HI
  | .CHK_RUN_LO | .CHK_RUN_HI => if s.flag .CHK_CFG_BUSY i then s else s.store r i w
  | .CLS_COMMIT_CTRL => if wbit w 31 then s.clsAbort else if wbit w 0 then s.clsCommit else s
  | .CLS_DRAIN_WARN => s.plainWrite r i (s.nonzero .CLS_DRAIN_WARN_LIMIT i w) locked
  | .DMA_GLB_CTRL => if wbit w 31 then s.dmaClear else s
  | .DMA_CH_CFG => s.chCfgWrite i w
  | .DMA_CH_CTRL => (s.when (wbit w 31) fun s => s.doorbell i).when (wbit w 30) fun s => s.dmaStop i
  | .DMA_CH_RING_LO | .DMA_CH_RING_HI | .DMA_CH_IDX => s.ringWrite r i w
  | .DMA_CH_PACE => s.paceWrite i w
  | .DMA_CH_PACE_WM => if wbits w 31 16 ≤ wbits w 15 0 then s else s.store r i w
  | .DOME_LOOP => s.store r i (s.nonzero .DOME_LOOP_PERIOD i w)
  | .DOME_USED_PEAK => if wbits w 17 0 = 0 then s else s.put .DOME_USED_PEAK_PEAK 0 s.usedCells
  | .DOME_CLASS_CFG => s.store r i (s.atMost .DOME_CLASS_CFG_YELLOW_PCT i 100 (s.atMost .DOME_CLASS_CFG_RED_PCT i 100 w))
  | .DOME_CLASS_ALPHA => if wbits w 31 16 < wbits w 15 0 then s else s.store r i w
  | .DOME_CLASS_CUR => s.alphaWrite i w
  | .DOME_EDIT => if i = 0 then s else s.store r i w
  | .EXT_CFG => (s.store r i w).extEval i
  | .EXT_PUSH => if wbit w 31 then s.pushGo i else s
  | .EXT_GLB_CFG => s.store r i (s.nonzero .EXT_GLB_CFG_DISC_PERIOD i w)
  | .EXT_TIMERS => s.store r i (s.nonzero .EXT_TIMERS_POLL i (s.nonzero .EXT_TIMERS_MISS_LIMIT i (s.nonzero .EXT_TIMERS_PUSH_TIMEOUT i w)))
  | .EXT_PACE => s.store r i (s.atMost .EXT_PACE_RATE i (125 * s.rateMb i) w)
  | .FLT_STATUS => s.fltStatusWrite w
  | .FLT_SRC_CFG => if s.flag .FLT_SRC_CFG_LOCK i then s else s.store r i w
  | .FLT_SRC_STATUS => (s.when (wbit w 31) fun s => s.firedClear i).when (wbit w 30) fun s => s.irqClear i
  | .FLT_NMT => s.nmtClear (wbits w 7 0)
  | .FLT_FIRST_SRC => if wbit w 31 then s.firstClear else s
  | .FLT_LANTERN => s.lanternWrite w
  | .FLT_INJ_DATA => s.injDataWrite w
  | .FLT_INJ_CTRL => if s.flag .FLT_STATUS_FACTORY then s else s.put .FLT_STATUS_INJ_REJ 0 1
  | _ => s.writeMid r i w locked

/-- The block whose logic a register belongs to (R371, R427); 0 for the always-on registers. -/
def regBlock (r : Reg) (i : Nat) : Nat :=
  let a := (regInfo r).base
  if (regInfo r).aon then 0
  else if a < 0x0100000 then 20
  else if a < 0x0200000 then 19
  else if a < 0x0400000 then (if isTrunk i then 1 else 2)
  else if a < 0x0800000 then 2
  else if a < 0x0A00000 then 3
  else if a < 0x0B00000 then 4
  else if a < 0x0C00000 then 5
  else if a < 0x0D00000 then 6
  else if a < 0x0D03000 ∨ (0x0D10000 ≤ a ∧ a < 0x0D20000) then 7
  else if a < 0x0E00000 then 8
  else if a < 0x0F00000 then 9
  else if a < 0x1000000 then 10
  else if a < 0x1100000 then 11
  else if a < 0x1200000 then 12
  else if a < 0x1280000 then 13
  else if a < 0x1300000 then 14
  else if a < 0x1400000 then 15
  else if a < 0x1600000 then 16
  else if a < 0x1601000 then 17
  else 18

/-- A write of register `r` with its effect. `locked`: RWL fields are read only (R12). -/
def State.writeEffect (s : State) (r : Reg) (i : Nat) (w : Word) (locked : Bool) : State :=
  match taeEngine r with
  | some k => s.taeWrite k r i w none
  | none => s.writeHigh r i w locked

/-- A write of register `r`: a block held in reset takes none (R371). -/
def State.regWrite (s : State) (r : Reg) (i : Nat) (w : Word) (locked : Bool) : State :=
  if (regInfo r).aon || s.up (regBlock r i) then s.writeEffect r i w locked else s

end Sys2Proof.Machine
end

