-- ==== Sys2Proof/Machine/RegAccess.lean ====
section
/-! DEFINITION. The register slave port (R48, R49), the maintenance mirror (R436, R437) and the maintenance port (R60 to R63). -/
namespace Sys2Proof.Machine

/-- The register that a byte offset reaches, the maintenance mirror's offsets among them (R428, R436). -/
def regOf (a : Nat) : Option (Reg × Nat) :=
  if a < 0x1F00000 then regAt a
  else if a = 0x1F00000 ∨ a = 0x1F00004 then regAt (a - 0x1F00000)
  else if 0x1F0F000 ≤ a ∧ a ≤ 0x1F0FFFF then regAt a
  else if 0x1F10000 ≤ a ∧ a ≤ 0x1F1FFFF then regAt (a - 0x1F10000 + 0x1400000)
  else none

/-- A register of the always-on domain (R427, R439). -/
def isAon (r : Reg) : Bool := (regInfo r).aon

/-- The register slave port answers: it runs on CORE_CLK, and the always-on registers answer while their clock runs (R49, R65). -/
def State.slaveRuns (s : State) (aon : Bool) : Bool := s.coreClk && (!aon || s.refClk)

/-- An ERROR response (R48). -/
def State.slaveError (s : State) : State := { s.inc .GLB_SLV_ERR_COUNT with rsResp := some ⟨0, true⟩ }

/-- An OK response (R48). -/
def State.slaveOk (s : State) (w : Word) : State := { s with rsResp := some ⟨w, false⟩ }

/-- A write that the slave port accepts, without its answer: writes to core-domain registers outside the global region wait
for memory initialisation (R400), and PORST_N holds the always-on registers at their reset values while it is low (R66). -/
def State.slaveStore (s : State) (r : Reg) (i : Nat) (w : Word) : State :=
  if s.porstLow then s else if isAon r || s.soft || regBlock r i == 20 then s.regWrite r i w s.committed else s

/-- The value that a read returns and what it changes; an always-on register that PORST_N holds in reset changes nothing. -/
def State.slaveLoad (s : State) (r : Reg) (i : Nat) : Word × State :=
  let x := s.readReg r i
  (x.1, if s.porstLow then s else x.2)

/-- A write through the register slave port (R48). -/
def State.slaveWrite (s : State) (a : Nat) (w : Word) (strobes : Nat) : State :=
  match regOf a with
  | some (r, i) =>
    if !s.slaveRuns (isAon r) then s
    else if strobes % 16 ≠ 15 ∨ (!s.coreOn && !isAon r) then s.slaveError
    else (s.slaveStore r i w).slaveOk 0
  | none =>
    if !s.slaveRuns false then s
    else if a % 4 ≠ 0 ∨ strobes % 16 ≠ 15 then s.slaveError
    else s.slaveOk 0

/-- A read through the register slave port (R48). -/
def State.slaveRead (s : State) (a : Nat) : State :=
  match regOf a with
  | some (r, i) =>
    if !s.slaveRuns (isAon r) then s
    else if !s.coreOn && !isAon r then s.slaveError
    else
      let x := s.slaveLoad r i
      x.2.slaveOk x.1
  | none =>
    if !s.slaveRuns false then s
    else if a % 4 ≠ 0 then s.slaveError
    else s.slaveOk 0

/-- A write of FLT_INJ_CTRL in factory test mode (R377, R385). -/
def State.factoryInject (s : State) (a : Nat) : Bool :=
  match regOf a with
  | some (r, _) => r == .FLT_INJ_CTRL && s.flag .FLT_STATUS_FACTORY
  | none => false

/-- A write on the register slave port, from whichever row it comes (R48). -/
def State.busWrite (s : State) (addr : Nat) (data : Word) (strobes : Nat) : Host.Outcome State Fault Refusal :=
  if s.factoryInject addr && s.slaveRuns true && strobes % 16 == 15 then .refused .factoryInjection
  else s.become (s.slaveWrite addr data strobes)

/-- REGISTER_WRITE (R48). -/
def execRegisterWrite (addr : Nat) (data : Word) (strobes : Nat) (s : State) : Host.Outcome State Fault Refusal :=
  s.busWrite addr data strobes

/-- COUNTER_CLEAR: a write of zero to a counter (R15). -/
def execCounterClear (addr : Nat) (s : State) : Host.Outcome State Fault Refusal := s.busWrite addr 0 15

/-- COUNTER_LOW_READ: a read of the low half of a 64-bit counter (R16). -/
def execCounterLowRead (addr : Nat) (s : State) : Host.Outcome State Fault Refusal := s.become (s.slaveRead addr)

/-- TPG_TIME_FRAC_READ: a read of that register (R48, R274). -/
def execTpgTimeFracRead (s : State) : Host.Outcome State Fault Refusal := s.become (s.slaveRead (regInfo .TPG_TIME_FRAC).base)

/-- PH_STATUS_READ: a read of TPG_PH_STATUS (R48, R298). -/
def execPhStatusRead (a : Nat) (s : State) : Host.Outcome State Fault Refusal :=
  s.become (s.onUnit 2 a fun s => s.slaveRead (regAddr .TPG_PH_STATUS a))

/-! The maintenance port (R60 to R63). -/

/-- The always-on register that a word address reaches (R62). -/
def maintReg (wordAddr : Nat) : Option (Reg × Nat) :=
  if 0x800000 ≤ wordAddr then none else (regOf (4 * wordAddr)).filter fun x => isAon x.1

/-- The status byte (R61). -/
def State.maintStatus (s : State) (badOp notAon : Bool) : Byte :=
  byte (b2n (s.blkLow || !s.coreClk) * 8 + b2n badOp * 4 + b2n notAon * 2 + 1)

/-- The access of a read frame, at clock 32: the data and the state after it. -/
def State.maintLoad (s : State) (wordAddr : Nat) : Word × State :=
  match maintReg wordAddr with
  | some (r, i) => s.readReg r i
  | none => (0, s)

/-- The access of a write frame, at clock 64. -/
def State.maintStore (s : State) (wordAddr : Nat) (w : Word) : State :=
  match maintReg wordAddr with
  | some (r, i) => s.regWrite r i w s.committed
  | none => s

/-- The answer that a whole maintenance frame's clocks carry out. -/
def State.mntAnswer (s : State) (w : Word) (st : Byte) : State := { s with mntResp := some (w, st), mntCut := [] }

/-- The bits that MAINT_DO has carried when a frame is cut after clock `clock`: data from clock 41, the status byte from clock 73,
most significant bit first (R60, R63). -/
def maintBits (clock : Nat) (w : Word) (st : Byte) : List Bool :=
  (List.range (min clock 79 - 40)).map fun k => if k < 32 then w.getMsbD k else st.getMsbD (k - 32)

/-- MAINT_READ. -/
def execMaintRead (wordAddr : Nat) (s : State) : Host.Outcome State Fault Refusal :=
  runAon (fun s =>
    let x := s.maintLoad wordAddr
    x.2.mntAnswer x.1 (s.maintStatus false (maintReg wordAddr).isNone)) s

/-- A write frame that would inject in factory test mode (R385). -/
def State.maintInject (s : State) (wordAddr : Nat) : Bool :=
  s.aonUp && decide (wordAddr < 0x800000) && s.factoryInject (4 * wordAddr)

/-- MAINT_WRITE: the answer carries a status byte and no data. -/
def execMaintWrite (wordAddr : Nat) (data : Word) (s : State) : Host.Outcome State Fault Refusal :=
  if s.maintInject wordAddr then .refused .factoryInjection
  else runAon (fun s =>
    (s.maintStore wordAddr data).mntAnswer 0 (s.maintStatus false (maintReg wordAddr).isNone)) s

/-- MAINT_BAD_OP: an opcode that is neither read nor write does nothing (R61). -/
def execMaintBadOp (op : Nat) (s : State) : Host.Outcome State Fault Refusal :=
  runAon (fun s => if op = 0x0D ∨ op = 0x0E then s else s.mntAnswer 0 (s.maintStatus true false)) s

/-- What stands of a frame cut at a clock (R63): a read made at clock 32 with its data bits so far, a write performed at clock 64,
and the bits so far of the status byte. -/
def State.maintCut (s : State) (op wordAddr : Nat) (data : Word) (clock : Nat) : State :=
  let x := if op = 0x0D ∧ 32 < clock then s.maintLoad wordAddr
    else (0, if op = 0x0E ∧ 64 ≤ clock then s.maintStore wordAddr data else s)
  let bad := decide (op ≠ 0x0D ∧ op ≠ 0x0E)
  { x.2 with mntResp := none
             mntCut := maintBits clock x.1 (s.maintStatus bad (!bad && (maintReg wordAddr).isNone)) }

/-- MAINT_FRAME_CUT: no answer is complete. -/
def execMaintFrameCut (op wordAddr : Nat) (data : Word) (clock : Nat) (s : State) : Host.Outcome State Fault Refusal :=
  if op = 0x0E ∧ 64 ≤ clock ∧ s.maintInject wordAddr then .refused .factoryInjection
  else runAon (fun s => s.maintCut op wordAddr data clock) s

end Sys2Proof.Machine
end

