-- ==== Sys2Proof/Machine/Commit.lean ====
section
/-! DEFINITION. The switch cycle of a structure commit (R90 to R92, R441). -/
namespace Sys2Proof.Machine

/-- A port whose LANE_MAP entry changes: its node contexts are cleared without events, and the frames in its queues are dropped
and counted (R91). -/
def State.flushPort (s : State) (p : Nat) : State :=
  let l := (s.candOf p).toList ++ s.portCopies p
  let s1 := { s with ctx := tdrop (fun i => i / 256 == p) s.ctx, qUsed := tdrop (fun q => decide (q < 262144) && q / 256 == p) s.qUsed
                     fLast := tdrop (fun q => decide (q < 262144) && q / 256 == p) s.fLast }
  let s2 := (if (s1.candOf p).isSome then s1.noCand p else s1).each ((s1.queues.map (·.1)).filter fun q => queuePort q == p)
    fun s q => s.setQueue q []
  s2.each l fun s c => (s.endCopy c none).inc .STI_FLUSHED_COUNT

/-- The ports whose LANE_MAP entries differ. -/
def lanesChanged (old new : Image) : List Nat := (List.range 1040).filter fun p => tget 0 old.lanes p != tget 0 new.lanes p

/-- The slots whose EXTENDER_SLOTS entries differ. -/
def slotsChanged (old new : Image) : List Nat := (List.range 48).filter fun e => tget (0, 0) old.ext e != tget (0, 0) new.ext e

/-- Item 5 of R441, before the presets reach the ports: every port is disabled. -/
def State.allPortsOff (s : State) : State :=
  let s1 := s.each ((s.touched .MAC_CFG).filter fun p => isTrunk p && s.flag .MAC_CFG_EN p) fun s p => s.trunkEn p false
  s1.each ((s1.touched .SEG_CFG).filter fun p => s1.flag .SEG_CFG_EN p) fun s p => s.segBit p .SEG_CFG_EN false

/-- Item 1: SEVERITY and LOCK of every source (R83). -/
def State.writeSeverities (s : State) : State :=
  s.each (List.range 512) fun s i =>
    let b := (tget 0 s.img.severity i).toNat
    (s.put .FLT_SRC_CFG_SEVERITY i (b % 4)).put .FLT_SRC_CFG_LOCK i (b / 128)

/-- Item 2: the presets in order, RWL fields included; at the first commit no preset enables a port (R84, R441). -/
def State.writePresets (s : State) (first : Bool) : State :=
  s.each s.img.presets fun s x =>
    match regAt x.1.toNat with
    | some (r, i) =>
      s.regWrite r i (if first && (r == .MAC_CFG || r == .SEG_CFG) then x.2 &&& 0x7FFFFFFF#32 else x.2) false
    | none => s

/-- Item 4: what the registers show of the structure. -/
def State.showStructure (s : State) : State :=
  let m := s.img
  let s1 := ((s.put .STI_ACTIVE_MAJOR 0 m.major).put .STI_ACTIVE_MINOR 0 m.minor).put .STI_ACTIVE_TARGET_REV 0 m.rev
  let s2 := s1.wr .STI_ACTIVE_SERIAL 0 (word m.serial)
  let s3 := s2.each (List.range 16) fun s t => s.put .MAC_STATUS_RATE (1024 + t) (s.rateCode (1024 + t))
  s3.each (List.range 8) fun s p =>
    let w := s.pairWord p
    ((s.putFlag .SPI_PAIR_STATUS_VALID p (wbit w 31)).put .SPI_PAIR_STATUS_TRUNK_A p (wbits w 3 0)).put .SPI_PAIR_STATUS_TRUNK_B p (wbits w 11 8)

/-- LINK of a field port whose entry has changed follows its new binding. -/
def State.relink (s : State) (p : Nat) : State :=
  if isTrunk p then s else if s.onLane p then s.fieldLink p else s.setLink p false

/-- The first commit starts the ageing sweeper (R220). -/
def State.sweeperStart (s : State) : State := { s with sweepPass := 0, sweepPos := 0, agePeriod := s.get .NREG_AGE_PERIOD }

/-- The switch cycle. -/
def State.stiSwitch (s : State) : State :=
  if s.stiState ≠ stiCommitting then s
  else
    let old := s.img
    let new := decodeImage s.sti.words
    let first := !s.committed
    let ports := lanesChanged old new
    let s1 := (s.when first State.allPortsOff).each ports State.flushPort
    let s2 := ({ s1 with img := new }.writeSeverities).writePresets first
    let s3 := (s2.put .STI_STATUS_COMMITTED 0 1).showStructure.when first State.sweeperStart
    let s4 := ((s3.each ports State.relink).each (slotsChanged old new) State.extEval).each ((List.range 16).map (1024 + ·)) State.lpiLeave
    (s4.stiDiscard.stiDone).when first State.presentAll

/-- STI_COMMIT_SWITCH. -/
def execStiCommitSwitch (s : State) : Host.Outcome State Fault Refusal := run 19 State.stiSwitch s

end Sys2Proof.Machine
end

