-- ==== Sys2Proof/Machine/Reset.lean ====
section
/-! DEFINITION. The resets, the fuse read, memory initialisation (R66, R67, R400, R439, R440) and what a block does when its reset
ends (R371). -/
namespace Sys2Proof.Machine

/-! Reset classes (R439). -/

/-- The registers that a complex reset leaves alone: the always-on ones and the key store's status. -/
def keptRegs : List Nat := ((allRegs.filter isAon) ++ [Reg.SES_KEY_STATUS]).map (·.ctorIdx)

/-- The registers of the power-on class, out of those away from their reset value. -/
def State.powerOnRegs (s : State) : List (Nat × Word) := s.regs.filter fun e => keptRegs.contains (e.1 % 512)

/-- A complex reset: everything of the core domain takes its reset value; the always-on domain, the key slots and the levels of
the pins stay. `on`: the core domain leaves reset, and the fuse read begins. -/
def State.coreReset (s : State) (on : Bool) : State :=
  { s with
    regs := s.powerOnRegs, shadows := [], time := 0, incrHeld := none, fusing := on, fuse := [], memInit := false
    bel := [], belLvl := s.belLvl.filter fun e => decide (1536 ≤ e.1) || (decide (1040 ≤ e.1) && decide (e.1 ≤ 1295))
    belStack := [], vec := [], belClaims := [], blkReset := [], injected := s.injected.filter fun x => x.mem == 0xD
    img := {}, frames := [], taken := [], lost := 0, queues := [], fLast := [], qUsed := [], oldClass := [], cand := [], tx := [], rx := [], injEnd := []
    seg := [], mac := [], drrPtr := [], shaper := [], credit := [], hostQ := [], itkQ := [], etkQ := []
    flow := [], pfx := [], clsA := [], clsS := [], journal := [], clsD := [], discardFailed := false, drainWarned := false, tae := []
    ctx := [], nodeCnt := [], sweepPass := 0, sweepPos := 0, agePeriod := 3000, portPol := [], flowPol := []
    ocuWatchPos := 0, ocuSweepHeld := false, ocuWatchHeld := false, ocuBuf := [], phase := [], gcl := [], gmem := [], clkRun := false
    ext := [], extPort := [], extHold := [], rrNext := [], exp := [], dup := [], spiRun := [], dma := {}
    podl := [], settling := [], podlSeq := 0, avsHit := false, avsNew := false, avsMin := 255, grants := [], epochAt := s.now, spent := []
    keep := {}, mirror := {}, ses := [], sesQ := [], sesFails := [], sti := {} }

/-- A power-on reset: both domains; the levels of the pins and the clocks stay. -/
def State.powerReset (s : State) (low on : Bool) : State :=
  { State.reset with
    pending := s.pending, fresh := s.fresh, now := s.now, out := s.out, porstLow := low, blkLow := s.blkLow
    coreClk := s.coreClk, refClk := s.refClk, fldLink := s.fldLink, fusing := on
    belLvl := s.belLvl.filter fun e => decide (1040 ≤ e.1) && decide (e.1 ≤ 1295) }

/-- PORST_N_ASSERT (R66). -/
def execPorstNAssert (s : State) : Host.Outcome State Fault Refusal := .next (s.powerReset true false)

/-- PORST_N_RELEASE (R66): the core domain leaves reset with it where BLK_RST_N is already high. -/
def execPorstNRelease (s : State) : Host.Outcome State Fault Refusal :=
  .next (if s.porstLow then (s.powerReset false (!s.blkLow)).watchClock else s)

/-- BLK_RST_N_ASSERT (R66): the time that records carry runs on in the always-on domain (R379). -/
def execBlkRstNAssert (s : State) : Host.Outcome State Fault Refusal :=
  .next (if s.blkLow then s else { s.copyTime.coreReset false with blkLow := true }.watchClock)

/-- BLK_RST_N_RELEASE (R66): ignored while PORST_N is low. -/
def execBlkRstNRelease (s : State) : Host.Outcome State Fault Refusal :=
  .next (if !s.blkLow then s
    else if s.porstLow then { s with blkLow := false }
    else { s.coreReset true with blkLow := false }.watchClock)

/-! The fuse read (R67, R440). -/

/-- The fuse read ends: the codes, the factory values, and the fault source where it failed; memory initialisation begins. -/
def State.fuseEnd (s : State) (code : Nat) : State :=
  let s1 := { (s.put .GLB_BOOT_FUSE_DONE 0 1).put .GLB_BOOT_FUSE_ERR 0 code with fusing := false, memInit := true }
  let s2 := s1.putFlag .FLT_STATUS_FACTORY 0 (code == 0 && wbit (nth s.fuse 0 0) 31)
  if code = 0 then s2 else s2.raiseFree 1

/-- The CRC of word 63 over words 0 to 62 (R67). -/
def fuseCrcOk (l : List Word) : Bool := crc32c (bytesOf (l.take 63)) == (nth l 63 0).toNat

/-- A fuse word is taken. -/
def State.fuseAck (s : State) (w : Word) : State :=
  if !s.fusing then s
  else
    let s1 := { s with fuse := s.fuse ++ [w] }
    if s1.fuse.length < 64 then s1 else s1.fuseEnd (if fuseCrcOk s1.fuse then 0 else 2)

/-- FUSE_ACK. -/
def execFuseAck (data : Word) (s : State) : Host.Outcome State Fault Refusal := run 20 (fun s => s.fuseAck data) s

/-- FUSE_TIMEOUT. -/
def execFuseTimeout (s : State) : Host.Outcome State Fault Refusal := run 20 (fun s => if s.fusing then s.fuseEnd 1 else s) s

/-- Memory initialisation clears every memory of the core domain (R400). -/
def State.clearMemories (s : State) : State :=
  { s with
    flow := [], pfx := [], clsA := [], clsS := [], journal := [], clsD := [], ctx := [], qUsed := [], nodeCnt := [], portPol := [], flowPol := []
    gmem := [], exp := [], dup := [], injected := s.injected.filter fun x => x.mem == 0xD }

/-- MEM_INIT_DONE. -/
def execMemInitDone (s : State) : Host.Outcome State Fault Refusal :=
  run 20 (fun s => if s.memInit then { s.clearMemories with memInit := false }.put .GLB_BOOT_MEM_INIT_DONE 0 1 else s) s

/-! Block resets (R371). -/

/-- The reception of a port is lost to a block reset, and counted. -/
def State.loseRx (s : State) (p : Nat) : State :=
  if (s.rxOf p).isSome then (s.dropRx p).inc .FLT_RST_FRAMES_COUNT else s

/-- A table access engine's command in progress is dropped. -/
def State.taeDrop (s : State) (k : Nat) : State :=
  if s.taeBusy k then { s with tae := tput none s.tae k none }.wr (taeRegs k).status 0 (s.rd (taeRegs k).status 0 &&& 0x7FFFFFFF#32)
  else s

/-- Block 1: transmissions end with an inverted FCS, and each trunk reacquires LINK. -/
def State.recoverTrunk (s : State) (m : Nat) : State :=
  let s1 := s.loseRx m
  let s2 := match (s1.txOf m).filter (!·.cut) with
    | some t => s1.sendDone m { t with good := false } .ok
    | none => s1
  let s3 := s2.setMac m { s2.macOf m with autoHeld := none, forcedHeld := none, waking := false }
  if s3.link m then s3.trunkLink m false else s3

/-- Block 2: the port re-enters its state machine from DISABLED; its transmission is dropped. -/
def State.recoverField (s : State) (p : Nat) : State :=
  let s1 := s.loseRx p
  let s2 := match s1.txOf p with
    | some t => match t.copy with
      | some c => (s1.setTx p none).endCopy c none
      | none => s1.setTx p none
    | none => s1
  let s3 := s2.setMac p { s2.macOf p with autoHeld := none, forcedHeld := none, waking := false }
  if s3.extended p then s3
  else ((s3.setSeg p { s3.segOf p with babble := 0, carrier := none }).enterSeg p segDisabled).segEval p

/-- Block 3: every JOINED extender is lost and rejoins. -/
def State.recoverExt (s : State) (e : Nat) : State :=
  let st := s.extState e
  if st = extJoined then (s.extLeaveJoined e extIdle 6 false).extEval e
  else if st = extChallenging then (s.extEnter e extIdle).extEval e
  else s

/-- Block 5: a staging not yet past its switch cycle is discarded; frames lose their in-flight count. -/
def State.recoverCls (s : State) : State :=
  let st := s.get .CLS_COMMIT_STATUS_STATE
  let s1 := if st = clsStaging ∨ st = clsWait ∨ st = clsCommitting then s.clsAbort else s
  { s1 with rx := s1.rx.map fun (e : Nat × Option Rx) => (e.1, e.2.map fun (r : Rx) => { r with inflight := false }) }.taeDrop 0

/-- Block 8: every copy ends, every cell is freed, and DOME_HOLD is set. -/
def State.recoverDome (s : State) : State :=
  let s1 := s.each s.frames fun s e => s.injEnded e.2 none
  let s2 := { s1 with
    frames := [], taken := [], lost := 0, queues := [], cand := [], hostQ := [], itkQ := [], etkQ := []
    tx := s1.tx.map fun (e : Nat × Option Tx) => (e.1, e.2.map fun (t : Tx) => if t.copy.isSome then { t with copy := none, good := false } else t)
    rx := s1.rx.map fun (e : Nat × Option Rx) => (e.1, e.2.map fun (r : Rx) => if r.head.isSome || r.fbHead.isSome then cutRx r else r) }
  let s2 := s2.each s2.chans fun s c => s.setChan c { s.chan c with head := none, cells := 0, out := [] }
  let s3 := (s2.each (List.range 1024) fun s p => if s.flag .SEG_STATUS_CAND p then s.put .SEG_STATUS_CAND p 0 else s).put
    .FLT_STATUS_DOME_HOLD 0 1
  let s4 := s3.each (s3.touched .SCH_DEFICIT) fun s i => s.drrRest (i / 8) (i % 8)
  s4.each (List.range 16) fun s t => s.flowControl (1024 + t)

/-- Block 12: frames being cut through end with an inverted FCS, and the duplicate tables are cleared. -/
def State.recoverSpire (s : State) (m : Nat) : State :=
  match s.rxOf m with
  | none => s
  | some r => match r.spi with
    | none => s
    | some x =>
      let s1 := if x.cut then s.cutEnd x r.bytes false else s
      let r1 := { r with spi := none, express := false, fbHead := none, cut := r.cut || r.head.isNone }
      s1.setRx m (some (if r1.cut then cutRx r1 else r1))

/-- Block 13: every channel enters OFF without writing status, and its claims end. -/
def State.recoverDma (s : State) : State :=
  let s1 := { s with dma := { s.dma with chans := [], wdq := [], txns := s.dma.txns.filter (·.lost), clearing := false }, injEnd := [] }
  let s2 := s1.each (List.range 64) fun s c => if s.chState c = chOff then s else s.chEnter c chOff 0
  s2.each (s2.touched .CHK_CFG) fun s u => s.put .CHK_CFG_BUSY u 0

/-- Block 17: an image in production, or a load, is abandoned and fails, with ERR as it stands (R371, R408, R411). -/
def State.recoverKeep (s : State) : State :=
  let s1 := if s.keepState = keepIdle then s else s.keepFail (s.get .KEEP_STATUS_ERR)
  { s1 with mirror := { s1.mirror with held := [], resync := [] } }

/-- Blocks 4 and 5: the receptions that the block holds are dropped. -/
def State.recoverRx (s : State) (held : Rx → Bool) : State :=
  s.each s.rx fun s e => match s.rxOf e.1 with
    | some r => if held r then s.rxDrop e.1 r else s
    | none => s

/-- Block 18: every session closes. -/
def State.recoverSes (s : State) : State :=
  let s1 := s.each (List.range 4) fun s i =>
    if s.sesState i = sesOpened then s.sesEnd i 5
    else if s.sesState i = sesChallenged then (s.put .SES_SESS_STATE i sesFree).setSes i {}
    else s
  { s1 with sesQ := [] }

/-- What a block does when its reset ends (R371). -/
def State.recover (s : State) (b : Nat) : State :=
  match b with
  | 1 => s.each (List.range 16) fun s t => s.recoverTrunk (1024 + t)
  | 2 => s.each (List.range 1024) State.recoverField
  | 3 => s.each (List.range 48) State.recoverExt
  | 4 => s.recoverRx fun r => r.head.isSome && r.parsed.isSome
  | 5 => s.recoverCls.recoverRx fun r => r.head.isSome && r.lookup.isSome
  | 6 => { s with sweepPass := 0, sweepPos := 0 }.taeDrop 1
  | 7 => s.taeDrop 2
  | 8 => s.recoverDome
  | 9 => s.each (List.range 1024) State.returnCand
  | 10 => { s.put .OCU_STATUS_SWEEP_POS 0 0 with ocuWatchPos := 0 }
  | 11 => ({ s with clkRun := false }.taeDrop 3).each ((s.touched .TPG_GCL_STATUS).filter fun n => s.gclState n == gclRunning) fun s n => s.gclFollow n []
  | 12 => ({ s.each (List.range 16) fun s t => s.recoverSpire (1024 + t) with dup := [] }).taeDrop 4
  | 13 => s.recoverDma
  | 15 => { s with bel := [], belStack := [], vec := [], belClaims := [] }.presentAll
  | 16 => { s with avsHit := false, avsMin := 255 }
  | 17 => s.recoverKeep
  | 18 => s.recoverSes
  | _ => s

/-- The end of a block reset: block 13 waits until no transaction is outstanding. -/
def State.blockRelease (s : State) (b : Nat) : State :=
  if !s.blkReset.contains b || (b == 13 && !s.dma.quiet) then s
  else { s with blkReset := s.blkReset.erase b }.recover b

/-- BLOCK_RESET_RELEASE: it needs CORE_CLK. -/
def execBlockResetRelease (b : Nat) (s : State) : Host.Outcome State Fault Refusal :=
  s.become (s.onUnit 32 b fun s => if s.coreUp then s.blockRelease b else s)

end Sys2Proof.Machine
end

