-- ==== Sys2Proof/Machine/SesCommand.lean ====
section
/-! DEFINITION. The commands of an open management session and their responses (R418 to R422), the frames of the endpoint, and
the end of a reception. -/
namespace Sys2Proof.Machine

/-! Statuses of a response (R415). -/

def sesOk : Nat := 0
def sesDenied : Nat := 1
def sesBadMsg : Nat := 2
def sesBusyCode : Nat := 3
def sesEngine : Nat := 4

/-! Windows (R421, R422). -/

/-- Window `w` is in use for a slot. -/
def State.winOf (s : State) (w slot : Nat) : Bool := s.flag .SES_WIN_CFG_EN w && (s.get .SES_WIN_CFG_SLOTS w).testBit slot

/-- A READ or WRITE may touch the word at an offset. -/
def State.winAllows (s : State) (slot : Nat) (wr : Bool) (a : Nat) : Bool :=
  !(decide (0x1600000 ≤ a) && decide (a ≤ 0x16FFFFF)) && !(decide (0x0100000 ≤ a) && decide (a ≤ 0x01FFFFF)) && decide (a < 0x1F00000)
    && (List.range 16).any fun w => s.winOf w slot && (if wr then s.flag .SES_WIN_CFG_WR w else s.flag .SES_WIN_CFG_RD w)
      && decide ((s.rd .SES_WIN_BASE w).toNat ≤ a) && decide (a ≤ (s.rd .SES_WIN_LIMIT w).toNat)

/-- Table, Keep and structure image commands are permitted for a slot. -/
def State.cmdAllows (s : State) (slot : Nat) : Bool := (List.range 16).any fun w => s.winOf w slot && s.flag .SES_WIN_CFG_CMD w

/-- A refused command (R421). -/
def State.sesDeny (s : State) (i msg : Nat) : State := (s.inc .SES_DENIED_COUNT).sesRespond i msg sesDenied []

/-! READ and WRITE: register slave accesses at consecutive words (R420). -/

/-- One word read. -/
def State.sesLoad (s : State) (a : Nat) : Word × State :=
  match regOf a with
  | some (r, j) => s.readReg r j
  | none => (0, if a % 4 = 0 then s else s.inc .GLB_SLV_ERR_COUNT)

/-- Words read in order. -/
def State.sesLoads (s : State) : List Nat → List Word × State
  | [] => ([], s)
  | a :: l =>
    let x := s.sesLoad a
    let y := x.2.sesLoads l
    (x.1 :: y.1, y.2)

/-- One word written. -/
def State.sesStore (s : State) (a : Nat) (w : Word) : State :=
  match regOf a with
  | some (r, j) => s.slaveStore r j w
  | none => if a % 4 = 0 then s else s.inc .GLB_SLV_ERR_COUNT

/-- Words as a response carries them. -/
def netWords (l : List Word) : List Byte := l.flatMap fun w => beBytes 4 w.toNat

/-- The offsets that a READ or WRITE touches. -/
def sesAddrs (b : List Byte) : List Nat := (List.range (beAt b 4 2)).map fun j => beAt b 0 4 + 4 * j

/-- The body of a READ or WRITE is whole: COUNT is 1 to 64 and the words are there. -/
def sesRwOk (b : List Byte) (wr : Bool) : Bool :=
  let n := beAt b 4 2
  decide (6 ≤ b.length) && decide (1 ≤ n) && decide (n ≤ 64) && b.length == (if wr then 8 + 4 * n else 6) && (!wr || beAt b 6 2 == 0)

/-- READ. -/
def State.sesRead (s : State) (i : Nat) (b : List Byte) : State :=
  if !sesRwOk b false then s.sesRespond i 0x10 sesBadMsg []
  else if !(sesAddrs b).all (s.winAllows (s.get .SES_SESS_SLOT i) false) then s.sesDeny i 0x10
  else
    let x := s.sesLoads (sesAddrs b)
    x.2.sesRespond i 0x10 sesOk (netWords x.1)

/-- WRITE. -/
def State.sesWrite (s : State) (i : Nat) (b : List Byte) : State :=
  if !sesRwOk b true then s.sesRespond i 0x11 sesBadMsg []
  else if !(sesAddrs b).all (s.winAllows (s.get .SES_SESS_SLOT i) true) then s.sesDeny i 0x11
  else
    let s1 := s.each ((sesAddrs b).zipIdx) fun s x => s.sesStore x.1 (word (beAt b (8 + 4 * x.2) 4))
    s1.sesRespond i 0x11 sesOk []

/-! Deferred commands. -/

/-- A deferred command has ended (R420): BUSY has fallen, or the engine has left the states in which it works. -/
def State.sesReady (s : State) (msg : Nat) : Bool :=
  match msg with
  | 0x20 => !s.taeBusy 0
  | 0x21 => s.get .CLS_COMMIT_STATUS_STATE == clsIdle || s.get .CLS_COMMIT_STATUS_STATE == clsStaging
  | 0x42 => s.stiState != stiValidating
  | 0x43 => s.stiState != stiCommitting
  | _ => true

/-- The response of a deferred command. -/
def State.sesResult (s : State) (i msg : Nat) : State :=
  match msg with
  | 0x20 =>
    s.sesRespond i msg (if s.get .CLS_TAE_STATUS_RESULT = 0 then sesOk else sesEngine) (netWords (s.view .CLS_TAE_STATUS 0 :: s.taeData 0))
  | 0x21 => s.sesRespond i msg sesOk (netWords [s.view .CLS_COMMIT_STATUS 0])
  | _ => s.sesRespond i msg sesOk (netWords [s.view .STI_STATUS 0])

/-- A command that has been started: its response is sent when it has ended. -/
def State.sesDefer (s : State) (i msg : Nat) : State :=
  if s.sesReady msg then s.sesResult i msg else s.setSes i { s.sesOf i with waits := some msg }

/-- TAE (R420, R435). -/
def State.sesTae (s : State) (i : Nat) (b : List Byte) : State :=
  let n := b.length / 4 - 2
  if b.length % 4 ≠ 0 ∨ b.length < 8 ∨ 32 < n then s.sesRespond i 0x20 sesBadMsg []
  else if !s.cmdAllows (s.get .SES_SESS_SLOT i) then s.sesDeny i 0x20
  else if s.taeBusy 0 then s.sesRespond i 0x20 sesBusyCode []
  else
    let s1 := s.each (List.range n) fun s j => s.wr .CLS_TAE_DATA j (word (beAt b (8 + 4 * j) 4))
    let s2 := s1.store .CLS_TAE_ADDR 0 (word (beAt b 4 4))
    (s2.taeWrite 0 .CLS_TAE_CMD 0 (word (beAt b 0 4) ||| 0x80000000#32) (some i)).sesDefer i 0x20

/-- A command without a body that a window's CMD permits. -/
def State.sesPlain (s : State) (i msg : Nat) (b : List Byte) (f : State → State) : State :=
  if !b.isEmpty then s.sesRespond i msg sesBadMsg []
  else if !s.cmdAllows (s.get .SES_SESS_SLOT i) then s.sesDeny i msg
  else f s

/-- STI_DATA. -/
def State.sesStiData (s : State) (i : Nat) (b : List Byte) : State :=
  if b.length % 4 ≠ 0 then s.sesRespond i 0x41 sesBadMsg []
  else if !s.cmdAllows (s.get .SES_SESS_SLOT i) then s.sesDeny i 0x41
  else
    let s1 := s.each (List.range (b.length / 4)) fun s j => s.stiWord (some i) (word (beAt b (4 * j) 4))
    s1.sesRespond i 0x41 sesOk (netWords [s1.view .STI_LOAD_COUNT 0])

/-- Image bytes returned from an offset on: the fetch moves past them, and past PREFIX the version is let go (R407, R420). -/
def State.sesFetched (s : State) (i off : Nat) : State :=
  let l := slice s.keep.image off 1400
  let pos := off + l.length
  let s1 := { s with keep := { s.keep with pos := pos, pin := if s.keep.prefixEnd ≤ pos then none else s.keep.pin } }
  (s1.setSes i { s1.sesOf i with fetch := some pos }).sesRespond i 0x30 sesOk (beBytes 4 off ++ l)

/-- KEEP_FETCH (R420). -/
def State.sesKeepFetch (s : State) (i : Nat) (b : List Byte) : State :=
  let off := beAt b 0 4
  if b.length ≠ 4 then s.sesRespond i 0x30 sesBadMsg []
  else if !s.cmdAllows (s.get .SES_SESS_SLOT i) then s.sesDeny i 0x30
  else if off = 0 then
    if s.keepState ≠ keepIdle then s.sesRespond i 0x30 sesBusyCode [] else (s.keepStart (some i)).sesFetched i 0
  else if s.keepState = keepFetching ∧ s.keep.session = some i ∧ (s.sesOf i).fetch = some off then s.sesFetched i off
  else s.sesRespond i 0x30 sesBadMsg []

/-- A command carried out (R420). -/
def State.sesExecute (s : State) (d : List Byte) (i : Nat) : State :=
  let b := sesBody d
  match sesMsg d with
  | 0x10 => s.sesRead i b
  | 0x11 => s.sesWrite i b
  | 0x20 => s.sesTae i b
  | 0x21 => s.sesPlain i 0x21 b fun s => s.clsCommit.sesDefer i 0x21
  | 0x22 => s.sesPlain i 0x22 b fun s =>
    let s1 := s.clsAbort
    s1.sesRespond i 0x22 sesOk (netWords [s1.view .CLS_COMMIT_STATUS 0])
  | 0x30 => s.sesKeepFetch i b
  | 0x40 => s.sesPlain i 0x40 b fun s => (s.stiStart (some i)).sesResult i 0x40
  | 0x41 => s.sesStiData i b
  | 0x42 => s.sesPlain i 0x42 b fun s => (s.stiCheck (some i)).sesDefer i 0x42
  | 0x43 => s.sesPlain i 0x43 b fun s => (s.stiGo (some i)).sesDefer i 0x43
  | 0x44 => s.sesPlain i 0x44 b fun s => (s.stiStop (some i)).sesResult i 0x44
  | 0x7E => if b.isEmpty then (s.sesRespond i 0x7E sesOk []).sesClose i 1 else s.sesRespond i 0x7E sesBadMsg []
  | m => s.sesRespond i m sesBadMsg []

/-- A session frame at the endpoint: an opening message acts at once, a command when none is in execution (R418). -/
def State.sesFrame (s : State) (t : Nat) (d : List Byte) : State :=
  if !sesWhole d then s.sesReject
  else match sesMsg d with
    | 0x01 => s.sesOpen t d
    | 0x03 => s.sesProof t d
    | _ => if s.sesBusy then { s with sesQ := s.sesQ ++ [(t, d)] } else s.sesAccept t d fun s i => s.sesExecute d i

/-- The commands that wait, in order of arrival, until one of them waits in its turn. -/
def State.sesDrain (s : State) : List (Nat × List Byte) → State
  | [] => { s with sesQ := [] }
  | x :: l => if s.sesBusy then { s with sesQ := x :: l } else (s.sesAccept x.1 x.2 fun s i => s.sesExecute x.2 i).sesDrain l

/-- A waiting response is sent; a close that waited for it follows, and then the commands that wait (R418, R419). -/
def State.sesDeferred (s : State) (i : Nat) : State :=
  match (s.sesOf i).waits with
  | none => s
  | some msg =>
    if !s.sesReady msg then s
    else
      let c := (s.sesOf i).closing
      let s1 := s.sesResult i msg
      let s2 := match c with
        | some cause => s1.sesEnd i cause
        | none => s1
      s2.sesDrain s2.sesQ

/-- A WRITE of FLT_INJ_CTRL in factory test mode would be carried out (R385). -/
def State.sesInjects (s : State) (t : Nat) (d : List Byte) : Bool :=
  s.flag .FLT_STATUS_FACTORY && sesWhole d && sesMsg d == 0x11 && (match s.sesFind t sesOpened d with
    | some i => s.sesTagged i d && decide ((s.sesOf i).seq < sesSeq d) && sesRwOk (sesBody d) true
        && (sesAddrs (sesBody d)).contains 0x1400058
        && (sesAddrs (sesBody d)).all (s.winAllows (s.get .SES_SESS_SLOT i) true)
    | none => false)

/-- A session frame that a trunk receives: counted as received, then handled (R97, R415). -/
def State.sesRx (s : State) (t : Nat) (l : List Nat) (d : List Byte) : State :=
  let m := 1024 + t
  if s.enabled m && s.link m && s.isSession m d && l.contains (sesMsg d) then
    ((s.add64 .MAC_RX_FRAMES_LO .MAC_RX_FRAMES_HI m 1).add64 .MAC_RX_OCTETS_LO .MAC_RX_OCTETS_HI m (max 60 d.length + 4)).sesFrame t d
  else s

/-- SES_OPEN. -/
def execSesOpen (t : Nat) (frame : List Byte) (s : State) : Host.Outcome State Fault Refusal :=
  runOn 16 t 18 (fun s => s.sesRx t [0x01] frame) s
/-- SES_PROOF. -/
def execSesProof (t : Nat) (frame : List Byte) (s : State) : Host.Outcome State Fault Refusal :=
  runOn 16 t 18 (fun s => s.sesRx t [0x03] frame) s
/-- SES_CLOSE. -/
def execSesClose (t : Nat) (frame : List Byte) (s : State) : Host.Outcome State Fault Refusal :=
  runOn 16 t 18 (fun s => s.sesRx t [0x7E] frame) s
/-- SES_READ. -/
def execSesRead (t : Nat) (frame : List Byte) (s : State) : Host.Outcome State Fault Refusal :=
  runOn 16 t 18 (fun s => s.sesRx t [0x10] frame) s
/-- SES_WRITE. -/
def execSesWrite (t : Nat) (frame : List Byte) (s : State) : Host.Outcome State Fault Refusal :=
  if decide (t < 16) && s.up 18 && s.isSession (1024 + t) frame && s.sesInjects t frame then .refused .factoryInjection
  else runOn 16 t 18 (fun s => s.sesRx t [0x11] frame) s
/-- SES_TAE. -/
def execSesTae (t : Nat) (frame : List Byte) (s : State) : Host.Outcome State Fault Refusal :=
  runOn 16 t 18 (fun s => s.sesRx t [0x20] frame) s
/-- SES_COMMIT. -/
def execSesCommit (t : Nat) (frame : List Byte) (s : State) : Host.Outcome State Fault Refusal :=
  runOn 16 t 18 (fun s => s.sesRx t [0x21] frame) s
/-- SES_ABORT. -/
def execSesAbort (t : Nat) (frame : List Byte) (s : State) : Host.Outcome State Fault Refusal :=
  runOn 16 t 18 (fun s => s.sesRx t [0x22] frame) s
/-- SES_KEEP_FETCH. -/
def execSesKeepFetch (t : Nat) (frame : List Byte) (s : State) : Host.Outcome State Fault Refusal :=
  runOn 16 t 18 (fun s => s.sesRx t [0x30] frame) s
/-- SES_STI_START. -/
def execSesStiStart (t : Nat) (frame : List Byte) (s : State) : Host.Outcome State Fault Refusal :=
  runOn 16 t 18 (fun s => s.sesRx t [0x40] frame) s
/-- SES_STI_DATA. -/
def execSesStiData (t : Nat) (frame : List Byte) (s : State) : Host.Outcome State Fault Refusal :=
  runOn 16 t 18 (fun s => s.sesRx t [0x41] frame) s
/-- SES_STI_VALIDATE. -/
def execSesStiValidate (t : Nat) (frame : List Byte) (s : State) : Host.Outcome State Fault Refusal :=
  runOn 16 t 18 (fun s => s.sesRx t [0x42] frame) s
/-- SES_STI_COMMIT. -/
def execSesStiCommit (t : Nat) (frame : List Byte) (s : State) : Host.Outcome State Fault Refusal :=
  runOn 16 t 18 (fun s => s.sesRx t [0x43] frame) s
/-- SES_STI_ABORT. -/
def execSesStiAbort (t : Nat) (frame : List Byte) (s : State) : Host.Outcome State Fault Refusal :=
  runOn 16 t 18 (fun s => s.sesRx t [0x44] frame) s

/-- SES_DEFERRED_RESPONSE. -/
def execSesDeferredResponse (i : Nat) (s : State) : Host.Outcome State Fault Refusal :=
  if decide (i < 4) && s.up 18 && s.sesQ.any (fun x => s.sesInjects x.1 x.2) then .refused .factoryInjection
  else runOn 4 i 18 (fun s => s.sesDeferred i) s

/-! The end of a reception. -/

/-- What the extender manager, the session endpoint and mirror mode make of a frame that they consume (R97, R156, R404, R415). -/
def State.consumeFrame (s : State) (m : Nat) (d : List Byte) : State :=
  if s.extTrunkRole m && s.isMgmt d then s.inBlock 3 fun s => s.mgmtFrame (m - 1024) d
  else if s.isSession m d then s.inBlock 18 fun s => s.sesFrame (m - 1024) d
  else s.inBlock 17 fun s => s.mirFrame d

/-- RX_FRAME_END. -/
def execRxFrameEnd (p : Nat) (bytes : List Byte) (fcs : Word) (rxErr coll : Bool) (bad : List (Nat × Nat))
    (s : State) : Host.Outcome State Fault Refusal :=
  let b := (s.rxWire p bytes fcs).1
  if decide (p < 1040) && s.up (macBlock p) && s.up 18 && s.isSession p b && s.sesInjects (p - 1024) b then .refused .factoryInjection
  else runOn 1040 p (macBlock p) (fun s => s.rxEnd State.consumeFrame p bytes fcs rxErr coll bad) s

end Sys2Proof.Machine
end

