-- ==== Sys2Proof/Machine/Dispatch.lean ====
section
/-! DEFINITION. The commands dispatched to their meanings, one arm per row of the table (R22, R38). -/
namespace Sys2Proof.Machine

/-- The effect of a command on everything but the queue of waiting commands. -/
def exec (i : Instr) (s : State) : Host.Outcome State Fault Refusal :=
  match i with
  | .porstNAssert => Sys2Proof.Machine.execPorstNAssert s
  | .porstNRelease => Sys2Proof.Machine.execPorstNRelease s
  | .blkRstNAssert => Sys2Proof.Machine.execBlkRstNAssert s
  | .blkRstNRelease => Sys2Proof.Machine.execBlkRstNRelease s
  | .fuseAck data => Sys2Proof.Machine.execFuseAck data s
  | .fuseTimeout => Sys2Proof.Machine.execFuseTimeout s
  | .memInitDone => Sys2Proof.Machine.execMemInitDone s
  | .registerWrite addr data strobes => Sys2Proof.Machine.execRegisterWrite addr data strobes s
  | .counterClear addr => Sys2Proof.Machine.execCounterClear addr s
  | .counterLowRead addr => Sys2Proof.Machine.execCounterLowRead addr s
  | .rxFrameStart p sfdOk bytes => Sys2Proof.Machine.execRxFrameStart p sfdOk bytes s
  | .rxOversizeDetect p bytes => Sys2Proof.Machine.execRxOversizeDetect p bytes s
  | .rxJabber p rxErr => Sys2Proof.Machine.execRxJabber p rxErr s
  | .parseStart p bytes bad => Sys2Proof.Machine.execParseStart p bytes bad s
  | .rxFrameEnd p bytes fcs rxErr coll bad => Sys2Proof.Machine.execRxFrameEnd p bytes fcs rxErr coll bad s
  | .macControlFrame p bytes fcs rxErr => Sys2Proof.Machine.execMacControlFrame p bytes fcs rxErr s
  | .pauseTimerExpire p => Sys2Proof.Machine.execPauseTimerExpire p s
  | .pfcTimerExpire t c => Sys2Proof.Machine.execPfcTimerExpire t c s
  | .itkTransfer lane => Sys2Proof.Machine.execItkTransfer lane s
  | .etkTransfer lane w0 w1 w2 w3 => Sys2Proof.Machine.execEtkTransfer lane w0 w1 w2 w3 s
  | .egressTicketProcess lane more => Sys2Proof.Machine.execEgressTicketProcess lane more s
  | .referenceRelease lane head more => Sys2Proof.Machine.execReferenceRelease lane head more s
  | .schedChoose p => Sys2Proof.Machine.execSchedChoose p s
  | .copyEnd p ecc => Sys2Proof.Machine.execCopyEnd p ecc s
  | .trunkEnable t => Sys2Proof.Machine.execTrunkEnable t s
  | .trunkDisable t => Sys2Proof.Machine.execTrunkDisable t s
  | .loopbackChange p loop => Sys2Proof.Machine.execLoopbackChange p loop s
  | .trunkLinkChange t up => Sys2Proof.Machine.execTrunkLinkChange t up s
  | .fldLinkChange lane up => Sys2Proof.Machine.execFldLinkChange lane up s
  | .fecCodeword t correctable => Sys2Proof.Machine.execFecCodeword t correctable s
  | .pauseRefresh t mask => Sys2Proof.Machine.execPauseRefresh t mask s
  | .fcForce p w => Sys2Proof.Machine.execFcForce p w s
  | .macControlTx p => Sys2Proof.Machine.execMacControlTx p s
  | .lpiEnter p => Sys2Proof.Machine.execLpiEnter p s
  | .lpiExit p => Sys2Proof.Machine.execLpiExit p s
  | .lpiWakeEnd p => Sys2Proof.Machine.execLpiWakeEnd p s
  | .rxLpiEnter p => Sys2Proof.Machine.execRxLpiEnter p s
  | .fieldPortEnable p => Sys2Proof.Machine.execFieldPortEnable p s
  | .fieldPortDisable p => Sys2Proof.Machine.execFieldPortDisable p s
  | .serviceRequest p => Sys2Proof.Machine.execServiceRequest p s
  | .serviceRelease p => Sys2Proof.Machine.execServiceRelease p s
  | .serviceQuiet p => Sys2Proof.Machine.execServiceQuiet p s
  | .serviceForced p => Sys2Proof.Machine.execServiceForced p s
  | .babbleClear p => Sys2Proof.Machine.execBabbleClear p s
  | .csmaAttempt p waited => Sys2Proof.Machine.execCsmaAttempt p waited s
  | .csmaCollision p late => Sys2Proof.Machine.execCsmaCollision p late s
  | .backoffExpire p => Sys2Proof.Machine.execBackoffExpire p s
  | .plcaBeacon p => Sys2Proof.Machine.execPlcaBeacon p s
  | .plcaOwnOpportunity p => Sys2Proof.Machine.execPlcaOwnOpportunity p s
  | .plcaToTimerExpire p => Sys2Proof.Machine.execPlcaToTimerExpire p s
  | .plcaCarrierRise p => Sys2Proof.Machine.execPlcaCarrierRise p s
  | .plcaOppEnd p => Sys2Proof.Machine.execPlcaOppEnd p s
  | .burstTimerExpire p => Sys2Proof.Machine.execBurstTimerExpire p s
  | .foreignBeacon p => Sys2Proof.Machine.execForeignBeacon p s
  | .babbleWindowExpire p => Sys2Proof.Machine.execBabbleWindowExpire p s
  | .candidateFill p => Sys2Proof.Machine.execCandidateFill p s
  | .candidateReplace p => Sys2Proof.Machine.execCandidateReplace p s
  | .extDiscover e => Sys2Proof.Machine.execExtDiscover e s
  | .extJoinEnable e => Sys2Proof.Machine.execExtJoinEnable e s
  | .extJoinDisable e => Sys2Proof.Machine.execExtJoinDisable e s
  | .extHello t frame => Sys2Proof.Machine.execExtHello t frame s
  | .extResponse t frame => Sys2Proof.Machine.execExtResponse t frame s
  | .extChallengeTimeout e => Sys2Proof.Machine.execExtChallengeTimeout e s
  | .extHelloHoldoffExpire unit => Sys2Proof.Machine.execExtHelloHoldoffExpire unit s
  | .extLeave t frame => Sys2Proof.Machine.execExtLeave t frame s
  | .extPoll e => Sys2Proof.Machine.execExtPoll e s
  | .extReport t frame => Sys2Proof.Machine.execExtReport t frame s
  | .extEvent t frame => Sys2Proof.Machine.execExtEvent t frame s
  | .extPushGo e => Sys2Proof.Machine.execExtPushGo e s
  | .extConfigAck t frame => Sys2Proof.Machine.execExtConfigAck t frame s
  | .extPushTimeout e => Sys2Proof.Machine.execExtPushTimeout e s
  | .extCredit t frame => Sys2Proof.Machine.execExtCredit t frame s
  | .extPodlReq t frame => Sys2Proof.Machine.execExtPodlReq t frame s
  | .extTrunkRoundRobin t => Sys2Proof.Machine.execExtTrunkRoundRobin t s
  | .clsStageAdd ecc => Sys2Proof.Machine.execClsStageAdd ecc s
  | .clsStageDel ecc => Sys2Proof.Machine.execClsStageDel ecc s
  | .clsStageWrite ecc => Sys2Proof.Machine.execClsStageWrite ecc s
  | .clsRead ecc => Sys2Proof.Machine.execClsRead ecc s
  | .clsSearch ecc => Sys2Proof.Machine.execClsSearch ecc s
  | .taeCommandDone engine => Sys2Proof.Machine.execTaeCommandDone engine s
  | .clsCommit => Sys2Proof.Machine.execClsCommit s
  | .clsAbort => Sys2Proof.Machine.execClsAbort s
  | .clsCommitSwitch => Sys2Proof.Machine.execClsCommitSwitch s
  | .clsCommitEcc => Sys2Proof.Machine.execClsCommitEcc s
  | .clsDrainEmpty => Sys2Proof.Machine.execClsDrainEmpty s
  | .clsCleanupEnd => Sys2Proof.Machine.execClsCleanupEnd s
  | .clsDiscardEnd => Sys2Proof.Machine.execClsDiscardEnd s
  | .clsDrainWarn => Sys2Proof.Machine.execClsDrainWarn s
  | .ageingVisit ecc => Sys2Proof.Machine.execAgeingVisit ecc s
  | .nregAgeWrite w => Sys2Proof.Machine.execNregAgeWrite w s
  | .nregInsert ecc => Sys2Proof.Machine.execNregInsert ecc s
  | .nregDelete ecc => Sys2Proof.Machine.execNregDelete ecc s
  | .nregWriteCfg ecc => Sys2Proof.Machine.execNregWriteCfg ecc s
  | .nregRead ecc => Sys2Proof.Machine.execNregRead ecc s
  | .nregSearch ecc => Sys2Proof.Machine.execNregSearch ecc s
  | .nregClear ecc => Sys2Proof.Machine.execNregClear ecc s
  | .policerRefresh kind idx ecc => Sys2Proof.Machine.execPolicerRefresh kind idx ecc s
  | .polPortCfgWrite n w => Sys2Proof.Machine.execPolPortCfgWrite n w s
  | .polRead ecc => Sys2Proof.Machine.execPolRead ecc s
  | .polReset ecc => Sys2Proof.Machine.execPolReset ecc s
  | .domeLoopTick => Sys2Proof.Machine.execDomeLoopTick s
  | .domeAlphaWrite k w => Sys2Proof.Machine.execDomeAlphaWrite k w s
  | .shaperConfigApply p => Sys2Proof.Machine.execShaperConfigApply p s
  | .nodeQueueClassMove n => Sys2Proof.Machine.execNodeQueueClassMove n s
  | .ocuCtrlWrite w => Sys2Proof.Machine.execOcuCtrlWrite w s
  | .ocuSweepSample => Sys2Proof.Machine.execOcuSweepSample s
  | .ocuWatchSample => Sys2Proof.Machine.execOcuWatchSample s
  | .ocuWatchWrite v w => Sys2Proof.Machine.execOcuWatchWrite v w s
  | .tpgIncrLoWrite w => Sys2Proof.Machine.execTpgIncrLoWrite w s
  | .tpgIncrHiWrite w => Sys2Proof.Machine.execTpgIncrHiWrite w s
  | .tpgTimeFracRead => Sys2Proof.Machine.execTpgTimeFracRead s
  | .timeSet bad => Sys2Proof.Machine.execTimeSet bad s
  | .timeAdj bad => Sys2Proof.Machine.execTimeAdj bad s
  | .clkcmpGo w => Sys2Proof.Machine.execClkcmpGo w s
  | .clkcmpDone count => Sys2Proof.Machine.execClkcmpDone count s
  | .phrefEdge a bad => Sys2Proof.Machine.execPhrefEdge a bad s
  | .phaseMiss a => Sys2Proof.Machine.execPhaseMiss a s
  | .phaseEnable a => Sys2Proof.Machine.execPhaseEnable a s
  | .phaseDisable a => Sys2Proof.Machine.execPhaseDisable a s
  | .phStatusRead a => Sys2Proof.Machine.execPhStatusRead a s
  | .gclStart n bad => Sys2Proof.Machine.execGclStart n bad s
  | .gclStop n => Sys2Proof.Machine.execGclStop n s
  | .gclChange n => Sys2Proof.Machine.execGclChange n s
  | .gclListStart n bad => Sys2Proof.Machine.execGclListStart n bad s
  | .gclEntryBoundary n ecc => Sys2Proof.Machine.execGclEntryBoundary n ecc s
  | .gclFallbackExit n bad => Sys2Proof.Machine.execGclFallbackExit n bad s
  | .tpgWriteEntry ecc => Sys2Proof.Machine.execTpgWriteEntry ecc s
  | .tpgReadEntry ecc => Sys2Proof.Machine.execTpgReadEntry ecc s
  | .spireDecision t bad => Sys2Proof.Machine.execSpireDecision t bad s
  | .spireCutEnd t bytes fcs rxErr => Sys2Proof.Machine.execSpireCutEnd t bytes fcs rxErr s
  | .spireFallbackEnd t bytes fcs rxErr => Sys2Proof.Machine.execSpireFallbackEnd t bytes fcs rxErr s
  | .spiWriteEntry ecc => Sys2Proof.Machine.execSpiWriteEntry ecc s
  | .spiReadEntry ecc => Sys2Proof.Machine.execSpiReadEntry ecc s
  | .fabricCredit m wd => Sys2Proof.Machine.execFabricCredit m wd s
  | .fabricCompletion m tag data err => Sys2Proof.Machine.execFabricCompletion m tag data err s
  | .fabricTimeout m tag => Sys2Proof.Machine.execFabricTimeout m tag s
  | .dmaQuiesced => Sys2Proof.Machine.execDmaQuiesced s
  | .dmaClear => Sys2Proof.Machine.execDmaClear s
  | .dmaChannelEnable c => Sys2Proof.Machine.execDmaChannelEnable c s
  | .dmaChannelDisable c => Sys2Proof.Machine.execDmaChannelDisable c s
  | .dmaDoorbell c => Sys2Proof.Machine.execDmaDoorbell c s
  | .dmaStop c => Sys2Proof.Machine.execDmaStop c s
  | .dmaStopped c => Sys2Proof.Machine.execDmaStopped c s
  | .dmaDescriptorFetch c n => Sys2Proof.Machine.execDmaDescriptorFetch c n s
  | .dmaDescriptorComplete c => Sys2Proof.Machine.execDmaDescriptorComplete c s
  | .dmaPaceHold c => Sys2Proof.Machine.execDmaPaceHold c s
  | .dmaPaceRelease c => Sys2Proof.Machine.execDmaPaceRelease c s
  | .dmaPaceTimeout c => Sys2Proof.Machine.execDmaPaceTimeout c s
  | .dmaStreamFlush c => Sys2Proof.Machine.execDmaStreamFlush c s
  | .hostRxDeliver c ecc => Sys2Proof.Machine.execHostRxDeliver c ecc s
  | .injectFloorClear c => Sys2Proof.Machine.execInjectFloorClear c s
  | .chkUnitClaim c => Sys2Proof.Machine.execChkUnitClaim c s
  | .belSourceEvent src => Sys2Proof.Machine.execBelSourceEvent src s
  | .belLevelChange src level => Sys2Proof.Machine.execBelLevelChange src level s
  | .phyIntChange lane level => Sys2Proof.Machine.execPhyIntChange lane level s
  | .belBatchTimer src => Sys2Proof.Machine.execBelBatchTimer src s
  | .vecTaken t => Sys2Proof.Machine.execVecTaken t s
  | .belEoi t w => Sys2Proof.Machine.execBelEoi t w s
  | .belSwi w => Sys2Proof.Machine.execBelSwi w s
  | .belSrcCfgWrite src w => Sys2Proof.Machine.execBelSrcCfgWrite src w s
  | .belPendClear src w => Sys2Proof.Machine.execBelPendClear src w s
  | .faultCapture n wire syn => Sys2Proof.Machine.execFaultCapture n wire syn s
  | .blockResetRelease b => Sys2Proof.Machine.execBlockResetRelease b s
  | .resetShadowEnd b => Sys2Proof.Machine.execResetShadowEnd b s
  | .episodeEnd => Sys2Proof.Machine.execEpisodeEnd s
  | .chipRstReqRelease => Sys2Proof.Machine.execChipRstReqRelease s
  | .coreClkStop => Sys2Proof.Machine.execCoreClkStop s
  | .domeHoldClear w => Sys2Proof.Machine.execDomeHoldClear w s
  | .fltIrqClear n => Sys2Proof.Machine.execFltIrqClear n s
  | .nmtClear mask => Sys2Proof.Machine.execNmtClear mask s
  | .firstErrorClear => Sys2Proof.Machine.execFirstErrorClear s
  | .firedClear n => Sys2Proof.Machine.execFiredClear n s
  | .lanternArm key => Sys2Proof.Machine.execLanternArm key s
  | .lanternStop key => Sys2Proof.Machine.execLanternStop key s
  | .pinHoldClear w => Sys2Proof.Machine.execPinHoldClear w s
  | .fltInjArm w => Sys2Proof.Machine.execFltInjArm w s
  | .logRecordWrite => Sys2Proof.Machine.execLogRecordWrite s
  | .logFreeze => Sys2Proof.Machine.execLogFreeze s
  | .logUnfreeze => Sys2Proof.Machine.execLogUnfreeze s
  | .logAccIdxWrite w => Sys2Proof.Machine.execLogAccIdxWrite w s
  | .logAccessReady => Sys2Proof.Machine.execLogAccessReady s
  | .maintRead wordAddr => Sys2Proof.Machine.execMaintRead wordAddr s
  | .maintWrite wordAddr data => Sys2Proof.Machine.execMaintWrite wordAddr data s
  | .maintBadOp op => Sys2Proof.Machine.execMaintBadOp op s
  | .maintFrameCut op wordAddr data clock => Sys2Proof.Machine.execMaintFrameCut op wordAddr data clock s
  | .mntChipReset key => Sys2Proof.Machine.execMntChipReset key s
  | .mntBlockReset key block => Sys2Proof.Machine.execMntBlockReset key block s
  | .epochGrant => Sys2Proof.Machine.execEpochGrant s
  | .avsPeriod m => Sys2Proof.Machine.execAvsPeriod m s
  | .avsEmergency m => Sys2Proof.Machine.execAvsEmergency m s
  | .podlReqStable lane valid cls => Sys2Proof.Machine.execPodlReqStable lane valid cls s
  | .podlTick => Sys2Proof.Machine.execPodlTick s
  | .keyWrite slot key => Sys2Proof.Machine.execKeyWrite slot key s
  | .keyErase slot key => Sys2Proof.Machine.execKeyErase slot key s
  | .keyLock slot key => Sys2Proof.Machine.execKeyLock slot key s
  | .keepGo => Sys2Proof.Machine.execKeepGo s
  | .keepPeriod => Sys2Proof.Machine.execKeepPeriod s
  | .keepProductionEnd => Sys2Proof.Machine.execKeepProductionEnd s
  | .keepOutTimeout => Sys2Proof.Machine.execKeepOutTimeout s
  | .keepLoad => Sys2Proof.Machine.execKeepLoad s
  | .keepHeaderCheck => Sys2Proof.Machine.execKeepHeaderCheck s
  | .keepLoadApply => Sys2Proof.Machine.execKeepLoadApply s
  | .keepAbort => Sys2Proof.Machine.execKeepAbort s
  | .mirrorEnable w => Sys2Proof.Machine.execMirrorEnable w s
  | .mirrorCycle => Sys2Proof.Machine.execMirrorCycle s
  | .mirrorCycleEnd t frame => Sys2Proof.Machine.execMirrorCycleEnd t frame s
  | .mirrorAck t frame => Sys2Proof.Machine.execMirrorAck t frame s
  | .mirrorResync t frame => Sys2Proof.Machine.execMirrorResync t frame s
  | .mirrorHello t frame => Sys2Proof.Machine.execMirrorHello t frame s
  | .sesOpen t frame => Sys2Proof.Machine.execSesOpen t frame s
  | .sesProof t frame => Sys2Proof.Machine.execSesProof t frame s
  | .sesChallengeTimeout n => Sys2Proof.Machine.execSesChallengeTimeout n s
  | .sesLockoutExpire slot => Sys2Proof.Machine.execSesLockoutExpire slot s
  | .sesIdleTimeout n => Sys2Proof.Machine.execSesIdleTimeout n s
  | .sesClose t frame => Sys2Proof.Machine.execSesClose t frame s
  | .sesRead t frame => Sys2Proof.Machine.execSesRead t frame s
  | .sesWrite t frame => Sys2Proof.Machine.execSesWrite t frame s
  | .sesTae t frame => Sys2Proof.Machine.execSesTae t frame s
  | .sesCommit t frame => Sys2Proof.Machine.execSesCommit t frame s
  | .sesAbort t frame => Sys2Proof.Machine.execSesAbort t frame s
  | .sesKeepFetch t frame => Sys2Proof.Machine.execSesKeepFetch t frame s
  | .sesStiStart t frame => Sys2Proof.Machine.execSesStiStart t frame s
  | .sesStiData t frame => Sys2Proof.Machine.execSesStiData t frame s
  | .sesStiValidate t frame => Sys2Proof.Machine.execSesStiValidate t frame s
  | .sesStiCommit t frame => Sys2Proof.Machine.execSesStiCommit t frame s
  | .sesStiAbort t frame => Sys2Proof.Machine.execSesStiAbort t frame s
  | .sesDeferredResponse n => Sys2Proof.Machine.execSesDeferredResponse n s
  | .stiLoadStart => Sys2Proof.Machine.execStiLoadStart s
  | .stiLoadData w => Sys2Proof.Machine.execStiLoadData w s
  | .stiValidate => Sys2Proof.Machine.execStiValidate s
  | .stiValidationEnd ecc => Sys2Proof.Machine.execStiValidationEnd ecc s
  | .stiCommit => Sys2Proof.Machine.execStiCommit s
  | .stiCommitSwitch => Sys2Proof.Machine.execStiCommitSwitch s
  | .stiCommitEcc => Sys2Proof.Machine.execStiCommitEcc s
  | .stiAbort => Sys2Proof.Machine.execStiAbort s
  | .coreClkReturn => Sys2Proof.Machine.execCoreClkReturn s
  | .ptpRefclkStop => Sys2Proof.Machine.execPtpRefclkStop s
  | .ptpRefclkReturn => Sys2Proof.Machine.execPtpRefclkReturn s
  | .lanternHalfPeriod => Sys2Proof.Machine.execLanternHalfPeriod s
  | .railStateChange n st => Sys2Proof.Machine.execRailStateChange n st s
  | .mirrorDisable => Sys2Proof.Machine.execMirrorDisable s
  | .mirrorDeltaReceive t frame => Sys2Proof.Machine.execMirrorDeltaReceive t frame s

end Sys2Proof.Machine
end

