-- ==== Sys2Proof/WellFormed.lean ====
section
/-! DEFINITION. Which commands are well formed: those that name a unit that exists (R5, R6), and whose fields fit the signals that
carry them. -/
namespace Sys2Proof

/-- A command names units, offsets and fields in their ranges. -/
def wellFormed : Instr → Bool
  | .porstNAssert => true
  | .porstNRelease => true
  | .blkRstNAssert => true
  | .blkRstNRelease => true
  | .fuseAck _ => true
  | .fuseTimeout => true
  | .memInitDone => true
  | .registerWrite addr _ strobes => decide (addr < 2 ^ 25) && decide (strobes < 16)
  | .counterClear addr => decide (addr < 2 ^ 25) && addr % 4 == 0
  | .counterLowRead addr => decide (addr < 2 ^ 25) && addr % 4 == 0
  | .rxFrameStart p _ _ => decide (p < 1040)
  | .rxOversizeDetect p _ => decide (p < 1040)
  | .rxJabber p _ => decide (p < 1040)
  | .parseStart p _ _ => decide (p < 1040)
  | .rxFrameEnd p _ _ _ _ _ => decide (p < 1040)
  | .macControlFrame p _ _ _ => decide (p < 1040)
  | .pauseTimerExpire p => decide (p < 1040)
  | .pfcTimerExpire t c => decide (t < 16) && decide (c < 8)
  | .itkTransfer lane => decide (lane < 2)
  | .etkTransfer lane _ _ _ _ => decide (lane < 2)
  | .egressTicketProcess lane _ => decide (lane < 2)
  | .referenceRelease lane _ _ => decide (lane < 2)
  | .schedChoose p => decide (p < 1040)
  | .copyEnd p _ => decide (p < 1040)
  | .trunkEnable t => decide (t < 16)
  | .trunkDisable t => decide (t < 16)
  | .loopbackChange p _ => decide (p < 1040)
  | .trunkLinkChange t _ => decide (t < 16)
  | .fldLinkChange lane _ => decide (lane < 256)
  | .fecCodeword t _ => decide (t < 16)
  | .pauseRefresh t _ => decide (t < 16)
  | .fcForce p _ => decide (p < 1040)
  | .macControlTx p => decide (p < 1040)
  | .lpiEnter p => decide (p < 1040)
  | .lpiExit p => decide (p < 1040)
  | .lpiWakeEnd p => decide (p < 1040)
  | .rxLpiEnter p => decide (p < 1040)
  | .fieldPortEnable p => decide (p < 1024)
  | .fieldPortDisable p => decide (p < 1024)
  | .serviceRequest p => decide (p < 1024)
  | .serviceRelease p => decide (p < 1024)
  | .serviceQuiet p => decide (p < 1024)
  | .serviceForced p => decide (p < 1024)
  | .babbleClear p => decide (p < 1024)
  | .csmaAttempt p _ => decide (p < 1024)
  | .csmaCollision p _ => decide (p < 1024)
  | .backoffExpire p => decide (p < 1024)
  | .plcaBeacon p => decide (p < 1024)
  | .plcaOwnOpportunity p => decide (p < 1024)
  | .plcaToTimerExpire p => decide (p < 1024)
  | .plcaCarrierRise p => decide (p < 1024)
  | .plcaOppEnd p => decide (p < 1024)
  | .burstTimerExpire p => decide (p < 1024)
  | .foreignBeacon p => decide (p < 1024)
  | .babbleWindowExpire p => decide (p < 1024)
  | .candidateFill p => decide (p < 1024)
  | .candidateReplace p => decide (p < 1024)
  | .extDiscover e => decide (e < 48)
  | .extJoinEnable e => decide (e < 48)
  | .extJoinDisable e => decide (e < 48)
  | .extHello t _ => decide (t < 16)
  | .extResponse t _ => decide (t < 16)
  | .extChallengeTimeout e => decide (e < 48)
  | .extHelloHoldoffExpire _ => true
  | .extLeave t _ => decide (t < 16)
  | .extPoll e => decide (e < 48)
  | .extReport t _ => decide (t < 16)
  | .extEvent t _ => decide (t < 16)
  | .extPushGo e => decide (e < 48)
  | .extConfigAck t _ => decide (t < 16)
  | .extPushTimeout e => decide (e < 48)
  | .extCredit t _ => decide (t < 16)
  | .extPodlReq t _ => decide (t < 16)
  | .extTrunkRoundRobin t => decide (t < 16)
  | .clsStageAdd _ => true
  | .clsStageDel _ => true
  | .clsStageWrite _ => true
  | .clsRead _ => true
  | .clsSearch _ => true
  | .taeCommandDone _ => true
  | .clsCommit => true
  | .clsAbort => true
  | .clsCommitSwitch => true
  | .clsCommitEcc => true
  | .clsDrainEmpty => true
  | .clsCleanupEnd => true
  | .clsDiscardEnd => true
  | .clsDrainWarn => true
  | .ageingVisit _ => true
  | .nregAgeWrite _ => true
  | .nregInsert _ => true
  | .nregDelete _ => true
  | .nregWriteCfg _ => true
  | .nregRead _ => true
  | .nregSearch _ => true
  | .nregClear _ => true
  | .policerRefresh kind idx _ => (match kind with
    | .node => decide (idx < 262144)
    | .flow => decide (idx < 65536)
    | .port => decide (idx < 1040))
  | .polPortCfgWrite n _ => decide (n < 1040)
  | .polRead _ => true
  | .polReset _ => true
  | .domeLoopTick => true
  | .domeAlphaWrite k _ => decide (k < 8)
  | .shaperConfigApply p => decide (p < 1040)
  | .nodeQueueClassMove i => decide (i < 262144)
  | .ocuCtrlWrite _ => true
  | .ocuSweepSample => true
  | .ocuWatchSample => true
  | .ocuWatchWrite v _ => decide (v < 1024)
  | .tpgIncrLoWrite _ => true
  | .tpgIncrHiWrite _ => true
  | .tpgTimeFracRead => true
  | .timeSet _ => true
  | .timeAdj _ => true
  | .clkcmpGo _ => true
  | .clkcmpDone _ => true
  | .phrefEdge a _ => decide (a < 2)
  | .phaseMiss a => decide (a < 2)
  | .phaseEnable a => decide (a < 2)
  | .phaseDisable a => decide (a < 2)
  | .phStatusRead a => decide (a < 2)
  | .gclStart n _ => decide (n < 1040)
  | .gclStop n => decide (n < 1040)
  | .gclChange n => decide (n < 1040)
  | .gclListStart n _ => decide (n < 1040)
  | .gclEntryBoundary n _ => decide (n < 1040)
  | .gclFallbackExit n _ => decide (n < 1040)
  | .tpgWriteEntry _ => true
  | .tpgReadEntry _ => true
  | .spireDecision t _ => decide (t < 16)
  | .spireCutEnd t _ _ _ => decide (t < 16)
  | .spireFallbackEnd t _ _ _ => decide (t < 16)
  | .spiWriteEntry _ => true
  | .spiReadEntry _ => true
  | .fabricCredit m _ => decide (m < 2)
  | .fabricCompletion m _ _ _ => decide (m < 2)
  | .fabricTimeout m _ => decide (m < 2)
  | .dmaQuiesced => true
  | .dmaClear => true
  | .dmaChannelEnable c => decide (c < 64)
  | .dmaChannelDisable c => decide (c < 64)
  | .dmaDoorbell c => decide (c < 64)
  | .dmaStop c => decide (c < 64)
  | .dmaStopped c => decide (c < 64)
  | .dmaDescriptorFetch c _ => decide (c < 64)
  | .dmaDescriptorComplete c => decide (c < 64)
  | .dmaPaceHold c => decide (c < 64)
  | .dmaPaceRelease c => decide (c < 64)
  | .dmaPaceTimeout c => decide (c < 64)
  | .dmaStreamFlush c => decide (c < 64)
  | .hostRxDeliver c _ => decide (c < 64)
  | .injectFloorClear c => decide (c < 64)
  | .chkUnitClaim c => decide (c < 64)
  | .belSourceEvent s => decide (s < 2048)
  | .belLevelChange s _ => decide (s < 2048)
  | .phyIntChange lane _ => decide (lane < 256)
  | .belBatchTimer s => decide (s < 2048)
  | .vecTaken t => decide (t < 8)
  | .belEoi t _ => decide (t < 8)
  | .belSwi _ => true
  | .belSrcCfgWrite s _ => decide (s < 2048)
  | .belPendClear s _ => decide (s < 2048)
  | .faultCapture i _ _ => decide (i < 512)
  | .blockResetRelease b => decide (b < 32)
  | .resetShadowEnd b => decide (b < 32)
  | .episodeEnd => true
  | .chipRstReqRelease => true
  | .coreClkStop => true
  | .domeHoldClear _ => true
  | .fltIrqClear i => decide (i < 512)
  | .nmtClear _ => true
  | .firstErrorClear => true
  | .firedClear i => decide (i < 512)
  | .lanternArm _ => true
  | .lanternStop _ => true
  | .pinHoldClear _ => true
  | .fltInjArm _ => true
  | .logRecordWrite => true
  | .logFreeze => true
  | .logUnfreeze => true
  | .logAccIdxWrite _ => true
  | .logAccessReady => true
  | .maintRead wordAddr => decide (wordAddr < 2 ^ 24)
  | .maintWrite wordAddr _ => decide (wordAddr < 2 ^ 24)
  | .maintBadOp op => decide (op < 256) && op != 0x0D && op != 0x0E
  | .maintFrameCut op wordAddr _ clock => decide (op < 256) && decide (wordAddr < 2 ^ 24) && decide (clock < 80)
  | .mntChipReset _ => true
  | .mntBlockReset _ _ => true
  | .epochGrant => true
  | .avsPeriod _ => true
  | .avsEmergency _ => true
  | .podlReqStable lane _ _ => decide (lane < 256)
  | .podlTick => true
  | .keyWrite slot _ => decide (slot < 8)
  | .keyErase slot _ => decide (slot < 8)
  | .keyLock slot _ => decide (slot < 8)
  | .keepGo => true
  | .keepPeriod => true
  | .keepProductionEnd => true
  | .keepOutTimeout => true
  | .keepLoad => true
  | .keepHeaderCheck => true
  | .keepLoadApply => true
  | .keepAbort => true
  | .mirrorEnable _ => true
  | .mirrorCycle => true
  | .mirrorCycleEnd t _ => decide (t < 16)
  | .mirrorAck t _ => decide (t < 16)
  | .mirrorResync t _ => decide (t < 16)
  | .mirrorHello t _ => decide (t < 16)
  | .sesOpen t _ => decide (t < 16)
  | .sesProof t _ => decide (t < 16)
  | .sesChallengeTimeout i => decide (i < 4)
  | .sesLockoutExpire slot => decide (slot < 8)
  | .sesIdleTimeout i => decide (i < 4)
  | .sesClose t _ => decide (t < 16)
  | .sesRead t _ => decide (t < 16)
  | .sesWrite t _ => decide (t < 16)
  | .sesTae t _ => decide (t < 16)
  | .sesCommit t _ => decide (t < 16)
  | .sesAbort t _ => decide (t < 16)
  | .sesKeepFetch t _ => decide (t < 16)
  | .sesStiStart t _ => decide (t < 16)
  | .sesStiData t _ => decide (t < 16)
  | .sesStiValidate t _ => decide (t < 16)
  | .sesStiCommit t _ => decide (t < 16)
  | .sesStiAbort t _ => decide (t < 16)
  | .sesDeferredResponse i => decide (i < 4)
  | .stiLoadStart => true
  | .stiLoadData _ => true
  | .stiValidate => true
  | .stiValidationEnd _ => true
  | .stiCommit => true
  | .stiCommitSwitch => true
  | .stiCommitEcc => true
  | .stiAbort => true
  | .coreClkReturn => true
  | .ptpRefclkStop => true
  | .ptpRefclkReturn => true
  | .lanternHalfPeriod => true
  | .railStateChange i _ => decide (i < 512)
  | .mirrorDisable => true
  | .mirrorDeltaReceive t _ => decide (t < 16)

end Sys2Proof
end

