-- ==== Sys2Proof/Safety.lean ====
section
/-! DEFINITION. What counts as safe: a command that is answered, and a core domain that keeps its reset values while a reset
holds it. -/
namespace Sys2Proof.Machine

/-- What carries a command out: a block of the core domain, the core domain as a whole, the always-on domain, or what answers
whatever runs (pins, clocks, inputs, the register slave port). -/
inductive Actor where
  /-- A block of the core domain, by its number (R371). -/
  | block (b : Nat)
  /-- The core domain (R37). -/
  | core
  /-- The always-on domain (R65). -/
  | alwaysOn
  /-- Pins, clocks, inputs, and the register slave port. -/
  | outside
  deriving DecidableEq, Repr

/-- A command's actor; whether it is a register write that waits for memory initialisation (R400); whether what it names
exists. -/
structure Role where
  /-- What carries the command out. -/
  actor : Actor
  /-- A register write that is ignored until memory initialisation has finished (R400). -/
  waits : Bool
  /-- The unit that the command names exists. -/
  exists_ : Bool
  deriving DecidableEq, Repr

/-- The role of every command. -/
def role : Instr → Role
  | .porstNAssert => ⟨.outside, false, true⟩
  | .porstNRelease => ⟨.outside, false, true⟩
  | .blkRstNAssert => ⟨.outside, false, true⟩
  | .blkRstNRelease => ⟨.outside, false, true⟩
  | .fuseAck _ => ⟨.block 20, false, true⟩
  | .fuseTimeout => ⟨.block 20, false, true⟩
  | .memInitDone => ⟨.block 20, false, true⟩
  | .registerWrite _ _ _ => ⟨.outside, false, true⟩
  | .counterClear _ => ⟨.outside, false, true⟩
  | .counterLowRead _ => ⟨.outside, false, true⟩
  | .rxFrameStart p _ _ => ⟨.block (macBlock p), false, decide (p < 1040)⟩
  | .rxOversizeDetect p _ => ⟨.block (macBlock p), false, decide (p < 1040)⟩
  | .rxJabber p _ => ⟨.block (macBlock p), false, decide (p < 1040)⟩
  | .parseStart p _ _ => ⟨.block (macBlock p), false, decide (p < 1040)⟩
  | .rxFrameEnd p _ _ _ _ _ => ⟨.block (macBlock p), false, decide (p < 1040)⟩
  | .macControlFrame p _ _ _ => ⟨.block (macBlock p), false, decide (p < 1040)⟩
  | .pauseTimerExpire p => ⟨.block (macBlock p), false, decide (p < 1040)⟩
  | .pfcTimerExpire t c => ⟨.block 1, false, decide (c < 8) && decide (t < 16)⟩
  | .itkTransfer lane => ⟨.block 8, false, decide (lane < 2)⟩
  | .etkTransfer lane _ _ _ _ => ⟨.block 8, false, decide (lane < 2)⟩
  | .egressTicketProcess lane _ => ⟨.block 8, false, decide (lane < 2)⟩
  | .referenceRelease lane _ _ => ⟨.block 8, false, decide (lane < 2)⟩
  | .schedChoose p => ⟨.block 9, false, decide (p < 1040)⟩
  | .copyEnd p _ => ⟨.block 9, false, decide (p < 1040)⟩
  | .trunkEnable t => ⟨.block 1, true, decide (t < 16)⟩
  | .trunkDisable t => ⟨.block 1, true, decide (t < 16)⟩
  | .loopbackChange p _ => ⟨.block (macBlock p), true, decide (p < 1040)⟩
  | .trunkLinkChange t _ => ⟨.block 1, false, decide (t < 16)⟩
  | .fldLinkChange lane _ => ⟨.outside, false, decide (lane < 256)⟩
  | .fecCodeword t _ => ⟨.block 1, false, decide (t < 16)⟩
  | .pauseRefresh t _ => ⟨.block 1, false, decide (t < 16)⟩
  | .fcForce p _ => ⟨.block (macBlock p), true, decide (p < 1040)⟩
  | .macControlTx p => ⟨.block (macBlock p), false, decide (p < 1040)⟩
  | .lpiEnter p => ⟨.block (macBlock p), false, decide (p < 1040)⟩
  | .lpiExit p => ⟨.block (macBlock p), false, decide (p < 1040)⟩
  | .lpiWakeEnd p => ⟨.block (macBlock p), false, decide (p < 1040)⟩
  | .rxLpiEnter p => ⟨.block (macBlock p), false, decide (p < 1040)⟩
  | .fieldPortEnable p => ⟨.block 2, true, decide (p < 1024)⟩
  | .fieldPortDisable p => ⟨.block 2, true, decide (p < 1024)⟩
  | .serviceRequest p => ⟨.block 2, true, decide (p < 1024)⟩
  | .serviceRelease p => ⟨.block 2, true, decide (p < 1024)⟩
  | .serviceQuiet p => ⟨.block 2, false, decide (p < 1024)⟩
  | .serviceForced p => ⟨.block 2, false, decide (p < 1024)⟩
  | .babbleClear p => ⟨.block 2, true, decide (p < 1024)⟩
  | .csmaAttempt p _ => ⟨.block 2, false, decide (p < 1024)⟩
  | .csmaCollision p _ => ⟨.block 2, false, decide (p < 1024)⟩
  | .backoffExpire p => ⟨.block 2, false, decide (p < 1024)⟩
  | .plcaBeacon p => ⟨.block 2, false, decide (p < 1024)⟩
  | .plcaOwnOpportunity p => ⟨.block 2, false, decide (p < 1024)⟩
  | .plcaToTimerExpire p => ⟨.block 2, false, decide (p < 1024)⟩
  | .plcaCarrierRise p => ⟨.block 2, false, decide (p < 1024)⟩
  | .plcaOppEnd p => ⟨.block 2, false, decide (p < 1024)⟩
  | .burstTimerExpire p => ⟨.block 2, false, decide (p < 1024)⟩
  | .foreignBeacon p => ⟨.block 2, false, decide (p < 1024)⟩
  | .babbleWindowExpire p => ⟨.block 2, false, decide (p < 1024)⟩
  | .candidateFill p => ⟨.block 9, false, decide (p < 1024)⟩
  | .candidateReplace p => ⟨.block 9, false, decide (p < 1024)⟩
  | .extDiscover e => ⟨.block 3, false, decide (e < 48)⟩
  | .extJoinEnable e => ⟨.block 3, true, decide (e < 48)⟩
  | .extJoinDisable e => ⟨.block 3, true, decide (e < 48)⟩
  | .extHello t _ => ⟨.block 3, false, decide (t < 16)⟩
  | .extResponse t _ => ⟨.block 3, false, decide (t < 16)⟩
  | .extChallengeTimeout e => ⟨.block 3, false, decide (e < 48)⟩
  | .extHelloHoldoffExpire _ => ⟨.block 3, false, true⟩
  | .extLeave t _ => ⟨.block 3, false, decide (t < 16)⟩
  | .extPoll e => ⟨.block 3, false, decide (e < 48)⟩
  | .extReport t _ => ⟨.block 3, false, decide (t < 16)⟩
  | .extEvent t _ => ⟨.block 3, false, decide (t < 16)⟩
  | .extPushGo e => ⟨.block 3, true, decide (e < 48)⟩
  | .extConfigAck t _ => ⟨.block 3, false, decide (t < 16)⟩
  | .extPushTimeout e => ⟨.block 3, false, decide (e < 48)⟩
  | .extCredit t _ => ⟨.block 3, false, decide (t < 16)⟩
  | .extPodlReq t _ => ⟨.block 3, false, decide (t < 16)⟩
  | .extTrunkRoundRobin t => ⟨.block 9, false, decide (t < 16)⟩
  | .clsStageAdd _ => ⟨.block 5, false, true⟩
  | .clsStageDel _ => ⟨.block 5, false, true⟩
  | .clsStageWrite _ => ⟨.block 5, false, true⟩
  | .clsRead _ => ⟨.block 5, false, true⟩
  | .clsSearch _ => ⟨.block 5, false, true⟩
  | .taeCommandDone engine => ⟨.block (taeBlock (engineNum engine)), false, true⟩
  | .clsCommit => ⟨.block 5, true, true⟩
  | .clsAbort => ⟨.block 5, true, true⟩
  | .clsCommitSwitch => ⟨.block 5, false, true⟩
  | .clsCommitEcc => ⟨.block 5, false, true⟩
  | .clsDrainEmpty => ⟨.block 5, false, true⟩
  | .clsCleanupEnd => ⟨.block 5, false, true⟩
  | .clsDiscardEnd => ⟨.block 5, false, true⟩
  | .clsDrainWarn => ⟨.block 5, false, true⟩
  | .ageingVisit _ => ⟨.block 6, false, true⟩
  | .nregAgeWrite _ => ⟨.block 6, true, true⟩
  | .nregInsert _ => ⟨.block 6, false, true⟩
  | .nregDelete _ => ⟨.block 6, false, true⟩
  | .nregWriteCfg _ => ⟨.block 6, false, true⟩
  | .nregRead _ => ⟨.block 6, false, true⟩
  | .nregSearch _ => ⟨.block 6, false, true⟩
  | .nregClear _ => ⟨.block 6, false, true⟩
  | .policerRefresh kind idx _ => ⟨.block 7, false, (match kind with
      | .node => decide (idx < 262144)
      | .flow => decide (idx < 65536)
      | .port => decide (idx < 1040))⟩
  | .polPortCfgWrite n _ => ⟨.block 7, true, decide (n < 1040)⟩
  | .polRead _ => ⟨.block 7, false, true⟩
  | .polReset _ => ⟨.block 7, false, true⟩
  | .domeLoopTick => ⟨.block 8, false, true⟩
  | .domeAlphaWrite k _ => ⟨.block 8, true, decide (k < 8)⟩
  | .shaperConfigApply p => ⟨.block 9, false, decide (p < 1040)⟩
  | .nodeQueueClassMove i => ⟨.block 9, false, decide (i < 262144)⟩
  | .ocuCtrlWrite _ => ⟨.block 10, true, true⟩
  | .ocuSweepSample => ⟨.block 10, false, true⟩
  | .ocuWatchSample => ⟨.block 10, false, true⟩
  | .ocuWatchWrite v _ => ⟨.block 10, true, decide (v < 1024)⟩
  | .tpgIncrLoWrite _ => ⟨.block 11, true, true⟩
  | .tpgIncrHiWrite _ => ⟨.block 11, true, true⟩
  | .tpgTimeFracRead => ⟨.block 11, false, true⟩
  | .timeSet _ => ⟨.block 11, true, true⟩
  | .timeAdj _ => ⟨.block 11, true, true⟩
  | .clkcmpGo _ => ⟨.block 11, true, true⟩
  | .clkcmpDone _ => ⟨.block 11, false, true⟩
  | .phrefEdge a _ => ⟨.block 11, false, decide (a < 2)⟩
  | .phaseMiss a => ⟨.block 11, false, decide (a < 2)⟩
  | .phaseEnable a => ⟨.block 11, true, decide (a < 2)⟩
  | .phaseDisable a => ⟨.block 11, true, decide (a < 2)⟩
  | .phStatusRead a => ⟨.block 11, false, decide (a < 2)⟩
  | .gclStart n _ => ⟨.block 11, true, decide (n < 1040)⟩
  | .gclStop n => ⟨.block 11, true, decide (n < 1040)⟩
  | .gclChange n => ⟨.block 11, true, decide (n < 1040)⟩
  | .gclListStart n _ => ⟨.block 11, false, decide (n < 1040)⟩
  | .gclEntryBoundary n _ => ⟨.block 11, false, decide (n < 1040)⟩
  | .gclFallbackExit n _ => ⟨.block 11, false, decide (n < 1040)⟩
  | .tpgWriteEntry _ => ⟨.block 11, false, true⟩
  | .tpgReadEntry _ => ⟨.block 11, false, true⟩
  | .spireDecision t _ => ⟨.block 12, false, decide (t < 16)⟩
  | .spireCutEnd t _ _ _ => ⟨.block 1, false, decide (t < 16)⟩
  | .spireFallbackEnd t _ _ _ => ⟨.block 1, false, decide (t < 16)⟩
  | .spiWriteEntry _ => ⟨.block 12, false, true⟩
  | .spiReadEntry _ => ⟨.block 12, false, true⟩
  | .fabricCredit m _ => ⟨.block 20, false, decide (m < 2)⟩
  | .fabricCompletion m _ _ _ => ⟨.block 20, false, decide (m < 2)⟩
  | .fabricTimeout m _ => ⟨.block 20, false, decide (m < 2)⟩
  | .dmaQuiesced => ⟨.block 13, false, true⟩
  | .dmaClear => ⟨.block 13, true, true⟩
  | .dmaChannelEnable c => ⟨.block 13, true, decide (c < 64)⟩
  | .dmaChannelDisable c => ⟨.block 13, true, decide (c < 64)⟩
  | .dmaDoorbell c => ⟨.block 13, true, decide (c < 64)⟩
  | .dmaStop c => ⟨.block 13, true, decide (c < 64)⟩
  | .dmaStopped c => ⟨.block 13, false, decide (c < 64)⟩
  | .dmaDescriptorFetch c _ => ⟨.block 13, false, decide (c < 64)⟩
  | .dmaDescriptorComplete c => ⟨.block 13, false, decide (c < 64)⟩
  | .dmaPaceHold c => ⟨.block 13, false, decide (c < 64)⟩
  | .dmaPaceRelease c => ⟨.block 13, false, decide (c < 64)⟩
  | .dmaPaceTimeout c => ⟨.block 13, false, decide (c < 64)⟩
  | .dmaStreamFlush c => ⟨.block 13, false, decide (c < 64)⟩
  | .hostRxDeliver c _ => ⟨.block 13, false, decide (c < 64)⟩
  | .injectFloorClear c => ⟨.block 13, false, decide (c < 64)⟩
  | .chkUnitClaim c => ⟨.block 14, false, decide (c < 64)⟩
  | .belSourceEvent s => ⟨.block 15, false, decide (s < belSources)⟩
  | .belLevelChange s _ => ⟨.outside, false, decide (s < belSources)⟩
  | .phyIntChange lane _ => ⟨.outside, false, decide (lane < 256)⟩
  | .belBatchTimer s => ⟨.block 15, false, decide (s < belSources)⟩
  | .vecTaken t => ⟨.block 15, false, decide (t < 8)⟩
  | .belEoi t _ => ⟨.block 15, true, decide (t < 8)⟩
  | .belSwi _ => ⟨.block 15, true, true⟩
  | .belSrcCfgWrite s _ => ⟨.block 15, true, decide (s < belSources)⟩
  | .belPendClear s _ => ⟨.block 15, true, decide (s < belSources)⟩
  | .faultCapture i _ _ => ⟨.alwaysOn, false, decide (i < faultSources)⟩
  | .blockResetRelease b => ⟨.core, false, decide (b < 32)⟩
  | .resetShadowEnd b => ⟨.alwaysOn, false, decide (b < 32)⟩
  | .episodeEnd => ⟨.alwaysOn, false, true⟩
  | .chipRstReqRelease => ⟨.alwaysOn, false, true⟩
  | .coreClkStop => ⟨.outside, false, true⟩
  | .domeHoldClear _ => ⟨.alwaysOn, false, true⟩
  | .fltIrqClear i => ⟨.alwaysOn, false, decide (i < faultSources)⟩
  | .nmtClear _ => ⟨.alwaysOn, false, true⟩
  | .firstErrorClear => ⟨.alwaysOn, false, true⟩
  | .firedClear i => ⟨.alwaysOn, false, decide (i < faultSources)⟩
  | .lanternArm _ => ⟨.alwaysOn, false, true⟩
  | .lanternStop _ => ⟨.alwaysOn, false, true⟩
  | .pinHoldClear _ => ⟨.alwaysOn, false, true⟩
  | .fltInjArm _ => ⟨.alwaysOn, false, true⟩
  | .logRecordWrite => ⟨.alwaysOn, false, true⟩
  | .logFreeze => ⟨.alwaysOn, false, true⟩
  | .logUnfreeze => ⟨.alwaysOn, false, true⟩
  | .logAccIdxWrite _ => ⟨.alwaysOn, false, true⟩
  | .logAccessReady => ⟨.alwaysOn, false, true⟩
  | .maintRead _ => ⟨.alwaysOn, false, true⟩
  | .maintWrite _ _ => ⟨.alwaysOn, false, true⟩
  | .maintBadOp _ => ⟨.alwaysOn, false, true⟩
  | .maintFrameCut _ _ _ _ => ⟨.alwaysOn, false, true⟩
  | .mntChipReset _ => ⟨.alwaysOn, false, true⟩
  | .mntBlockReset _ _ => ⟨.alwaysOn, false, true⟩
  | .epochGrant => ⟨.block 16, false, true⟩
  | .avsPeriod _ => ⟨.block 16, false, true⟩
  | .avsEmergency _ => ⟨.block 16, false, true⟩
  | .podlReqStable lane _ _ => ⟨.block 16, false, decide (lane < 256)⟩
  | .podlTick => ⟨.block 16, false, true⟩
  | .keyWrite slot _ => ⟨.block 18, true, decide (slot < 8)⟩
  | .keyErase slot _ => ⟨.block 18, true, decide (slot < 8)⟩
  | .keyLock slot _ => ⟨.block 18, true, decide (slot < 8)⟩
  | .keepGo => ⟨.block 17, true, true⟩
  | .keepPeriod => ⟨.block 17, false, true⟩
  | .keepProductionEnd => ⟨.block 17, false, true⟩
  | .keepOutTimeout => ⟨.block 17, false, true⟩
  | .keepLoad => ⟨.block 17, true, true⟩
  | .keepHeaderCheck => ⟨.block 17, false, true⟩
  | .keepLoadApply => ⟨.block 17, false, true⟩
  | .keepAbort => ⟨.block 17, true, true⟩
  | .mirrorEnable _ => ⟨.block 17, true, true⟩
  | .mirrorCycle => ⟨.block 17, false, true⟩
  | .mirrorCycleEnd t _ => ⟨.block 17, false, decide (t < 16)⟩
  | .mirrorAck t _ => ⟨.block 17, false, decide (t < 16)⟩
  | .mirrorResync t _ => ⟨.block 17, false, decide (t < 16)⟩
  | .mirrorHello t _ => ⟨.block 17, false, decide (t < 16)⟩
  | .sesOpen t _ => ⟨.block 18, false, decide (t < 16)⟩
  | .sesProof t _ => ⟨.block 18, false, decide (t < 16)⟩
  | .sesChallengeTimeout i => ⟨.block 18, false, decide (i < 4)⟩
  | .sesLockoutExpire slot => ⟨.block 18, false, decide (slot < 8)⟩
  | .sesIdleTimeout i => ⟨.block 18, false, decide (i < 4)⟩
  | .sesClose t _ => ⟨.block 18, false, decide (t < 16)⟩
  | .sesRead t _ => ⟨.block 18, false, decide (t < 16)⟩
  | .sesWrite t _ => ⟨.block 18, false, decide (t < 16)⟩
  | .sesTae t _ => ⟨.block 18, false, decide (t < 16)⟩
  | .sesCommit t _ => ⟨.block 18, false, decide (t < 16)⟩
  | .sesAbort t _ => ⟨.block 18, false, decide (t < 16)⟩
  | .sesKeepFetch t _ => ⟨.block 18, false, decide (t < 16)⟩
  | .sesStiStart t _ => ⟨.block 18, false, decide (t < 16)⟩
  | .sesStiData t _ => ⟨.block 18, false, decide (t < 16)⟩
  | .sesStiValidate t _ => ⟨.block 18, false, decide (t < 16)⟩
  | .sesStiCommit t _ => ⟨.block 18, false, decide (t < 16)⟩
  | .sesStiAbort t _ => ⟨.block 18, false, decide (t < 16)⟩
  | .sesDeferredResponse i => ⟨.block 18, false, decide (i < 4)⟩
  | .stiLoadStart => ⟨.block 19, true, true⟩
  | .stiLoadData _ => ⟨.block 19, true, true⟩
  | .stiValidate => ⟨.block 19, true, true⟩
  | .stiValidationEnd _ => ⟨.block 19, false, true⟩
  | .stiCommit => ⟨.block 19, true, true⟩
  | .stiCommitSwitch => ⟨.block 19, false, true⟩
  | .stiCommitEcc => ⟨.block 19, false, true⟩
  | .stiAbort => ⟨.block 19, true, true⟩
  | .coreClkReturn => ⟨.outside, false, true⟩
  | .ptpRefclkStop => ⟨.outside, false, true⟩
  | .ptpRefclkReturn => ⟨.outside, false, true⟩
  | .lanternHalfPeriod => ⟨.alwaysOn, false, true⟩
  | .railStateChange i _ => ⟨.alwaysOn, false, decide (i < faultSources)⟩
  | .mirrorDisable => ⟨.block 17, true, true⟩
  | .mirrorDeltaReceive t _ => ⟨.block 17, false, decide (t < 16)⟩

/-- The registers whose write a chapter gives an effect or a check of its own. -/
def effectRegs : List Reg :=
  [.BEL_EOI, .BEL_SRC_CFG, .BEL_SRC_COAL, .BEL_SRC_STATUS, .BEL_SRC_VEC_HI, .BEL_SRC_VEC_LO, .BEL_SWI, .BEL_TGT_CFG, .CHK_CFG, .CHK_INIT_HI,
   .CHK_INIT_LO, .CHK_POLY_HI, .CHK_POLY_LO, .CHK_REGION, .CHK_RUN_HI, .CHK_RUN_LO, .CHK_XOR_HI, .CHK_XOR_LO,
   .CLS_COMMIT_CTRL, .CLS_DRAIN_WARN, .DMA_CH_CFG, .DMA_CH_CTRL, .DMA_CH_IDX, .DMA_CH_PACE, .DMA_CH_PACE_WM,
   .DMA_CH_RING_HI, .DMA_CH_RING_LO, .DMA_GLB_CTRL, .DOME_CLASS_ALPHA, .DOME_CLASS_CFG, .DOME_CLASS_CUR, .DOME_EDIT,
   .DOME_LOOP, .DOME_USED_PEAK, .EXT_CFG, .EXT_GLB_CFG, .EXT_PACE, .EXT_PUSH, .EXT_TIMERS, .FLT_FIRST_SRC,
   .FLT_INJ_CTRL, .FLT_INJ_DATA, .FLT_LANTERN, .FLT_NMT, .FLT_SRC_CFG, .FLT_SRC_STATUS, .FLT_STATUS, .KEEP_CTRL,
   .KEEP_MIR_CFG, .KEEP_TIMERS, .LOG_ACC_IDX, .LOG_CFG, .LOG_CTRL, .LOG_RD_IDX, .MAC_CFG, .MAC_EEE, .MAC_FC_FORCE,
   .MAC_FC_THR, .MAC_FC_TX, .MNT_RST_REQ, .NREG_AGE, .NREG_PORT_CFG, .NREG_PORT_DEF, .OCU_CTRL, .OCU_MAX_CELLS,
   .OCU_MAX_DELAY, .OCU_WATCH, .OCU_WATCH_MAXC, .OCU_WATCH_MAXD, .POL_PORT_CFG, .PWR_AVS_CFG, .PWR_AVS_THR,
   .PWR_ENG_CFG, .PWR_POOL, .SCH_CBS_HI, .SCH_CBS_SLOPE, .SCH_CLASS_CFG, .SEG_BABBLE, .SEG_CFG, .SEG_PLCA, .SEG_STATUS,
   .SES_KEY_CTRL, .SES_KEY_DATA, .SES_TIMERS, .SPI_PAIR_CFG, .STI_CTRL, .STI_LOAD_DATA, .TPG_CLKCMP, .TPG_GCL_CFG,
   .TPG_INCR_HI, .TPG_INCR_LO, .TPG_PH_CFG, .TPG_PH_THR, .TPG_SET_NS, .TPG_TIME_CTRL]

/-- A write of the register is more than its fields' access codes say. -/
def ownEffect (r : Reg) : Bool := effectRegs.contains r || (taeEngine r).isSome

/-- The commands that move pins and clocks: everything else leaves them, and the queue, as they are. -/
def movesPins : Instr → Bool
  | .porstNAssert | .porstNRelease | .blkRstNAssert | .blkRstNRelease => true
  | .coreClkStop | .coreClkReturn | .ptpRefclkStop | .ptpRefclkReturn => true
  | _ => false

/-- A register of the core domain that a complex reset sets to its reset value and that nothing changes before the reset ends
(R66, R439). GLB_SLV_ERR counts the errors that the register slave port answers meanwhile (R48). -/
def resetReg (k : Nat) : Bool :=
  let r := Reg.ofNat (k % 512)
  !isAon r && r != .SES_KEY_STATUS && r != .GLB_SLV_ERR

/-- The core domain of a state: everything that is the always-on domain's, that belongs to pins, clocks, inputs and answers, or that
a complex reset leaves alone, is put aside. -/
def State.coreDomain (s : State) : State :=
  { s with
    regs := s.regs.filter fun e => resetReg e.1
    pending := [], fresh := 0, now := 0, epochAt := 0, out := [], rsResp := none, mntResp := none, mntCut := [], pulsed := []
    porstLow := false, blkLow := false, coreClk := true, refClk := true
    logCopy := 0, belLvl := [], raised := [], faultSyn := [], episode := none, episodeFirst := false
    blkReset := [], shadowed := [], injected := [], lantern := false, halfNow := 12500, logRing := [], logQ := []
    fldLink := [], keys := [] }

/-- Everything of the core domain has the value that a complex reset gives it, and no fuse read runs (R66, R67). -/
def CoreAtReset (s : State) : Prop := s.coreDomain = { State.reset with fusing := false }

/-- A core domain held in reset has its reset values. -/
def HeldInReset (s : State) : Prop := s.coreOn = false → CoreAtReset s

end Sys2Proof.Machine
end

