-- ==== Sys2Proof/Certificates/Slice0/Obligations.lean ====
section
/-! DEFINITION. The statements about Ocora, one `Obligations.<Name>` each: the machine as a whole, reset and registers, then the
blocks in the order of the specification's chapters. Every statement holds for every state, operand and instance that its
hypotheses admit; `u` is the state that a command answers. -/

open Sys2Proof Sys2Proof.Machine

/-! The machine as a whole. -/

/-- A step carries out the command at the front of the queue, on the state with the queue's rest. -/
def Obligations.StepRunsFrontCommand : Prop :=
  ∀ (c : Instr) (rest : List Instr) (s : State),
    step { s with pending := c :: rest } = exec c { s with pending := rest }

/-- Commands are taken first in, first out, none lost and none added: `k` steps that answer take exactly the first `k` waiting
commands, whatever these are. With no command waiting, a step is one cycle of the clocks (the model's choice, log 3): the core
clock's cycle where the core domain is out of reset and clocked, and the copy of the log's time where it is not and the always-on
domain is. The table gives its rows no bits: no word spells a command, and placing a word changes nothing. -/
def Obligations.QueueIsFirstInFirstOut : Prop :=
  (∀ (k : Nat) (s t : State), core.run k s = .next t → t.pending = s.pending.drop k) ∧
  ((∀ s : State, s.pending = [] → step s = .next (s.outside s.tick)) ∧
   (∀ (s : State) (n w : Nat), decodeTableWord n w = none ∧ s.withFetchWord n w = s))

/-- Every command completes: in every state and for all operands it answers a next state, except a write of FLT_INJ_CTRL while
FLT_STATUS.FACTORY is 1, whose effect the spec leaves to the factory test documentation (R377): one of the six commands that can
carry such a write then refuses, and none refuses otherwise. No command faults. A command that names a unit that does not exist is
no event, and changes nothing (the model's choice, log 40); a well-formed command names one that exists. -/
def Obligations.EveryCommandOfAnExistingUnitAnswers : Prop :=
  (∀ (c : Instr) (s : State),
     s.flag .FLT_STATUS_FACTORY = false ∨ (match c with
       | .registerWrite .. | .maintWrite .. | .maintFrameCut .. | .sesWrite .. | .sesDeferredResponse .. | .rxFrameEnd .. => False
       | _ => True) →
     ∃ t, exec c s = .next t) ∧
  (∀ (c : Instr) (s : State), (∃ t, exec c s = .next t) ∨ exec c s = .refused .factoryInjection) ∧
  (∀ (a st : Nat) (w : Word) (i : Nat) (s : State), s.flag .FLT_STATUS_FACTORY = true → regOf a = some (.FLT_INJ_CTRL, i) →
     s.coreClk = true → s.refClk = true → st % 16 = 15 → exec (.registerWrite a w st) s = .refused .factoryInjection) ∧
  (∀ (c : Instr) (s : State), (role c).exists_ = false → exec c s = .next s) ∧
  (∀ c : Instr, wellFormed c = true → (role c).exists_ = true)

/-- No command but the pins' and clocks' own moves the reset pins, the two clocks or the queue of waiting commands. -/
def Obligations.CommandsLeavePinsClocksAndQueue : Prop :=
  ∀ (c : Instr) (s t : State), exec c s = .next t →
    t.pending = s.pending ∧
    (movesPins c = false →
      t.porstLow = s.porstLow ∧ t.blkLow = s.blkLow ∧ t.coreClk = s.coreClk ∧ t.refClk = s.refClk)

/-- A core domain held in reset, by PORST_N or by BLK_RST_N, keeps its reset values through every step: every register of the core
domain but GLB_SLV_ERR, which counts the errors answered meanwhile (R48), and SES_KEY_STATUS, which outlasts the reset with the
keys (R402), and every engine, queue, buffer and memory of it. -/
def Obligations.HeldCoreKeepsItsResetValues : Prop :=
  ∀ s t : State, HeldInReset s → step s = .next t → HeldInReset t

/-- A block that is held in reset or whose domain is in reset or without its clock acts on nothing: every command of it leaves the
whole state as it is. Register writes that the core domain's blocks act on are ignored until memory initialisation has finished. -/
def Obligations.BlockThatCannotActChangesNothing : Prop :=
  (∀ (c : Instr) (s : State),
     (match (role c).actor with
       | .block b => s.up b = false
       | .core => s.coreUp = false
       | .alwaysOn => s.aonUp = false
       | .outside => False) →
     exec c s = .next s) ∧
  (∀ (c : Instr) (s : State), (role c).waits = true → s.flag .GLB_BOOT_MEM_INIT_DONE = false → exec c s = .next s)

/-! Resets, fuses and start-up. -/

/-- PORST_N resets both domains, as it falls and as it rises: every register, table and buffer takes its reset value; the queue,
the clocks, BLK_RST_N, the levels of FLD_LINK and FLD_PHY_INT, and the model's records of time, outputs and free values stay. At
its rise the core domain leaves reset with it where BLK_RST_N is high, and the fuse read begins; the collector then watches
CORE_CLK, and fires source 0 where it stands still. -/
def Obligations.PowerOnResetGivesResetState : Prop :=
  ∀ s : State,
    exec .porstNAssert s = .next (s.powerReset true false) ∧
    exec .porstNRelease s = .next (if s.porstLow then (s.powerReset false (!s.blkLow)).watchClock else s) ∧
    (s.coreClk = true ∨ s.refClk = false → (s.powerReset false (!s.blkLow)).watchClock = s.powerReset false (!s.blkLow)) ∧
    ∀ low on, let t := s.powerReset low on
      t.porstLow = low ∧ t.fusing = on ∧ t.blkLow = s.blkLow ∧ t.pending = s.pending ∧ t.coreClk = s.coreClk ∧ t.refClk = s.refClk ∧
      t.fldLink = s.fldLink ∧ (∀ r i, t.rd r i = regReset r i) ∧ t.keys = [] ∧ t.logRing = [] ∧ t.raised = [] ∧ t.frames = [] ∧
      t.blkReset = [] ∧ t.lantern = false ∧ ({ t with fusing := false } : State).coreDomain = { State.reset with fusing := false }

/-- BLK_RST_N falling or rising is a complex reset: every register of the core domain but SES_KEY_STATUS takes its reset value,
and so does everything else of it; the always-on registers, SES_KEY_STATUS and the key slots, the event log and the collector's
own state keep theirs. At the rise the fuse read begins; while PORST_N is low a rise resets nothing. The collector then watches
CORE_CLK, whose stopping counts while BLK_RST_N is released: source 0's rail is OK while BLK_RST_N is low or CORE_CLK runs, and
leaves OK otherwise. -/
def Obligations.ComplexResetSparesAlwaysOnAndKeys : Prop :=
  (∀ s : State, ∃ t u : State,
    exec .blkRstNAssert { s with blkLow := false } = .next t.watchClock ∧ t.blkLow = true ∧ t.fusing = false ∧ CoreAtReset t ∧
    exec .blkRstNRelease { s with blkLow := true } = .next u.watchClock ∧ u.blkLow = false ∧
    (s.porstLow = true → u = { s with blkLow := false }) ∧ (s.porstLow = false → u.fusing = true ∧ u.fuse = [] ∧ CoreAtReset { u with fusing := false }) ∧
    exec .blkRstNAssert { s with blkLow := true } = .next { s with blkLow := true } ∧
    exec .blkRstNRelease { s with blkLow := false } = .next { s with blkLow := false } ∧
    ∀ v ∈ [t, u], v.pending = s.pending ∧ v.keys = s.keys ∧ v.logRing = s.logRing ∧ v.logQ = s.logQ ∧ v.raised = s.raised ∧
      v.shadowed = s.shadowed ∧ v.episode = s.episode ∧ v.lantern = s.lantern ∧ v.fldLink = s.fldLink ∧ v.coreClk = s.coreClk ∧
      v.refClk = s.refClk ∧ v.porstLow = s.porstLow ∧
      ∀ r i, v.rd r i = if isAon r = true ∨ r = .SES_KEY_STATUS ∨ (v.blkLow = false ∧ s.porstLow = true) then s.rd r i else regReset r i) ∧
  (∀ s : State,
    (s.aonUp = false → s.watchClock = s) ∧
    (s.aonUp = true → s.blkLow = true ∨ s.coreClk = true → s.watchClock = s.put .FLT_SRC_STATUS_RAIL 0 0) ∧
    (s.aonUp = true → s.blkLow = false → s.coreClk = false → s.watchClock = s.used.railLeaves 0 false (word s.free)))

/-- The clocks: when CORE_CLK stops, the copy of the log's time starts at the time base; whenever a clock stops or returns with the
always-on domain running, fault source 0 fires where CORE_CLK stands still with BLK_RST_N released, and its rail returns to OK
where it does not. PTP_REFCLK stopping changes nothing else. The fuse read takes one word at each FUSE_ACK. The 64th ends it: word
63 must be the CRC-32C of the 252 bytes of words 0 to 62; a word not acknowledged in time ends it at once. The end sets FUSE_DONE
and the code in FUSE_ERR, loads FACTORY, or clears it on an error and raises the fuse fault source, and memory initialisation
begins. No read: no effect. Memory initialisation ends: every memory of the core domain is clear, and MEM_INIT_DONE is set. -/
def Obligations.ClocksFuseReadAndMemoryInitEndBoot : Prop :=
  (∀ s : State,
     let watched (x : State) : State := if x.aonUp = false then x
       else if x.blkLow = true ∨ x.coreClk = true then x.put .FLT_SRC_STATUS_RAIL 0 0
       else x.outside (x.used.railLeaves 0 false (word x.free))
     exec .coreClkStop s = .next (watched { s with coreClk := false, logCopy := if s.coreUp then s.ns else s.logCopy }) ∧
     exec .coreClkReturn s = .next (watched { s with coreClk := true }) ∧
     exec .ptpRefclkStop s = .next { s with refClk := false } ∧
     exec .ptpRefclkReturn s = .next (watched { s with refClk := true })) ∧
  ((∀ (w : Word) (s : State), s.up 20 = true →
      let ended (u : State) (code : Nat) : State :=
        ({ (u.put .GLB_BOOT_FUSE_DONE 0 1).put .GLB_BOOT_FUSE_ERR 0 code with fusing := false, memInit := true } : State).putFlag
          .FLT_STATUS_FACTORY 0 (code == 0 && wbit (nth u.fuse 0 0) 31)
      let taken : State := { s with fuse := s.fuse ++ [w] }
      (s.fusing = false → exec (.fuseAck w) s = .next s ∧ exec .fuseTimeout s = .next s) ∧
      (s.fusing = true → exec .fuseTimeout s = .next (s.outside ((ended s 1).raiseFree 1))) ∧
      (s.fusing = true → s.fuse.length < 63 → exec (.fuseAck w) s = .next taken) ∧
      (s.fusing = true → s.fuse.length = 63 →
        exec (.fuseAck w) s =
          if crc32c (bytesOf s.fuse) = w.toNat then .next (ended taken 0) else .next (s.outside ((ended taken 2).raiseFree 1)))) ∧
   (∀ s : State, s.up 20 = true →
      (s.memInit = false → exec .memInitDone s = .next s) ∧
      (s.memInit = true → exec .memInitDone s = .next
        (({ s with memInit := false, flow := [], pfx := [], clsA := [], clsS := [], journal := [], clsD := [], ctx := [], qUsed := [], nodeCnt := [],
                   portPol := [], flowPol := [], gmem := [], exp := [], dup := [], injected := s.injected.filter (·.mem == 0xD) } : State).put
          .GLB_BOOT_MEM_INIT_DONE 0 1))))

/-! Registers. -/

/-- The register slave port answers ERROR to an access that is not aligned, to a write without all byte strobes, and to a
core-domain register while the core domain is in reset; every ERROR raises GLB_SLV_ERR by one, stopping at all-ones, and changes
no other register; where no register lies it answers OK, and a write has no effect. The port needs CORE_CLK. -/
def Obligations.SlavePortAnswersErrorsAndCountsThem : Prop :=
  ∀ (a : Nat) (w : Word) (st : Nat) (s : State), s.coreClk = true →
    (regOf a = none → exec (.registerWrite a w st) s =
      if a % 4 ≠ 0 ∨ st % 16 ≠ 15 then .next (s.outside s.slaveError) else .next { s with rsResp := some ⟨0, false⟩ }) ∧
    (∀ r i, regOf a = some (r, i) → isAon r = false →
      (st % 16 ≠ 15 ∨ s.coreOn = false → exec (.registerWrite a w st) s = .next (s.outside s.slaveError)) ∧
      (st % 16 = 15 → s.coreOn = true → s.soft = false → regBlock r i ≠ 20 →
        exec (.registerWrite a w st) s = .next { s with rsResp := some ⟨0, false⟩ })) ∧
    (∀ r i, regOf a = some (r, i) → isAon r = true → s.refClk = true → st % 16 ≠ 15 →
      exec (.registerWrite a w st) s = .next (s.outside s.slaveError)) ∧
    s.slaveError.rsResp = some ⟨0, true⟩ ∧
    s.slaveError.get .GLB_SLV_ERR_COUNT = min (2 ^ 32 - 1) (s.get .GLB_SLV_ERR_COUNT + 1) ∧
    (∀ r i, r ≠ .GLB_SLV_ERR → s.slaveError.rd r i = s.rd r i)

/-- A write of a register that no chapter gives an effect of its own: bits of RW fields take the written value, bits of RWL fields
until the structure commit; of W1C fields, bits written 1 clear; every other bit, every other register and the whole rest of the
state stay; the answer is OK. -/
def Obligations.RegisterWriteFollowsAccessCodes : Prop :=
  ∀ (a : Nat) (w : Word) (r : Reg) (i : Nat) (s : State),
    regOf a = some (r, i) → ownEffect r = false → isCounter r = false → s.slaveRuns (isAon r) = true → s.porstLow = false →
    (isAon r || (s.soft || regBlock r i == 20) && s.up (regBlock r i)) = true →
    ∃ t : State, exec (.registerWrite a w 15) s = .next t ∧
      t = (s.wr r i (t.rd r i)).slaveOk 0 ∧
      ∀ b < 32, wbit (t.rd r i) b =
        if ∃ f ∈ (regInfo r).fields, f.lo ≤ b ∧ b ≤ f.hi ∧ (f.acc = .rw ∨ f.acc = .rwl ∧ s.committed = false) then wbit w b
        else if ∃ f ∈ (regInfo r).fields, f.lo ≤ b ∧ b ≤ f.hi ∧ f.acc = .w1c then wbit (s.rd r i) b && !wbit w b
        else wbit (s.rd r i) b

/-- A write of zero clears a counter, both halves where it has 64 bits; any other value leaves it; a write to the high half of one
of 64 bits is ignored. A read of the low half of a 64-bit counter answers it and copies the high half into the counter's shadow,
which every later read of the high half returns whatever has happened to the counter since; a clear leaves the shadow. A counter
of 32 bits or fewer stops at all-ones, and raises its counter-saturated event only in the increment that reaches all-ones. -/
def Obligations.CountersStopClearAndReadWhole : Prop :=
  (∀ (a : Nat) (w : Word) (r : Reg) (i : Nat) (s : State),
     regOf a = some (r, i) → isCounter r = true → ownEffect r = false → s.slaveRuns (isAon r) = true → s.porstLow = false →
     (isAon r || (s.soft || regBlock r i == 20) && s.up (regBlock r i)) = true →
     exec (.registerWrite a 0 15) s = exec (.counterClear a) s ∧
     (w ≠ 0 → exec (.registerWrite a w 15) s = .next { s with rsResp := some ⟨0, false⟩ }) ∧
     exec (.counterClear a) s = .next ((if isSat r then s.wr r i 0 else match highHalf r with
       | some hi => (s.wr r i 0).wr hi i 0
       | none => s).slaveOk 0)) ∧
  (∀ (a : Nat) (lo hi : Reg) (i : Nat) (s : State),
     regOf a = some (lo, i) → (lo, hi) ∈ counters64 → s.coreClk = true → s.coreOn = true →
     ∃ t : State, exec (.counterLowRead a) s = .next t ∧ t.rsResp = some ⟨s.rd lo i &&& readable lo, false⟩ ∧ t.regs = s.regs ∧
       t = { s with rsResp := t.rsResp, shadows := t.shadows } ∧
       (∀ u : State, u.shadows = t.shadows → u.view hi i = s.rd hi i ∧ (u.clearCounter lo i).view hi i = s.rd hi i ∧
         (u.add64 lo hi i 1).view hi i = s.rd hi i) ∧
       (∀ lo' hi' i', (lo', hi') ∈ counters64 → (lo', i') ≠ (lo, i) → t.view hi' i' = s.view hi' i')) ∧
  (∀ (f : Fld) (i n : Nat) (s : State), f.lo ≤ f.hi → f.hi ≤ 31 →
     let top := 2 ^ f.width - 1
     f.of (satAdd f (s.rd f.reg i) n).1 = min top (s.get f i + n) ∧
     ((satAdd f (s.rd f.reg i) n).2 = true ↔ s.get f i < top ∧ top ≤ s.get f i + n) ∧
     (∀ g : Fld, g.lo ≤ g.hi → (g.hi < f.lo ∨ f.hi < g.lo) → g.of (satAdd f (s.rd f.reg i) n).1 = g.of (s.rd f.reg i)) ∧
     (¬(s.get f i < top ∧ top ≤ s.get f i + n) → s.add f i n = s.wr f.reg i (satAdd f (s.rd f.reg i) n).1))

/-! The maintenance port. -/

/-- A maintenance frame reaches always-on registers only. A read makes the register's read and answers its value, a write the
register's write; the status byte has bit 3 while BLK_RST_N is low or CORE_CLK is stopped, bit 1 where the address is no always-on
register, bit 0 always. An opcode that is neither does nothing and sets bit 2. A frame cut at or before clock 32 does nothing; a
read cut later has made its access and a write cut at clock 64 or later stands; a write cut before has not been performed. No
answer is complete: MAINT_DO has carried the answer's bits from clock 41 on, data before status, until the cut. A chip or block
reset request needs the key 0xC5: without it the write is ignored but for MNT_RST_STATUS.KEY_ERR. With it the block number written
stands in MNT_RST_REQ, and a block that cannot be reset sets BLOCK_REJ and is not reset. -/
def Obligations.MaintenancePortReachesAlwaysOnRegisters : Prop :=
  ((∀ (a op : Nat) (w : Word) (s : State), s.aonUp = true →
      let down := if s.blkLow = true ∨ s.coreClk = false then 8 else 0
      let answer (u : State) (d : Word) (st : Nat) : State := { u with mntResp := some (d, byte (down + st + 1)), mntCut := [] }
      (∀ r i, a < 0x800000 → regOf (4 * a) = some (r, i) → isAon r = true →
        exec (.maintRead a) s = .next (answer s (s.view r i) 0) ∧
        (¬(r = .FLT_INJ_CTRL ∧ s.flag .FLT_STATUS_FACTORY = true) →
          exec (.maintWrite a w) s = .next (s.outside (answer (s.regWrite r i w s.committed) 0 0)))) ∧
      (0x800000 ≤ a ∨ (∀ r i, regOf (4 * a) = some (r, i) → isAon r = false) →
        exec (.maintRead a) s = .next (answer s 0 2) ∧ exec (.maintWrite a w) s = .next (answer s 0 2)) ∧
      (op ≠ 0x0D → op ≠ 0x0E → exec (.maintBadOp op) s = .next (answer s 0 4))) ∧
   (∀ (op a clock : Nat) (w : Word) (s : State), s.aonUp = true →
      let cut (u : State) (d : Word) (st : Byte) : State := { u with mntResp := none, mntCut := maintBits clock d st }
      (clock ≤ 32 → exec (.maintFrameCut op a w clock) s = .next { s with mntResp := none, mntCut := [] }) ∧
      ((op = 0x0E ∧ clock < 64) ∨ (op ≠ 0x0D ∧ op ≠ 0x0E) → ∃ l, exec (.maintFrameCut op a w clock) s = .next { s with mntResp := none, mntCut := l }) ∧
      (∀ t d st, 32 < clock → exec (.maintRead a) s = .next t → t.mntResp = some (d, st) →
        exec (.maintFrameCut 0x0D a w clock) s = .next (cut t d st)) ∧
      (∀ t d st, 64 ≤ clock → exec (.maintWrite a w) s = .next t → t.mntResp = some (d, st) →
        exec (.maintFrameCut 0x0E a w clock) s = .next (cut t d st)) ∧
      (∀ (d : Word) (st : Byte), (maintBits clock d st).length = min clock 79 - 40 ∧
        ∀ k < min clock 79 - 40, (maintBits clock d st)[k]? = some (if k < 32 then d.getMsbD k else st.getMsbD (k - 32))))) ∧
  (∀ (key block : Nat) (s : State), s.aonUp = true →
     (key ≠ 0xC5 → exec (.mntChipReset key) s = .next (s.put .MNT_RST_STATUS_KEY_ERR 0 1) ∧
       exec (.mntBlockReset key block) s = .next (s.put .MNT_RST_STATUS_KEY_ERR 0 1)) ∧
     exec (.mntChipReset 0xC5) s = .next (s.outside (s.chipRequest true 0)) ∧
     exec (.mntBlockReset 0xC5 block) s = .next (if resettable (block % 32)
       then s.outside ((s.put .MNT_RST_REQ_BLOCK 0 (block % 32)).blockReset (block % 32) true 0)
       else (s.put .MNT_RST_REQ_BLOCK 0 (block % 32)).put .MNT_RST_STATUS_BLOCK_REJ 0 1) ∧
     (∀ b, resettable b = (decide (1 ≤ b) && decide (b ≤ 18))))

/-! MACs: enabling, links, loopback, FEC. -/

/-- A trunk's EN rises: its deficit count and byte position start anew; it falls: a frame in reception is discarded and counted in
MAC_RX_DISABLED, and LINK falls with the PCS; its extenders see it. TPMA_TXEN follows: it is 1 while the trunk is enabled or still
sends a frame, and not in near-end loopback, and each change of it is an output. A write that does not change EN does nothing. LINK
of a trunk follows its PCS while the trunk is enabled, pulses its port source at each change, lets DOWN_DROP act at its fall, and
moves its extenders; a trunk that is not enabled gains no link; RX_LPI falls with LINK. LOOP takes its value, but far-end loopback
is discarded on a field port; where a loopback begins or ends, a frame in reception is cut and has a receive error, what near-end
loopback has not yet returned is lost, and low-power idle ends. A codeword of RS-FEC is counted on an enabled trunk at 100 Gb/s
only, as corrected or as uncorrectable, and an uncorrectable one gives the frame in reception a receive error. -/
def Obligations.TrunkLinkFollowsEnableAndPcs : Prop :=
  (∀ (t : Nat) (s : State), t < 16 → s.up 1 = true → s.soft = true →
     let m := 1024 + t
     let cut := if (s.rxOf m).isSome then (s.dropRx m).inc .MAC_RX_DISABLED_COUNT m else s
     exec (.trunkEnable t) s = .next (if s.flag .MAC_CFG_EN m then s
       else s.outside (s.txenEdge ((s.put .MAC_CFG_EN m 1).setMac m { s.macOf m with deficit := 0, pos := 0, endAt := none }) m)) ∧
     exec (.trunkDisable t) s = .next (if s.flag .MAC_CFG_EN m
       then s.outside (s.txenEdge (((cut.put .MAC_CFG_EN m 0).setLink m false).extTrunk m) m) else s) ∧
     ∀ u : State, s.txenEdge u m = (if s.txen m = u.txen m then u else u.emit (.txen m (u.txen m))) ∧
       (u.txen m = true ↔ (u.enabled m = true ∨ (u.txOf m).isSome = true) ∧ u.get .MAC_CFG_LOOP m ≠ 1)) ∧
  (∀ (t : Nat) (s : State), t < 16 → s.up 1 = true →
     let m := 1024 + t
     exec (.trunkLinkChange t true) s = .next (if s.enabled m then s.outside ((s.setLink m true).extTrunk m) else s) ∧
     exec (.trunkLinkChange t false) s = .next (s.outside (((s.setLink m false).extTrunk m).put .MAC_STATUS_RX_LPI m 0)) ∧
     ∀ up : Bool, let x := (s.putFlag .MAC_STATUS_LINK m up).pulse m
       s.setLink m up = if s.link m = up then s else if up then x else x.downDrop m) ∧
  (∀ (p v t : Nat) (ok : Bool) (s : State), p < 1040 → t < 16 →
     let m := 1024 + t
     let new := s.put .MAC_CFG_LOOP p (v % 4)
     let cut := (s.txenEdge new p).cutMedium p
     (s.up (macBlock p) = true → s.soft = true →
       (v % 4 = 2 → p < 1024 → exec (.loopbackChange p v) s = .next s) ∧
       (¬(v % 4 = 2 ∧ p < 1024) → s.get .MAC_CFG_LOOP p % 3 = v % 4 % 3 → exec (.loopbackChange p v) s = .next new) ∧
       (¬(v % 4 = 2 ∧ p < 1024) → s.get .MAC_CFG_LOOP p % 3 ≠ v % 4 % 3 →
         exec (.loopbackChange p v) s = .next (s.outside ((cut.setMac p { cut.macOf p with back := [] }).lpiLeave p)))) ∧
     (s.up 1 = true →
       (s.rateCode m ≠ 4 ∨ s.enabled m = false → exec (.fecCodeword t ok) s = .next s) ∧
       (s.rateCode m = 4 → s.enabled m = true →
         exec (.fecCodeword t true) s = .next (s.outside (s.inc .MAC_FEC_CORR_COUNT m)) ∧
         exec (.fecCodeword t false) s = .next (s.outside ((s.inc .MAC_FEC_UNCORR_COUNT m).cutMedium m)))) ∧
     (∀ u : State, (u.rxOf p = none → u.cutMedium p = u) ∧
       ∀ r, u.rxOf p = some r → u.cutMedium p = u.setRx p (some { r with symbol := true })))

/-! Pause and generated frames. -/

/-- A write of MAC_FC_FORCE takes QUANTA and CLASS_VEC; GO holds one forced frame, which replaces one that is held, and sends it
where the port can send: a PAUSE with pause_time QUANTA, or on a trunk with FC_MODE 2 or 3 a PFC frame with QUANTA in each enabled
class. On a half-duplex segment GO is ignored. A held MAC control frame is sent when the port and the MAC that carries it are
enabled, have LINK and send nothing else, the automatic one before the forced one; a MAC in low-power idle wakes first, and a port
on its way back from service mode starts none. An extended port's forced frame goes out on its trunk with the port's E-TAG (the
model's reading, log 23). A refresh makes the automatic frame: a PAUSE of TX_QUANTA while XOFF holds, a PFC frame of the mask's
classes that are in XOFF_CLASSES otherwise. The end of a pause: RX_PAUSED falls when the port's timer ends, the class's bit of
RX_PFC_PAUSED when a class timer ends; the other classes' bits stay. -/
def Obligations.HeldControlFrameGoesFirst : Prop :=
  ((∀ (p : Nat) (w : Word) (s : State), p < 1040 → s.up (macBlock p) = true → s.soft = true →
      let s1 := (s.put .MAC_FC_FORCE_CLASS_VEC p (wbits w 23 16)).put .MAC_FC_FORCE_QUANTA p (wbits w 15 0)
      let q := wbits w 15 0
      let v := wbits w 23 16
      let c : Ctrl := if p < 1024 ∨ s.get .MAC_CFG_FC_MODE p < 2 then ⟨false, 0, [q]⟩
        else ⟨true, v, (List.range 8).map fun k => if v.testBit k then q else 0⟩
      exec (.fcForce p w) s = .next (if wbit w 31 = true ∧ s.halfDuplex p = false
        then s.outside ((s1.setMac p { s1.macOf p with forcedHeld := some c }).ctrlTx p) else s1)) ∧
   (∀ (p t mask : Nat) (s : State), p < 1040 → t < 16 →
      let x := s.macOf p
      let n := s.macPort p
      let can := s.enabled p = true ∧ s.link p = true ∧ s.enabled n = true ∧ s.link n = true ∧ s.halfDuplex p = false ∧ s.draining p = false
      let m := 1024 + t
      let v := mask % 256 &&& s.get .MAC_STATUS_XOFF_CLASSES m
      let r := if s.flag .MAC_STATUS_XOFF m then s.setMac m { s.macOf m with autoHeld := some ⟨false, 0, [s.get .MAC_FC_TX_TX_QUANTA m]⟩ }
        else if v = 0 then s else s.setMac m { s.macOf m with autoHeld := some (s.pfcFrame m (v ||| s.heldVec m)) }
      (s.up (macBlock p) = true →
        (¬can ∨ x.autoHeld.or x.forcedHeld = none → exec (.macControlTx p) s = .next s) ∧
        (can → s.flag .MAC_STATUS_TX_LPI n = true → (x.autoHeld.or x.forcedHeld).isSome = true →
          exec (.macControlTx p) s = .next ((s.put .MAC_STATUS_TX_LPI n 0).setMac n { s.macOf n with waking := true })) ∧
        (can → s.flag .MAC_STATUS_TX_LPI n = false → (s.macOf n).waking = true ∨ (s.txOf n).isSome = true →
          exec (.macControlTx p) s = .next s) ∧
        (∀ c, can → s.flag .MAC_STATUS_TX_LPI n = false → (s.macOf n).waking = false → s.txOf n = none → x.autoHeld.or x.forcedHeld = some c →
          let d := s.ctrlWire p c
          exec (.macControlTx p) s = .next (s.outside
            ((s.setMac p (if x.autoHeld.isSome then { x with autoHeld := none } else { x with forcedHeld := none })).begin n
              { copy := none, bytes := d ++ fcsBytes d, good := true, cls := 0, octets := 64
                ctrl := if s.extended p then 0 else if c.pfc then 2 else 1, owner := p })))) ∧
      (s.up 1 = true → exec (.pauseRefresh t mask) s = .next (s.outside (r.ctrlTx m))))) ∧
  (∀ (p t c : Nat) (s : State), p < 1040 → t < 16 → c < 8 →
     (s.up (macBlock p) = true → ∃ u, exec (.pauseTimerExpire p) s = .next u ∧
       u = (s.setMac p { s.macOf p with pause := 0 }).put .MAC_STATUS_RX_PAUSED p 0 ∧ u.flag .MAC_STATUS_RX_PAUSED p = false) ∧
     (s.up 1 = true → ∃ u, exec (.pfcTimerExpire t c) s = .next u ∧
       u = (s.setMac (1024 + t) { s.macOf (1024 + t) with pfc := tput 0 (s.macOf (1024 + t)).pfc c 0 }).put .MAC_STATUS_RX_PFC_PAUSED
         (1024 + t) (u.get .MAC_STATUS_RX_PFC_PAUSED (1024 + t)) ∧
       ∀ k, (u.get .MAC_STATUS_RX_PFC_PAUSED (1024 + t)).testBit k =
         ((s.get .MAC_STATUS_RX_PFC_PAUSED (1024 + t)).testBit k && !decide (k = c))))

/-! Low-power idle. -/

/-- Low-power idle is entered and counted where EN is 1 and nothing waits or bars it; it is left, with TX_LPI cleared and the wake
time begun, when something waits, bars it, or EN is 0; the wake time's end lets frames start. Received low-power idle sets RX_LPI
and is counted; in near-end loopback the medium is not seen. -/
def Obligations.LowPowerIdleIsEnteredAndLeft : Prop :=
  ∀ (p : Nat) (s : State), p < 1040 → s.up (macBlock p) = true →
    let x := s.macOf p
    let enter := s.flag .MAC_EEE_EN p = true ∧ s.enabled p = true ∧ s.link p = true ∧ s.extended p = false ∧
      s.flag .MAC_STATUS_TX_LPI p = false ∧ x.waking = false ∧ s.txOf p = none ∧ s.lpiNeeded p = false ∧ s.lpiBarred p = false
    let leave := s.flag .MAC_STATUS_TX_LPI p = true ∧ (s.lpiNeeded p = true ∨ s.lpiBarred p = true ∨ s.flag .MAC_EEE_EN p = false)
    (enter → exec (.lpiEnter p) s = .next (s.outside ((s.put .MAC_STATUS_TX_LPI p 1).inc .MAC_TX_LPI_COUNT p))) ∧
    (¬enter → exec (.lpiEnter p) s = .next s) ∧
    (leave → exec (.lpiExit p) s = .next ((s.put .MAC_STATUS_TX_LPI p 0).setMac p { x with waking := true })) ∧
    (¬leave → exec (.lpiExit p) s = .next s) ∧
    exec (.lpiWakeEnd p) s = .next (s.setMac p { x with waking := false }) ∧
    exec (.rxLpiEnter p) s = .next (if s.enabled p = true ∧ s.extended p = false ∧ s.get .MAC_CFG_LOOP p ≠ 1
      then s.outside ((s.put .MAC_STATUS_RX_LPI p 1).inc .MAC_RX_LPI_COUNT p) else s)

/-! Receptions. -/

/-- A frame starts on a MAC port: a port that does not listen to its medium, without LINK, in far-end loopback or already receiving
receives nothing; in near-end loopback a port receives what it has sent, oldest first, and not the medium. Otherwise a reception
begins with the bytes that have arrived, its port, the timestamp, the MAX_FRAME in force, its opportunity, and the port's duplex,
access and quarantine as they stand. A frame with an invalid start, one that the MAC or a protocol consumes, and one on a segment in
quarantine, takes no cell; a frame that the Spire does not take takes a head cell and the active version where the Dome has cells
above the floor, none at or below it, and is cut where the Dome is held. The other moments of a reception: byte MAX_FRAME + 1 returns
the frame's cells at once, and a frame being cut through then ends with an inverted FCS, cut to the lesser MAX_FRAME; the 16,384th
byte ends the reception and counts it once; with 192 bytes the headers are walked by the frame's own graph, and a walk that ends
parsed starts the lookups. The ends: a good or bad end of any frame, of a MAC control frame, of a frame being cut through and of a
fallback frame are each one end of a reception. -/
def Obligations.FrameStartOpensAReception : Prop :=
  (∀ (p : Nat) (ok : Bool) (d : List Byte) (s : State), p < 1040 → s.up (macBlock p) = true →
     let takes := s.listens p = true ∧ s.link p = true ∧ s.get .MAC_CFG_LOOP p ≠ 2 ∧ s.rxOf p = none
     let n := s.rxPort p d
     let st := s.segState p
     let r : Rx := { bytes := d, port := n, badStart := !ok, ts := s.rxStamp n, maxFrame := s.maxFrame n, opp := s.rxOpp p n d
                     half := s.halfDuplex p, plca := s.plcaPort p && st != segService && st != segToNormal
                     quar := !isTrunk p && st == segQuarantine }
     let u := (s.put .MAC_STATUS_RX_LPI p 0).used
     let held : Rx :=
       { r with head := some u.pickHead, cells := cellsFor (min d.length 256), inflight := true
                version := u.versionA, graph := u.img.graph }
     (s.listens p = if p < 1024 then s.onLane p && !(s.segOf p).deaf && (s.enabled p || (s.plcaPort p && (s.segOf p).carrier.isSome))
       else s.enabled p) ∧
     (¬takes → exec (.rxFrameStart p ok d) s = .next s) ∧
     (takes → s.get .MAC_CFG_LOOP p = 1 → (s.macOf p).back = [] → exec (.rxFrameStart p ok d) s = .next s) ∧
     (∀ x l, takes → s.get .MAC_CFG_LOOP p = 1 → (s.macOf p).back = x :: l → exec (.rxFrameStart p ok d) s =
       .next (s.outside ((s.setMac p { s.macOf p with back := l }).rxBegin p true (some x) (x.take (x.length - 4))))) ∧
     (takes → s.get .MAC_CFG_LOOP p ≠ 1 → ok = false ∨ s.consumed p d = true ∨ r.quar = true →
       exec (.rxFrameStart p ok d) s = .next (u.setRx p (some r))) ∧
     (takes → s.get .MAC_CFG_LOOP p ≠ 1 → ok = true → s.consumed p d = false → r.quar = false → u.spiTreat p d [] = none →
       (u.domeHeld = true → exec (.rxFrameStart p ok d) s = .next (u.setRx p (some { r with cut := true }))) ∧
       (u.domeHeld = false → u.aboveFloor = false → exec (.rxFrameStart p ok d) s = .next (u.setRx p (some { r with noCell := true }))) ∧
       (u.domeHeld = false → u.aboveFloor = true → exec (.rxFrameStart p ok d) s = .next (s.outside
         ((((u.used.headWrite u.pickHead).setRx p (some held)).notePeak).flowControl p))))) ∧
  (∀ (p t : Nat) (d : List Byte) (err : Bool) (bad : List (Nat × Nat)) (r : Rx) (s : State), p < 1040 → t < 16 → s.up (macBlock p) = true →
     let shed : Rx := { r with bytes := d, oversize := true, head := none, fbHead := none, cells := 0, inflight := false }
     let long := r.maxFrame < (s.stored p d).length
     let multi := p < 1024 ∧ s.kind p = 0
     let quar := multi ∧ (r.quar = true ∨ s.segState p = segQuarantine)
     (s.rxOf p = none → exec (.rxOversizeDetect p d) s = .next s ∧ exec (.rxJabber p err) s = .next s ∧ exec (.parseStart p d bad) s = .next s) ∧
     (s.rxOf p = some r → r.spi.filter (·.cut) = none → exec (.rxOversizeDetect p d) s =
       .next (if long then s.outside ((s.setRx p (some shed)).flowControl p) else s)) ∧
     (∀ x, s.rxOf p = some r → r.spi = some x → x.cut = true →
       let cap := min r.maxFrame (s.maxFrame (s.spiEgress x))
       (d.length ≤ cap → exec (.rxOversizeDetect p d) s = .next s) ∧
       (cap < d.length → exec (.rxOversizeDetect p d) s = .next (s.outside (((s.setRx p (some { (if long then shed else { r with bytes := d })
         with spi := some { x with cut := false, key := none } })).flowControl p).cutEnd x (d.take (cap - 4)) false)))) ∧
     (s.rxOf p = some r → exec (.rxJabber p err) s = .next (s.outside (
       let u := s.dropRx p
       let v := if r.cut then u.inc .FLT_RST_FRAMES_COUNT
         else if r.badStart then u.inc .MAC_RX_PREAMBLE_COUNT p
         else if err = true ∨ r.symbol = true then u.inc .MAC_RX_SYMBOL_COUNT p
         else u.inc .MAC_RX_OVERSIZE_COUNT r.port
       if quar then u.inc .SEG_QUAR_RX_COUNT p else if multi then v.babbleEvent p else v))) ∧
     (s.rxOf p = some r → r.back = none → cellsFor (s.stored p d).length ≤ r.cells →
       let g := s.setRx p (some { r with bytes := d })
       let w := parse r.graph (s.stored p d) false
       let l := g.lookup r.version r.port w.vec (badIn 3 bad) (badIn 4 bad)
       (r.head = none ∨ r.parsed.isSome = true ∨ (s.stored p d).length < 192 → exec (.parseStart p d bad) s = .next g) ∧
       (r.head.isSome = true → r.parsed = none → 192 ≤ (s.stored p d).length → s.up 4 = true →
         (w.stop ≠ 0 ∨ w.mal.isSome = true →
           exec (.parseStart p d bad) s = .next (s.setRx p (some { r with bytes := d, parsed := some w }))) ∧
         (w.stop = 0 → w.mal = none → s.up 5 = true → exec (.parseStart p d bad) s =
           .next (s.outside (l.2.setRx p (some { r with bytes := d, parsed := some w, lookup := some l.1 }))))))) ∧
  (∀ (p t : Nat) (d : List Byte) (fcs : Word) (err coll : Bool) (bad : List (Nat × Nat)) (s : State), p < 1040 → t < 16 →
     let m := 1024 + t
     let spi := (s.rxOf m).bind (·.spi)
     let ends (q : Nat) (c : Bool) (b : List (Nat × Nat)) (k : State → Nat → List Byte → State) := s.outside (s.rxEnd k q d fcs err c b)
     (s.up (macBlock p) = true → s.flag .FLT_STATUS_FACTORY = false →
       exec (.rxFrameEnd p d fcs err coll bad) s = .next (ends p coll bad State.consumeFrame)) ∧
     (s.up (macBlock p) = true → exec (.macControlFrame p d fcs err) s =
       .next (if isCtrl (s.rxWire p d fcs).1 then ends p false [] (fun s _ _ => s) else s)) ∧
     (s.up 1 = true →
       exec (.spireCutEnd t d fcs err) s = .next (if spi.any (·.cut) = true then ends m false [] (fun s _ _ => s) else s) ∧
       exec (.spireFallbackEnd t d fcs err) s = .next (if spi.any (·.fallback) = true then ends m false [] (fun s _ _ => s) else s)))

/-- A discarded frame counts in one counter, the first that applies: invalid start, receive error, runt, oversize, bad FCS; its
reception ends, its cells return, and nothing else comes of it. A runt or an oversize frame counts at the frame's own port; what makes
its E-TAG untrustworthy counts at the MAC that received it. -/
def Obligations.DiscardedFrameCountsOnce : Prop :=
  ∀ (p : Nat) (d : List Byte) (fcs : Word) (err : Bool) (words : List (Nat × Nat)) (r r0 : Rx) (s : State),
    let g := s.rxGrow p d
    let len := (g.stored p d).length + 4
    let err' := err = true ∨ r.symbol = true
    let bad := r.badStart = true ∨ err' ∨ len < 64 ∨ r.maxFrame < len ∨ crc32 d ≠ fcs.toNat
    let f : Fld := if r.badStart then .MAC_RX_PREAMBLE_COUNT else if err' then .MAC_RX_SYMBOL_COUNT else if len < 64 then .MAC_RX_RUNT_COUNT
      else if r.maxFrame < len then .MAC_RX_OVERSIZE_COUNT else .MAC_RX_FCS_ERR_COUNT
    p < 1040 → s.up (macBlock p) = true → s.flag .FLT_STATUS_FACTORY = false → s.rxOf p = some r0 → r0.express = false → r0.back = none →
    g.rxOf p = some r → r.back = none → r.cut = false → r.spi = none → r.quar = false → (p < 1024 → g.segState p ≠ segQuarantine) →
    g.isFragment p r len false = false → ownOpp r = false → bad →
    exec (.rxFrameEnd p d fcs err false words) s =
      .next (s.outside (((g.setRx p none).inc f (if f = .MAC_RX_RUNT_COUNT ∨ f = .MAC_RX_OVERSIZE_COUNT then r.port else p)).flowControl p))

/-- A good PAUSE or PFC frame is counted, as a frame of its MAC and as what it is, takes no cell, and acts under FC_MODE: with FC_MODE
1, and not on a half-duplex segment, pause_time loads the pause timer, and RX_PAUSED shows whether it runs; with FC_MODE 2 a PFC frame
loads the timers of the classes of its vector; MAC control of another opcode or address is counted apart and does nothing. It goes no
further. -/
def Obligations.GoodControlFrameActsAtItsEnd : Prop :=
  ∀ (p : Nat) (d : List Byte) (fcs : Word) (r r0 : Rx) (s : State),
    let g := s.rxGrow p d
    let u := (g.setRx p none).countGood p r (d.length + 4)
    p < 1040 → s.up (macBlock p) = true → s.rxOf p = some r0 → r0.express = false → r0.back = none → g.rxOf p = some r → r.back = none →
    r.cut = false → r.spi = none → r.symbol = false → r.quar = false → (p < 1024 → g.segState p ≠ segQuarantine) → ownOpp r = false →
    g.isFragment p r (d.length + 4) false = false → g.extTrunkRole p = false → isCtrl d = true → r.badStart = false → 64 ≤ d.length + 4 →
    d.length + 4 ≤ r.maxFrame → crc32 d = fcs.toNat →
    (beAt d 0 6 ≠ 0x0180C2000001 ∨ (beAt d 14 2 ≠ 1 ∧ beAt d 14 2 ≠ 0x101) →
      exec (.macControlFrame p d fcs false) s = .next (s.outside (u.inc .MAC_RX_CTRL_OTHER_COUNT p))) ∧
    (beAt d 0 6 = 0x0180C2000001 → beAt d 14 2 = 1 → exec (.macControlFrame p d fcs false) s = .next (s.outside (
      if u.get .MAC_CFG_FC_MODE p = 1 ∧ u.halfDuplex p = false then
        ((u.inc .MAC_RX_PAUSE_COUNT p).setMac p { (u.inc .MAC_RX_PAUSE_COUNT p).macOf p with pause := beAt d 16 2 }).putFlag
          .MAC_STATUS_RX_PAUSED p (beAt d 16 2 != 0)
      else u.inc .MAC_RX_PAUSE_COUNT p))) ∧
    (beAt d 0 6 = 0x0180C2000001 → beAt d 14 2 = 0x101 → exec (.macControlFrame p d fcs false) s = .next (s.outside (
      if u.get .MAC_CFG_FC_MODE p = 2 then
        (u.inc .MAC_RX_PFC_COUNT p).each (bitList 8 (beAt d 17 1)) fun s c => s.pfcLoad p c (beAt d (18 + 2 * c) 2)
      else u.inc .MAC_RX_PFC_COUNT p)))

/-! Tickets and references. -/

/-- The oldest waiting ingress ticket of a lane leaves where the interface is open, and the others wait on; an egress ticket is
accepted, behind those waiting, while the lane's buffer holds fewer than 64. The oldest egress ticket of a lane whose descriptor reads
without an error is checked in the order live head cell, length, destination, count: the first failing check is counted and captured
and nothing is enqueued. One that passes is offered to the queue that DST_PORT and QSEL name. A RELEASE of a live head cell takes one
reference either way, at the end of the cycle, which `more` puts off while more changes of the cycle are to come (R32). -/
def Obligations.TicketLanesKeepTheirOrder : Prop :=
  (∀ (lane : Nat) (a b c d : Word) (tk : List Word) (rest : List (List Word)) (s : State), lane < 2 → s.up 8 = true →
     let isOpen := s.committed = true ∧ s.flag .FLT_STATUS_DOME_HOLD = false
     (s.itk lane = [] ∨ ¬isOpen → exec (.itkTransfer lane) s = .next s) ∧
     (s.itk lane = tk :: rest → isOpen → ∃ t, exec (.itkTransfer lane) s = .next t ∧ t.out = .ticket lane tk :: s.out ∧
       t.itk lane = rest ∧ (∀ k, k ≠ lane → t.itk k = s.itk k) ∧ t = { s with itkQ := t.itkQ, out := t.out }) ∧
     (¬isOpen ∨ 64 ≤ (s.etk lane).length → exec (.etkTransfer lane a b c d) s = .next s) ∧
     (isOpen → (s.etk lane).length < 64 → ∃ t, exec (.etkTransfer lane a b c d) s = .next t ∧ t.etk lane = s.etk lane ++ [[a, b, c, d]] ∧
       (∀ k, k ≠ lane → t.etk k = s.etk k) ∧ t = { s with etkQ := t.etkQ })) ∧
  (∀ (lane : Nat) (more : Bool) (tk : List Word) (rest : List (List Word)) (s : State), lane < 2 → s.up 8 = true →
     let u : State := { s with etkQ := tput [] s.etkQ lane rest }
     let h := wbits (nth tk 0 0) 16 0
     let dst := wbits (nth tk 1 0) 10 0
     let qsel := wbits (nth tk 1 0) 18 11
     let out := u.enqueueTicket h dst qsel (wbits (nth tk 1 0) 24 23) (wbits (nth tk 1 0) 21 19) (wbits (nth tk 2 0) 19 12) (wbits (nth tk 2 0) 11 0) tk
     let ended (x : State) := s.outside (if more then x else x.cycleEnd)
     let released (x : State) := ended (if wbit (nth tk 0 0) 31 = true then x.dropRef h else x)
     (s.etk lane = [] → exec (.egressTicketProcess lane more) s = .next (ended s)) ∧
     (s.etk lane = tk :: rest → s.frame h = none → exec (.egressTicketProcess lane more) s = .next (ended (u.egtError 1 false dst))) ∧
     (∀ f, s.etk lane = tk :: rest → s.frame h = some f → s.eccOf 2 h .ok = .ok →
       exec (.egressTicketProcess lane more) s = .next (released (
         if f.length ≠ wbits (nth tk 0 0) 30 17 then u.egtError 2 false dst
         else if s.dstError dst qsel ≠ 0 then u.egtError (s.dstError dst qsel) false dst
         else if 4095 ≤ f.refs then u.egtError 5 false dst
         else out.2))))

/-- A copy that admission takes joins its queue's end and adds one reference to its frame; one that it rejects adds none and joins
no queue. A release takes one reference at the end of its cycle, together with every other change of that cycle: a count that stays
above zero is the frame's new count, at zero its cells are free, and a count that would fall below zero frees them and is one error
with cause 6, however many releases were too many (R32). A release of a head cell that is not live is an error at once. -/
def Obligations.ReferencesFollowCopies : Prop :=
  ∀ (lane h q col edit handle cls k : Nat) (more : Bool) (f : DFrame) (s : State), lane < 2 → s.up 8 = true →
    let o := s.offer h f q col edit handle cls
    let ended (x : State) := s.outside (if more then x else x.cycleEnd)
    (s.frame h = some f → o.1 = true → o.2.frame h = some { f with refs := f.refs + 1 } ∧
      (∃ c : Copy, c.head = h ∧ o.2.queue q = s.queue q ++ [c]) ∧ ∀ k, k ≠ q → o.2.queue k = s.queue k) ∧
    (o.1 = false → o.2.frames = s.frames ∧ o.2.queues = s.queues) ∧
    (s.threshold (s.queueClass q) col < s.queueCells q + f.cells → o.1 = false) ∧
    (s.committed = true → s.flag .FLT_STATUS_DOME_HOLD = false →
      (s.frame h = none → exec (.referenceRelease lane h more) s = .next (ended (s.egtError 1 true 0))) ∧
      (s.frame h = some f → exec (.referenceRelease lane h more) s = .next (ended (s.dropRef h)))) ∧
    (s.committed = false ∨ s.flag .FLT_STATUS_DOME_HOLD = true → exec (.referenceRelease lane h more) s = .next (ended s)) ∧
    (tget 0 (s.dropRef h).taken h = tget 0 s.taken h + 1 ∧ s.dropRef h = { s with taken := (s.dropRef h).taken }) ∧
    (s.taken = [] → s.cycleEnd = s ∧ (s.dropRef h).cycleEnd = s.takeRefs h 1) ∧
    (s.frame h = some f → s.eccOf 2 h .ok = .ok →
      (k < f.refs → s.takeRefs h k = (s.setFrame h { f with refs := f.refs - k }).memWrite 2 h) ∧
      (f.refs = k → s.takeRefs h k = (s.freeFrame h).memWrite 2 h) ∧
      (f.refs < k → s.takeRefs h k = ((s.egtError 6 true 0).freeFrame h).memWrite 2 h)) ∧
    ((s.freeFrame h).frame h = none ∧ ∀ j, j ≠ h → (s.freeFrame h).frame j = s.frame j)

/-! The Dome's loop, the scheduler, Oculus. -/

/-- The adaptive loop lowers ALPHA by STEP, not below ALPHA_MIN, in every adapting class while the cells in use are above the
target's band, and raises it, not above ALPHA_MAX, while they are below; every other class and register stays. A write of ALPHA
takes the value clamped to the class's bounds. -/
def Obligations.AdaptiveLoopMovesAlphaWithinBounds : Prop :=
  ∀ (k : Nat) (w : Word) (s : State), k < 8 → s.up 8 = true →
    let lo (j : Nat) := s.get .DOME_CLASS_ALPHA_ALPHA_MIN j
    let hi (j : Nat) := s.get .DOME_CLASS_ALPHA_ALPHA_MAX j
    let a (j : Nat) := s.get .DOME_CLASS_CUR_ALPHA j
    (∃ t : State, exec .domeLoopTick s = .next t ∧ t = { s with regs := t.regs } ∧
      (∀ r i, r ≠ .DOME_CLASS_CUR ∨ 8 ≤ i → t.rd r i = s.rd r i) ∧
      ∀ j < 8, t.get .DOME_CLASS_CUR_ALPHA j =
        if s.flag .DOME_CLASS_CFG_ADAPT j = false then a j
        else if s.get .DOME_TARGET_TARGET + s.get .DOME_TARGET_BAND < s.usedCells then max (lo j) (a j - s.get .DOME_LOOP_STEP)
        else if s.usedCells + s.get .DOME_TARGET_BAND < s.get .DOME_TARGET_TARGET then min (hi j) (a j + s.get .DOME_LOOP_STEP)
        else a j) ∧
    (s.soft = true → lo k ≤ hi k → exec (.domeAlphaWrite k w) s = .next (s.put .DOME_CLASS_CUR_ALPHA k
      (if wbits w 15 0 < lo k then lo k else if hi k < wbits w 15 0 then hi k else wbits w 15 0)))

/-- The choice of a port: the highest strict class that is eligible wins over every other class, and its head copy is the one with
the least finish tag of all the class's queues, read as a signed difference from the virtual time; the copy leaves its queue and
the virtual time takes its tag. -/
def Obligations.StrictClassAndLeastTagWin : Prop :=
  ∀ (p k : Nat) (gates : Bool) (x : Nat × Copy) (s : State),
    (s.eligible gates p k = some x → s.strictMin p ≤ k → k < 8 →
      (∀ j, k < j → j < 8 → s.eligible gates p j = none) → (s.choose gates p).1 = some x.2) ∧
    (s.eligible gates p k = some x → s.mayStart p = true ∧ s.classMay p k = true ∧ s.wfqHead p k = some x) ∧
    (s.wfqHead p k = some x → x ∈ s.classQueues p k ∧
      ∀ y ∈ s.classQueues p k, tagRank (s.get .SCH_VTIME_V (8 * p + k)) x.2.tag ≤ tagRank (s.get .SCH_VTIME_V (8 * p + k)) y.2.tag) ∧
    ((∀ j < 8, s.eligible false p j = none) → s.choose false p = (none, s))

/-- SCHED_CHOOSE: a frame of Ocora's own that waits goes first; a trunk that can start a frame starts the chosen copy, or drops and
counts it where it is longer than MAX_FRAME; a full-duplex field port starts its candidate where that may start and fits; a port that
is sending, asleep or owes a control frame chooses nothing, nor does an extender trunk, an extended port or a field port that is not in
NORMAL or SERVICE. The candidate slot of a field port is filled by the scheduler's choice while it is open and empty and no copy of the
port contends; a candidate gives way, and is counted, to an eligible copy of a higher strict class where CAND_REPL allows, no attempt
under CSMA/CD has been made and no burst may still send it; it then returns to the head of its queue with its tag. At a frame boundary
of an enabled extender trunk with LINK, the round robin serves the first source with a copy ready, the extended ports rising and the
trunk's own choice behind them, counted on behind the one served last; a trunk that cannot send serves none. A lane's link moves the
LINK of the field port that is bound to it. -/
def Obligations.ChosenCopyStartsAndTrunkServesInTurn : Prop :=
  ((∀ (p : Nat) (s : State), p < 1040 → s.up 9 = true →
      let u := s.downDrop p
      let c := u.choose true p
      (∀ d l, (u.macOf p).own = d :: l → exec (.schedChoose p) s = .next (s.outside (u.ownTx p)) ∧
        (u.enabled p = true → u.link p = true → u.flag .MAC_STATUS_RX_PAUSED p = false → u.flag .MAC_STATUS_TX_LPI p = false →
          (u.macOf p).waking = false → u.txOf p = none → (u.macOf p).autoHeld = none → (u.macOf p).forcedHeld = none →
          u.ownTx p = (u.setMac p { u.macOf p with own := l }).begin p
            { copy := none, bytes := d ++ fcsBytes d, good := true, cls := 0, octets := d.length + 4, owner := p })) ∧
      ((u.macOf p).own = [] → u.txFree p = false ∨ u.extended p = true ∨ (1024 ≤ p ∧ u.role p = 1) ∨ (p < 1024 ∧ u.segSends p = false) →
        exec (.schedChoose p) s = .next (s.outside u)) ∧
      (1024 ≤ p → u.txFree p = true → u.role p ≠ 1 →
        (c.1 = none → exec (.schedChoose p) s = .next (s.outside c.2)) ∧
        ∀ x, c.1 = some x → exec (.schedChoose p) s = .next (s.outside (if u.oversizeCopy p x = true
          then (c.2.endCopy x none).inc .MAC_TX_OVERSIZE_COUNT p else c.2.startCopy p p x))) ∧
      (∀ x, p < 1024 → u.txFree p = true → u.extended p = false → u.segSends p = true → u.halfDuplex p = false → u.candOf p = some x →
        exec (.schedChoose p) s = .next (s.outside (if u.candReady p x = true then u.startCand p x else u.candNoFit p x))) ∧
      (s.enabled p = false ∨ s.link p = true ∨ s.flag .MAC_CFG_DOWN_DROP p = false → u = s)) ∧
   (∀ (p : Nat) (s : State), p < 1024 → s.up 9 = true →
      let c := s.choose (!s.extended p) p
      let fills := s.slotOpen p = true ∧ s.candOf p = none ∧ s.csmaBusy p = false
      let better (x : Copy) := ∃ k < 8, s.strictMin p ≤ k ∧ x.cls < k ∧ (s.eligible (!s.extended p) p k).isSome = true
      let yields (x : Copy) := s.flag .SCH_PORT_CFG_CAND_REPL p = true ∧ better x ∧
        ¬(s.csmaKind p = true ∧ s.get .SEG_TXSTATE_ATTEMPTS p ≠ 0) ∧ s.burstOpen p = false ∧ s.slotOpen p = true
      (¬fills → exec (.candidateFill p) s = .next s) ∧
      (fills → (c.1 = none → exec (.candidateFill p) s = .next (s.outside c.2)) ∧
        ∀ x, c.1 = some x → exec (.candidateFill p) s = .next (s.outside (if s.oversizeCopy p x = true
          then (c.2.endCopy x none).inc .MAC_TX_OVERSIZE_COUNT p else c.2.newCand p x))) ∧
      (s.candOf p = none → exec (.candidateReplace p) s = .next s) ∧
      (∀ x, s.candOf p = some x →
        (¬yields x → exec (.candidateReplace p) s = .next s) ∧
        (yields x → exec (.candidateReplace p) s = .next (s.outside
          ((((s.setQueue x.q ({ x with tries := 0 } :: s.queue x.q)).noCand p).fillCand p).inc .SCH_CAND_REPL_COUNT p)))))) ∧
  (∀ (t lane : Nat) (up : Bool) (s : State), t < 16 → lane < 256 →
     let m := 1024 + t
     let sends := s.role m = 1 ∧ s.txFree m = true ∧ s.enabled m = true ∧ s.link m = true ∧ s.flag .MAC_STATUS_RX_PAUSED m = false
     let k := tget 0 s.rrNext t
     let l := s.extPortsOn t ++ [m]
     (s.up 9 = true →
       (¬sends → s.role m ≠ 1 ∨ (s.macOf m).own = [] → exec (.extTrunkRoundRobin t) s = .next s) ∧
       (sends → exec (.extTrunkRoundRobin t) s = .next (s.outside (s.rrTry t (l.filter (fun n => k ≤ n) ++ l.filter fun n => n < k)))) ∧
       (s.role m = 1 → (s.macOf m).own ≠ [] → exec (.extTrunkRoundRobin t) s = .next (s.outside (s.ownTx m))) ∧
       (∀ n (c : Copy), s.candOf n = some c → n ≠ m →
         (s.rrServe t n).1 = (s.extState (s.extOf n) == extJoined && s.candReady n c && decide ((s.extPortOf n).nextStart ≤ s.now * 65536) &&
           (!s.flag .EXT_CREDIT_ACTIVE n || decide (s.copyWire n c ≤ s.get .EXT_CREDIT_CREDIT n))))) ∧
     (s.up 2 = false ∨ s.portOfLane lane = none → exec (.fldLinkChange lane up) s = .next (s.linkLevel lane up)) ∧
     (∀ p, s.up 2 = true → s.portOfLane lane = some p →
       exec (.fldLinkChange lane up) s = .next (s.outside ((s.linkLevel lane up).fieldLink p))) ∧
     s.linkLevel lane up = { s with fldLink := tput false s.fldLink lane up })

/-- A frame's end: its descriptor is read, the frame is on the wire and counted, and its copy ends; a copy whose descriptor reads with
an error goes out with its FCS inverted and ends before. On a field port the slot's candidate shows its own attempts, a burst holds the
medium, and TO_NORMAL may end. The frame boundary at which written shapers take effect; and the move of an empty node queue to its new
class. -/
def Obligations.FrameEndsAndBoundariesAct : Prop :=
  ∀ (p i : Nat) (e : Ecc) (t : Tx) (s : State), p < 1040 → i < 262144 → s.up 9 = true →
    let rest (u : State) := if 1024 ≤ p then u else ((u.showTries p (((u.candOf p).map (·.tries)).getD 0)).commitHold p).toNormalEnd p
    (s.txOf p = none ∨ (s.txOf p = some t ∧ t.cut = true) → exec (.copyEnd p e) s = .next s) ∧
    (s.txOf p = some t → t.cut = false → t.copy = none → exec (.copyEnd p e) s = .next (s.outside (rest (s.sendDone p t e)))) ∧
    (∀ c, s.txOf p = some t → t.cut = false → t.copy = some c →
      (s.frame c.head = none ∨ s.eccOf 2 c.head .ok = .ok → exec (.copyEnd p e) s = .next (s.outside (rest (s.sendDone p t e)))) ∧
      ((s.frame c.head).isSome = true → s.eccOf 2 c.head .ok = .corr →
        exec (.copyEnd p e) s = .next (s.outside (rest ((s.inc .DOME_ECC_CORR_COUNT).sendDone p t e)))) ∧
      ((s.frame c.head).isSome = true → s.eccOf 2 c.head .ok = .uncorr → exec (.copyEnd p e) s =
        .next (s.outside (rest ((s.loseFrame c.head).sendDone p { t with copy := none, good := false } e))))) ∧
    ((s.sending p).isSome = true → exec (.shaperConfigApply p) s = .next s) ∧
    (s.sending p = none → ∃ u, exec (.shaperConfigApply p) s = .next u ∧ u = { s with shaper := u.shaper, credit := u.credit } ∧
      ∀ k < 8, ∀ r ∈ shaperRegs, u.inForce r (8 * p + k) = s.rd r (8 * p + k)) ∧
    exec (.nodeQueueClassMove i) s = .next (if (s.queue i).isEmpty = true ∧ (s.candOf (i / 256)).any (·.q == i) = false
      then { s with oldClass := tput none s.oldClass i none } else s)

/-- The credit of a shaped class never passes HI_CREDIT over a cycle, is held while the class is paused or its gate is closed, and
returns towards 0, not past it, while the class holds nothing. -/
def Obligations.CreditIsBounded : Prop :=
  ∀ (p k : Nat) (s : State),
    let i := 8 * p + k
    let c := tget 0 s.credit i
    let hi : Int := Fld.SCH_CBS_HI_HI_CREDIT.of (s.inForce .SCH_CBS_HI i) * 16 * 3000000
    let stopped := s.flag .MAC_STATUS_RX_PAUSED p = true ∨ (s.get .MAC_STATUS_RX_PFC_PAUSED p).testBit k = true ∨ s.gateOpen p k = false
    (c ≤ hi → s.creditTick p k ≤ hi) ∧
    (stopped → s.creditTick p k = c) ∧
    (¬stopped → s.sending p = some k → s.creditTick p k ≤ c) ∧
    (¬stopped → s.sending p ≠ some k → s.classHolds p k = false → (s.candOf p).any (·.cls == k) = false →
      (0 ≤ c → s.creditTick p k = 0) ∧ (c < 0 → c ≤ s.creditTick p k ∧ s.creditTick p k ≤ 0))

/-- The sweep samples its queues in turn and counts its passes; the watch visits its 1,024 entries in turn and keeps each entry's
maxima and last delay; throttling holds a sample or a visit back, and a period in which it has done so is counted at its end as late;
an engine that is started begins anew; a write of a watch entry clears its records, and a queue number out of range is not taken. -/
def Obligations.OculusVisitsItsQueuesInTurn : Prop :=
  ∀ (v : Nat) (w : Word) (s : State), v < 1024 → s.up 10 = true →
    let late (held : Bool) (u : State) := if held then u.inc .OCU_LATE_COUNT else u
    let q := s.get .OCU_STATUS_SWEEP_POS
    let r := s.spend 2
    let a := r.takeSample false q
    let e := s.ocuWatchPos
    let s1 : State := if e = 1023 then late s.ocuWatchHeld { r with ocuWatchPos := 0, ocuWatchHeld := false } else { r with ocuWatchPos := e + 1 }
    let x := s.sample (s.get .OCU_WATCH_QUEUE e)
    let s2 := if s.get .OCU_WATCH_MAXC_MAX e < x.1 then s1.put .OCU_WATCH_MAXC_MAX e x.1 else s1
    let s3 := if s.get .OCU_WATCH_MAXD_MAX e < x.2 then s2.put .OCU_WATCH_MAXD_MAX e x.2 else s2
    exec .ocuSweepSample s = .next (if s.flag .OCU_CTRL_SWEEP_EN = false then s
      else if s.mayRun 2 = false then { s with ocuSweepHeld := true }
      else if q + 1 = queueCount then s.outside (late s.ocuSweepHeld
        (({ a with ocuSweepHeld := false }.put .OCU_STATUS_SWEEP_POS 0 0).inc .OCU_SWEEPS_COUNT))
      else s.outside (a.put .OCU_STATUS_SWEEP_POS 0 (q + 1))) ∧
    exec .ocuWatchSample s = .next (if s.flag .OCU_CTRL_WATCH_EN = false then s
      else if s.mayRun 2 = false then { s with ocuWatchHeld := true }
      else if s.flag .OCU_WATCH_EN e = false then s.outside s1
      else s.outside ((s3.put .OCU_WATCH_LAST_DELAY e x.2).takeSample true (s.get .OCU_WATCH_QUEUE e))) ∧
    (s.soft = true →
      (let u := if wbit w 31 = true ∧ s.flag .OCU_CTRL_SWEEP_EN = false then { s with ocuSweepHeld := false }.put .OCU_STATUS_SWEEP_POS 0 0 else s
       let y : State := if wbit w 30 = true ∧ s.flag .OCU_CTRL_WATCH_EN = false then { u with ocuWatchPos := 0, ocuWatchHeld := false } else u
       exec (.ocuCtrlWrite w) s = .next ((y.putFlag .OCU_CTRL_SWEEP_EN 0 (wbit w 31)).putFlag .OCU_CTRL_WATCH_EN 0 (wbit w 30))) ∧
      (let u := s.putFlag .OCU_WATCH_EN v (wbit w 31)
       let y := if wbits w 18 0 < queueCount then u.put .OCU_WATCH_QUEUE v (wbits w 18 0) else u
       exec (.ocuWatchWrite v w) s = .next (((y.put .OCU_WATCH_MAXC_MAX v 0).put .OCU_WATCH_MAXD_MAX v 0).put .OCU_WATCH_LAST_DELAY v 0)))

/-! Segments. -/

/-- The operating state of a local field port follows EN, LINK and SERVICE: EN = 1 leads out of DISABLED where LINK is 1, to
SERVICE on a multidrop segment with SERVICE = 1 and to NORMAL otherwise; EN = 0 leads to DISABLED from every state; SERVICE = 1
leads from NORMAL to TO_SERVICE, and SERVICE = 0 back to NORMAL from TO_SERVICE, and from SERVICE to TO_NORMAL while a frame is
sent, else to NORMAL. In TO_SERVICE and DISABLED no candidate is held. Beside the port's own SEG_ registers, its virtual times,
its candidate and its queues, nothing changes. TO_SERVICE ends in SERVICE when the medium has been quiet and no frame is sent,
with FORCED 0, or when the wait runs out, with FORCED 1; in any other state both moments pass unnoticed. A written BABBLE bit
clears, and the state follows; of an extended port the clear waits for the next POLL. The babble window's end starts the count
anew. -/
def Obligations.SegmentStateFollowsItsLevels : Prop :=
  (∀ (p : Nat) (s : State), p < 1024 → s.up 2 = true → s.soft = true → s.onLane p = true →
     let same (t : State) := t = { s with regs := t.regs, queues := t.queues, qUsed := t.qUsed, cand := t.cand, seg := t.seg
                                          shaper := t.shaper, out := t.out } ∧
       ∀ r i, r ∉ [.SEG_CFG, .SEG_STATUS, .SEG_TXSTATE, .SEG_CYCLES_LO, .SEG_CYCLES_HI, .SCH_VTIME, .SCH_DEFICIT] → t.rd r i = s.rd r i
     let multi := s.kind p = 0
     let svc := s.flag .SEG_CFG_SERVICE p
     (∃ t, exec (.fieldPortEnable p) s = .next t ∧ same t ∧ t.flag .SEG_CFG_EN p = true ∧
       (s.segState p = segDisabled → t.segState p = if s.link p = false then segDisabled
         else if multi ∧ svc = true then segService else segNormal)) ∧
     (∃ t, exec (.fieldPortDisable p) s = .next t ∧ same t ∧ t.flag .SEG_CFG_EN p = false ∧ t.segState p = segDisabled ∧ t.candOf p = none) ∧
     (∃ t, exec (.serviceRequest p) s = .next t ∧ same t ∧ t.flag .SEG_CFG_SERVICE p = true ∧
       (s.flag .SEG_CFG_EN p = true → multi → s.segState p = segNormal → t.segState p = segToService ∧ t.candOf p = none)) ∧
     (∃ t, exec (.serviceRelease p) s = .next t ∧ same t ∧ t.flag .SEG_CFG_SERVICE p = false ∧
       (s.flag .SEG_CFG_EN p = true → multi →
         (s.segState p = segToService → t.segState p = segNormal) ∧
         (s.segState p = segService → t.segState p = if (s.txOf p).isSome then segToNormal else segNormal)))) ∧
  (∀ (p : Nat) (s : State), p < 1024 → s.up 2 = true →
     let enters := s.segState p = segToService ∧ s.onLane p = true
     let u := s.put .SEG_STATUS_BABBLE p 0
     let x := s.extData (s.extOf p)
     (enters → s.txOf p = none → ∃ t, exec (.serviceQuiet p) s = .next t ∧ t.segState p = segService ∧ t.flag .SEG_STATUS_FORCED p = false ∧
       t = (s.enterSeg p segService).putFlag .SEG_STATUS_FORCED p false) ∧
     (¬enters ∨ (s.txOf p).isSome = true → exec (.serviceQuiet p) s = .next s) ∧
     (enters → ∃ t, exec (.serviceForced p) s = .next t ∧ t.segState p = segService ∧ t.flag .SEG_STATUS_FORCED p = true ∧
       t = (s.enterSeg p segService).putFlag .SEG_STATUS_FORCED p true) ∧
     (¬enters → exec (.serviceForced p) s = .next s) ∧
     (s.soft = true → ∃ t, exec (.babbleClear p) s = .next t ∧ t.flag .SEG_STATUS_BABBLE p = false ∧ t = s.outside (if s.extended p = true
       then { u with ext := tput {} s.ext (s.extOf p) { x with clrBabble := orBit x.clrBabble (s.target p % 16) } } else u.segEval p)) ∧
     exec (.babbleWindowExpire p) s = .next (s.setSeg p { s.segOf p with babble := 0 }))

/-- On a CSMA/CD segment an attempt sends the candidate if it may start and fits; a collision jams, ends the transmission and
counts: a late one ends the copy, the 16th attempt ends it as excessive, and otherwise the copy is the candidate again with one
attempt more and, outside PLCA, a backoff below 2^min(attempts, 10) slots that nothing else fixes; while the slot is closed it goes
back to its queue. Under PLCA a collision is a violation of opportunity 0 as well, and no collision is late. The backoff's end lets the
next attempt be made. -/
def Obligations.CollisionBacksOffOrEnds : Prop :=
  ∀ (p : Nat) (w late : Bool) (x : Tx) (c : Copy) (s : State), p < 1024 → s.up 2 = true →
    let tries := s.csmaPort p = true ∧ s.get .SEG_TXSTATE_BACKOFF p = 0 ∧ s.txFree p = true
    let hears := s.halfDuplex p = true ∧ s.get .MAC_CFG_LOOP p ≠ 1
    let s0 := ((s.setTx p none).emit (.jam p)).burstEnd p
    let s1 := s0.inc .SEG_COLLISIONS_COUNT p
    let a := c.tries + 1
    let again := (s1.returnCand p).newCand p { c with tries := a }
    let gone (f : Fld) := ((s0.inc f p).endCopy c none).put .SEG_TXSTATE_ATTEMPTS p 0
    let excess := ((s1.inc .SEG_EXCESS_COLL_COUNT p).endCopy c none).put .SEG_TXSTATE_ATTEMPTS p 0
    (¬tries ∨ s.candOf p = none → exec (.csmaAttempt p w) s = .next s) ∧
    (tries → s.candOf p = some c →
      (s.candReady p c = true → exec (.csmaAttempt p w) s = .next (s.outside
        ((if w = true ∧ s.get .SEG_TXSTATE_ATTEMPTS p = 0 then s.inc .SEG_DEFERRED_COUNT p else s).startCand p c))) ∧
      (s.candReady p c = false → exec (.csmaAttempt p w) s = .next (s.outside (s.candNoFit p c)))) ∧
    (¬hears ∨ (s.txOf p).bind (·.copy) = none → exec (.csmaCollision p late) s = .next s) ∧
    (hears → s.txOf p = some x → x.copy = some c →
      (s.plcaPort p = false →
        (late = true → exec (.csmaCollision p late) s = .next (s.outside ((gone .SEG_LATE_COLL_COUNT).toNormalEnd p))) ∧
        (late = false → a = 16 → exec (.csmaCollision p late) s = .next (s.outside excess)) ∧
        (late = false → a ≠ 16 → again.slotOpen p = true → ∃ b < 2 ^ min a 10,
          exec (.csmaCollision p late) s = .next (s.outside ((again.put .SEG_TXSTATE_BACKOFF p b).used))) ∧
        (late = false → a ≠ 16 → again.slotOpen p = false → exec (.csmaCollision p late) s = .next (s.outside (again.returnCand p)))) ∧
      (s.plcaPort p = true → exec (.csmaCollision p late) s = .next (s.outside ((if a = 16 then excess
        else if again.slotOpen p = true then again else again.returnCand p).violation p 0)))) ∧
    exec (.backoffExpire p) s = .next (if s.onLane p = true then s.put .SEG_TXSTATE_BACKOFF p 0 else s)

/-- A PLCA cycle: a BEACON starts it, and is counted; opportunities follow in the order of their numbers up to NODE_COUNT, an
empty one ended by its timer, one with carrier by its end; while Ocora sends or none runs, nothing ends; in TO_SERVICE the cycles end
with the last opportunity. Carrier holds the opportunity it rose in; the burst timer drops COMMIT and ends a burst. Ocora's own
opportunity sends the candidate that may start and fits; one that may not goes back to its queue; with copies waiting and none sent the
opportunity is counted as idle. A BEACON of another station on a half-duplex PLCA segment is counted and is a violation of the
opportunity it falls in. -/
def Obligations.PlcaCycleRunsItsOpportunities : Prop :=
  (∀ (p : Nat) (s : State), p < 1024 → s.up 2 = true →
     let k := s.get .SEG_STATUS_CUR_ID p
     let ends := s.cycleRuns p = true ∧ k ≠ 0xFF ∧ s.txOf p = none
     let g := s.segOf p
     let dropped : List Output := if g.commit = true then [.commit p false] else []
     let u := (s.burstEnd p).setSeg p { g with burst := 0, mine := false, commit := false, carrier := none, deaf := false }
     let after := if ends then (if k + 1 < Fld.SEG_PLCA_NODE_COUNT.of (s.inForce .SEG_PLCA p) then u.put .SEG_STATUS_CUR_ID p (k + 1)
       else if s.segState p = segToService then u.plcaStop p true else u) else s
     (s.plcaRuns p = false → exec (.plcaBeacon p) s = .next s) ∧
     (s.plcaRuns p = true → ∃ t, exec (.plcaBeacon p) s = .next t ∧ t = s.beacon p ∧
       t.out = dropped ++ (if s.get .MAC_CFG_LOOP p = 1 then [] else [.beacon p]) ++ s.out ∧
       t.get .SEG_STATUS_CUR_ID p = 0xFF ∧ t.flag .SEG_STATUS_PLCA_ACTIVE p = true ∧ t.inForce .SEG_PLCA p = s.rd .SEG_PLCA p ∧
       t.count64 .SEG_CYCLES_LO .SEG_CYCLES_HI p = (s.count64 .SEG_CYCLES_LO .SEG_CYCLES_HI p + 1) % 2 ^ 64) ∧
     exec (.plcaOppEnd p) s = .next after ∧
     exec (.plcaToTimerExpire p) s = .next (if g.carrier.isSome then s else after) ∧
     exec (.plcaCarrierRise p) s = .next (if s.plcaPort p = true ∧ s.onLane p = true ∧ s.get .MAC_CFG_LOOP p ≠ 1
       then s.setSeg p (if s.enabled p = true then { g with carrier := some k, deaf := false } else { g with carrier := none, deaf := true })
       else s) ∧
     ∃ t, exec (.burstTimerExpire p) s = .next t ∧ t = { s with seg := t.seg, out := dropped ++ s.out } ∧
       t.segOf p = { g with mine := false, commit := false } ∧ ∀ j, j ≠ p → t.segOf j = s.segOf j) ∧
  (∀ (p : Nat) (c : Copy) (s : State), p < 1024 → s.up 2 = true →
     let runs := s.plcaRuns p = true ∧ s.flag .SEG_STATUS_PLCA_ACTIVE p = true
     let s1 := (s.put .SEG_STATUS_CUR_ID p 0).commitEnd p
     let mine := s1.setSeg p { s1.segOf p with burst := 0, mine := true, carrier := none }
     let released (u : State) := u.setSeg p { u.segOf p with mine := false }
     (¬runs → exec (.plcaOwnOpportunity p) s = .next s) ∧
     (runs → mine.txFree p = true → s.candOf p = some c →
       (mine.candReady p c = true → exec (.plcaOwnOpportunity p) s = .next (s.outside (mine.startCand p c))) ∧
       (mine.candReady p c = false → exec (.plcaOwnOpportunity p) s =
         .next (s.outside ((released ((mine.candNoFit p c).returnCand p)).inc .SEG_OWN_OPP_IDLE_COUNT p)))) ∧
     (runs → mine.txFree p = false ∨ s.candOf p = none →
       exec (.plcaOwnOpportunity p) s = .next (s.outside (if (s.portCopies p).isEmpty = true ∧ s.candOf p = none then released mine
         else (released mine).inc .SEG_OWN_OPP_IDLE_COUNT p))) ∧
     exec (.foreignBeacon p) s = .next (if s.plcaPort p = true ∧ s.onLane p = true ∧ s.halfDuplex p = true ∧ s.segState p ≠ segDisabled ∧
         s.get .MAC_CFG_LOOP p ≠ 1
       then s.outside ((s.inc .SEG_PLCA_ERR_COUNT p).violation p (s.get .SEG_STATUS_CUR_ID p)) else s))

/-! Segment extenders. -/

/-- A slot's join (R158, R159): JOIN_EN takes its value and the slot's levels act, so that from IDLE with its trunk up a DISCOVER
goes out and the slot is DISCOVERING; a slot discovering repeats it while its trunk is up; JOIN_EN 0 leads a slot that is refused
to IDLE with REFUSE 0. A HELLO that a slot accepts binds the unit: with no common version at or above MIN_VERSION, or a key never
written, the slot is REFUSED and its source raised, else it is CHALLENGING at the highest common version. A unit held off, or
accepted by no slot, binds nothing. A challenge unanswered leads back to DISCOVERING; a hold-off ends for its unit only. -/
def Obligations.ExtenderJoinFollowsItsTable : Prop :=
  ∀ (e t unit : Nat) (f : List Byte) (s : State), e < 48 → t < 16 → s.up 3 = true →
    let on := s.put .EXT_CFG_JOIN_EN e 1
    let off := s.put .EXT_CFG_JOIN_EN e 0
    let m := 1024 + t
    let u := beAt f 6 6
    let a := (s.add64 .MAC_RX_FRAMES_LO .MAC_RX_FRAMES_HI m 1).add64 .MAC_RX_OCTETS_LO .MAC_RX_OCTETS_HI m (max 60 f.length + 4)
    let hello := s.role m = 1 ∧ s.enabled m = true ∧ s.link m = true ∧ beAt f 12 2 = s.get .EXT_GLB_CFG_ETYPE ∧ beAt f 14 1 = 0x45 ∧
      beAt f 15 1 = 0 ∧ beAt f 16 1 = 0x02 ∧ beAt f 18 2 = 4 ∧ 30 ≤ f.length
    (s.soft = true →
      (s.extState e = extIdle → exec (.extJoinEnable e) s = .next (s.outside
        (if s.extTrunkUp e = true then ((on.put .EXT_STATUS_STATE e extDiscovering).put .EXT_STATUS_VERSION e 0).sendDiscover e else on))) ∧
      (s.extState e = extRefused → exec (.extJoinDisable e) s = .next
        (((off.put .EXT_STATUS_STATE e extIdle).put .EXT_STATUS_VERSION e 0).put .EXT_STATUS_REFUSE e 0)) ∧
      (s.extState e = extJoined → exec (.extJoinDisable e) s = .next (s.outside (if s.extTrunkUp e = true
        then (((off.sendAuth e 0x7E []).extLose e 5).put .EXT_STATUS_STATE e extIdle).put .EXT_STATUS_VERSION e 0
        else ((off.extLose e 4).put .EXT_STATUS_STATE e extIdle).put .EXT_STATUS_VERSION e 0)))) ∧
    exec (.extDiscover e) s = .next (if s.extState e = extDiscovering ∧ s.extTrunkUp e = true then s.outside (s.sendDiscover e) else s) ∧
    exec (.extChallengeTimeout e) s = .next (if s.extState e = extChallenging
      then (s.put .EXT_STATUS_STATE e extDiscovering).put .EXT_STATUS_VERSION e 0 else s) ∧
    exec (.extHelloHoldoffExpire unit) s = .next { s with extHold := s.extHold.filter fun x => x != unit } ∧
    (hello →
      (u ∈ s.extHold → exec (.extHello t f) s = .next (s.outside a)) ∧
      (u ∉ s.extHold → a.helloSlot t u = none → exec (.extHello t f) s = .next (s.outside (a.inc .EXT_TRK_UNKNOWN_COUNT t))) ∧
      ∀ k v, u ∉ s.extHold → a.helloSlot t u = some k → v = commonVersion (beAt f 26 1) →
        ∃ x, exec (.extHello t f) s = .next x ∧
          (v = 0 ∨ v < wbits (s.slotWords k).1 17 16 → x.extState k = extRefused ∧ x.get .EXT_STATUS_REFUSE k = 1) ∧
          (¬(v = 0 ∨ v < wbits (s.slotWords k).1 17 16) →
            (s.get .SES_KEY_STATUS_WRITTEN).testBit (wbits (s.slotWords k).1 2 0) = false →
              x.extState k = extRefused ∧ x.get .EXT_STATUS_REFUSE k = 2) ∧
          (¬(v = 0 ∨ v < wbits (s.slotWords k).1 17 16) →
            (s.get .SES_KEY_STATUS_WRITTEN).testBit (wbits (s.slotWords k).1 2 0) = true →
              x.extState k = extChallenging ∧ x.get .EXT_STATUS_VERSION k = v))

/-- A joined extender is polled, and a POLL before which not both REPORTs came is a miss; MISS_LIMIT misses lose it. A GO pushes
the configuration of a joined slot, or waits for the push in progress; a push without its acknowledgement is retried PUSH_RETRY
times, then CONFIG_STALE is set. A message that does not authenticate, that the version does not hold, or that comes in another
state changes nothing but the count of rejected frames; a good RESPONSE joins and a wrong one holds its unit off. -/
def Obligations.ManagementFramesAuthenticateOrAreCounted : Prop :=
  ∀ (e t : Nat) (f : List Byte) (c : Instr) (msg : Nat) (s : State), e < 48 → t < 16 → s.up 3 = true →
    (c, msg) ∈ [(Instr.extLeave t f, 0x7E), (.extReport t f, 0x21), (.extEvent t f, 0x40), (.extConfigAck t f, 0x11), (.extCredit t f, 0x30),
      (.extPodlReq t f, 0x31)] →
    let m := 1024 + t
    let u := beAt f 6 6
    let len := beAt f 18 2
    let a := (s.add64 .MAC_RX_FRAMES_LO .MAC_RX_FRAMES_HI m 1).add64 .MAC_RX_OCTETS_LO .MAC_RX_OCTETS_HI m (max 60 f.length + 4)
    let x := s.extData e
    let missed := x.polled = true ∧ x.reports ≠ 3
    let miss := if missed then x.miss + 1 else 0
    let s1 := if missed then s.inc .EXT_POLL_MISS_COUNT e else s
    let arrives (k : Nat) := s.role m = 1 ∧ s.enabled m = true ∧ s.link m = true ∧ beAt f 12 2 = s.get .EXT_GLB_CFG_ETYPE ∧
      beAt f 14 1 = 0x45 ∧ beAt f 16 1 = k ∧ mgmtLen k = some len
    let fits := beAt f 15 1 = s.get .EXT_STATUS_VERSION e ∧ mgmtVersion msg ≤ beAt f 15 1 ∧ (s.extData e).seqIn < beAt f 22 4 ∧
      slice f (26 + len) 16 = (hmac (s.extData e).sk (f.take (26 + len))).take 16
    (arrives msg → 42 + len ≤ f.length →
      (a.slotOfUnit t u = none → exec c s = .next (s.outside (match a.boundSlot u with
        | some k => a.inc .EXT_MGMT_REJ_COUNT k
        | none => a.inc .EXT_TRK_UNKNOWN_COUNT t))) ∧
      (a.slotOfUnit t u = some e → ¬(s.extState e = extJoined ∧ fits) → exec c s = .next (s.outside (a.inc .EXT_MGMT_REJ_COUNT e))) ∧
      (a.slotOfUnit t u = some e → s.extState e = extJoined → fits → exec c s = .next (s.outside
        (((a.setExt e { s.extData e with seqIn := beAt f 22 4 }).mgmtAct e msg (slice f 26 len)).extSeqCheck e)))) ∧
    (arrives 0x04 → beAt f 15 1 = 0 → 26 + len ≤ f.length →
      (a.slotOfUnit t u = some e → s.extState e = extJoined → exec (.extResponse t f) s = .next (s.outside (a.inc .EXT_MGMT_REJ_COUNT e))) ∧
      (a.slotOfUnit t u = some e → s.extState e = extChallenging →
        let body := (a.extData e).nonceM ++ slice (slice f 26 48) 0 16 ++ beBytes 6 (a.extUnit e) ++ beBytes 6 a.mgrSa
        let good := slice (slice f 26 48) 16 32 = hmac (s.key (wbits (s.slotWords e).1 2 0)) (0x01 :: body)
        let failed := ((a.put .EXT_STATUS_STATE e extDiscovering).put .EXT_STATUS_VERSION e 0).inc .EXT_AUTH_FAIL_COUNT e
        exec (.extResponse t f) s = .next (s.outside (if good then a.join e body else { failed with extHold := u :: s.extHold })))) ∧
    (s.extState e ≠ extJoined → exec (.extPoll e) s = .next s ∧ exec (.extPushTimeout e) s = .next s ∧
      (s.soft = true → exec (.extPushGo e) s = .next s)) ∧
    (s.extState e = extJoined →
      exec (.extPoll e) s = .next (s.outside (if s.get .EXT_TIMERS_MISS_LIMIT ≤ miss then s1.extLeaveJoined e extDiscovering 1 false
        else ((s1.setExt e { x with miss := miss, polled := true, reports := 0, clrBabble := 0 }).sendAuth e 0x20
          (beBytes 2 x.clrBabble)).extSeqCheck e)) ∧
      (s.soft = true → exec (.extPushGo e) s = .next (s.outside
        (if s.flag .EXT_STATUS_PUSH_BUSY e = true then s.put .EXT_STATUS_PUSH_PEND e 1 else s.pushStart e))) ∧
      (s.flag .EXT_STATUS_PUSH_BUSY e = true → exec (.extPushTimeout e) s = .next (s.outside
        (if (s.extData e).retries < s.get .EXT_TIMERS_PUSH_RETRY
          then (s.setExt e { s.extData e with retries := (s.extData e).retries + 1 }).sendConfig e
          else (((s.put .EXT_STATUS_CONFIG_STALE e 1).inc .EXT_PUSH_FAIL_COUNT e).extSource e).pushEnd e))))

/-! Table access engines. -/

/-- A write of CMD with GO = 1 starts the command with the TARGET, OP and VIEW of that write and with ADDR and DATA as they stand,
and BUSY reads 1 (R431); while BUSY is 1 the write is ignored and answered OK (R432). At the end of a table command BUSY falls,
RESULT takes the outcome, and the data words that the operation returns are written; the other data words keep their values. A
command that has not been executed does not end. A row executes the command that waits in its engine with its operation, and no
other; with a target that the engine does not have the outcome is BAD_CMD and the command changes nothing else (R432), but that a
refused staged command is counted. A staged command uses one credit of the commit engine, and waits in a cycle that throttling skips
(R390). -/
def Obligations.TableCommandsEndWithTheirOutcome : Prop :=
  ∀ (g : Engine) (c : Instr) (k op a : Nat) (w : Word) (ecc : Ecc) (s : State), s.up (taeBlock (engineNum g)) = true →
    s.up (taeBlock k) = true →
    let j := engineNum g
    let x := taeRegs j
    (regOf a = some (x.cmd, 0) → wbit w 31 = true → s.soft = true → s.taeOwned j = false →
      (∀ t, tget none s.tae j = some t → exec (.registerWrite a w 15) s = .next (s.outside (s.slaveOk 0))) ∧
      (tget none s.tae j = none → ∃ u, exec (.registerWrite a w 15) s = .next u ∧ wbit (u.rd x.status 0) 31 = true ∧
        u.rsResp = some ⟨0, false⟩ ∧
        tget none u.tae j = some { target := wbits w 27 24, op := wbits w 19 16, view := wbits w 13 12, addr := (s.rd x.addr 0).toNat,
                                   data := (List.range x.words).map (fun i => s.rd x.data i), session := none
                                   done := if (taeOps j).contains (wbits w 19 16) then none else some (6, none, [])
                                   opened := !s.stageLocked })) ∧
    (∀ t res pos data, tget none s.tae j = some t → t.done = some (res, pos, data) → res < 16 → data.length ≤ x.words →
      ∃ u, exec (.taeCommandDone g) s = .next u ∧ tget none u.tae j = none ∧
        wbit (u.rd x.status 0) 31 = false ∧ wbits (u.rd x.status 0) 23 20 = res ∧
        (∀ p, pos = some p → p < 2 ^ 18 → j < 2 → wbits (u.rd x.status 0) 17 0 = p) ∧
        (∀ i, i < x.words → u.rd x.data i = if i < data.length then nth data i 0 else s.rd x.data i) ∧
        u = { s with regs := u.regs, tae := u.tae, fresh := u.fresh } ∧
        ∀ r i, r ≠ x.status → r ≠ x.data → u.rd r i = s.rd r i) ∧
    ((∀ t, tget none s.tae j = some t → t.done = none) → exec (.taeCommandDone g) s = .next s) ∧
    ((c, k, op) ∈ [(Instr.clsStageAdd ecc, 0, 1), (.clsStageDel ecc, 0, 2), (.clsStageWrite ecc, 0, 3), (.clsRead ecc, 0, 4),
        (.clsSearch ecc, 0, 5), (.nregInsert ecc, 1, 1), (.nregDelete ecc, 1, 2), (.nregWriteCfg ecc, 1, 3), (.nregRead ecc, 1, 4),
        (.nregSearch ecc, 1, 5), (.nregClear ecc, 1, 6), (.polRead ecc, 2, 4), (.polReset ecc, 2, 7), (.tpgReadEntry ecc, 3, 4),
        (.tpgWriteEntry ecc, 3, 3), (.spiReadEntry ecc, 4, 4), (.spiWriteEntry ecc, 4, 3)] →
      let stages := k = 0 ∧ op < 4
      (stages → s.mayRun 0 = false → exec c s = .next s) ∧
      (stages → s.mayRun 0 = true → (∀ t, s.taeOf k = some t → t.op ≠ op) → exec c s = .next (s.spend 0)) ∧
      (¬stages → (∀ t, s.taeOf k = some t → t.op ≠ op) → exec c s = .next s) ∧
      (∀ t, ¬stages ∨ s.mayRun 0 = true → s.taeOf k = some t → t.op = op →
        (∃ o u, exec c s = .next u ∧ tget none u.tae k = some { t with done := some o }) ∧
        (t.target = 0 ∨ 5 < t.target → k < 3 → exec c s = .next (s.outside
          (if stages then ((s.inc .CLS_STAGE_REJ_COUNT).taeDone k t (6, none, [])).spend 0 else s.taeDone k t (6, none, []))))))

/-- Staged commands of the classifier are checked in order (R205, R208): the target, then STAGE_LOCKED, then an uncorrectable
error, which fails the staging; what passes acts on the staging. A command whose GO found the staging open passes the lock although a
COMMIT has come since, but not after an ABORT or a failure (R203). A READ or SEARCH changes no table: it answers with BAD_CMD where
the view is not live, with ECC for an uncorrectable error, else with what the view's version shows; a READ names an entry by any of
its positions. -/
def Obligations.StagedCommandsAreCheckedInOrder : Prop :=
  ∀ (t : Tae) (e : Ecc) (s : State), s.up 5 = true → s.taeOf 0 = some t →
    let shut := t.opened = false ∨ s.get .CLS_COMMIT_STATUS_STATE = clsDiscarding ∨ s.flag .CLS_COMMIT_STATUS_STAGE_FAIL = true ∨ s.committed = false
    let ends (c : Instr) (u : State) (res : Nat) := exec c s = .next (s.outside ((u.taeDone 0 t (res, none, [])).spend 0))
    let locked := s.inc .CLS_STAGE_REJ_COUNT
    let failed := ((s.stageFail 4).clsFaultFree t.target).inc .CLS_STAGE_REJ_COUNT
    let rows : List (Instr × Nat × Bool × (TaeOut × State)) :=
      [(.clsStageAdd e, 1, t.target == 1 || t.target == 2, if t.target = 1 then s.stageAddFlow t.data else s.stageAddPfx t.data),
       (.clsStageDel e, 2, t.target == 1 || t.target == 2, if t.target = 1 then s.stageDelFlow t.data else s.stageDelPfx t.data),
       (.clsStageWrite e, 3, 3 ≤ t.target && t.target ≤ 5 && decide (t.addr < clsRange t.target), s.stageWrite t.target t.addr t.data)]
    (∀ c op ok r, (c, op, ok, r) ∈ rows → t.op = op → ok = true → s.mayRun 0 = true →
      (shut → ends c locked 4) ∧
      (¬shut → e = .uncorr → ends c failed 5 ∧
        failed.get .CLS_COMMIT_STATUS_STATE = clsDiscarding ∧ failed.flag .CLS_COMMIT_STATUS_STAGE_FAIL = true ∧
        failed.get .CLS_COMMIT_STATUS_FAIL_CAUSE = 4) ∧
      (¬shut → e ≠ .uncorr → exec c s = .next (s.outside ((r.2.taeDone 0 t r.1).spend 0)))) ∧
    (t.op = 4 ∨ t.op = 5 → s.viewVersion t.view = none → (∀ c, c = (if t.op = 4 then Instr.clsRead e else .clsSearch e) →
      exec c s = .next (s.outside (s.taeDone 0 t (6, none, []))))) ∧
    (∀ v, s.viewVersion t.view = some v →
      (t.op = 4 → 1 ≤ t.target → t.target ≤ 5 → s.clsAddrOk t.target t.addr = true →
        let i := s.clsFirst t.target t.addr
        let u := s.clsFault t.target i
        exec (.clsRead e) s = .next (s.outside (if s.clsBad t.target i e = true
          then (if t.target = 5 then u.inc .POL_ECC_COUNT else u).taeDone 0 t (7, none, []) else s.taeDone 0 t (s.clsRead t.target v i)))) ∧
      (t.op = 5 → t.target = 1 ∨ t.target = 2 → exec (.clsSearch e) s = .next (s.outside
        (if s.searchBad t.target v t.data e = true then (s.clsFaultFree t.target).taeDone 0 t (7, none, [])
          else s.taeDone 0 t (s.clsSearch t.target v t.data)))))

/-- The commit sequence (R203 to R206): COMMIT and ABORT move STATE as the table says; the switch makes the staging version the
active one and starts the drain of the old one; cleanup and discarding end with their results; an entry added by a version that is
settled stays, one that it deleted goes. The walks of cleanup and discarding wait in a cycle that throttling skips (R390). -/
def Obligations.CommitSequenceFollowsItsTable : Prop :=
  ∀ s : State, s.up 5 = true →
    let st := s.get .CLS_COMMIT_STATUS_STATE
    let dr := s.get .CLS_COMMIT_STATUS_DRAIN
    let moves (c : Instr) (n : Nat) := ∃ u, exec c s = .next u ∧ u.get .CLS_COMMIT_STATUS_STATE = n ∧
      u = { s with regs := u.regs, discardFailed := u.discardFailed } ∧ ∀ r i, r ≠ .CLS_COMMIT_STATUS → u.rd r i = s.rd r i
    (s.soft = true →
      (st = clsStaging → dr = 0 → moves .clsCommit clsCommitting) ∧
      (st = clsStaging → dr ≠ 0 → moves .clsCommit clsWait) ∧
      (st = clsWait ∨ st = clsCommitting ∨ st = clsDiscarding → exec .clsCommit s = .next s) ∧
      (st = clsIdle → ∃ u, exec .clsCommit s = .next u ∧ u.get .CLS_COMMIT_STATUS_RESULT = 4 ∧
        u.flag .CLS_COMMIT_STATUS_DONE = true ∧ u.get .CLS_COMMIT_STATUS_STATE = clsIdle) ∧
      (st = clsStaging ∨ st = clsWait ∨ st = clsCommitting → moves .clsAbort clsDiscarding) ∧
      (st = clsDiscarding → exec .clsAbort s = .next s) ∧
      (st = clsIdle → exec .clsAbort s = .next (if s.get .CLS_COMMIT_STATUS_RESULT = 1 ∧ s.flag .CLS_COMMIT_STATUS_DONE = true
        then s.put .CLS_COMMIT_STATUS_ABORT_LATE 0 1 else s))) ∧
    (st ≠ clsCommitting → exec .clsCommitSwitch s = .next s ∧ exec .clsCommitEcc s = .next s) ∧
    (st = clsCommitting → s.taeOf 0 = none → ∃ u, exec .clsCommitSwitch s = .next u ∧ u.get .CLS_COMMIT_STATUS_STATE = clsIdle ∧
      u.get .CLS_COMMIT_STATUS_RESULT = 1 ∧ u.flag .CLS_COMMIT_STATUS_DONE = true ∧ u.versionA = s.versionS % 2 ^ 16 ∧
      u.get .CLS_COMMIT_STATUS_DRAIN = (if s.inflight s.versionA = 0 then 2 else 1) ∧ u.get .CLS_JOURNAL_COUNT = 0 ∧ u.clsS = [] ∧
      u.flow = s.flow ∧ u.pfx = s.pfx) ∧
    (st = clsCommitting → exec .clsCommitEcc s = .next (s.outside ((s.stageFail 4).raiseFree 8))) ∧
    exec .clsDrainEmpty s = .next (if dr = 1 ∧ s.inflight s.versionD = 0 then s.put .CLS_COMMIT_STATUS_DRAIN 0 2 else s) ∧
    (s.mayRun 0 = false → exec .clsCleanupEnd s = .next s ∧ exec .clsDiscardEnd s = .next s) ∧
    (s.mayRun 0 = true → dr ≠ 2 → exec .clsCleanupEnd s = .next (s.spend 0)) ∧
    (s.mayRun 0 = true → dr = 2 → ∃ u, exec .clsCleanupEnd s = .next u ∧ u.get .CLS_COMMIT_STATUS_DRAIN = 0 ∧
      u.get .CLS_COMMIT_STATUS_STATE = (if st = clsWait then clsCommitting else st) ∧
      u.flow = sweepTable (settle s.versionA 4 5) s.flow ∧ u.pfx = sweepTable (settle s.versionA 20 21) s.pfx ∧ u.clsD = [] ∧
      u = { s.spend 0 with regs := u.regs, flow := u.flow, pfx := u.pfx, clsD := u.clsD }) ∧
    (s.mayRun 0 = true → st ≠ clsDiscarding → exec .clsDiscardEnd s = .next (s.spend 0)) ∧
    (s.mayRun 0 = true → st = clsDiscarding → ∃ u, exec .clsDiscardEnd s = .next u ∧ u.get .CLS_COMMIT_STATUS_STATE = clsIdle ∧
      u.get .CLS_COMMIT_STATUS_RESULT = (if s.discardFailed = true then 3 else 2) ∧ u.flag .CLS_COMMIT_STATUS_DONE = true ∧
      u.flow = sweepTable (undo s.versionS 4 5) s.flow ∧ u.pfx = sweepTable (undo s.versionS 20 21) s.pfx ∧ u.clsS = [] ∧
      u.get .CLS_JOURNAL_COUNT = 0) ∧
    exec .clsDrainWarn s = .next (s.outside (if dr = 1 ∧ s.drainWarned = false
      then ({ s with drainWarned := true }.put .CLS_DRAIN_WARN_FIRED 0 1).pulse 1445 else s))

/-! The node registry. -/

/-- A registry command checks BAD_CMD, ECC, OCCUPIED, EXISTS and NOT_FOUND in this order and changes nothing where it is refused,
but that an uncorrectable error is reported; INSERT registers the node as written, DELETE removes it, WRITE_CFG writes PIN and the
two configuration words, SEARCH returns the node with the address, CLEAR clears the four counters (R225, R226). CLEAR clears the
four counters of a node together and no other's. A visit of the ageing sweeper acts on the context in turn as R220 says: the first
pass clears HIT and SEEN; later a node heard since is kept, one not heard is marked seen, and one marked and still not heard is
removed; a pinned context, a context that is not valid and a port without ageing are left alone; a context that cannot be read loses its
node, and of one that holds none a free value says whether its VALID could be read (log 44). A visit uses one credit of the sweeper, and
waits in a cycle that throttling skips (R390). A PERIOD that becomes non-zero
starts again from pass 0; the next visit always moves on by one context. -/
def Obligations.RegistryFollowsItsCommandsAndVisits : Prop :=
  (∀ (t : Tae) (e : Ecc) (s : State), s.up 6 = true → s.taeOf 1 = some t → t.op ≠ 6 → t.target = 1 →
     let i := t.addr
     let a := dataAddr t.data
     let c := s.ctxOf i
     let ends (k : Instr) (u : State) (res : Nat) (pos : Option Nat) := exec k s = .next (s.outside (u.taeDone 1 t (res, pos, [])))
     let bad := s.nregBadIndex i = true
     let ecc := s.eccOf 5 i e = .uncorr
     let w0 := wbits (nth t.data 4 0) 15 0 = 0
     (t.op = 1 → if bad ∨ w0 ∨ badAddr a = true then ends (.nregInsert e) s 6 none
       else if ecc then ends (.nregInsert e) (s.memFault 5 i) 7 none
       else if c.valid = true then ends (.nregInsert e) s 3 none
       else match s.portUnread (i / 256) with
         | some k => ends (.nregInsert e) (s.memFault 5 k) 7 none
         | none => if (s.nodeByAddr (i / 256) a).isSome = true then ends (.nregInsert e) s 1 none
           else ends (.nregInsert e) (s.register i a 2 s.versionA (wbit (nth t.data 0 0) 30) (cfg4Of t.data) (cfg5Of t.data)) 0 none) ∧
     (t.op = 2 → if bad then ends (.nregDelete e) s 6 none
       else if ecc then ends (.nregDelete e) (s.memFault 5 i) 7 none
       else if c.valid = false then ends (.nregDelete e) s 2 none
       else ends (.nregDelete e) (s.removeNode i 2) 0 none) ∧
     (t.op = 3 → if bad ∨ w0 then ends (.nregWriteCfg e) s 6 none
       else if ecc then ends (.nregWriteCfg e) (s.memFault 5 i) 7 none
       else if c.valid = false then ends (.nregWriteCfg e) s 2 none
       else ∃ u, ends (.nregWriteCfg e) u 0 none ∧ (u.ctxOf i).pin = wbit (nth t.data 0 0) 30 ∧ (u.ctxOf i).cfg4 = cfg4Of t.data ∧
         (u.ctxOf i).cfg5 = cfg5Of t.data ∧ (u.ctxOf i).valid = true ∧ (u.ctxOf i).addr = c.addr ∧ ∀ j, j ≠ i → u.ctxOf j = s.ctxOf j) ∧
     (t.op = 4 → if bad then ends (.nregRead e) s 6 none
       else if ecc then ends (.nregRead e) (s.memFault 5 i) 7 none
       else exec (.nregRead e) s = .next (s.outside ({ s with fresh := s.fresh + 3 }.taeDone 1 t (0, none, s.ctxWords i)))) ∧
     (t.op = 5 → if s.present' (i / 256) = false ∨ badAddr a = true then ends (.nregSearch e) s 6 none
       else if e = .uncorr then ends (.nregSearch e) (s.memFaultFree 5) 7 none
       else match s.portUnread (i / 256), s.nodeByAddr (i / 256) a with
         | some k, _ => ends (.nregSearch e) (s.memFault 5 k) 7 none
         | none, some k => ends (.nregSearch e) s 0 (some (i / 256 * 256 + k))
         | none, none => ends (.nregSearch e) s 2 none)) ∧
  (∀ (e : Ecc) (w : Word) (s : State), s.up 6 = true →
     let i := s.sweepPos
     let j := s.sweepPass
     let s0 := if i = 0 ∧ j % 2 = 0 then { s with agePeriod := s.get .NREG_AGE_PERIOD } else s
     let c := s.ctxOf i
     let left := c.valid = false ∨ c.pin = true ∨ s.flag .NREG_PORT_CFG_AGE_EN (i / 256) = false
     let runs := s.committed = true ∧ s.get .NREG_AGE_PERIOD ≠ 0
     let onward (u : State) := if i = 262143 then { u with sweepPos := 0, sweepPass := j + 1 } else { u with sweepPos := i + 1 }
     (¬runs ∨ s.mayRun 1 = false → exec (.ageingVisit e) s = .next s) ∧
     (runs → s.mayRun 1 = true → ∃ gone : Bool, exec (.ageingVisit e) s = .next (s.outside ((onward (
       if s.eccOf 5 i e = .uncorr then
         (if c.valid = true then s0.removeNode i 3 else if gone then s0.used.removeNode i 3 else s0.used).memFault 5 i
       else if left then s0
       else if j = 0 then s0.writeCtx i { c with hit := false, seen := false }
       else if c.hit = true then s0.writeCtx i { c with seen := false, hit := !decide (j % 2 = 0) }
       else if c.seen = false then s0.writeCtx i { c with seen := true }
       else s0.removeNode i 1)).spend 1))) ∧
     (s.soft = true → ∃ u, exec (.nregAgeWrite w) s = .next u ∧ u.get .NREG_AGE_PERIOD = wbits w 15 0 ∧
       u = (let v := s.put .NREG_AGE_PERIOD 0 (wbits w 15 0)
         if s.get .NREG_AGE_PERIOD = 0 ∧ wbits w 15 0 ≠ 0 then { v with sweepPass := 0, sweepPos := 0, agePeriod := wbits w 15 0 } else v)) ∧
     ∀ t, s.taeOf 1 = some t → t.op = 6 → t.target = 2 → s.nregBadIndex t.addr = false → s.eccOf 6 t.addr e ≠ .uncorr →
       ∃ u, exec (.nregClear e) s = .next u ∧ ∀ k n, n < 4 → u.nodeCounter k n = if k = t.addr then 0 else s.nodeCounter k n)

/-! Policers. -/

/-- A refresh refills a policer whose profile or port enables it, at the present time and under the profile of the active version
(R234, R235): no level passes its burst, none falls that was within its burst, and none gains more than the elapsed time's tokens;
a step backwards of the time refills nothing. A profile that cannot be read is counted and reported, and is then four free words (log
44). Another policer's state stays. POL_READ returns a policer's words and changes no
policer; POL_RESET sets it full or to zero (R240); a configuration write with a new PROFILE or a rising EN resets the port's
policer. -/
def Obligations.PolicerRefillsWithinItsBurst : Prop :=
  (∀ (w : List Word) (p : Pol) (t : Nat),
    let e0 := (t + 2 ^ 32 - p.last) % 2 ^ 32
    let e := if 2 ^ 31 ≤ e0 then 0 else e0
    let q := polRefill w p t
    q.levelC ≤ profCbs w * polUnit ∧ q.levelE ≤ profEbs w * polUnit ∧ q.last = t ∧ q.gen = p.gen ∧
      (p.levelC ≤ profCbs w * polUnit → p.levelC ≤ q.levelC) ∧ (p.levelE ≤ profEbs w * polUnit → p.levelE ≤ q.levelE) ∧
      q.levelC ≤ p.levelC + e * profCir w * 16 ∧
      (profMode w = 1 → p.levelC ≤ profCbs w * polUnit → q.levelC + q.levelE ≤ p.levelC + p.levelE + e * profCir w * 16) ∧
      (profMode w ≠ 1 → q.levelE ≤ p.levelE + e * profPir w * 16)) ∧
  (∀ (i : Nat) (s : State), i < 1040 → s.up 7 = true →
    let w := s.profile s.versionA (s.polProfile .port i)
    let read := s.eccOf 7 (profAddr (s.polProfile .port i)) .ok ≠ .uncorr
    (read → s.flag .POL_PORT_CFG_EN i = false → profMode w = 0 → exec (.policerRefresh .port i .ok) s = .next s) ∧
    (¬read → s.flag .POL_PORT_CFG_EN i = true → ∃ free : List Word, free.length = 4 ∧
      let r := ({ s with fresh := s.fresh + 4 }.inc .POL_ECC_COUNT).memFault 7 (profAddr (s.polProfile .port i))
      let q := r.readPol .port i free []
      exec (.policerRefresh .port i .ok) s = .next (s.outside
        (q.setPol .port i (polRefill free (polAdopt free (q.pol .port i) (q.polToZero .port) q.unit64) q.unit64)))) ∧
    (read → s.flag .POL_PORT_CFG_EN i = true ∨ profMode w ≠ 0 → s.eccOf 7 (polAddr .port i) .ok ≠ .uncorr →
      ∃ u, exec (.policerRefresh .port i .ok) s = .next u ∧
        u.pol .port i = polRefill w (polAdopt w (s.pol .port i) (s.polToZero .port) s.unit64) s.unit64 ∧
        (∀ j, j ≠ i → u.pol .port j = s.pol .port j) ∧ (∀ j, u.pol .flow j = s.pol .flow j ∧ u.pol .node j = s.pol .node j) ∧
        ∀ r k, r ≠ .FLT_INJ_DATA → u.rd r k = s.rd r k)) ∧
  (∀ (t : Tae) (k : PolKind) (s : State), s.up 7 = true → s.taeOf 2 = some t → polTarget t.target t.addr = some k →
    s.eccOf 7 (polAddr k t.addr) .ok ≠ .uncorr →
    (t.op = 4 → exec (.polRead .ok) s = .next (s.outside (s.taeDone 2 t (0, none, polWords (s.pol k t.addr))))) ∧
    (t.op = 7 → s.eccOf 7 (profAddr (s.polProfile k t.addr)) .ok ≠ .uncorr → ∃ u, exec (.polReset .ok) s = .next u ∧
      u.pol k t.addr = polReset (s.profile s.versionA (s.polProfile k t.addr)) (s.polToZero k) s.unit64 ∧
      (∀ k' j, (k', j) ≠ (k, t.addr) → u.pol k' j = s.pol k' j))) ∧
  ∀ (n : Nat) (w : Word) (s : State), n < 1040 → s.up 7 = true → s.soft = true →
    let old := s.rd .POL_PORT_CFG n
    let new := s.wr .POL_PORT_CFG n (w &&& 0xE000FFFF#32)
    (wbits old 15 0 = wbits w 15 0 → (wbit old 31 = true ∨ wbit w 31 = false) → exec (.polPortCfgWrite n w) s = .next new) ∧
    (wbits old 15 0 ≠ wbits w 15 0 ∨ (wbit old 31 = false ∧ wbit w 31 = true) → s.eccOf 7 (profAddr (wbits w 15 0)) .ok ≠ .uncorr →
      ∃ u, exec (.polPortCfgWrite n w) s = .next u ∧ u.rd .POL_PORT_CFG n = w &&& 0xE000FFFF#32 ∧
        u.pol .port n = polReset (s.profile s.versionA (wbits w 15 0)) (s.polToZero .port) s.unit64 ∧
        (∀ j, j ≠ n → u.pol .port j = s.pol .port j) ∧ ∀ j, u.pol .flow j = s.pol .flow j ∧ u.pol .node j = s.pol .node j)

/-! Time and phase. -/

/-- TIME_INCR takes both halves at the write of the high one, with the low half last written since or the one in force, and only
within 0x008000000000 to 0x014000000000 (R273); a read of the fraction copies seconds and nanoseconds into the shadows and returns
it (R274); SET and ADJ move the time base (R275); CLKCMP counts once it is told to go (R276). -/
def Obligations.TimeBaseTakesItsWritesWhole : Prop :=
  ∀ (w v n : Word) (bad : List Nat) (s : State), s.up 11 = true →
    let lo := (s.incrHeld.getD (s.rd .TPG_INCR_LO)).toNat
    let x := wbits w 15 0 * 2 ^ 32 + lo
    let sec := s.ns / 1000000000
    let kept := { s with incrHeld := none }
    (s.soft = true →
      exec (.tpgIncrLoWrite v) s = .next { s with incrHeld := some v } ∧
      exec (.tpgIncrHiWrite w) s = .next (if 0x008000000000 ≤ x ∧ x ≤ 0x014000000000
        then (kept.put .TPG_INCR_LO_INCR_LO 0 lo).put .TPG_INCR_HI_INCR_HI 0 (wbits w 15 0) else kept) ∧
      exec (.timeSet bad) s = .next (s.outside (s.stepTime
        ((s.get .TPG_SET_SEC_HI_SEC_HI * 2 ^ 32 + s.get .TPG_SET_SEC_LO_SEC_LO) * secUnit + s.get .TPG_SET_NS_NS * nsUnit) bad)) ∧
      (∃ u, exec (.timeAdj bad) s = .next u ∧
        (u.time : Int) = ((s.time : Int) + signed 32 (s.get .TPG_ADJ_ADJ) * nsUnit) % (timeModulus : Int)) ∧
      (∃ u, exec (.timeSet bad) s = .next u ∧
        u.time = (s.get .TPG_SET_SEC_HI_SEC_HI * 2 ^ 32 + s.get .TPG_SET_SEC_LO_SEC_LO) * secUnit + s.get .TPG_SET_NS_NS * nsUnit) ∧
      ∃ u, exec (.clkcmpGo w) s = .next u ∧ u.clkRun = (s.clkRun || wbit w 31) ∧
        u.get .TPG_CLKCMP_WINDOW_LOG2 = (if 10 ≤ wbits w 4 0 ∧ wbits w 4 0 ≤ 27 then wbits w 4 0 else s.get .TPG_CLKCMP_WINDOW_LOG2) ∧
        u.flag .TPG_CLKCMP_DONE = (s.flag .TPG_CLKCMP_DONE && !wbit w 30) ∧
        u = { s with regs := u.regs, clkRun := u.clkRun } ∧ ∀ r i, r ≠ .TPG_CLKCMP → u.rd r i = s.rd r i) ∧
    (∃ u, exec .tpgTimeFracRead s = .next u ∧ u.rsResp = some ⟨word ((s.time >>> 24) % 2 ^ 16), false⟩ ∧
      u.get .TPG_TIME_NS_NS = s.ns % 1000000000 ∧ u.get .TPG_TIME_SEC_LO_SEC_LO = sec % 2 ^ 32 ∧
      u.get .TPG_TIME_SEC_HI_SEC_HI = sec / 2 ^ 32 % 2 ^ 16 ∧ u = { s with regs := u.regs, rsResp := u.rsResp } ∧
      ∀ r i, r ∉ [.TPG_TIME_NS, .TPG_TIME_SEC_LO, .TPG_TIME_SEC_HI] → u.rd r i = s.rd r i) ∧
    exec (.clkcmpDone n) s = .next (if s.clkRun = true
      then (({ s with clkRun := false }).wr .TPG_CLKCMP_COUNT 0 n).put .TPG_CLKCMP_DONE 0 1 else s)

/-- The states of a phase source (R278 to R280): an edge within 12 ms of the one before is a glitch and nothing else; enabling
leads from OFF to ACQUIRE at the nominal frequency; a miss leads from TRACKING to ACQUIRE, from LOCKED to HOLDOVER, and to LOST
when HOLD_CYCLES are used up, which puts every list that follows the source into fallback; disabling holds the angle and the
count. An edge that a source in TRACKING, LOCKED or HOLDOVER takes moves the lists that follow it. A status read returns the running
angle and copies the count. -/
def Obligations.PhaseSourceFollowsItsStates : Prop :=
  ∀ (a : Nat) (bad : List Nat) (s : State), a < 2 → s.up 11 = true →
    let x := s.ph a
    let st := s.phState a
    let glitch := ∃ t, x.lastEdge = some t ∧ (s.time : Int) - t < 12000000 * nsUnit
    let hold := s.get .TPG_PH_CFG_HOLD_CYCLES a
    let miss := s.get .TPG_PH_STATUS_MISSES a
    let lost (u : State) := u.phState a = phLost ∧ (u.ph a).tPrev = none ∧
      u = ((((s.setPh a { x with tPrev := none }).setPhState a phLost).inc .TPG_PH_LOSSES_COUNT a).phEvent a).fallbackAll a
    let taken := (s.setPh a { x with lastEdge := some s.time }).inc .TPG_PH_EDGES_COUNT a
    let te : Int := (s.time : Int) - ((s.phFcal a : Int) + signed 32 (s.get .TPG_PH_UCAL_UCAL a)) * 2 ^ 36
    let moved := taken.edgeTrack a te
    (glitch → exec (.phrefEdge a bad) s = .next (s.outside (s.inc .TPG_PH_GLITCH_COUNT a))) ∧
    (¬glitch → exec (.phrefEdge a bad) s = .next (s.outside (if st = phOff then taken
      else if st = phAcquire ∨ st = phLost then taken.edgeAcquire a te
      else moved.each (moved.followers a) fun s n => s.gclFollow n bad))) ∧
    (¬glitch → ∃ u, exec (.phrefEdge a bad) s = .next u ∧ (u.ph a).lastEdge = some (s.time : Int) ∧
      u.get .TPG_PH_EDGES_COUNT a = min (2 ^ 32 - 1) (s.get .TPG_PH_EDGES_COUNT a + 1)) ∧
    (st = phTracking → ∃ u, exec (.phaseMiss a) s = .next u ∧ u.phState a = phAcquire ∧
      u = (s.setPh a { x with tPrev := none }).setPhState a phAcquire) ∧
    (st = phLocked → hold ≠ 0 → exec (.phaseMiss a) s = .next (s.outside
      (((s.setPhState a phHoldover).put .TPG_PH_STATUS_MISSES a 1).phEvent a))) ∧
    (st = phLocked ∧ hold = 0 ∨ st = phHoldover ∧ miss = hold → ∃ u, exec (.phaseMiss a) s = .next (s.outside u) ∧ lost u) ∧
    (st = phHoldover → miss ≠ hold → exec (.phaseMiss a) s = .next (s.put .TPG_PH_STATUS_MISSES a (miss + 1))) ∧
    (st = phOff ∨ st = phAcquire ∨ st = phLost → exec (.phaseMiss a) s = .next s) ∧
    (s.soft = true →
      (st = phOff → exec (.phaseEnable a) s = .next
        ((((s.put .TPG_PH_CFG_EN a 1).setPh a { freq := s.nominal a, tRef := s.time, lastEdge := x.lastEdge }).setPhState a
          phAcquire).showFreq a)) ∧
      (st ≠ phOff → exec (.phaseEnable a) s = .next (s.put .TPG_PH_CFG_EN a 1)) ∧
      (st = phOff → exec (.phaseDisable a) s = .next (s.put .TPG_PH_CFG_EN a 0)) ∧
      (st ≠ phOff → ∃ u, exec (.phaseDisable a) s = .next u ∧ u.phState a = phOff ∧ u.angle a = s.angle a ∧ u.cycles a = s.cycles a)) ∧
    ∃ u, exec (.phStatusRead a) s = .next u ∧ u.rsResp = some ⟨Fld.TPG_PH_STATUS_ANGLE.into (s.rd .TPG_PH_STATUS a) (s.angle a / 2 ^ 16), false⟩ ∧
      u.get .TPG_PH_CYCLES_CYCLES a = s.angle a / cycleUnit % 2 ^ 32 ∧ u = { s with regs := u.regs, rsResp := u.rsResp } ∧
      ∀ r i, r ≠ .TPG_PH_CYCLES → u.rd r i = s.rd r i

/-- A gate list (R285 to R293): EN 1 starts the admin list from IDLE where the plan is accepted, at once where its T is the cycle of
the write, and ends low-power idle; a plan that is refused is reported with its first cause; EN 0 leads to IDLE with every gate open;
CHANGE is taken once at a time; at T the pending plan becomes the operating one and its first entry's gates apply, or, while its source
is not one to follow, fallback begins as FALLBACK says; an uncorrectable entry halts the list with its gates closed, at a boundary, at a
start and at the end of fallback; a source locked again ends fallback. A gate entry is written unless a reserved bit is set, the list in
force or pending holds it, or its memory fails; a read returns GATES and INTERVAL as they stand (R282, R300). No other entry changes. -/
def Obligations.GateListsStartChangeAndStop : Prop :=
  (∀ (n : Nat) (e : Ecc) (bad : List Nat) (s : State), n < 1040 → s.up 11 = true →
     let st := s.gclState n
     let on := s.put .TPG_GCL_CFG_EN n 1
     let g := s.adminPlan n
     let refused (u : State) (c : Nat) := s.outside (((u.put .TPG_GCL_STATUS_CHANGE_ERR n 1).put .TPG_GCL_STATUS_ERR_CAUSE n c).gclDone n)
     let ignored := s.flag .TPG_GCL_CFG_EN n = false ∨ st = gclIdle ∨ st = gclHalted
     let first (g : GclPlan) := g.base + (segAt (s.planSegs g) 0).idx
     let p0 : GclPend := ⟨g, s.time, none⟩
     let w := (((on.setGcl n { s.gclOf n with pend := some p0 }).put .TPG_GCL_STATUS_CHANGE_PEND n 1).setGclState n gclPending).lpiWake n
     (s.soft = true →
       (st ≠ gclIdle → exec (.gclStart n bad) s = .next on) ∧
       (st = gclIdle → g.refusal ≠ 0 → exec (.gclStart n bad) s = .next (refused on g.refusal)) ∧
       (st = gclIdle → g.refusal = 0 →
         exec (.gclStart n bad) s = .next (s.outside (if w.untilT n p0 = 0 then w.gclListStart n bad else w)) ∧
         w.gclState n = gclPending ∧ w.flag .TPG_GCL_STATUS_CHANGE_PEND n = true ∧ w.flag .MAC_STATUS_TX_LPI n = false) ∧
       (∃ u, exec (.gclStop n) s = .next u ∧ u.flag .TPG_GCL_CFG_EN n = false ∧ u.gclState n = gclIdle ∧
         u.flag .TPG_GCL_STATUS_CHANGE_PEND n = false ∧ u.get .TPG_GCL_STATUS_GATES n = 0xFF ∧ u.gclOf n = {}) ∧
       (ignored → exec (.gclChange n) s = .next s) ∧
       (¬ignored → exec (.gclChange n) s = .next (if g.refusal ≠ 0 then refused s g.refusal
         else if s.flag .TPG_GCL_STATUS_CHANGE_PEND n = true then refused s 4 else s.gclSchedule n g))) ∧
     ((s.gclOf n).pend = none ∨ st = gclHalted → exec (.gclListStart n bad) s = .next s) ∧
     (∀ p, (s.gclOf n).pend = some p → st ≠ gclHalted → p.plan.src < 2 → p.plan.len < 8192 → p.plan.base < 65536 → p.plan.cycle < 2 ^ 32 →
       p.plan.ns < 2 ^ 30 → p.plan.sec < 2 ^ 48 →
       let follows := p.plan.angle = false ∨ s.phGood p.plan.src = true
       let closed := ¬follows ∧ s.flag .TPG_GCL_CFG_FALLBACK n = true
       ∃ u, exec (.gclListStart n bad) s = .next u ∧ u.flag .TPG_GCL_STATUS_CHANGE_PEND n = false ∧ u.operPlan n = p.plan ∧
         (u.gclOf n).pend = none ∧
         (closed → u.gclState n = gclFallClosed ∧ u.get .TPG_GCL_STATUS_GATES n = 0) ∧
         (¬closed → first p.plan ∈ bad → u.gclState n = gclHalted ∧ u.get .TPG_GCL_STATUS_GATES n = 0) ∧
         (¬closed → first p.plan ∉ bad → (follows → u.gclState n = gclRunning) ∧ (¬follows → u.gclState n = gclFallTime) ∧
           u.get .TPG_GCL_STATUS_GATES n = (segAt (s.planSegs p.plan) 0).gates % 256)) ∧
     (st ≠ gclRunning → st ≠ gclFallTime → exec (.gclEntryBoundary n e) s = .next s) ∧
     (st = gclRunning ∨ st = gclFallTime → e = .uncorr → ∃ u, exec (.gclEntryBoundary n e) s = .next u ∧ u.gclState n = gclHalted ∧
       u.get .TPG_GCL_STATUS_GATES n = 0) ∧
     (st = gclRunning ∨ st = gclFallTime → e ≠ .uncorr → exec (.gclEntryBoundary n e) s = .next (s.outside (s.gclFollow n []))) ∧
     ((st = gclFallTime ∨ st = gclFallClosed) ∧ s.phGood (s.operPlan n).src = true →
       ∃ u, exec (.gclFallbackExit n bad) s = .next u ∧ (u.gclOf n).count0 = s.cycles (s.operPlan n).src ∧ (u.gclOf n).high = 0 ∧
         u.gclState n = if first (s.operPlan n) ∈ bad then gclHalted else gclRunning) ∧
     (¬((st = gclFallTime ∨ st = gclFallClosed) ∧ s.phGood (s.operPlan n).src = true) → exec (.gclFallbackExit n bad) s = .next s)) ∧
  (∀ (t : Tae) (e : Ecc) (s : State), s.up 11 = true → s.taeOf 3 = some t →
     let i := t.addr % 65536
     let ends (c : Instr) (u : State) (res : Nat) (d : List Word) := exec c s = .next (s.outside (u.taeDone 3 t (res, none, d)))
     (t.op = 3 → if gateBad t.data = true then ends (.tpgWriteEntry e) s 6 []
       else if s.gateInUse i = true then ends (.tpgWriteEntry e) s 8 []
       else if e = .uncorr then ends (.tpgWriteEntry e) (s.memFault 0xA i) 7 []
       else ∃ u, ends (.tpgWriteEntry e) u 0 [] ∧ u = { s with gmem := u.gmem } ∧
         u.gateEntry i = (wbits (nth t.data 0 0) 7 0, (nth t.data 1 0).toNat) ∧ ∀ j, j ≠ i → u.gateEntry j = s.gateEntry j) ∧
     (t.op = 4 → if e = .uncorr then ends (.tpgReadEntry e) (s.memFault 0xA i) 7 []
       else ends (.tpgReadEntry e) s 0 [word (s.gateEntry i).1, word (s.gateEntry i).2, 0, 0]))

/-! The express path. -/

/-- The Spire decides on a frame once, with byte 32 (R306, R308): every entry of the express table that it reads with an error is
counted and matches nothing (R302); a frame of Ocora's own station is counted and goes no further; a duplicate is not forwarded and
counted; a free egress trunk is claimed and sends the frame as it arrives; a busy one makes the frame fall back into the Dome, or, at the
floor, be dropped and counted, or, where the Dome is held, be discarded at its end. What ends a frame that is cut through, or that fell
back, acts on that frame only. Express entries are written unless a reserved bit is set or the memory fails, and read as they stand
(R310). -/
def Obligations.SpireDecidesOnceAndFallsBack : Prop :=
  (∀ (t : Nat) (bad : List Nat) (b : List Byte) (fcs : Word) (err : Bool) (s : State), t < 16 →
    let m := 1024 + t
    let x := (s.rxOf m).bind (·.spi)
    (s.up 12 = true → (s.rxOf m = none → exec (.spireDecision t bad) s = .next s) ∧
      (∀ r, s.rxOf m = some r → r.badStart = true ∨ r.oversize = true ∨ (r.spi.isSome = true ∧ r.express = false) ∨ r.bytes.length < 28 →
        exec (.spireDecision t bad) s = .next s) ∧
      (∀ r, s.rxOf m = some r → r.badStart = false → r.oversize = false → r.express = true → 28 ≤ r.bytes.length →
        let l := if s.expAsked m r.bytes = true then bad.eraseDups.filter (· < 256) else []
        let v := l.foldl (fun u j => (u.inc .SPI_ECC_COUNT).memFault 0xC j) s
        let r1 := { r with express := false, spi := none }
        (v.spiTreat m r.bytes l = none → exec (.spireDecision t bad) s = .next (s.outside (if r.head = none ∧ r.noCell = false ∧ r.cut = false
          then v.takeHead m r1 else v.setRx m (some r1)))) ∧
        (∀ y, v.spiTreat m r.bytes l = some (y, true) → y.own = false → exec (.spireDecision t bad) s = .next (s.outside
          (((v.setRx m (some { r1 with spi := some y, head := none, inflight := false })).flowControl m).spiForward m y
            { r1 with spi := some y, head := none, inflight := false }))) ∧
        ∀ y, v.spiTreat m r.bytes l = some (y, false) → y.own = false → y.key = none → exec (.spireDecision t bad) s = .next (s.outside
          (((v.setRx m (some { r1 with spi := some y, head := none, inflight := false })).flowControl m).inc .SPI_HSR_OWN_COUNT
            (spiIndex y))))) ∧
    (s.up 1 = true →
      ((x.map (·.cut)).getD false = false → exec (.spireCutEnd t b fcs err) s = .next s) ∧
      ((x.map (·.cut)).getD false = true →
        exec (.spireCutEnd t b fcs err) s = .next (s.outside (s.rxEnd (fun s _ _ => s) m b fcs err false []))) ∧
      ((x.map (·.fallback)).getD false = false → exec (.spireFallbackEnd t b fcs err) s = .next s) ∧
      ((x.map (·.fallback)).getD false = true →
        exec (.spireFallbackEnd t b fcs err) s = .next (s.outside (s.rxEnd (fun s _ _ => s) m b fcs err false []))))) ∧
  (∀ (m : Nat) (x : SpiRx) (r : Rx) (s : State),
    let i := spiIndex x
    let u := s.spiForward m x r
    (s.isDup x true = true → u.get .SPI_HSR_DUP_COUNT i = min (2 ^ 32 - 1) (s.get .SPI_HSR_DUP_COUNT i + 1) ∧ u.tx = s.tx) ∧
    (s.isDup x true = false → s.spiBusy x = false →
      (∃ y, u.txOf (s.spiEgress x) = some y ∧ y.cut = true ∧ y.bytes = r.bytes ∧ y.copy = none) ∧
      u.rxOf m = some { r with spi := some { x with cut := true } }) ∧
    (s.isDup x true = false → s.spiBusy x = true → s.domeHeld = true → u.rxOf m = some { r with spi := some x, cut := true } ∧ u.tx = s.tx) ∧
    (s.isDup x true = false → s.spiBusy x = true → s.domeHeld = false →
      (s.aboveFloor = true → ∃ y, u.rxOf m = some y ∧ y.fbHead.isSome = true ∧ y.spi = some { x with fallback := true }) ∧
      (s.aboveFloor = false → u.get .SPI_FB_NOCELL_COUNT i = min (2 ^ 32 - 1) (s.get .SPI_FB_NOCELL_COUNT i + 1) ∧
        u.rxOf m = some { r with spi := some x }))) ∧
  ∀ (t : Tae) (e : Ecc) (s : State), s.up 12 = true → s.taeOf 4 = some t →
    let d := slice (t.data ++ [0, 0, 0, 0]) 0 4
    let ends (c : Instr) (u : State) (res : Nat) (l : List Word) := exec c s = .next (s.outside (u.taeDone 4 t (res, none, l)))
    (t.op = 3 → if expBad d = true then ends (.spiWriteEntry e) s 6 []
      else if e = .uncorr then ends (.spiWriteEntry e) (s.memFault 0xC t.addr) 7 []
      else ∃ u, ends (.spiWriteEntry e) u 0 [] ∧ u = { s with exp := u.exp } ∧
        (tfind u.exp (t.addr % 256)).getD [0, 0, 0, 0] = (if d.all (· == 0) then [0, 0, 0, 0] else d) ∧
        ∀ j, j ≠ t.addr % 256 → tfind u.exp j = tfind s.exp j) ∧
    (t.op = 4 → if e = .uncorr then ends (.spiReadEntry e) (s.memFault 0xC t.addr) 7 []
      else ends (.spiReadEntry e) s 0 ((tfind s.exp (t.addr % 256)).getD [0, 0, 0, 0]))

/-! The fabric and the DMA engine. -/

/-- A credit adds one, at most 32 of a kind, to the port's own count (R46). A completion or a timeout for a tag that is not
outstanding does nothing; a transaction that is not complete in time, or whose first beat with ERROR comes, is a bus error: it is counted,
and the first one halts every channel that is not OFF and is shown (R47, R329). QUIESCED is set when nothing is awaited after a bus
error; CLEAR is ignored without it; with it every halted channel within a descriptor writes its status with ABORTED first, and when no
such descriptor is left every halted channel is STOPPED and the error is over (R330). -/
def Obligations.BusErrorHaltsEveryChannel : Prop :=
  ∀ (m tag : Nat) (wd err : Bool) (d : List Byte) (s : State), m < 2 → s.up 20 = true →
    let credited := if wd = true then { s with dma := { s.dma with wd := tput 0 s.dma.wd m (min 32 (tget 0 s.dma.wd m + 1)) } }
      else { s with dma := { s.dma with req := tput 0 s.dma.req m (min 32 (tget 0 s.dma.req m + 1)) } }
    let own := s.dma.txns.find? fun t => t.m == m && t.tag == tag
    let aborted := s.each (List.range 64) State.chAbort
    let clears : State := { aborted with dma := { aborted.dma with clearing := true } }
    let left := { aborted with dma := { aborted.dma with clearing := false } }.each (List.range 64) State.chLeave
    exec (.fabricCredit m wd) s = .next (s.outside (credited.inBlock 13 State.dmaPump)) ∧
    (own = none → exec (.fabricCompletion m tag d err) s = .next s ∧ exec (.fabricTimeout m tag) s = .next s) ∧
    (∀ t, own = some t → s.up 13 = true →
      exec (.fabricCompletion m tag d err) s = .next (s.outside
        (if err = true then s.failTxn t false else s.completeTxn t d).dmaPump) ∧
      (t.err = true → ∃ u, exec (.fabricTimeout m tag) s = .next u ∧ u = { s with dma := u.dma }) ∧
      (t.err = false → ∀ timeout, ∃ u, s.outside (s.failTxn t timeout) = u ∧ (timeout = true → exec (.fabricTimeout m tag) s = .next u) ∧
        u.get .DMA_BUS_ERRORS_COUNT = min (2 ^ 32 - 1) (s.get .DMA_BUS_ERRORS_COUNT + 1) ∧ u.flag .DMA_GLB_STATUS_BUS_ERR = true ∧
        (s.flag .DMA_GLB_STATUS_BUS_ERR = true → ∀ c, u.chState c = s.chState c) ∧
        (s.flag .DMA_GLB_STATUS_BUS_ERR = false → u.flag .DMA_GLB_STATUS_TIMEOUT = timeout ∧
          u.get .DMA_GLB_STATUS_PORT = m ∧ u.get .DMA_ERR_ADDR_LO_ADDR = t.addr % 2 ^ 32 ∧
          ∀ c, c < 64 → u.chState c = if s.chState c = chOff then chOff else chHalted))) ∧
    (s.up 13 = true →
      exec .dmaQuiesced s = .next (if s.flag .DMA_GLB_STATUS_BUS_ERR = true ∧ s.dma.txns.all (·.lost) = true
        then s.put .DMA_GLB_STATUS_QUIESCED 0 1 else s) ∧
      (s.soft = true →
        (s.flag .DMA_GLB_STATUS_QUIESCED = false ∨ s.dma.clearing = true → exec .dmaClear s = .next s) ∧
        (s.flag .DMA_GLB_STATUS_QUIESCED = true → s.dma.clearing = false → exec .dmaClear s = .next (s.outside
          (if aborted.dma.chans.any (fun e => e.2.abort) = true then clears
            else (left.put .DMA_GLB_STATUS_BUS_ERR 0 0).put .DMA_GLB_STATUS_QUIESCED 0 0).dmaPump)) ∧
        ∀ c, c < 64 → left.chState c = if s.chState c = chHalted then chStopped else s.chState c))

/-- A channel's states (R319, R324): EN 1 leads from OFF to IDLE once a structure is committed, EN 0 from IDLE and STOPPED to OFF,
and both are discarded elsewhere; DOORBELL runs an idle or stopped channel, and is kept by a running one; STOP leads from RUN to
STOPPING and ends a stream descriptor with what it holds, and a stopping channel at a descriptor boundary enters STOPPED with its last
completed index. -/
def Obligations.ChannelFollowsItsStates : Prop :=
  ∀ (c : Nat) (s : State), c < 64 → s.up 13 = true →
    let st := s.chState c
    let x := s.chan c
    let last := x.last
    (s.soft = true →
      (s.committed = true → st = chOff → exec (.dmaChannelEnable c) s = .next
        (((s.put .DMA_CH_CFG_EN c 1).put .DMA_CH_STATUS_STATE c chIdle).putFlag .DMA_CH_STATUS_PACED c (s.get .DMA_CH_PACE_PACE_MODE c == 2))) ∧
      (s.committed = false ∨ st ≠ chOff → exec (.dmaChannelEnable c) s = .next s) ∧
      exec (.dmaChannelDisable c) s = .next (if st = chIdle ∨ st = chStopped
        then (s.put .DMA_CH_CFG_EN c 0).put .DMA_CH_STATUS_STATE c chOff else s) ∧
      (st = chIdle ∨ st = chStopped → exec (.dmaDoorbell c) s = .next (s.outside
        (((s.setChan c { x with count := 0, last := none, want := true }).put .DMA_CH_STATUS_STATE c chRun).put
          .DMA_CH_STATUS_DB_PEND c 0).dmaPump)) ∧
      (st = chRun → exec (.dmaDoorbell c) s = .next ((s.setChan c { x with count := 0 }).put .DMA_CH_STATUS_DB_PEND c 1)) ∧
      (st = chStopping → exec (.dmaDoorbell c) s = .next (s.setChan c { x with count := 0 })) ∧
      (st = chOff ∨ st = chHalted → exec (.dmaDoorbell c) s = .next s) ∧
      (st ≠ chRun → exec (.dmaStop c) s = .next s) ∧
      (st = chRun → exec (.dmaStop c) s = .next (s.outside
        (let y := s.put .DMA_CH_STATUS_STATE c chStopping
         if s.chMode c = 3 ∧ x.desc.isSome = true then y.chanEnd c 0 else y).dmaPump))) ∧
    (¬(st = chStopping ∧ s.atBoundary c = true) → exec (.dmaStopped c) s = .next s) ∧
    (st = chStopping → s.atBoundary c = true → ∃ u, exec (.dmaStopped c) s = .next u ∧ u.chState c = chStopped ∧
      u.get .DMA_CH_STATUS_REASON c = 3 ∧ u.flag .DMA_CH_STOP_STATUS_VALID c = true ∧ u.flag .DMA_CH_STOP_STATUS_NONE c = last.isNone ∧
      u.get .DMA_CH_STOP_STATUS_LAST_IDX c = last.getD 0 % 2 ^ 16 ∧ (u.chan c).desc = none ∧
      ∀ k, k ≠ c → u.chState k = s.chState k ∧ u.chan k = s.chan k)

/-- A descriptor that has arrived (R317, R319 to R321, R345): with OWN 0 the chain has ended, or is read again for a doorbell that
waits; an owned one begins, or ends with DESC_INVALID, and the engine reads ahead; a stopping channel begins none. A descriptor whose
status is written retires: IDX moves on round the ring, and at LIMIT the channel is IDLE with its source raised; an invalid one stops the
channel; otherwise the next descriptor is reached. Pacing holds and releases by the fill of its queue (R326); a stream descriptor with
data is flushed at its time (R335); a descriptor that waits for a unit, for the floor or for a host frame goes on when it may, and
otherwise nothing happens; a host frame whose data cannot be read ends its descriptor with ECC, and its data is free (log 1). -/
def Obligations.DescriptorsBeginWaitAndComplete : Prop :=
  ∀ (c n : Nat) (e : Ecc) (s : State), c < 64 → s.up 13 = true →
    let x := s.chan c
    let st := s.chState c
    let mode := s.get .DMA_CH_PACE_PACE_MODE c
    let fill := s.paceFill c
    let high := s.get .DMA_CH_PACE_WM_HIGH c
    let low := s.get .DMA_CH_PACE_WM_LOW c
    (x.arrived = none ∨ s.chRuns c = false → exec (.dmaDescriptorFetch c n) s = .next s) ∧
    (∀ d, x.arrived = some d →
      (st = chStopping → exec (.dmaDescriptorFetch c n) s = .next (s.setChan c { x with arrived := none })) ∧
      (st = chRun → wbit (nth d 0 0) 31 = false → s.flag .DMA_CH_STATUS_DB_PEND c = true → exec (.dmaDescriptorFetch c n) s = .next (s.outside
        ((s.setChan c { x with arrived := none, want := true }).put .DMA_CH_STATUS_DB_PEND c 0).dmaPump)) ∧
      (st = chRun → wbit (nth d 0 0) 31 = false → s.flag .DMA_CH_STATUS_DB_PEND c = false →
        ∃ u, exec (.dmaDescriptorFetch c n) s = .next u ∧ u.chState c = chIdle ∧ u.get .DMA_CH_STATUS_REASON c = 1 ∧
          (u.chan c).arrived = none ∧ (u.chan c).ahead = []) ∧
      (st = chRun → wbit (nth d 0 0) 31 = true → exec (.dmaDescriptorFetch c n) s = .next (s.outside
        (let y := s.setChan c { x with arrived := none, desc := some d }
         (if descBad (s.chMode c) d = true then y.chanEnd c 1 else y.descBegin c d).readAhead c n).dmaPump))) ∧
    (x.desc = none ∨ x.posted = false ∨ x.post ≠ [] ∨ (x.abort = false ∧ s.chRuns c = false) →
      exec (.dmaDescriptorComplete c) s = .next s) ∧
    (∀ d, x.desc = some d → x.posted = true → x.post = [] →
      let r := s.retire c d
      (x.abort = true → exec (.dmaDescriptorComplete c) s = .next (s.outside r.clearDone)) ∧
      (x.abort = false → s.chRuns c = true → x.code.getD 0 = 1 → exec (.dmaDescriptorComplete c) s = .next (s.outside (r.chStop c 4))) ∧
      (x.abort = false → st = chStopping → x.code.getD 0 ≠ 1 → exec (.dmaDescriptorComplete c) s = .next (s.outside r)) ∧
      (x.abort = false → st = chRun → x.code.getD 0 ≠ 1 → x.count + 1 < s.get .DMA_CH_CFG_LIMIT c →
        exec (.dmaDescriptorComplete c) s = .next (s.outside (r.reach c).dmaPump)) ∧
      (x.abort = false → st = chRun → x.code.getD 0 ≠ 1 → s.get .DMA_CH_CFG_LIMIT c ≤ x.count + 1 →
        ∃ u, exec (.dmaDescriptorComplete c) s = .next u ∧ u.chState c = chIdle ∧ u.get .DMA_CH_STATUS_REASON c = 2 ∧
          u.get .DMA_CH_IDX_IDX c = (if s.get .DMA_CH_IDX_IDX c = s.get .DMA_CH_RING_HI_SIZE_M1 c then 0
            else (s.get .DMA_CH_IDX_IDX c + 1) % 2 ^ 16) ∧ (u.chan c).desc = none ∧ (u.chan c).last = some (s.get .DMA_CH_IDX_IDX c))) ∧
    exec (.dmaPaceHold c) s = .next (if st ≠ chOff ∧ (mode = 1 ∧ high ≤ fill ∨ mode = 2 ∧ fill ≤ low)
      then s.put .DMA_CH_STATUS_PACED c 1 else s) ∧
    exec (.dmaPaceRelease c) s = .next (if mode = 1 ∧ fill ≤ low ∨ mode = 2 ∧ high ≤ fill ∨ mode = 0 ∨ mode = 3
      then s.outside (s.put .DMA_CH_STATUS_PACED c 0).dmaPump else s) ∧
    exec (.dmaPaceTimeout c) s = .next (if mode = 2 ∧ s.get .DMA_CH_TIMERS_PACE_TIMEOUT c ≠ 0
      then s.outside (s.put .DMA_CH_STATUS_PACED c 0).dmaPump else s) ∧
    exec (.dmaStreamFlush c) s = .next (if s.chMode c = 3 ∧ s.chRuns c = true ∧ x.desc.isSome = true ∧ x.ended = false ∧ 0 < x.fed ∧
        s.get .DMA_CH_TIMERS_STREAM_FLUSH c ≠ 0 then s.outside (s.chanEnd c 0).dmaPump else s) ∧
    (∀ d, x.desc = some d →
      exec (.injectFloorClear c) s = .next (if x.waits = 2 ∧ s.chRuns c = true then s.outside (s.injBegin c d).dmaPump else s) ∧
      (s.up 14 = true → exec (.chkUnitClaim c) s = .next (if x.waits = 1 ∧ s.chRuns c = true
        then s.outside (s.descBegin c d).dmaPump else s))) ∧
    (x.desc = none ∨ s.hostNext c = none ∨ s.chMode c ≠ 1 ∨ s.chRuns c = false ∨ x.waits ≠ 4 ∨ s.flag .DMA_CH_STATUS_PACED c = true ∨
        s.mayRun 4 = false → exec (.hostRxDeliver c e) s = .next s) ∧
    ∀ d it f, x.desc = some d → s.hostNext c = some it → s.chMode c = 1 → s.chRuns c = true → x.waits = 4 →
      s.flag .DMA_CH_STATUS_PACED c = false → s.mayRun 4 = true → s.frame it.head = some f → s.eccOf 2 it.head .ok = .ok → x.unit = none →
      let given (u : State) (l : List Byte) (code : Nat) := exec (.hostRxDeliver c e) s = .next (s.outside
        (((u.bufPut c { x with waits := 0, fifo := (bytesOf it.image ++ l).take (dstSide d).total,
                               out := x.out ++ [(x.serial, it.head)] }).chanEnd c code).dmaPump))
      (s.eccOf 1 it.head e = .ok → given s f.data (if (dstSide d).total < (bytesOf it.image ++ f.data).length then 6 else 0)) ∧
      (s.eccOf 1 it.head e = .uncorr → ∃ l : List Byte, l.length = f.data.length ∧ given (s.used.memFault 1 it.head) l 7)

/-! Belfry. -/

/-- The source that Belfry presents to a target belongs to the target's presentable set and has its highest PRIO; with none
presented before it is the lowest of these, and with an empty set none is presented (R354); before the first commit the set is empty
(R68). Belfry drives the presented source's vector address and PRIO. A take hands these to the core, clears the pending bit, claims the
source for the target and pushes it, and the source is not presented to that target again (R50, R351). An end of interrupt that names the
top of the stack pops it and ends the claim; any other changes no stack and no claim, and is counted and reported (R356). -/
def Obligations.PresentedSourceIsTheHighestPresentable : Prop :=
  (∀ (t v : Nat) (s : State),
    let u := s.present t
    (s.committed = false → ∀ i, s.presentable t i = false) ∧
    (u.presented t = none ↔ ∀ i, s.presentable t i = false) ∧
    (u.presented t = some v → s.presentable t v = true ∧
      (∀ i, s.presentable t i = true → s.get .BEL_SRC_CFG_PRIO i ≤ s.get .BEL_SRC_CFG_PRIO v) ∧
      (s.presented t = none → s.belConfigured.Pairwise (· < ·) → ∀ i, s.presentable t i = true →
        s.get .BEL_SRC_CFG_PRIO i = s.get .BEL_SRC_CFG_PRIO v → v ≤ i) ∧
      (∀ c, s.presented t = some c → s.presentable t c = true → s.get .BEL_SRC_CFG_PRIO c = s.get .BEL_SRC_CFG_PRIO v → v = c) ∧
      u.driven t = some ⟨v, (s.rd .BEL_SRC_VEC_HI v).toNat * 2 ^ 32 + (s.rd .BEL_SRC_VEC_LO v).toNat, s.get .BEL_SRC_CFG_PRIO v⟩) ∧
    (∀ k, k ≠ t → u.driven k = s.driven k)) ∧
  ∀ (t v : Nat) (w : Word) (x : Vec) (s : State), t < 8 → s.up 15 = true →
    let b := s.belSrc v
    let claims (u : State) := ∀ i, (u.belSrc i).claimed = (s.belSrc i).claimed
    (s.driven t = none → exec (.vecTaken t) s = .next s) ∧
    (s.driven t = some x → x.src = v → ∃ u, exec (.vecTaken t) s = .next u ∧ (u.belSrc v).claimed = orBit b.claimed t ∧
      u.out = .vector t x.addr x.prio :: s.out ∧ u.stackOf t = (v, x.prio) :: s.stackOf t ∧ (∀ k, k ≠ t → u.stackOf k = s.stackOf k) ∧
      u.presented t ≠ some v ∧
      (s.levelMode v = false ∨ s.get .BEL_GLB_CFG_SPUR_WIN = 0 ∨ s.asserted v = true →
        u.belSrc v = { b with pend := clrBit b.pend t, claimed := orBit b.claimed t } ∧ (∀ i, i ≠ v → u.belSrc i = s.belSrc i) ∧
        (∀ k, k ≠ t → u.driven k = s.driven k) ∧ ∀ r i, u.rd r i = s.rd r i)) ∧
    (s.soft = true →
      (∀ p l, s.stackOf t = (v, p) :: l → wbits w 10 0 = v → ∃ u, exec (.belEoi t w) s = .next u ∧ u.stackOf t = l ∧
        u.belSrc v = { b with claimed := clrBit b.claimed t } ∧ (∀ i, i ≠ v → u.belSrc i = s.belSrc i) ∧ ∀ r i, u.rd r i = s.rd r i) ∧
      (((s.stackOf t).head?.map (·.1)) ≠ some (wbits w 10 0) → ∃ u, exec (.belEoi t w) s = .next u ∧ u.belStack = s.belStack ∧ claims u ∧
        u.flag .BEL_TGT_STATUS_ORDER_ERR t = true ∧
        u.get .BEL_STACK_ORDER_COUNT t = min (2 ^ 32 - 1) (s.get .BEL_STACK_ORDER_COUNT t + 1) ∧
        (s.flag .BEL_TGT_STATUS_ORDER_ERR t = false → u.get .BEL_TGT_ORDER_EOI_SRC t = wbits w 10 0 ∧
          u.flag .BEL_TGT_ORDER_EMPTY t = (s.stackOf t).isEmpty)))

/-- A level source is pending where it is asserted and not claimed, and only then (R350); a level that changes moves only its
input while Belfry cannot act, and a reserved source's input never moves (R347). An edge adds one event to its source's batch, which
ends at the source's COUNT, or at its timer, by making the source pending on its targets (R349). A level source that is withdrawn inside
the window after its claim is counted, and the claim is judged no more (R358). A software interrupt is one event of source 1520 + j for
each bit j written 1 (R359). A configuration write takes EN, PRIO and TARGETS, and SENSE where its code is valid; a new SENSE clears what
is pending and batched, and a bit of PEND written 1 clears it for an edge source only (R348, R353). -/
def Obligations.SourcesBecomePendingOnTheirTargets : Prop :=
  ∀ (i lane t at' : Nat) (lvl : Bool) (w : Word) (s : State), i < 2048 → lane < 256 →
    let b := s.belSrc i
    let others (u : State) := ∀ j, j ≠ i → u.belSrc j = s.belSrc j
    let calm := ∀ x ∈ s.belClaims, x.src ≠ i ∧ x.withdrawn = false
    let batched : BelSrc := if s.get .BEL_SRC_COAL_COUNT i ≤ b.held + 1
      then { b with pend := b.pend ||| s.get .BEL_SRC_CFG_TARGETS i, held := 0 } else { b with held := b.held + 1 }
    let sense := Fld.BEL_SRC_CFG_SENSE.of w
    (s.levelMode i = true → ∀ k, (s.pendMask i).testBit k = true ↔
      s.asserted i = true ∧ (s.get .BEL_SRC_CFG_TARGETS i).testBit k = true ∧ b.claimed.testBit k = false) ∧
    (belReserved i = true → calm → exec (.belLevelChange i lvl) s = .next s ∧ (s.up 15 = true → exec (.belSourceEvent i) s = .next s)) ∧
    (belReserved i = false → ∃ u, exec (.belLevelChange i lvl) s = .next u ∧
      (s.up 15 = false → u = { s with belLvl := u.belLvl } ∧ u.belInput i = lvl) ∧
      (s.up 15 = true → calm → u.belInput i = lvl ∧ others u) ∧
      (s.up 15 = true → calm → s.levelMode i = true → u.belSrc i = b ∧ ∀ k, (u.pendMask i).testBit k =
        (decide (lvl = decide (s.sense i = 0)) && (s.get .BEL_SRC_CFG_TARGETS i).testBit k && !b.claimed.testBit k))) ∧
    exec (.phyIntChange lane lvl) s = exec (.belLevelChange (1040 + lane) lvl) s ∧
    (s.up 15 = true →
      (belReserved i = false → calm → s.sense i = 2 → s.belInput i = false → ∃ u, exec (.belSourceEvent i) s = .next u ∧
        u.belSrc i = batched ∧ others u ∧ u.belInput i = false ∧ u = { s with bel := u.bel, belLvl := u.belLvl, vec := u.vec }) ∧
      (calm → s.levelMode i = true → ∃ u, exec (.belSourceEvent i) s = .next u ∧ u.bel = s.bel ∧ u.belInput i = s.belInput i) ∧
      (belReserved i = false → s.asserted i = true → s.belClaims = [⟨t, i, at', false⟩] → s.now - at' < s.get .BEL_GLB_CFG_SPUR_WIN →
        ∃ u, exec (.belSourceEvent i) s = .next u ∧ u.belClaims = [] ∧
          u.get .BEL_SPURIOUS_AFTER_CLAIM_COUNT t = min (2 ^ 32 - 1) (s.get .BEL_SPURIOUS_AFTER_CLAIM_COUNT t + 1)) ∧
      (b.held = 0 ∨ s.levelMode i = true → exec (.belBatchTimer i) s = .next s) ∧
      (b.held ≠ 0 → s.levelMode i = false → ∃ u, exec (.belBatchTimer i) s = .next u ∧
        u.belSrc i = { b with pend := b.pend ||| s.get .BEL_SRC_CFG_TARGETS i, held := 0 } ∧ others u ∧
        u = { s with bel := u.bel, vec := u.vec }) ∧
      (s.soft = true →
        (calm → ∃ u, exec (.belSrcCfgWrite i w) s = .next u ∧ u.flag .BEL_SRC_CFG_EN i = wbit w 31 ∧
          u.get .BEL_SRC_CFG_PRIO i = Fld.BEL_SRC_CFG_PRIO.of w ∧ u.get .BEL_SRC_CFG_TARGETS i = Fld.BEL_SRC_CFG_TARGETS.of w ∧
          u.sense i = (if sense < 5 then sense else s.sense i) ∧ others u ∧
          u.belSrc i = (if u.sense i ≠ s.sense i then { b with pend := 0, held := 0 }
            else { b with pend := b.pend &&& Fld.BEL_SRC_CFG_TARGETS.of w })) ∧
        (∃ u, exec (.belPendClear i w) s = .next u ∧ others u ∧
          u.belSrc i = (if s.levelMode i = true then b else { b with pend := andNot b.pend (wbits w 31 24) }) ∧
          u = { s with bel := u.bel, vec := u.vec }) ∧
        (wbits w 15 0 = 0 → exec (.belSwi w) s = .next s) ∧
        (∀ j, j < 16 → wbits w 15 0 = 2 ^ j → exec (.belSwi w) s = .next (s.outside (s.pulse (1520 + j))))))

/-! Faults, the Lantern and the event log. -/

/-- A capture (R360 to R373). A source that is reserved, or not OK already, does nothing; one in its block's reset shadow is
counted only. With no episode open the firing is a leading fault: FIRED is set, FIRE_CNT rises and sticks at 15, the first-error
record is filled or its overflow set, an episode opens, and each reaction starts: the interrupt, the trap, the block's reset, the
chip request, the pin. In an open episode the firing is merged: it takes no interrupt, trap or block reaction, and adds to MERGED
where the first-error record holds the leading fault. The first-error record changes in no other way; clearing VALID clears
OVERFLOW and MERGED (R365). -/
def Obligations.LeadingFaultReactsAndMergedFaultDoesNot : Prop :=
  ∀ (i : Nat) (wire : Bool) (syn : Word) (s : State), i < 512 → s.aonUp = true → s.raised.find? (fun x => x.source == i) = none →
    let cnt := min 15 (s.get .FLT_SRC_STATUS_FIRE_CNT i + 1)
    let react := s.faultReact i
    let b := faultOwner i (if wire = true then 0 else syn)
    let limit := s.get .FLT_CFG_REPEAT_LIMIT
    let more := react.testBit 2 = true ∧ limit ≠ 0 ∧ limit < cnt
    let fires := faultReserved i = false ∧ s.get .FLT_SRC_STATUS_RAIL i = 0
    let fired (u : State) := u.flag .FLT_SRC_STATUS_FIRED i = true ∧ u.get .FLT_SRC_STATUS_FIRE_CNT i = cnt ∧
      u.get .FLT_SRC_STATUS_RAIL i = (if wire = true then 2 else 1)
    let first (u v : State) := u.rd .FLT_FIRST_SRC = v.rd .FLT_FIRST_SRC ∧ u.rd .FLT_FIRST_SYN = v.rd .FLT_FIRST_SYN ∧
      u.rd .FLT_FIRST_TS_LO = v.rd .FLT_FIRST_TS_LO ∧ u.rd .FLT_FIRST_TS_HI = v.rd .FLT_FIRST_TS_HI
    (¬fires → exec (.faultCapture i wire syn) s = .next s) ∧
    (fires → s.shadowed.contains b = true → ∃ u, exec (.faultCapture i wire syn) s = .next u ∧
      u.get .FLT_SRC_STATUS_FIRE_CNT i = s.get .FLT_SRC_STATUS_FIRE_CNT i ∧ u.episode = s.episode ∧ u.blkReset = s.blkReset ∧
      u.get .FLT_SRC_STATUS_RAIL i = (if wire = true then 2 else 1) ∧
      u.get .FLT_SHADOWED_COUNT = min (2 ^ 32 - 1) (s.get .FLT_SHADOWED_COUNT + 1)) ∧
    (fires → s.shadowed.contains b = false → s.episode = none →
      ∃ u, exec (.faultCapture i wire syn) s = .next u ∧ fired u ∧ u.flag .FLT_STATUS_EPISODE = true ∧ (u.episode.map (·.1)) = some i ∧
        u.flag .FLT_FIRST_SRC_VALID = true ∧
        (s.flag .FLT_FIRST_SRC_VALID = false → u.get .FLT_FIRST_SRC_SOURCE = i ∧ u.rd .FLT_FIRST_SYN = (if wire = true then 0 else syn) ∧
          u.flag .FLT_FIRST_SRC_WIRE = wire ∧ u.get .FLT_FIRST_SRC_SEVERITY = s.get .FLT_SRC_CFG_SEVERITY i % 4 ∧
          u.rd .FLT_FIRST_TS_LO = word s.logTime ∧ u.rd .FLT_FIRST_TS_HI = word (s.logTime >>> 32)) ∧
        (s.flag .FLT_FIRST_SRC_VALID = true → first u (s.put .FLT_FIRST_SRC_OVERFLOW 0 1)) ∧
        (react.testBit 0 = true → u.flag .FLT_SRC_STATUS_IRQ i = true) ∧
        (react.testBit 1 = true → u.get .FLT_NMT_PEND = s.get .FLT_NMT_PEND ||| s.get .FLT_CFG_NMT_TARGETS) ∧
        (react.testBit 1 = false → u.get .FLT_NMT_PEND = s.get .FLT_NMT_PEND) ∧
        (react.testBit 2 = true → ¬more → resettable b = true → u.blkReset.contains b = true) ∧
        (more ∨ react.testBit 2 = false ∨ resettable b = false → u.blkReset = s.blkReset) ∧
        (react.testBit 3 = true ∨ more → u.flag .MNT_RST_STATUS_CHIP_REQ = true) ∧
        (react.testBit 4 = true → u.flag .FLT_STATUS_PIN_HOLD = true)) ∧
    (∀ e, fires → s.shadowed.contains b = false → s.episode = some e →
      ∃ u, exec (.faultCapture i wire syn) s = .next u ∧ fired u ∧ u.episode = some e ∧ u.blkReset = s.blkReset ∧
        u.get .FLT_NMT_PEND = s.get .FLT_NMT_PEND ∧ u.get .FLT_SRC_STATUS_IRQ i = s.get .FLT_SRC_STATUS_IRQ i ∧
        first u (if s.episodeFirst = true then s.put .FLT_FIRST_SRC_MERGED 0 (min 0xFFF (s.get .FLT_FIRST_SRC_MERGED + 1)) else s) ∧
        (react.testBit 3 = true → u.flag .MNT_RST_STATUS_CHIP_REQ = true) ∧ (react.testBit 4 = true → u.flag .FLT_STATUS_PIN_HOLD = true)) ∧
    (∃ u, exec .firstErrorClear s = .next u ∧ u.flag .FLT_FIRST_SRC_VALID = false ∧ u.flag .FLT_FIRST_SRC_OVERFLOW = false ∧
      u.get .FLT_FIRST_SRC_MERGED = 0)

/-- A rail that returns to OK, or moves between FAULT and WIRE, fires nothing (R360, R361). A shadow ends once its block is out of
reset: the open episode has it no longer, and then the block's sources that are not OK fire (R372). An episode ends when no shadow of
its leading fault is left (R366). A chip request is released only while BLK_RST_N is low (R59). A block's reset ends where one is in
progress, for block 13 only with nothing outstanding (R371). -/
def Obligations.EpisodesShadowsAndResetsEnd : Prop :=
  ∀ (i b : Nat) (s : State), i < 512 → b < 32 →
    let rail := s.get .FLT_SRC_STATUS_RAIL i
    let lit := { s with shadowed := s.shadowed.erase b, episode := s.episode.map fun e : Nat × List Nat => (e.1, e.2.erase b) }
    let woken := lit.each (lit.blockSources b) fun s i => if s.get .FLT_SRC_STATUS_RAIL i = 0 then s else s.fire i
    (s.aonUp = true →
      exec (.railStateChange i .ok) s = .next (s.put .FLT_SRC_STATUS_RAIL i 0) ∧
      exec (.railStateChange i .wire) s = .next (if rail = 1 then s.put .FLT_SRC_STATUS_RAIL i 2 else s) ∧
      (rail ≠ 2 → exec (.railStateChange i .fault) s = .next s) ∧
      (rail = 2 → ∃ u, exec (.railStateChange i .fault) s = .next u ∧ u.get .FLT_SRC_STATUS_RAIL i = 1 ∧
        u = { s with regs := u.regs, faultSyn := u.faultSyn, fresh := u.fresh }) ∧
      (s.shadowed.contains b = false ∨ s.blkReset.contains b = true → exec (.resetShadowEnd b) s = .next s) ∧
      (s.shadowed.contains b = true → s.blkReset.contains b = false → exec (.resetShadowEnd b) s = .next (s.outside woken)) ∧
      (∀ l, s.episode = some (l, []) → exec .episodeEnd s = .next { s.put .FLT_STATUS_EPISODE 0 0 with episode := none, episodeFirst := false }) ∧
      (s.episode = none ∨ (∃ l k m, s.episode = some (l, k :: m)) → exec .episodeEnd s = .next s) ∧
      exec .chipRstReqRelease s = .next (if s.blkLow = true then s.put .MNT_RST_STATUS_CHIP_REQ 0 0 else s)) ∧
    (s.coreUp = true →
      (s.blkReset.contains b = false ∨ b = 13 ∧ s.dma.quiet = false → exec (.blockResetRelease b) s = .next s) ∧
      (s.blkReset.contains b = true → b ≠ 13 ∨ s.dma.quiet = true →
        exec (.blockResetRelease b) s = .next (s.outside ({ s with blkReset := s.blkReset.erase b }.recover b))))

/-- Software's side of the collector (R368, R369, R370, R372, R375): each clear ends its own reaction and no other. The Lantern
runs when armed with its key and no pin hold, keeps running when armed again, holds its level when it is stopped, and toggles at
each half period; an ARM or STOP without its key sets LANTERN_REJ (R374). FLT_INJ_DATA written takes ADDR_EN, and ARM 1 arms an
injection; an armed one stays armed (R376). -/
def Obligations.ClearsEndTheirReactionAndLanternFollowsItsKey : Prop :=
  ∀ (i mask key : Nat) (w : Word) (s : State), i < 512 → s.aonUp = true →
    let st := s.get .FLT_LANTERN_STATE
    let rej := s.put .FLT_STATUS_LANTERN_REJ 0 1
    let low := (s.put .FLT_SRC_STATUS_IRQ i 0).setInput (1536 + i) false
    (low.flag .FLT_SRC_STATUS_IRQ i = false ∧ low.belInput (1536 + i) = false ∧
      (∀ r k, ¬(r = .FLT_SRC_STATUS ∧ k = i) → low.rd r k = s.rd r k) ∧
      exec (.fltIrqClear i) s = .next (s.outside (low.inBlock 15 State.spurCount)) ∧
      ((∀ x ∈ s.belClaims, x.src ≠ 1536 + i ∧ x.withdrawn = false) → exec (.fltIrqClear i) s = .next (s.outside low))) ∧
    (∃ u, exec (.nmtClear mask) s = .next u ∧ u = s.put .FLT_NMT_PEND 0 (u.get .FLT_NMT_PEND) ∧
      ∀ k, (u.get .FLT_NMT_PEND).testBit k = ((s.get .FLT_NMT_PEND).testBit k && !mask.testBit k)) ∧
    (∃ u, exec (.firedClear i) s = .next u ∧ u.flag .FLT_SRC_STATUS_FIRED i = false ∧ u.get .FLT_SRC_STATUS_FIRE_CNT i = 0 ∧
      u.get .FLT_SRC_STATUS_RAIL i = s.get .FLT_SRC_STATUS_RAIL i ∧ u.get .FLT_SRC_STATUS_IRQ i = s.get .FLT_SRC_STATUS_IRQ i ∧
      u = { s with regs := u.regs } ∧ ∀ r k, ¬(r = .FLT_SRC_STATUS ∧ k = i) → u.rd r k = s.rd r k) ∧
    (∃ u, exec .firstErrorClear s = .next u ∧ u.flag .FLT_FIRST_SRC_VALID = false ∧ u.flag .FLT_FIRST_SRC_OVERFLOW = false ∧
      u.get .FLT_FIRST_SRC_MERGED = 0 ∧ u.episode = s.episode ∧ ∀ r k, r ≠ .FLT_FIRST_SRC → u.rd r k = s.rd r k) ∧
    (∃ u, exec (.domeHoldClear w) s = .next u ∧ exec (.pinHoldClear w) s = .next u ∧ u = { s with regs := u.regs } ∧
      u.flag .FLT_STATUS_DOME_HOLD = (s.flag .FLT_STATUS_DOME_HOLD && !wbit w 30) ∧
      u.flag .FLT_STATUS_PIN_HOLD = (s.flag .FLT_STATUS_PIN_HOLD && !(wbit w 31 && Fld.FLT_STATUS_KEY.of w == 0x5A)) ∧
      ∀ r k, r ≠ .FLT_STATUS → u.rd r k = s.rd r k) ∧
    (key ≠ 0x5A → exec (.lanternArm key) s = .next rej ∧ exec (.lanternStop key) s = .next rej) ∧
    (s.flag .FLT_STATUS_PIN_HOLD = true → exec (.lanternArm key) s = .next rej) ∧
    (key = 0x5A → s.flag .FLT_STATUS_PIN_HOLD = false →
      (st = 1 → exec (.lanternArm key) s = .next s) ∧
      (st ≠ 1 → ∃ u, exec (.lanternArm key) s = .next u ∧ u.get .FLT_LANTERN_STATE = 1 ∧ u.lantern = false ∧
        u.halfNow = s.get .FLT_LANTERN_HALF)) ∧
    (key = 0x5A → (st ≠ 1 → exec (.lanternStop key) s = .next s) ∧
      (st = 1 → ∃ u, exec (.lanternStop key) s = .next u ∧ u.get .FLT_LANTERN_STATE = 2 ∧ u.lantern = s.lantern)) ∧
    exec .lanternHalfPeriod s = .next (if st = 1 then { s with lantern := !s.lantern, halfNow := s.get .FLT_LANTERN_HALF } else s) ∧
    (∃ u, exec (.fltInjArm w) s = .next u ∧ u.flag .FLT_INJ_DATA_ARM = (s.flag .FLT_INJ_DATA_ARM || wbit w 31) ∧
      u.flag .FLT_INJ_DATA_ADDR_EN = wbit w 30 ∧ u = { s with regs := u.regs } ∧ ∀ r k, r ≠ .FLT_INJ_DATA → u.rd r k = s.rd r k)

/-- The oldest record that waits is written at WR and WR moves on, wrapping at 65,536; at a full log it takes the oldest record's
place, with OVERRUN; a frozen log writes none and counts it (R378, R381). Freezing and unfreezing move FROZEN. An index write
takes READY away until the record's eight words are in LOG_ACC_DATA (R382). -/
def Obligations.LogKeepsItsRingAndFreezes : Prop :=
  ∀ (w : Word) (s : State), s.aonUp = true →
    let wr := s.get .LOG_WR_IDX_IDX
    let full := 32768 ≤ s.logFill
    let k := s.get .LOG_ACC_IDX_INDEX
    (s.logQ = [] → exec .logRecordWrite s = .next s) ∧
    (∀ kind flags time body freeze rest, s.logQ = (kind, flags, time, body, freeze) :: rest →
      (s.flag .LOG_STATUS_FROZEN = true → exec .logRecordWrite s = .next (s.outside ({ s with logQ := rest }.inc .LOG_DROPPED_COUNT))) ∧
      (s.flag .LOG_STATUS_FROZEN = false → body.length ≤ 5 → ∃ u, exec .logRecordWrite s = .next u ∧ u.logQ = rest ∧
        u.get .LOG_WR_IDX_IDX = (wr + 1) % 2 ^ 16 ∧
        u.get .LOG_RD_IDX_IDX = (if full then (s.get .LOG_RD_IDX_IDX + 1) % 2 ^ 16 else s.get .LOG_RD_IDX_IDX) ∧
        (full → u.flag .LOG_STATUS_OVERRUN = true) ∧ (¬full → u.flag .LOG_STATUS_OVERRUN = s.flag .LOG_STATUS_OVERRUN) ∧
        tget [] u.logRing (wr % 32768) = word (kind <<< 24 ||| flags <<< 20 ||| wr) :: word time :: word (time >>> 32) ::
          (body ++ List.replicate (5 - body.length) 0) ∧
        (∀ j, j ≠ wr % 32768 → tget [] u.logRing j = tget [] s.logRing j) ∧ u.flag .LOG_STATUS_FROZEN = freeze)) ∧
    (∃ u, exec .logFreeze s = .next u ∧ u.flag .LOG_STATUS_FROZEN = true ∧ u.logQ = s.logQ ∧ u.logRing = s.logRing ∧
      (s.flag .LOG_STATUS_FROZEN = true → u = s)) ∧
    (∃ u, exec .logUnfreeze s = .next u ∧ u.flag .LOG_STATUS_FROZEN = false ∧ u.flag .LOG_STATUS_FREEZE_SW = false ∧
      u.get .LOG_WR_IDX_IDX = wr ∧ u = { s with regs := u.regs } ∧ ∀ r i, r ≠ .LOG_STATUS → u.rd r i = s.rd r i) ∧
    (∃ u, exec (.logAccIdxWrite w) s = .next u ∧ u.get .LOG_ACC_IDX_INDEX = wbits w 14 0 ∧ u.flag .LOG_ACC_IDX_READY = false ∧
      u = { s with regs := u.regs } ∧ ∀ r i, r ≠ .LOG_ACC_IDX → u.rd r i = s.rd r i) ∧
    (s.flag .LOG_ACC_IDX_READY = true → exec .logAccessReady s = .next s) ∧
    (s.flag .LOG_ACC_IDX_READY = false → s.eccOf 0xD k .ok ≠ .uncorr → ∃ u, exec .logAccessReady s = .next u ∧
      u.flag .LOG_ACC_IDX_READY = true ∧ (∀ j, j < 8 → u.rd .LOG_ACC_DATA j = nth (tget [] s.logRing k) j 0) ∧
      u = { s with regs := u.regs } ∧ ∀ r i, r ≠ .LOG_ACC_IDX → r ≠ .LOG_ACC_DATA → u.rd r i = s.rd r i)

/-! The budget arbiter. -/

/-- An engine granted g credits runs in exactly g of an epoch's 1,500 cycles (R390). At an epoch boundary an engine without work
is granted nothing, no engine more than its MAX, one with work at least min(FLOOR, MAX), and together no more than POOL; in an
emergency every engine is granted exactly min(FLOOR, MAX) (R389, R393). The grants of the epoch that ends, and the credits used in
it, are shown, and a new epoch begins with none used (R399). -/
def Obligations.EpochGrantsStayWithinThePool : Prop :=
  (∀ g : Nat, g ≤ 1500 → ((List.range 1500).filter (creditRuns g)).length = g) ∧
  ∀ s : State, s.up 16 = true →
    let g (u : State) (e : Nat) := nth u.grants e 0
    let emerg := s.flag .PWR_STATUS_EMERG
    let floors := (((List.range 5).filter s.hasWork).map s.floorGrant).sum
    ∃ u, exec .epochGrant s = .next u ∧ u.grants.length = 5 ∧ u.epochAt = s.now ∧ u.spent = [] ∧
      (∀ e, e < 5 → g u e ≤ s.get .PWR_ENG_CFG_MAX e ∧ (emerg = true → g u e = s.floorGrant e) ∧
        (emerg = false → s.hasWork e = false → g u e = 0) ∧ (emerg = false → s.hasWork e = true → s.floorGrant e ≤ g u e)) ∧
      (emerg = false → floors ≤ s.get .PWR_POOL_POOL → u.grants.sum ≤ s.get .PWR_POOL_POOL) ∧
      (∀ e, e < 5 → s.grantOf e ≤ 1500 → u.get .PWR_ENG_STATUS_GRANT e = s.grantOf e ∧
        u.get .PWR_ENG_STATUS_USED e = min (tget 0 s.spent e) (s.grantOf e)) ∧
      u = { s with regs := u.regs, grants := u.grants, epochAt := s.now, spent := [] } ∧ ∀ r i, r ≠ .PWR_ENG_STATUS → u.rd r i = s.rd r i

/-- The voltage loop (R392, R393): at a period's end REQ moves one step towards more margin below LOW and towards less above HIGH,
within TRIM_MIN and TRIM_MAX, and not with EN 0; a sample below CRIT raises REQ one step at once, starts an emergency, which is
counted, and in an emergency raises it at most once a period; the emergency ends after a whole period at or above LOW. -/
def Obligations.VoltageLoopMovesOneStepWithinItsLimits : Prop :=
  ∀ (m : Nat) (s : State), s.up 16 = true →
    let least := min (m % 256) s.avsMin
    let lo := signed8 (s.get .PWR_AVS_CFG_TRIM_MIN)
    let hi := signed8 (s.get .PWR_AVS_CFG_TRIM_MAX)
    let risen := if s.trim < hi then s.trim + 1 else s.trim
    let fallen := if lo < s.trim then s.trim - 1 else s.trim
    let emerg := s.flag .PWR_STATUS_EMERG
    (∃ u, exec (.avsPeriod m) s = .next u ∧ u.get .PWR_AVS_STATUS_MARGIN = least ∧ u.avsMin = 255 ∧ u.avsHit = false ∧
      u.trim = (if s.flag .PWR_AVS_CFG_EN = false then s.trim else if least < s.get .PWR_AVS_THR_LOW then risen
        else if s.get .PWR_AVS_THR_HIGH < least then fallen else s.trim) ∧
      (lo ≤ s.trim → s.trim ≤ hi → lo ≤ u.trim ∧ u.trim ≤ hi) ∧
      u.flag .PWR_STATUS_EMERG = (emerg && !(!s.avsNew && decide (s.get .PWR_AVS_THR_LOW ≤ least)))) ∧
    (s.get .PWR_AVS_THR_CRIT ≤ m → exec (.avsEmergency m) s = .next s) ∧
    (m < s.get .PWR_AVS_THR_CRIT → ∃ u, exec (.avsEmergency m) s = .next u ∧ u.flag .PWR_STATUS_EMERG = true ∧ u.avsHit = true ∧
      u.trim = (if emerg = true ∧ s.avsHit = true then s.trim else risen) ∧
      u.get .PWR_AVS_EMERGS_COUNT = (if emerg = true then s.get .PWR_AVS_EMERGS_COUNT
        else min (2 ^ 32 - 1) (s.get .PWR_AVS_EMERGS_COUNT + 1)) ∧ (emerg = false → u.flag .PWR_STATUS_EMERG_HIT = true))

/-- A request on a lane is the request of the segment bound to it, with a class of 0 to 9; a lane bound to none requests nothing
(R394). A tick shows USED, the grants' charges and those that settle, and whether it is over BUDGET; with EN 0 it leaves no grant;
a grant that it gives leaves USED within BUDGET (R395). -/
def Obligations.PodlTickGrantsWithinItsBudget : Prop :=
  (∀ (lane cls : Nat) (valid : Bool) (s : State), lane < 256 → s.up 16 = true →
    (s.portOfLane lane = none → exec (.podlReqStable lane valid cls) s = .next s) ∧
    (∀ n, s.portOfLane lane = some n → ∃ u, exec (.podlReqStable lane valid cls) s = .next u ∧
      (u.podlOf n).req = (if valid = true ∧ cls < 10 then some cls else none) ∧ (u.podlOf n).grant = (s.podlOf n).grant ∧
      (∀ k, k ≠ n → u.podlOf k = s.podlOf k) ∧ u = { s with regs := u.regs, podl := u.podl, podlSeq := u.podlSeq } ∧
      ∀ r i, r ≠ .PWR_PODL_SEG → u.rd r i = s.rd r i)) ∧
  ∀ s : State, s.up 16 = true → ∃ u, exec .podlTick s = .next u ∧ u.get .PWR_PODL_USED_USED = u.podlUsed % 2 ^ 24 ∧
    u.flag .PWR_STATUS_OVER = decide (u.get .PWR_PODL_BUDGET_BUDGET < u.podlUsed) ∧
    u.get .PWR_PODL_BUDGET_BUDGET = s.get .PWR_PODL_BUDGET_BUDGET ∧
    (s.flag .PWR_PODL_CFG_EN = false → ∀ n, (u.podlOf n).grant = none) ∧
    (∀ n c, (u.podlOf n).grant = some c → (s.podlOf n).grant ≠ some c → u.podlUsed ≤ u.get .PWR_PODL_BUDGET_BUDGET)

/-! Key slots. -/

/-- WRITE with the key gives an unlocked slot the eight data words, which return to 0, and sets its WRITTEN bit; ERASE with the
key zeroes it and clears the bit; LOCK with the key sets its LOCKED bit, after which WRITE and ERASE are refused; a refused
control write changes no slot and reports KEY_REJ (R402). No other slot changes. -/
def Obligations.KeySlotsAreWrittenErasedAndLocked : Prop :=
  ∀ (k key : Nat) (s : State), k < 8 → key < 256 → s.up 18 = true → s.soft = true →
    let data := (List.range 8).flatMap fun j => leBytes 4 (s.rd .SES_KEY_DATA j).toNat
    let zero : List Byte := List.replicate 32 0
    let locked := s.keyLocked k = true
    let others (u : State) := (∀ j, j ≠ k → u.key j = s.key j) ∧
      ∀ j, j ≠ k → (u.get .SES_KEY_STATUS_WRITTEN).testBit j = (s.get .SES_KEY_STATUS_WRITTEN).testBit j
    let refused (c : Instr) := ∃ u, exec c s = .next u ∧ u.keys = s.keys ∧ u.rd .SES_KEY_STATUS = s.rd .SES_KEY_STATUS ∧
      (∀ j, u.rd .SES_KEY_DATA j = s.rd .SES_KEY_DATA j) ∧ u.flag .SES_STATUS_KEY_REJ = true
    (key ≠ 0x3C → refused (.keyWrite k key) ∧ refused (.keyErase k key) ∧ refused (.keyLock k key)) ∧
    (locked → refused (.keyWrite k key) ∧ refused (.keyErase k key)) ∧
    (key = 0x3C → ¬locked →
      (∃ u, exec (.keyWrite k key) s = .next u ∧ u.key k = data ∧ (u.get .SES_KEY_STATUS_WRITTEN).testBit k = true ∧
        (∀ j, j < 8 → u.rd .SES_KEY_DATA j = 0) ∧ others u ∧ u.get .SES_KEY_STATUS_LOCKED = s.get .SES_KEY_STATUS_LOCKED) ∧
      (∃ u, exec (.keyErase k key) s = .next u ∧ u.key k = zero ∧ (u.get .SES_KEY_STATUS_WRITTEN).testBit k = false ∧ others u ∧
        u.get .SES_KEY_STATUS_LOCKED = s.get .SES_KEY_STATUS_LOCKED)) ∧
    (key = 0x3C → ∃ u, exec (.keyLock k key) s = .next u ∧ u.keyLocked k = true ∧ u.keys = s.keys ∧
      (∀ j, j ≠ k → u.keyLocked j = s.keyLocked j) ∧ u = { s with regs := u.regs } ∧
      ∀ r i, r ≠ .SES_KEY_STATUS → r ≠ .SES_KEY_CTRL → u.rd r i = s.rd r i)

/-! Keep images and mirror mode. -/

/-- Production (R406 to R408): GO starts from IDLE with the image formed and its version held, and is rejected elsewhere; a period
starts it likewise, or is counted as skipped, and with PERIOD 0 does nothing. The image taken whole ends it: DONE, the next SEQ,
IDLE, in a cycle that its engine may use (R390). ABORT and the output's timeout end it as failed with their codes. -/
def Obligations.KeepProductionRunsFromGoToDone : Prop :=
  ∀ s : State, s.up 17 = true →
    let st := s.keepState
    let k := s.keep
    let making := st = keepProducing ∨ st = keepFetching
    let starts (c : Instr) := ∃ u, exec c s = .next u ∧ u.keepState = keepProducing ∧ u.get .KEEP_STATUS_ERR = 0 ∧
      u.keep.image = s.keepImage.1 ∧ u.keep.prefixEnd = s.keepImage.2 ∧ u.keep.pin = some s.versionA ∧ u.keep.session = none
    let fails (c : Instr) (code : Nat) := ∃ u, exec c s = .next u ∧ u.keepState = keepIdle ∧ u.get .KEEP_STATUS_ERR = code ∧
      u.flag .KEEP_STATUS_FAIL = true ∧ u.keep = {} ∧ u.get .KEEP_SEQ_SEQ = s.get .KEEP_SEQ_SEQ
    (s.soft = true →
      (st = keepIdle → starts .keepGo) ∧
      (st ≠ keepIdle → exec .keepGo s = .next (s.outside (s.keepEvent .KEEP_STATUS_GO_REJ))) ∧
      (st = keepIdle → exec .keepAbort s = .next s) ∧
      (st ≠ keepIdle → fails .keepAbort 0x0D)) ∧
    (s.get .KEEP_CFG_PERIOD = 0 → exec .keepPeriod s = .next s) ∧
    (s.get .KEEP_CFG_PERIOD ≠ 0 → st = keepIdle → starts .keepPeriod) ∧
    (s.get .KEEP_CFG_PERIOD ≠ 0 → st ≠ keepIdle → exec .keepPeriod s = .next (s.outside (s.inc .KEEP_SKIPPED_COUNT))) ∧
    (s.mayRun 3 = false → exec .keepProductionEnd s = .next s) ∧
    (s.mayRun 3 = true → ¬making ∨ k.pos ≠ k.image.length → exec .keepProductionEnd s = .next (s.spend 3)) ∧
    (s.mayRun 3 = true → making → k.pos = k.image.length → s.stagingBad = true → fails .keepProductionEnd 0x0C) ∧
    (s.mayRun 3 = true → making → k.pos = k.image.length → s.stagingBad = false → ∃ u, exec .keepProductionEnd s = .next u ∧
      u.keepState = keepIdle ∧ u.get .KEEP_LEN_LEN = k.image.length % 2 ^ 32 ∧ u.get .KEEP_SEQ_SEQ = (s.get .KEEP_SEQ_SEQ + 1) % 2 ^ 32 ∧
      u.flag .KEEP_STATUS_DONE = true ∧ u.keep = {}) ∧
    (making → fails .keepOutTimeout 0x0E) ∧
    (¬making → exec .keepOutTimeout s = .next s)

/-- Loading (R409 to R411): LOAD starts where it is allowed, with the key slots as they stand, and elsewhere fails with ERR STATE at
once; the header is checked when its 64 bytes are there; an image that has arrived whole is applied as a whole, or fails with its
code, leaves IDLE, and no node context has changed. -/
def Obligations.KeepLoadAppliesWholeOrFails : Prop :=
  ∀ s : State, s.up 17 = true →
    let k := s.keep
    let len := leAt k.loaded 8 4
    let code := s.keepHeaderFail k.written k.loaded
    let image := k.loaded.take len
    let result := s.loadImage (k.key (beAt image 6 1)) image
    let checks := s.keepState = keepLoading ∧ k.checked = false ∧ 64 ≤ k.loaded.length
    let arrived := s.keepState = keepLoading ∧ k.checked = true ∧ len ≤ k.loaded.length
    (s.soft = true →
      (s.loadAllowed = true → ∃ u, exec .keepLoad s = .next u ∧ u.keepState = keepLoading ∧ u.get .KEEP_STATUS_ERR = 0 ∧
        u.keep = { keys := s.keys, written := s.get .SES_KEY_STATUS_WRITTEN } ∧ u = { s with regs := u.regs, keep := u.keep } ∧ ∀ r i, r ≠ .KEEP_STATUS → u.rd r i = s.rd r i) ∧
      (s.loadAllowed = false → ∃ u, exec .keepLoad s = .next u ∧ u.keepState = s.keepState ∧ u.get .KEEP_STATUS_ERR = 0x0B ∧
        u.flag .KEEP_STATUS_FAIL = true ∧ u.keep = s.keep)) ∧
    (¬checks → exec .keepHeaderCheck s = .next s) ∧
    (checks → code ≠ 0 → ∃ u, exec .keepHeaderCheck s = .next u ∧ u.keepState = keepIdle ∧ u.get .KEEP_STATUS_ERR = code ∧
      u.flag .KEEP_STATUS_FAIL = true ∧ u.keep = {}) ∧
    (checks → code = 0 → ∃ u, exec .keepHeaderCheck s = .next u ∧ u.keepState = keepLoading ∧ u.keep = { k with checked := true }) ∧
    (¬arrived → exec .keepLoadApply s = .next s) ∧
    (arrived → s.stagingBad = false → ∃ u, exec .keepLoadApply s = .next u ∧ u.keepState = keepIdle ∧ u.keep = {} ∧
      (∀ e, result = .error e → u = s.outside ((s.loadUndo e.2).keepFail e.1) ∧ u.flag .KEEP_STATUS_FAIL = true ∧ u.ctx = s.ctx ∧
        u.nodeCnt = s.nodeCnt) ∧
      ∀ v, result = .ok v → u.get .KEEP_LEN_LEN = len % 2 ^ 32 ∧ u.flag .KEEP_STATUS_DONE = true ∧
        u.versionA = v.versionA ∧ u.flow = v.flow ∧ u.pfx = v.pfx ∧ u.ctx = v.ctx) ∧
    (arrived → s.stagingBad = true → ∃ u, exec .keepLoadApply s = .next u ∧ u.keepState = keepIdle ∧ u.get .KEEP_STATUS_ERR = 0x0C)

/-- Mirror mode (R412 to R414): EN 1 starts it in RESYNC, or REFUSED with an Irgan partner while a field port above F255 is
present; EN 0 ends it in OFF. A cycle acts in RUNNING only. A frame acts only where mirror mode is on and its trunk is the enabled
mirror link: the standby holds the frames of a set, applies it at its CYCLE_END when all of it is there and right, acknowledges
it, and otherwise drops it; an acknowledgement leaves the sets after it unacknowledged. -/
def Obligations.MirrorSetsApplyWholeOrAreDropped : Prop :=
  ∀ (t : Nat) (f : List Byte) (w : Word) (s : State), t < 16 → s.up 17 = true →
    let m := 1024 + t
    let msg := beAt f 16 1
    let a := (s.add64 .MAC_RX_FRAMES_LO .MAC_RX_FRAMES_HI m 1).add64 .MAC_RX_OCTETS_LO .MAC_RX_OCTETS_HI m (max 60 f.length + 4)
    let arrives := s.role m = 2 ∧ s.enabled m = true ∧ s.link m = true ∧ beAt f 12 2 = s.get .SES_CFG_ETYPE
    let good := arrives ∧ s.flag .KEEP_MIR_CFG_EN = true ∧ mirOk f = true
    let held := if s.mirror.heldCycle = mirCycleOf f then s.mirror.held else []
    let right := beAt (mirBody f) 0 4 = held.length ∧ beAt (mirBody f) 4 4 = crc32c (held.flatMap (·.2))
    let sets := s.standby = true ∧ s.mirState = mirRunning ∧ s.mirror.since < mirCycleOf f
    let s0 := { a with mirror := { s.mirror with held := held } }
    let unacked := s.get .KEEP_MIR_CYCLE_MIR_CYCLE - beAt (mirBody f) 0 4
    let c : Instr := if msg = 4 then .mirrorCycleEnd t f else if msg = 5 then .mirrorAck t f else if msg = 6 then .mirrorResync t f
      else if msg = 7 then .mirrorHello t f else .mirrorDeltaReceive t f
    (s.soft = true → s.flag .KEEP_MIR_CFG_EN = false → ∃ u, exec (.mirrorEnable w) s = .next u ∧ u.flag .KEEP_MIR_CFG_EN = true ∧
      u.mirState = (if wbit w 29 = true ∧ (List.range 1024).any (fun n => decide (255 < n) && s.present' n) = true then mirRefused else mirResync) ∧
      u.get .KEEP_MIR_STATUS_UNACKED = 0) ∧
    (s.soft = true → s.flag .KEEP_MIR_CFG_EN = true → ∃ u, exec .mirrorDisable s = .next u ∧ u.flag .KEEP_MIR_CFG_EN = false ∧
      u.mirState = mirOff ∧ u.mirror = {}) ∧
    (s.mirState ≠ mirRunning → exec .mirrorCycle s = .next s) ∧
    (s.mirState = mirRunning → exec .mirrorCycle s = .next (s.outside s.mirCycle)) ∧
    (1 ≤ msg → msg ≤ 7 → ¬arrives → exec c s = .next s) ∧
    (1 ≤ msg → msg ≤ 7 → arrives → (s.flag .KEEP_MIR_CFG_EN = false ∨ mirOk f = false) → exec c s = .next (s.outside a)) ∧
    (good → 1 ≤ msg → msg ≤ 3 → exec c s = .next (s.outside (if sets
      then { a with mirror := { s.mirror with held := held ++ [(msg, mirBody f)], heldCycle := mirCycleOf f } } else a))) ∧
    (good → msg = 4 → ¬sets → exec c s = .next (s.outside a)) ∧
    (good → msg = 4 → sets → ¬right → exec c s = .next (s.outside { a with mirror := { s.mirror with held := [] } })) ∧
    (∀ v, good → msg = 4 → sets → right → s0.mirApply = .ok v → ∃ u, exec c s = .next u ∧
      u.get .KEEP_MIR_CYCLE_MIR_CYCLE = mirCycleOf f % 2 ^ 32 ∧ u.mirror.held = [] ∧ u.mirror.heard = true ∧ u.flow = v.flow ∧ u.ctx = v.ctx) ∧
    (∀ e, good → msg = 4 → sets → right → s0.mirApply = .error e → exec c s = .next (s.outside
      { a.loadUndo e.2 with mirror := { (a.loadUndo e.2).mirror with held := [] } })) ∧
    (good → msg = 5 → s.standby = false → s.mirState = mirRunning → unacked < s.get .KEEP_MIR_STATUS_UNACKED →
      beAt (mirBody f) 0 4 ≤ s.get .KEEP_MIR_CYCLE_MIR_CYCLE → ∃ u, exec c s = .next u ∧ u.get .KEEP_MIR_STATUS_UNACKED = unacked ∧
      u.mirror.heard = true) ∧
    (good → msg = 6 → exec c s = .next (s.outside (a.mirPiece f))) ∧
    (good → msg = 7 → exec c s = .next (s.outside (if s.mirState = mirResync ∨ s.mirState = mirLost
      then (if s.standby = true then a.mirHello else a.mirSendResync) else a)))

/-! Management sessions and the structure image. -/

/-- Opening (R416, R417): an OPEN that is whole, names a written slot that is not locked out and finds a session free takes the
lowest free one as CHALLENGED; any other is discarded and counted. A right PROOF opens its session and clears the slot's failures;
a wrong one frees it, is counted, and at FAIL_LIMIT locks the slot out. A challenge unanswered frees its session; a lock-out ends
for its slot only; an idle session closes, after the command in execution where there is one (R419). -/
def Obligations.SessionsOpenByProof : Prop :=
  ∀ (t i : Nat) (f : List Byte) (s : State), t < 16 → i < 4 → s.up 18 = true →
    let m := 1024 + t
    let a := (s.add64 .MAC_RX_FRAMES_LO .MAC_RX_FRAMES_HI m 1).add64 .MAC_RX_OCTETS_LO .MAC_RX_OCTETS_HI m (max 60 f.length + 4)
    let arrives (k : Nat) := s.enabled m = true ∧ s.link m = true ∧ s.isSession m f = true ∧ sesMsg f = k
    let b := sesBody f
    let slot := beAt b 0 1
    let fits := sesLen f = 20 ∧ sesSid f = 0 ∧ sesSeq f = 0 ∧ beAt b 1 3 = 0 ∧ slot ≤ 7 ∧
      (s.get .SES_KEY_STATUS_WRITTEN).testBit slot = true ∧ (s.get .SES_STATUS_SLOT_OUT).testBit slot = false
    let free := (List.range 4).find? fun k => s.sesState k == sesFree
    let asked := s.sesFind t sesChallenged f
    let own := s.get .SES_SESS_SLOT i
    let fails := tget 0 s.sesFails own + 1
    let proof := hmac (s.key own) (0x11 :: s.sesNonces i)
    (arrives 1 → sesWhole f = true → fits → ∀ k, free = some k → ∃ u, exec (.sesOpen t f) s = .next u ∧ u.sesState k = sesChallenged ∧
      u.get .SES_SESS_SLOT k = slot ∧ u.get .SES_SESS_TRUNK k = t ∧ u.sesClient k = sesFrom f ∧ (u.sesOf k).nonceC = slice b 4 16 ∧
      ∀ j, j ≠ k → u.sesOf j = s.sesOf j ∧ u.sesState j = s.sesState j) ∧
    (arrives 1 → sesWhole f = false ∨ ¬fits ∨ free = none → exec (.sesOpen t f) s = .next (s.outside a.sesReject)) ∧
    (arrives 3 → sesWhole f = true → asked = none ∨ sesLen f ≠ 32 ∨ sesSeq f ≠ 0 → exec (.sesProof t f) s = .next (s.outside a.sesReject)) ∧
    (arrives 3 → sesWhole f = true → asked = some i → sesLen f = 32 → sesSeq f = 0 →
      (b = proof → ∃ u, exec (.sesProof t f) s = .next u ∧ u.sesState i = sesOpened ∧ (u.sesOf i).sk = hmac (s.key own) (0x13 :: s.sesNonces i) ∧
        (u.sesOf i).seq = 0 ∧ tget 0 u.sesFails own = 0 ∧ u.flag .SES_STATUS_OPENED = true) ∧
      (b ≠ proof → ∃ u, exec (.sesProof t f) s = .next u ∧ u.sesState i = sesFree ∧ u.sesOf i = {} ∧ tget 0 u.sesFails own = fails ∧
        u.get .SES_AUTH_FAIL_COUNT = min (2 ^ 32 - 1) (s.get .SES_AUTH_FAIL_COUNT + 1) ∧
        ∀ k, k < 8 → (u.get .SES_STATUS_SLOT_OUT).testBit k = ((s.get .SES_STATUS_SLOT_OUT).testBit k ||
          decide (k = own ∧ s.get .SES_TIMERS_FAIL_LIMIT ≤ fails)))) ∧
    exec (.sesChallengeTimeout i) s = .next (if s.sesState i = sesChallenged then (s.put .SES_SESS_STATE i sesFree).setSes i {} else s) ∧
    (∀ k, k < 8 → ∃ u, exec (.sesLockoutExpire k) s = .next u ∧ u = s.put .SES_STATUS_SLOT_OUT 0 (u.get .SES_STATUS_SLOT_OUT) ∧
      ∀ j, (u.get .SES_STATUS_SLOT_OUT).testBit j = ((s.get .SES_STATUS_SLOT_OUT).testBit j && !decide (j = k))) ∧
    (s.sesState i ≠ sesOpened → exec (.sesIdleTimeout i) s = .next s) ∧
    ((s.sesOf i).waits.isSome = true → s.sesState i = sesOpened → exec (.sesIdleTimeout i) s = .next
      (s.setSes i { s.sesOf i with closing := (s.sesOf i).closing.or (some 2) })) ∧
    ((s.sesOf i).waits = none → s.sesState i = sesOpened → ∃ u, exec (.sesIdleTimeout i) s = .next u ∧ u.sesState i = sesFree ∧
      u.sesOf i = {} ∧ u.flag .SES_STATUS_CLOSED = true)

/-- Commands (R418): while one is in execution another waits in its order of arrival; one that names no open session of its trunk
and sender, or has a wrong TAG, or a SEQ not above the last, is discarded and counted; the last accepted one again is answered
again and not executed; else its SEQ is taken and it is carried out. A response that is due waits until its engine is ready, and a
close that waits for it follows it (R419). (A
WRITE that reaches FLT_INJ_CTRL in factory test mode is the one refusal.) -/
def Obligations.SessionCommandsAreAcceptedOnceInOrder : Prop :=
  ∀ (t i : Nat) (f : List Byte) (c : Instr) (k : Nat) (s : State), t < 16 → i < 4 → s.up 18 = true → s.flag .FLT_STATUS_FACTORY = false →
    (c, k) ∈ [(Instr.sesClose t f, 0x7E), (.sesRead t f, 0x10), (.sesWrite t f, 0x11), (.sesTae t f, 0x20), (.sesCommit t f, 0x21),
      (.sesAbort t f, 0x22), (.sesKeepFetch t f, 0x30), (.sesStiStart t f, 0x40), (.sesStiData t f, 0x41), (.sesStiValidate t f, 0x42),
      (.sesStiCommit t f, 0x43), (.sesStiAbort t f, 0x44)] →
    let m := 1024 + t
    let a := (s.add64 .MAC_RX_FRAMES_LO .MAC_RX_FRAMES_HI m 1).add64 .MAC_RX_OCTETS_LO .MAC_RX_OCTETS_HI m (max 60 f.length + 4)
    let arrives := s.enabled m = true ∧ s.link m = true ∧ s.isSession m f = true ∧ sesMsg f = k ∧ sesWhole f = true
    let x := s.sesOf i
    let mine := s.sesFind t sesOpened f = some i ∧ s.sesTagged i f = true
    (arrives → s.sesBusy = true → exec c s = .next (s.outside { a with sesQ := s.sesQ ++ [(t, f)] })) ∧
    (arrives → s.sesBusy = false →
      (s.sesFind t sesOpened f = none → exec c s = .next (s.outside a.sesReject)) ∧
      (s.sesFind t sesOpened f = some i → s.sesTagged i f = false → exec c s = .next (s.outside a.sesReject)) ∧
      (mine → sesSeq f = x.seq → x.seq ≠ 0 → exec c s = .next (s.outside (if x.resp = [] then a else a.sesSend m x.resp))) ∧
      (mine → sesSeq f < x.seq ∨ (sesSeq f = 0 ∧ x.seq = 0) → exec c s = .next (s.outside a.sesReject)) ∧
      (mine → x.seq < sesSeq f → sesSeq f < 0xFFFFFFF0 → exec c s = .next (s.outside
        ((a.setSes i { x with seq := sesSeq f, resp := [], waits := none }).sesExecute f i))) ∧
      (mine → x.seq < sesSeq f → 0xFFFFFFF0 ≤ sesSeq f → exec c s = .next (s.outside
        (((a.setSes i { x with seq := sesSeq f, resp := [], waits := none }).sesExecute f i).sesClose i 3)))) ∧
    (x.waits = none → exec (.sesDeferredResponse i) s = .next s) ∧
    (∀ w, x.waits = some w → s.sesReady w = false → exec (.sesDeferredResponse i) s = .next s) ∧
    (∀ w, x.waits = some w → s.sesReady w = true → x.closing = none → s.sesQ = [] →
      exec (.sesDeferredResponse i) s = .next (s.outside { s.sesResult i w with sesQ := [] })) ∧
    (∀ w cause, x.waits = some w → s.sesReady w = true → x.closing = some cause → s.sesQ = [] →
      exec (.sesDeferredResponse i) s = .next (s.outside { (s.sesResult i w).sesEnd i cause with sesQ := [] }))

/-- The structure image path (R87 to R89): each command acts in its own states and for its issuer, and sets SEQ_ERR elsewhere;
words are taken up to 524,288 bytes, the next sets OVERRUN; validation ends VALID or IDLE with its code (an uncorrectable error's
code stands before that of another check that fails: the model's choice, log 44); a commit that a live
check refuses stays VALID with its code; an abort discards the staging before the switch; the switch takes the image, shows its
serial and returns to IDLE. -/
def Obligations.StructureImagePathFollowsItsStates : Prop :=
  ∀ (w : Word) (e : Ecc) (s : State), s.up 19 = true →
    let st := s.stiState
    let mine := st = stiIdle ∨ s.sti.owner = none
    let seqErr := s.put .STI_STATUS_SEQ_ERR 0 1
    let room := 4 * s.sti.words.length < 524288
    let new := decodeImage s.sti.words
    let code := if s.committed = true then s.liveFail new else 0
    (s.soft = true →
      (mine → st = stiIdle ∨ st = stiLoading ∨ st = stiValid → ∃ u, exec .stiLoadStart s = .next u ∧ u.stiState = stiLoading ∧
        u.get .STI_LOAD_COUNT_COUNT = 0 ∧ u.sti = {} ∧ u.flag .STI_STATUS_OVERRUN = false ∧ u.get .STI_STATUS_VAL_ERR = 0 ∧
        u.flag .STI_STATUS_OWNER = false) ∧
      (¬mine ∨ st = stiValidating ∨ st = stiCommitting → exec .stiLoadStart s = .next seqErr) ∧
      (mine → st = stiLoading → exec (.stiLoadData w) s = .next (if room
        then { s.put .STI_LOAD_COUNT_COUNT 0 (4 * s.sti.words.length + 4) with sti := { s.sti with words := s.sti.words ++ [w] } }
        else s.put .STI_STATUS_OVERRUN 0 1)) ∧
      (¬mine ∨ st ≠ stiLoading → exec (.stiLoadData w) s = .next seqErr ∧ exec .stiValidate s = .next seqErr) ∧
      (mine → st = stiLoading → ∃ u, exec .stiValidate s = .next u ∧ u.stiState = stiValidating ∧ u.sti.words = s.sti.words ∧
        u.sti.key = (let k := wbits (nth s.sti.words 1 0) 26 24
          if (s.get .SES_KEY_STATUS_WRITTEN).testBit k = true then some (s.key k) else none)) ∧
      (¬mine ∨ st ≠ stiValid → exec .stiCommit s = .next seqErr) ∧
      (mine → st = stiValid → ∃ u, exec .stiCommit s = .next u ∧ u.get .STI_STATUS_COMMIT_ERR = code ∧
        u.stiState = (if code = 0 then stiCommitting else stiValid) ∧ (code ≠ 0 → u.flag .STI_STATUS_DONE = true)) ∧
      (mine → st = stiLoading ∨ st = stiValidating ∨ st = stiValid → ∃ u, exec .stiAbort s = .next u ∧ u.stiState = stiIdle ∧ u.sti = {} ∧
        u.img = s.img) ∧
      (mine → st = stiCommitting → exec .stiAbort s = .next s)) ∧
    (st ≠ stiValidating → exec (.stiValidationEnd e) s = .next s) ∧
    (st = stiValidating → e ≠ .uncorr → ∃ u, exec (.stiValidationEnd e) s = .next u ∧ u.flag .STI_STATUS_DONE = true ∧ u.img = s.img ∧
      u.stiState = (if s.imageFail = none then stiValid else stiIdle) ∧ u.sti = (if s.imageFail = none then s.sti else {}) ∧
      ∀ v o, s.imageFail = some (v, o) → u.get .STI_STATUS_VAL_ERR = v % 2 ^ 8) ∧
    (st = stiValidating → ∃ u, exec (.stiValidationEnd .uncorr) s = .next u ∧ u.flag .STI_STATUS_DONE = true ∧ u.img = s.img ∧
      u.stiState = stiIdle ∧ u.sti = {} ∧ u.get .STI_STATUS_VAL_ERR = 0x14) ∧
    (st ≠ stiCommitting → exec .stiCommitSwitch s = .next s ∧ exec .stiCommitEcc s = .next s) ∧
    (st = stiCommitting → ∃ u, exec .stiCommitSwitch s = .next u ∧ u.stiState = stiIdle ∧ u.img = new ∧ u.committed = true ∧ u.sti = {} ∧
      u.flag .STI_STATUS_DONE = true) ∧
    (st = stiCommitting → ∃ u, exec .stiCommitEcc s = .next u ∧ u.stiState = stiIdle ∧ u.get .STI_STATUS_COMMIT_ERR = 4 ∧ u.img = s.img ∧
      u.flag .STI_STATUS_DONE = true)
end

