-- ==== Sys2Proof/Laws/Gates.lean ====
section
/-! SUPPORT. What the gates of clock, reset and memory initialisation answer (R37, R371, R400). -/
namespace Sys2Proof.Machine

variable {s : State} {b : Nat}

/-! What is driven from outside. -/

/-- A state that moves nothing of it is its own result. -/
@[simp] theorem outside_self (s : State) : s.outside s = s := rfl

/-- Nothing of it moves when all of it is as it was. -/
theorem outside_eq {t : State} (h1 : t.pending = s.pending) (h2 : t.porstLow = s.porstLow) (h3 : t.blkLow = s.blkLow)
    (h4 : t.coreClk = s.coreClk) (h5 : t.refClk = s.refClk) (h6 : t.pulsed = s.pulsed) : s.outside t = t := by
  simp only [State.outside, ← h1, ← h2, ← h3, ← h4, ← h5, ← h6]

@[simp] theorem outside_wr (s t : State) (r : Reg) (i : Nat) (w : Word) : s.outside (t.wr r i w) = (s.outside t).wr r i w := rfl
@[simp] theorem outside_put (s t : State) (f : Fld) (i v : Nat) : s.outside (t.put f i v) = (s.outside t).put f i v := rfl
@[simp] theorem outside_rd (s t : State) (r : Reg) (i : Nat) : (s.outside t).rd r i = t.rd r i := rfl
@[simp] theorem outside_get (s t : State) (f : Fld) (i : Nat) : (s.outside t).get f i = t.get f i := rfl
@[simp] theorem outside_flag (s t : State) (f : Fld) (i : Nat) : (s.outside t).flag f i = t.flag f i := rfl
@[simp] theorem outside_pending (s t : State) : (s.outside t).pending = s.pending := rfl
@[simp] theorem outside_pulsed (s t : State) : (s.outside t).pulsed = s.pulsed := rfl
@[simp] theorem outside_coreOn (s t : State) : (s.outside t).coreOn = s.coreOn := rfl
@[simp] theorem outside_aonUp (s t : State) : (s.outside t).aonUp = s.aonUp := rfl

theorem inBlock_up (f : State → State) (h : s.up b = true) : s.inBlock b f = f s := by simp [State.inBlock, h]
theorem inBlock_off (f : State → State) (h : s.up b = false) : s.inBlock b f = s := by simp [State.inBlock, h]

/-- A unit that exists has its event. -/
theorem onUnit_in {n i : Nat} (f : State → State) (h : i < n) : s.onUnit n i f = f s := by simp [State.onUnit, h]

/-- A unit that does not exist has no event. -/
theorem onUnit_out {n i : Nat} (f : State → State) (h : ¬ i < n) : s.onUnit n i f = s := by simp [State.onUnit, h]

/-- A block that can act makes its change. -/
theorem run_up (f : State → State) (h : s.up b = true) : run b f s = s.become (f s) := by simp [run, State.inBlock, State.become, h]

/-- A block that cannot act changes nothing. -/
theorem run_off (f : State → State) (h : s.up b = false) : run b f s = .next s := by simp [run, State.inBlock, State.become, h]

theorem runOn_up {n i : Nat} (f : State → State) (hi : i < n) (h : s.up b = true) : runOn n i b f s = s.become (f s) := by
  simp [runOn, State.onUnit, State.inBlock, State.become, hi, h]

theorem runOn_off {n i : Nat} (f : State → State) (hi : i < n) (h : s.up b = false) : runOn n i b f s = .next s := by
  simp [runOn, State.onUnit, State.inBlock, State.become, hi, h]

/-- Nothing changes for a unit that does not exist (log 40). -/
theorem runOn_out {n i : Nat} (f : State → State) (h : ¬ i < n) : runOn n i b f s = .next s := by
  simp [runOn, State.onUnit, State.become, h]

theorem runSoft_up (f : State → State) (hs : s.soft = true) (h : s.up b = true) : runSoft b f s = s.become (f s) := by
  simp [runSoft, State.inBlock, State.become, hs, h]

theorem runSoft_off (f : State → State) (h : s.up b = false) : runSoft b f s = .next s := by
  simp [runSoft, State.inBlock, State.become, h]

theorem runSoft_early (f : State → State) (h : s.soft = false) : runSoft b f s = .next s := by simp [runSoft, State.become, h]

theorem runSoftOn_up {n i : Nat} (f : State → State) (hi : i < n) (hs : s.soft = true) (h : s.up b = true) :
    runSoftOn n i b f s = s.become (f s) := by
  simp [runSoftOn, State.onUnit, State.inBlock, State.become, hi, hs, h]

theorem runSoftOn_off {n i : Nat} (f : State → State) (hi : i < n) (h : s.up b = false) : runSoftOn n i b f s = .next s := by
  simp [runSoftOn, State.onUnit, State.inBlock, State.become, hi, h]

theorem runSoftOn_early {n i : Nat} (f : State → State) (hi : i < n) (h : s.soft = false) : runSoftOn n i b f s = .next s := by
  simp [runSoftOn, State.onUnit, State.become, hi, h]

theorem runAon_up (f : State → State) (h : s.aonUp = true) : runAon f s = s.become (f s) := by simp [runAon, State.become, h]
theorem runAon_off (f : State → State) (h : s.aonUp = false) : runAon f s = .next s := by simp [runAon, State.become, h]

theorem runSoftOn_out {n i : Nat} (f : State → State) (h : ¬ i < n) : runSoftOn n i b f s = .next s := by
  simp [runSoftOn, State.onUnit, State.become, h]

theorem runAonOn_up {n i : Nat} (f : State → State) (hi : i < n) (h : s.aonUp = true) : runAonOn n i f s = s.become (f s) := by
  simp [runAonOn, State.onUnit, State.become, hi, h]

theorem runAonOn_off {n i : Nat} (f : State → State) (h : s.aonUp = false) : runAonOn n i f s = .next s := by
  simp [runAonOn, State.onUnit, State.become, h]

/-- No block acts while the core domain is in reset. -/
theorem up_of_off (h : s.coreOn = false) (b : Nat) : s.up b = false := by simp [State.up, State.coreUp, h]

@[simp] theorem when_true (f : State → State) : s.when true f = f s := rfl
@[simp] theorem when_false (f : State → State) : s.when false f = s := rfl
@[simp] theorem each_nil {α : Type} (f : State → α → State) : s.each [] f = s := rfl
@[simp] theorem each_cons {α : Type} (a : α) (l : List α) (f : State → α → State) : s.each (a :: l) f = (f s a).each l f := rfl

end Sys2Proof.Machine
end

