-- ==== Sys2Proof/Laws/State.lean ====
section
/-! SUPPORT. What each update of the state leaves: one lemma per field and update, so that no proof unfolds a record update. -/
namespace Sys2Proof.Machine

variable (s : State)

/-! `State.wr` changes `regs` alone. -/

@[simp] theorem wr_pending (r : Reg) (i : Nat) (w : Word) : (s.wr r i w).pending = s.pending := rfl
@[simp] theorem wr_shadows (r : Reg) (i : Nat) (w : Word) : (s.wr r i w).shadows = s.shadows := rfl
@[simp] theorem wr_fresh (r : Reg) (i : Nat) (w : Word) : (s.wr r i w).fresh = s.fresh := rfl
@[simp] theorem wr_now (r : Reg) (i : Nat) (w : Word) : (s.wr r i w).now = s.now := rfl
@[simp] theorem wr_out (r : Reg) (i : Nat) (w : Word) : (s.wr r i w).out = s.out := rfl
@[simp] theorem wr_rsResp (r : Reg) (i : Nat) (w : Word) : (s.wr r i w).rsResp = s.rsResp := rfl
@[simp] theorem wr_mntResp (r : Reg) (i : Nat) (w : Word) : (s.wr r i w).mntResp = s.mntResp := rfl
@[simp] theorem wr_mntCut (r : Reg) (i : Nat) (w : Word) : (s.wr r i w).mntCut = s.mntCut := rfl
@[simp] theorem wr_porstLow (r : Reg) (i : Nat) (w : Word) : (s.wr r i w).porstLow = s.porstLow := rfl
@[simp] theorem wr_blkLow (r : Reg) (i : Nat) (w : Word) : (s.wr r i w).blkLow = s.blkLow := rfl
@[simp] theorem wr_coreClk (r : Reg) (i : Nat) (w : Word) : (s.wr r i w).coreClk = s.coreClk := rfl
@[simp] theorem wr_refClk (r : Reg) (i : Nat) (w : Word) : (s.wr r i w).refClk = s.refClk := rfl
@[simp] theorem wr_fusing (r : Reg) (i : Nat) (w : Word) : (s.wr r i w).fusing = s.fusing := rfl
@[simp] theorem wr_fuse (r : Reg) (i : Nat) (w : Word) : (s.wr r i w).fuse = s.fuse := rfl
@[simp] theorem wr_memInit (r : Reg) (i : Nat) (w : Word) : (s.wr r i w).memInit = s.memInit := rfl
@[simp] theorem wr_time (r : Reg) (i : Nat) (w : Word) : (s.wr r i w).time = s.time := rfl
@[simp] theorem wr_incrHeld (r : Reg) (i : Nat) (w : Word) : (s.wr r i w).incrHeld = s.incrHeld := rfl
@[simp] theorem wr_logCopy (r : Reg) (i : Nat) (w : Word) : (s.wr r i w).logCopy = s.logCopy := rfl
@[simp] theorem wr_bel (r : Reg) (i : Nat) (w : Word) : (s.wr r i w).bel = s.bel := rfl
@[simp] theorem wr_belLvl (r : Reg) (i : Nat) (w : Word) : (s.wr r i w).belLvl = s.belLvl := rfl
@[simp] theorem wr_belStack (r : Reg) (i : Nat) (w : Word) : (s.wr r i w).belStack = s.belStack := rfl
@[simp] theorem wr_vec (r : Reg) (i : Nat) (w : Word) : (s.wr r i w).vec = s.vec := rfl
@[simp] theorem wr_belClaims (r : Reg) (i : Nat) (w : Word) : (s.wr r i w).belClaims = s.belClaims := rfl
@[simp] theorem wr_pulsed (r : Reg) (i : Nat) (w : Word) : (s.wr r i w).pulsed = s.pulsed := rfl
@[simp] theorem wr_raised (r : Reg) (i : Nat) (w : Word) : (s.wr r i w).raised = s.raised := rfl
@[simp] theorem wr_faultSyn (r : Reg) (i : Nat) (w : Word) : (s.wr r i w).faultSyn = s.faultSyn := rfl
@[simp] theorem wr_episode (r : Reg) (i : Nat) (w : Word) : (s.wr r i w).episode = s.episode := rfl
@[simp] theorem wr_episodeFirst (r : Reg) (i : Nat) (w : Word) : (s.wr r i w).episodeFirst = s.episodeFirst := rfl
@[simp] theorem wr_blkReset (r : Reg) (i : Nat) (w : Word) : (s.wr r i w).blkReset = s.blkReset := rfl
@[simp] theorem wr_shadowed (r : Reg) (i : Nat) (w : Word) : (s.wr r i w).shadowed = s.shadowed := rfl
@[simp] theorem wr_injected (r : Reg) (i : Nat) (w : Word) : (s.wr r i w).injected = s.injected := rfl
@[simp] theorem wr_lantern (r : Reg) (i : Nat) (w : Word) : (s.wr r i w).lantern = s.lantern := rfl
@[simp] theorem wr_halfNow (r : Reg) (i : Nat) (w : Word) : (s.wr r i w).halfNow = s.halfNow := rfl
@[simp] theorem wr_logRing (r : Reg) (i : Nat) (w : Word) : (s.wr r i w).logRing = s.logRing := rfl
@[simp] theorem wr_logQ (r : Reg) (i : Nat) (w : Word) : (s.wr r i w).logQ = s.logQ := rfl
@[simp] theorem wr_img (r : Reg) (i : Nat) (w : Word) : (s.wr r i w).img = s.img := rfl
@[simp] theorem wr_frames (r : Reg) (i : Nat) (w : Word) : (s.wr r i w).frames = s.frames := rfl
@[simp] theorem wr_taken (r : Reg) (i : Nat) (w : Word) : (s.wr r i w).taken = s.taken := rfl
@[simp] theorem wr_lost (r : Reg) (i : Nat) (w : Word) : (s.wr r i w).lost = s.lost := rfl
@[simp] theorem wr_queues (r : Reg) (i : Nat) (w : Word) : (s.wr r i w).queues = s.queues := rfl
@[simp] theorem wr_fLast (r : Reg) (i : Nat) (w : Word) : (s.wr r i w).fLast = s.fLast := rfl
@[simp] theorem wr_qUsed (r : Reg) (i : Nat) (w : Word) : (s.wr r i w).qUsed = s.qUsed := rfl
@[simp] theorem wr_oldClass (r : Reg) (i : Nat) (w : Word) : (s.wr r i w).oldClass = s.oldClass := rfl
@[simp] theorem wr_cand (r : Reg) (i : Nat) (w : Word) : (s.wr r i w).cand = s.cand := rfl
@[simp] theorem wr_tx (r : Reg) (i : Nat) (w : Word) : (s.wr r i w).tx = s.tx := rfl
@[simp] theorem wr_rx (r : Reg) (i : Nat) (w : Word) : (s.wr r i w).rx = s.rx := rfl
@[simp] theorem wr_injEnd (r : Reg) (i : Nat) (w : Word) : (s.wr r i w).injEnd = s.injEnd := rfl
@[simp] theorem wr_seg (r : Reg) (i : Nat) (w : Word) : (s.wr r i w).seg = s.seg := rfl
@[simp] theorem wr_fldLink (r : Reg) (i : Nat) (w : Word) : (s.wr r i w).fldLink = s.fldLink := rfl
@[simp] theorem wr_mac (r : Reg) (i : Nat) (w : Word) : (s.wr r i w).mac = s.mac := rfl
@[simp] theorem wr_drrPtr (r : Reg) (i : Nat) (w : Word) : (s.wr r i w).drrPtr = s.drrPtr := rfl
@[simp] theorem wr_shaper (r : Reg) (i : Nat) (w : Word) : (s.wr r i w).shaper = s.shaper := rfl
@[simp] theorem wr_credit (r : Reg) (i : Nat) (w : Word) : (s.wr r i w).credit = s.credit := rfl
@[simp] theorem wr_hostQ (r : Reg) (i : Nat) (w : Word) : (s.wr r i w).hostQ = s.hostQ := rfl
@[simp] theorem wr_itkQ (r : Reg) (i : Nat) (w : Word) : (s.wr r i w).itkQ = s.itkQ := rfl
@[simp] theorem wr_etkQ (r : Reg) (i : Nat) (w : Word) : (s.wr r i w).etkQ = s.etkQ := rfl
@[simp] theorem wr_flow (r : Reg) (i : Nat) (w : Word) : (s.wr r i w).flow = s.flow := rfl
@[simp] theorem wr_pfx (r : Reg) (i : Nat) (w : Word) : (s.wr r i w).pfx = s.pfx := rfl
@[simp] theorem wr_clsA (r : Reg) (i : Nat) (w : Word) : (s.wr r i w).clsA = s.clsA := rfl
@[simp] theorem wr_clsS (r : Reg) (i : Nat) (w : Word) : (s.wr r i w).clsS = s.clsS := rfl
@[simp] theorem wr_journal (r : Reg) (i : Nat) (w : Word) : (s.wr r i w).journal = s.journal := rfl
@[simp] theorem wr_clsD (r : Reg) (i : Nat) (w : Word) : (s.wr r i w).clsD = s.clsD := rfl
@[simp] theorem wr_discardFailed (r : Reg) (i : Nat) (w : Word) : (s.wr r i w).discardFailed = s.discardFailed := rfl
@[simp] theorem wr_drainWarned (r : Reg) (i : Nat) (w : Word) : (s.wr r i w).drainWarned = s.drainWarned := rfl
@[simp] theorem wr_tae (r : Reg) (i : Nat) (w : Word) : (s.wr r i w).tae = s.tae := rfl
@[simp] theorem wr_ctx (r : Reg) (i : Nat) (w : Word) : (s.wr r i w).ctx = s.ctx := rfl
@[simp] theorem wr_nodeCnt (r : Reg) (i : Nat) (w : Word) : (s.wr r i w).nodeCnt = s.nodeCnt := rfl
@[simp] theorem wr_sweepPass (r : Reg) (i : Nat) (w : Word) : (s.wr r i w).sweepPass = s.sweepPass := rfl
@[simp] theorem wr_sweepPos (r : Reg) (i : Nat) (w : Word) : (s.wr r i w).sweepPos = s.sweepPos := rfl
@[simp] theorem wr_agePeriod (r : Reg) (i : Nat) (w : Word) : (s.wr r i w).agePeriod = s.agePeriod := rfl
@[simp] theorem wr_portPol (r : Reg) (i : Nat) (w : Word) : (s.wr r i w).portPol = s.portPol := rfl
@[simp] theorem wr_flowPol (r : Reg) (i : Nat) (w : Word) : (s.wr r i w).flowPol = s.flowPol := rfl
@[simp] theorem wr_ocuWatchPos (r : Reg) (i : Nat) (w : Word) : (s.wr r i w).ocuWatchPos = s.ocuWatchPos := rfl
@[simp] theorem wr_ocuSweepHeld (r : Reg) (i : Nat) (w : Word) : (s.wr r i w).ocuSweepHeld = s.ocuSweepHeld := rfl
@[simp] theorem wr_ocuWatchHeld (r : Reg) (i : Nat) (w : Word) : (s.wr r i w).ocuWatchHeld = s.ocuWatchHeld := rfl
@[simp] theorem wr_ocuBuf (r : Reg) (i : Nat) (w : Word) : (s.wr r i w).ocuBuf = s.ocuBuf := rfl
@[simp] theorem wr_phase (r : Reg) (i : Nat) (w : Word) : (s.wr r i w).phase = s.phase := rfl
@[simp] theorem wr_gcl (r : Reg) (i : Nat) (w : Word) : (s.wr r i w).gcl = s.gcl := rfl
@[simp] theorem wr_gmem (r : Reg) (i : Nat) (w : Word) : (s.wr r i w).gmem = s.gmem := rfl
@[simp] theorem wr_clkRun (r : Reg) (i : Nat) (w : Word) : (s.wr r i w).clkRun = s.clkRun := rfl
@[simp] theorem wr_ext (r : Reg) (i : Nat) (w : Word) : (s.wr r i w).ext = s.ext := rfl
@[simp] theorem wr_extPort (r : Reg) (i : Nat) (w : Word) : (s.wr r i w).extPort = s.extPort := rfl
@[simp] theorem wr_extHold (r : Reg) (i : Nat) (w : Word) : (s.wr r i w).extHold = s.extHold := rfl
@[simp] theorem wr_rrNext (r : Reg) (i : Nat) (w : Word) : (s.wr r i w).rrNext = s.rrNext := rfl
@[simp] theorem wr_exp (r : Reg) (i : Nat) (w : Word) : (s.wr r i w).exp = s.exp := rfl
@[simp] theorem wr_dup (r : Reg) (i : Nat) (w : Word) : (s.wr r i w).dup = s.dup := rfl
@[simp] theorem wr_spiRun (r : Reg) (i : Nat) (w : Word) : (s.wr r i w).spiRun = s.spiRun := rfl
@[simp] theorem wr_dma (r : Reg) (i : Nat) (w : Word) : (s.wr r i w).dma = s.dma := rfl
@[simp] theorem wr_podl (r : Reg) (i : Nat) (w : Word) : (s.wr r i w).podl = s.podl := rfl
@[simp] theorem wr_settling (r : Reg) (i : Nat) (w : Word) : (s.wr r i w).settling = s.settling := rfl
@[simp] theorem wr_podlSeq (r : Reg) (i : Nat) (w : Word) : (s.wr r i w).podlSeq = s.podlSeq := rfl
@[simp] theorem wr_avsHit (r : Reg) (i : Nat) (w : Word) : (s.wr r i w).avsHit = s.avsHit := rfl
@[simp] theorem wr_avsNew (r : Reg) (i : Nat) (w : Word) : (s.wr r i w).avsNew = s.avsNew := rfl
@[simp] theorem wr_avsMin (r : Reg) (i : Nat) (w : Word) : (s.wr r i w).avsMin = s.avsMin := rfl
@[simp] theorem wr_grants (r : Reg) (i : Nat) (w : Word) : (s.wr r i w).grants = s.grants := rfl
@[simp] theorem wr_epochAt (r : Reg) (i : Nat) (w : Word) : (s.wr r i w).epochAt = s.epochAt := rfl
@[simp] theorem wr_spent (r : Reg) (i : Nat) (w : Word) : (s.wr r i w).spent = s.spent := rfl
@[simp] theorem wr_keep (r : Reg) (i : Nat) (w : Word) : (s.wr r i w).keep = s.keep := rfl
@[simp] theorem wr_mirror (r : Reg) (i : Nat) (w : Word) : (s.wr r i w).mirror = s.mirror := rfl
@[simp] theorem wr_ses (r : Reg) (i : Nat) (w : Word) : (s.wr r i w).ses = s.ses := rfl
@[simp] theorem wr_sesQ (r : Reg) (i : Nat) (w : Word) : (s.wr r i w).sesQ = s.sesQ := rfl
@[simp] theorem wr_sesFails (r : Reg) (i : Nat) (w : Word) : (s.wr r i w).sesFails = s.sesFails := rfl
@[simp] theorem wr_keys (r : Reg) (i : Nat) (w : Word) : (s.wr r i w).keys = s.keys := rfl
@[simp] theorem wr_sti (r : Reg) (i : Nat) (w : Word) : (s.wr r i w).sti = s.sti := rfl

/-! `State.put` changes `regs` alone. -/

@[simp] theorem put_pending (f : Fld) (i v : Nat) : (s.put f i v).pending = s.pending := rfl
@[simp] theorem put_shadows (f : Fld) (i v : Nat) : (s.put f i v).shadows = s.shadows := rfl
@[simp] theorem put_fresh (f : Fld) (i v : Nat) : (s.put f i v).fresh = s.fresh := rfl
@[simp] theorem put_now (f : Fld) (i v : Nat) : (s.put f i v).now = s.now := rfl
@[simp] theorem put_out (f : Fld) (i v : Nat) : (s.put f i v).out = s.out := rfl
@[simp] theorem put_rsResp (f : Fld) (i v : Nat) : (s.put f i v).rsResp = s.rsResp := rfl
@[simp] theorem put_mntResp (f : Fld) (i v : Nat) : (s.put f i v).mntResp = s.mntResp := rfl
@[simp] theorem put_mntCut (f : Fld) (i v : Nat) : (s.put f i v).mntCut = s.mntCut := rfl
@[simp] theorem put_porstLow (f : Fld) (i v : Nat) : (s.put f i v).porstLow = s.porstLow := rfl
@[simp] theorem put_blkLow (f : Fld) (i v : Nat) : (s.put f i v).blkLow = s.blkLow := rfl
@[simp] theorem put_coreClk (f : Fld) (i v : Nat) : (s.put f i v).coreClk = s.coreClk := rfl
@[simp] theorem put_refClk (f : Fld) (i v : Nat) : (s.put f i v).refClk = s.refClk := rfl
@[simp] theorem put_fusing (f : Fld) (i v : Nat) : (s.put f i v).fusing = s.fusing := rfl
@[simp] theorem put_fuse (f : Fld) (i v : Nat) : (s.put f i v).fuse = s.fuse := rfl
@[simp] theorem put_memInit (f : Fld) (i v : Nat) : (s.put f i v).memInit = s.memInit := rfl
@[simp] theorem put_time (f : Fld) (i v : Nat) : (s.put f i v).time = s.time := rfl
@[simp] theorem put_incrHeld (f : Fld) (i v : Nat) : (s.put f i v).incrHeld = s.incrHeld := rfl
@[simp] theorem put_logCopy (f : Fld) (i v : Nat) : (s.put f i v).logCopy = s.logCopy := rfl
@[simp] theorem put_bel (f : Fld) (i v : Nat) : (s.put f i v).bel = s.bel := rfl
@[simp] theorem put_belLvl (f : Fld) (i v : Nat) : (s.put f i v).belLvl = s.belLvl := rfl
@[simp] theorem put_belStack (f : Fld) (i v : Nat) : (s.put f i v).belStack = s.belStack := rfl
@[simp] theorem put_vec (f : Fld) (i v : Nat) : (s.put f i v).vec = s.vec := rfl
@[simp] theorem put_belClaims (f : Fld) (i v : Nat) : (s.put f i v).belClaims = s.belClaims := rfl
@[simp] theorem put_pulsed (f : Fld) (i v : Nat) : (s.put f i v).pulsed = s.pulsed := rfl
@[simp] theorem put_raised (f : Fld) (i v : Nat) : (s.put f i v).raised = s.raised := rfl
@[simp] theorem put_faultSyn (f : Fld) (i v : Nat) : (s.put f i v).faultSyn = s.faultSyn := rfl
@[simp] theorem put_episode (f : Fld) (i v : Nat) : (s.put f i v).episode = s.episode := rfl
@[simp] theorem put_episodeFirst (f : Fld) (i v : Nat) : (s.put f i v).episodeFirst = s.episodeFirst := rfl
@[simp] theorem put_blkReset (f : Fld) (i v : Nat) : (s.put f i v).blkReset = s.blkReset := rfl
@[simp] theorem put_shadowed (f : Fld) (i v : Nat) : (s.put f i v).shadowed = s.shadowed := rfl
@[simp] theorem put_injected (f : Fld) (i v : Nat) : (s.put f i v).injected = s.injected := rfl
@[simp] theorem put_lantern (f : Fld) (i v : Nat) : (s.put f i v).lantern = s.lantern := rfl
@[simp] theorem put_halfNow (f : Fld) (i v : Nat) : (s.put f i v).halfNow = s.halfNow := rfl
@[simp] theorem put_logRing (f : Fld) (i v : Nat) : (s.put f i v).logRing = s.logRing := rfl
@[simp] theorem put_logQ (f : Fld) (i v : Nat) : (s.put f i v).logQ = s.logQ := rfl
@[simp] theorem put_img (f : Fld) (i v : Nat) : (s.put f i v).img = s.img := rfl
@[simp] theorem put_frames (f : Fld) (i v : Nat) : (s.put f i v).frames = s.frames := rfl
@[simp] theorem put_taken (f : Fld) (i v : Nat) : (s.put f i v).taken = s.taken := rfl
@[simp] theorem put_lost (f : Fld) (i v : Nat) : (s.put f i v).lost = s.lost := rfl
@[simp] theorem put_queues (f : Fld) (i v : Nat) : (s.put f i v).queues = s.queues := rfl
@[simp] theorem put_fLast (f : Fld) (i v : Nat) : (s.put f i v).fLast = s.fLast := rfl
@[simp] theorem put_qUsed (f : Fld) (i v : Nat) : (s.put f i v).qUsed = s.qUsed := rfl
@[simp] theorem put_oldClass (f : Fld) (i v : Nat) : (s.put f i v).oldClass = s.oldClass := rfl
@[simp] theorem put_cand (f : Fld) (i v : Nat) : (s.put f i v).cand = s.cand := rfl
@[simp] theorem put_tx (f : Fld) (i v : Nat) : (s.put f i v).tx = s.tx := rfl
@[simp] theorem put_rx (f : Fld) (i v : Nat) : (s.put f i v).rx = s.rx := rfl
@[simp] theorem put_injEnd (f : Fld) (i v : Nat) : (s.put f i v).injEnd = s.injEnd := rfl
@[simp] theorem put_seg (f : Fld) (i v : Nat) : (s.put f i v).seg = s.seg := rfl
@[simp] theorem put_fldLink (f : Fld) (i v : Nat) : (s.put f i v).fldLink = s.fldLink := rfl
@[simp] theorem put_mac (f : Fld) (i v : Nat) : (s.put f i v).mac = s.mac := rfl
@[simp] theorem put_drrPtr (f : Fld) (i v : Nat) : (s.put f i v).drrPtr = s.drrPtr := rfl
@[simp] theorem put_shaper (f : Fld) (i v : Nat) : (s.put f i v).shaper = s.shaper := rfl
@[simp] theorem put_credit (f : Fld) (i v : Nat) : (s.put f i v).credit = s.credit := rfl
@[simp] theorem put_hostQ (f : Fld) (i v : Nat) : (s.put f i v).hostQ = s.hostQ := rfl
@[simp] theorem put_itkQ (f : Fld) (i v : Nat) : (s.put f i v).itkQ = s.itkQ := rfl
@[simp] theorem put_etkQ (f : Fld) (i v : Nat) : (s.put f i v).etkQ = s.etkQ := rfl
@[simp] theorem put_flow (f : Fld) (i v : Nat) : (s.put f i v).flow = s.flow := rfl
@[simp] theorem put_pfx (f : Fld) (i v : Nat) : (s.put f i v).pfx = s.pfx := rfl
@[simp] theorem put_clsA (f : Fld) (i v : Nat) : (s.put f i v).clsA = s.clsA := rfl
@[simp] theorem put_clsS (f : Fld) (i v : Nat) : (s.put f i v).clsS = s.clsS := rfl
@[simp] theorem put_journal (f : Fld) (i v : Nat) : (s.put f i v).journal = s.journal := rfl
@[simp] theorem put_clsD (f : Fld) (i v : Nat) : (s.put f i v).clsD = s.clsD := rfl
@[simp] theorem put_discardFailed (f : Fld) (i v : Nat) : (s.put f i v).discardFailed = s.discardFailed := rfl
@[simp] theorem put_drainWarned (f : Fld) (i v : Nat) : (s.put f i v).drainWarned = s.drainWarned := rfl
@[simp] theorem put_tae (f : Fld) (i v : Nat) : (s.put f i v).tae = s.tae := rfl
@[simp] theorem put_ctx (f : Fld) (i v : Nat) : (s.put f i v).ctx = s.ctx := rfl
@[simp] theorem put_nodeCnt (f : Fld) (i v : Nat) : (s.put f i v).nodeCnt = s.nodeCnt := rfl
@[simp] theorem put_sweepPass (f : Fld) (i v : Nat) : (s.put f i v).sweepPass = s.sweepPass := rfl
@[simp] theorem put_sweepPos (f : Fld) (i v : Nat) : (s.put f i v).sweepPos = s.sweepPos := rfl
@[simp] theorem put_agePeriod (f : Fld) (i v : Nat) : (s.put f i v).agePeriod = s.agePeriod := rfl
@[simp] theorem put_portPol (f : Fld) (i v : Nat) : (s.put f i v).portPol = s.portPol := rfl
@[simp] theorem put_flowPol (f : Fld) (i v : Nat) : (s.put f i v).flowPol = s.flowPol := rfl
@[simp] theorem put_ocuWatchPos (f : Fld) (i v : Nat) : (s.put f i v).ocuWatchPos = s.ocuWatchPos := rfl
@[simp] theorem put_ocuSweepHeld (f : Fld) (i v : Nat) : (s.put f i v).ocuSweepHeld = s.ocuSweepHeld := rfl
@[simp] theorem put_ocuWatchHeld (f : Fld) (i v : Nat) : (s.put f i v).ocuWatchHeld = s.ocuWatchHeld := rfl
@[simp] theorem put_ocuBuf (f : Fld) (i v : Nat) : (s.put f i v).ocuBuf = s.ocuBuf := rfl
@[simp] theorem put_phase (f : Fld) (i v : Nat) : (s.put f i v).phase = s.phase := rfl
@[simp] theorem put_gcl (f : Fld) (i v : Nat) : (s.put f i v).gcl = s.gcl := rfl
@[simp] theorem put_gmem (f : Fld) (i v : Nat) : (s.put f i v).gmem = s.gmem := rfl
@[simp] theorem put_clkRun (f : Fld) (i v : Nat) : (s.put f i v).clkRun = s.clkRun := rfl
@[simp] theorem put_ext (f : Fld) (i v : Nat) : (s.put f i v).ext = s.ext := rfl
@[simp] theorem put_extPort (f : Fld) (i v : Nat) : (s.put f i v).extPort = s.extPort := rfl
@[simp] theorem put_extHold (f : Fld) (i v : Nat) : (s.put f i v).extHold = s.extHold := rfl
@[simp] theorem put_rrNext (f : Fld) (i v : Nat) : (s.put f i v).rrNext = s.rrNext := rfl
@[simp] theorem put_exp (f : Fld) (i v : Nat) : (s.put f i v).exp = s.exp := rfl
@[simp] theorem put_dup (f : Fld) (i v : Nat) : (s.put f i v).dup = s.dup := rfl
@[simp] theorem put_spiRun (f : Fld) (i v : Nat) : (s.put f i v).spiRun = s.spiRun := rfl
@[simp] theorem put_dma (f : Fld) (i v : Nat) : (s.put f i v).dma = s.dma := rfl
@[simp] theorem put_podl (f : Fld) (i v : Nat) : (s.put f i v).podl = s.podl := rfl
@[simp] theorem put_settling (f : Fld) (i v : Nat) : (s.put f i v).settling = s.settling := rfl
@[simp] theorem put_podlSeq (f : Fld) (i v : Nat) : (s.put f i v).podlSeq = s.podlSeq := rfl
@[simp] theorem put_avsHit (f : Fld) (i v : Nat) : (s.put f i v).avsHit = s.avsHit := rfl
@[simp] theorem put_avsNew (f : Fld) (i v : Nat) : (s.put f i v).avsNew = s.avsNew := rfl
@[simp] theorem put_avsMin (f : Fld) (i v : Nat) : (s.put f i v).avsMin = s.avsMin := rfl
@[simp] theorem put_grants (f : Fld) (i v : Nat) : (s.put f i v).grants = s.grants := rfl
@[simp] theorem put_epochAt (f : Fld) (i v : Nat) : (s.put f i v).epochAt = s.epochAt := rfl
@[simp] theorem put_spent (f : Fld) (i v : Nat) : (s.put f i v).spent = s.spent := rfl
@[simp] theorem put_keep (f : Fld) (i v : Nat) : (s.put f i v).keep = s.keep := rfl
@[simp] theorem put_mirror (f : Fld) (i v : Nat) : (s.put f i v).mirror = s.mirror := rfl
@[simp] theorem put_ses (f : Fld) (i v : Nat) : (s.put f i v).ses = s.ses := rfl
@[simp] theorem put_sesQ (f : Fld) (i v : Nat) : (s.put f i v).sesQ = s.sesQ := rfl
@[simp] theorem put_sesFails (f : Fld) (i v : Nat) : (s.put f i v).sesFails = s.sesFails := rfl
@[simp] theorem put_keys (f : Fld) (i v : Nat) : (s.put f i v).keys = s.keys := rfl
@[simp] theorem put_sti (f : Fld) (i v : Nat) : (s.put f i v).sti = s.sti := rfl

/-! `State.used` changes `fresh` alone. -/

@[simp] theorem used_pending : (s.used).pending = s.pending := rfl
@[simp] theorem used_regs : (s.used).regs = s.regs := rfl
@[simp] theorem used_shadows : (s.used).shadows = s.shadows := rfl
@[simp] theorem used_now : (s.used).now = s.now := rfl
@[simp] theorem used_out : (s.used).out = s.out := rfl
@[simp] theorem used_rsResp : (s.used).rsResp = s.rsResp := rfl
@[simp] theorem used_mntResp : (s.used).mntResp = s.mntResp := rfl
@[simp] theorem used_mntCut : (s.used).mntCut = s.mntCut := rfl
@[simp] theorem used_porstLow : (s.used).porstLow = s.porstLow := rfl
@[simp] theorem used_blkLow : (s.used).blkLow = s.blkLow := rfl
@[simp] theorem used_coreClk : (s.used).coreClk = s.coreClk := rfl
@[simp] theorem used_refClk : (s.used).refClk = s.refClk := rfl
@[simp] theorem used_fusing : (s.used).fusing = s.fusing := rfl
@[simp] theorem used_fuse : (s.used).fuse = s.fuse := rfl
@[simp] theorem used_memInit : (s.used).memInit = s.memInit := rfl
@[simp] theorem used_time : (s.used).time = s.time := rfl
@[simp] theorem used_incrHeld : (s.used).incrHeld = s.incrHeld := rfl
@[simp] theorem used_logCopy : (s.used).logCopy = s.logCopy := rfl
@[simp] theorem used_bel : (s.used).bel = s.bel := rfl
@[simp] theorem used_belLvl : (s.used).belLvl = s.belLvl := rfl
@[simp] theorem used_belStack : (s.used).belStack = s.belStack := rfl
@[simp] theorem used_vec : (s.used).vec = s.vec := rfl
@[simp] theorem used_belClaims : (s.used).belClaims = s.belClaims := rfl
@[simp] theorem used_pulsed : (s.used).pulsed = s.pulsed := rfl
@[simp] theorem used_raised : (s.used).raised = s.raised := rfl
@[simp] theorem used_faultSyn : (s.used).faultSyn = s.faultSyn := rfl
@[simp] theorem used_episode : (s.used).episode = s.episode := rfl
@[simp] theorem used_episodeFirst : (s.used).episodeFirst = s.episodeFirst := rfl
@[simp] theorem used_blkReset : (s.used).blkReset = s.blkReset := rfl
@[simp] theorem used_shadowed : (s.used).shadowed = s.shadowed := rfl
@[simp] theorem used_injected : (s.used).injected = s.injected := rfl
@[simp] theorem used_lantern : (s.used).lantern = s.lantern := rfl
@[simp] theorem used_halfNow : (s.used).halfNow = s.halfNow := rfl
@[simp] theorem used_logRing : (s.used).logRing = s.logRing := rfl
@[simp] theorem used_logQ : (s.used).logQ = s.logQ := rfl
@[simp] theorem used_img : (s.used).img = s.img := rfl
@[simp] theorem used_frames : (s.used).frames = s.frames := rfl
@[simp] theorem used_taken : (s.used).taken = s.taken := rfl
@[simp] theorem used_lost : (s.used).lost = s.lost := rfl
@[simp] theorem used_queues : (s.used).queues = s.queues := rfl
@[simp] theorem used_fLast : (s.used).fLast = s.fLast := rfl
@[simp] theorem used_qUsed : (s.used).qUsed = s.qUsed := rfl
@[simp] theorem used_oldClass : (s.used).oldClass = s.oldClass := rfl
@[simp] theorem used_cand : (s.used).cand = s.cand := rfl
@[simp] theorem used_tx : (s.used).tx = s.tx := rfl
@[simp] theorem used_rx : (s.used).rx = s.rx := rfl
@[simp] theorem used_injEnd : (s.used).injEnd = s.injEnd := rfl
@[simp] theorem used_seg : (s.used).seg = s.seg := rfl
@[simp] theorem used_fldLink : (s.used).fldLink = s.fldLink := rfl
@[simp] theorem used_mac : (s.used).mac = s.mac := rfl
@[simp] theorem used_drrPtr : (s.used).drrPtr = s.drrPtr := rfl
@[simp] theorem used_shaper : (s.used).shaper = s.shaper := rfl
@[simp] theorem used_credit : (s.used).credit = s.credit := rfl
@[simp] theorem used_hostQ : (s.used).hostQ = s.hostQ := rfl
@[simp] theorem used_itkQ : (s.used).itkQ = s.itkQ := rfl
@[simp] theorem used_etkQ : (s.used).etkQ = s.etkQ := rfl
@[simp] theorem used_flow : (s.used).flow = s.flow := rfl
@[simp] theorem used_pfx : (s.used).pfx = s.pfx := rfl
@[simp] theorem used_clsA : (s.used).clsA = s.clsA := rfl
@[simp] theorem used_clsS : (s.used).clsS = s.clsS := rfl
@[simp] theorem used_journal : (s.used).journal = s.journal := rfl
@[simp] theorem used_clsD : (s.used).clsD = s.clsD := rfl
@[simp] theorem used_discardFailed : (s.used).discardFailed = s.discardFailed := rfl
@[simp] theorem used_drainWarned : (s.used).drainWarned = s.drainWarned := rfl
@[simp] theorem used_tae : (s.used).tae = s.tae := rfl
@[simp] theorem used_ctx : (s.used).ctx = s.ctx := rfl
@[simp] theorem used_nodeCnt : (s.used).nodeCnt = s.nodeCnt := rfl
@[simp] theorem used_sweepPass : (s.used).sweepPass = s.sweepPass := rfl
@[simp] theorem used_sweepPos : (s.used).sweepPos = s.sweepPos := rfl
@[simp] theorem used_agePeriod : (s.used).agePeriod = s.agePeriod := rfl
@[simp] theorem used_portPol : (s.used).portPol = s.portPol := rfl
@[simp] theorem used_flowPol : (s.used).flowPol = s.flowPol := rfl
@[simp] theorem used_ocuWatchPos : (s.used).ocuWatchPos = s.ocuWatchPos := rfl
@[simp] theorem used_ocuSweepHeld : (s.used).ocuSweepHeld = s.ocuSweepHeld := rfl
@[simp] theorem used_ocuWatchHeld : (s.used).ocuWatchHeld = s.ocuWatchHeld := rfl
@[simp] theorem used_ocuBuf : (s.used).ocuBuf = s.ocuBuf := rfl
@[simp] theorem used_phase : (s.used).phase = s.phase := rfl
@[simp] theorem used_gcl : (s.used).gcl = s.gcl := rfl
@[simp] theorem used_gmem : (s.used).gmem = s.gmem := rfl
@[simp] theorem used_clkRun : (s.used).clkRun = s.clkRun := rfl
@[simp] theorem used_ext : (s.used).ext = s.ext := rfl
@[simp] theorem used_extPort : (s.used).extPort = s.extPort := rfl
@[simp] theorem used_extHold : (s.used).extHold = s.extHold := rfl
@[simp] theorem used_rrNext : (s.used).rrNext = s.rrNext := rfl
@[simp] theorem used_exp : (s.used).exp = s.exp := rfl
@[simp] theorem used_dup : (s.used).dup = s.dup := rfl
@[simp] theorem used_spiRun : (s.used).spiRun = s.spiRun := rfl
@[simp] theorem used_dma : (s.used).dma = s.dma := rfl
@[simp] theorem used_podl : (s.used).podl = s.podl := rfl
@[simp] theorem used_settling : (s.used).settling = s.settling := rfl
@[simp] theorem used_podlSeq : (s.used).podlSeq = s.podlSeq := rfl
@[simp] theorem used_avsHit : (s.used).avsHit = s.avsHit := rfl
@[simp] theorem used_avsNew : (s.used).avsNew = s.avsNew := rfl
@[simp] theorem used_avsMin : (s.used).avsMin = s.avsMin := rfl
@[simp] theorem used_grants : (s.used).grants = s.grants := rfl
@[simp] theorem used_epochAt : (s.used).epochAt = s.epochAt := rfl
@[simp] theorem used_spent : (s.used).spent = s.spent := rfl
@[simp] theorem used_keep : (s.used).keep = s.keep := rfl
@[simp] theorem used_mirror : (s.used).mirror = s.mirror := rfl
@[simp] theorem used_ses : (s.used).ses = s.ses := rfl
@[simp] theorem used_sesQ : (s.used).sesQ = s.sesQ := rfl
@[simp] theorem used_sesFails : (s.used).sesFails = s.sesFails := rfl
@[simp] theorem used_keys : (s.used).keys = s.keys := rfl
@[simp] theorem used_sti : (s.used).sti = s.sti := rfl

/-! `State.emit` changes `out` alone. -/

@[simp] theorem emit_pending (o : Output) : (s.emit o).pending = s.pending := rfl
@[simp] theorem emit_regs (o : Output) : (s.emit o).regs = s.regs := rfl
@[simp] theorem emit_shadows (o : Output) : (s.emit o).shadows = s.shadows := rfl
@[simp] theorem emit_fresh (o : Output) : (s.emit o).fresh = s.fresh := rfl
@[simp] theorem emit_now (o : Output) : (s.emit o).now = s.now := rfl
@[simp] theorem emit_rsResp (o : Output) : (s.emit o).rsResp = s.rsResp := rfl
@[simp] theorem emit_mntResp (o : Output) : (s.emit o).mntResp = s.mntResp := rfl
@[simp] theorem emit_mntCut (o : Output) : (s.emit o).mntCut = s.mntCut := rfl
@[simp] theorem emit_porstLow (o : Output) : (s.emit o).porstLow = s.porstLow := rfl
@[simp] theorem emit_blkLow (o : Output) : (s.emit o).blkLow = s.blkLow := rfl
@[simp] theorem emit_coreClk (o : Output) : (s.emit o).coreClk = s.coreClk := rfl
@[simp] theorem emit_refClk (o : Output) : (s.emit o).refClk = s.refClk := rfl
@[simp] theorem emit_fusing (o : Output) : (s.emit o).fusing = s.fusing := rfl
@[simp] theorem emit_fuse (o : Output) : (s.emit o).fuse = s.fuse := rfl
@[simp] theorem emit_memInit (o : Output) : (s.emit o).memInit = s.memInit := rfl
@[simp] theorem emit_time (o : Output) : (s.emit o).time = s.time := rfl
@[simp] theorem emit_incrHeld (o : Output) : (s.emit o).incrHeld = s.incrHeld := rfl
@[simp] theorem emit_logCopy (o : Output) : (s.emit o).logCopy = s.logCopy := rfl
@[simp] theorem emit_bel (o : Output) : (s.emit o).bel = s.bel := rfl
@[simp] theorem emit_belLvl (o : Output) : (s.emit o).belLvl = s.belLvl := rfl
@[simp] theorem emit_belStack (o : Output) : (s.emit o).belStack = s.belStack := rfl
@[simp] theorem emit_vec (o : Output) : (s.emit o).vec = s.vec := rfl
@[simp] theorem emit_belClaims (o : Output) : (s.emit o).belClaims = s.belClaims := rfl
@[simp] theorem emit_pulsed (o : Output) : (s.emit o).pulsed = s.pulsed := rfl
@[simp] theorem emit_raised (o : Output) : (s.emit o).raised = s.raised := rfl
@[simp] theorem emit_faultSyn (o : Output) : (s.emit o).faultSyn = s.faultSyn := rfl
@[simp] theorem emit_episode (o : Output) : (s.emit o).episode = s.episode := rfl
@[simp] theorem emit_episodeFirst (o : Output) : (s.emit o).episodeFirst = s.episodeFirst := rfl
@[simp] theorem emit_blkReset (o : Output) : (s.emit o).blkReset = s.blkReset := rfl
@[simp] theorem emit_shadowed (o : Output) : (s.emit o).shadowed = s.shadowed := rfl
@[simp] theorem emit_injected (o : Output) : (s.emit o).injected = s.injected := rfl
@[simp] theorem emit_lantern (o : Output) : (s.emit o).lantern = s.lantern := rfl
@[simp] theorem emit_halfNow (o : Output) : (s.emit o).halfNow = s.halfNow := rfl
@[simp] theorem emit_logRing (o : Output) : (s.emit o).logRing = s.logRing := rfl
@[simp] theorem emit_logQ (o : Output) : (s.emit o).logQ = s.logQ := rfl
@[simp] theorem emit_img (o : Output) : (s.emit o).img = s.img := rfl
@[simp] theorem emit_frames (o : Output) : (s.emit o).frames = s.frames := rfl
@[simp] theorem emit_taken (o : Output) : (s.emit o).taken = s.taken := rfl
@[simp] theorem emit_lost (o : Output) : (s.emit o).lost = s.lost := rfl
@[simp] theorem emit_queues (o : Output) : (s.emit o).queues = s.queues := rfl
@[simp] theorem emit_fLast (o : Output) : (s.emit o).fLast = s.fLast := rfl
@[simp] theorem emit_qUsed (o : Output) : (s.emit o).qUsed = s.qUsed := rfl
@[simp] theorem emit_oldClass (o : Output) : (s.emit o).oldClass = s.oldClass := rfl
@[simp] theorem emit_cand (o : Output) : (s.emit o).cand = s.cand := rfl
@[simp] theorem emit_tx (o : Output) : (s.emit o).tx = s.tx := rfl
@[simp] theorem emit_rx (o : Output) : (s.emit o).rx = s.rx := rfl
@[simp] theorem emit_injEnd (o : Output) : (s.emit o).injEnd = s.injEnd := rfl
@[simp] theorem emit_seg (o : Output) : (s.emit o).seg = s.seg := rfl
@[simp] theorem emit_fldLink (o : Output) : (s.emit o).fldLink = s.fldLink := rfl
@[simp] theorem emit_mac (o : Output) : (s.emit o).mac = s.mac := rfl
@[simp] theorem emit_drrPtr (o : Output) : (s.emit o).drrPtr = s.drrPtr := rfl
@[simp] theorem emit_shaper (o : Output) : (s.emit o).shaper = s.shaper := rfl
@[simp] theorem emit_credit (o : Output) : (s.emit o).credit = s.credit := rfl
@[simp] theorem emit_hostQ (o : Output) : (s.emit o).hostQ = s.hostQ := rfl
@[simp] theorem emit_itkQ (o : Output) : (s.emit o).itkQ = s.itkQ := rfl
@[simp] theorem emit_etkQ (o : Output) : (s.emit o).etkQ = s.etkQ := rfl
@[simp] theorem emit_flow (o : Output) : (s.emit o).flow = s.flow := rfl
@[simp] theorem emit_pfx (o : Output) : (s.emit o).pfx = s.pfx := rfl
@[simp] theorem emit_clsA (o : Output) : (s.emit o).clsA = s.clsA := rfl
@[simp] theorem emit_clsS (o : Output) : (s.emit o).clsS = s.clsS := rfl
@[simp] theorem emit_journal (o : Output) : (s.emit o).journal = s.journal := rfl
@[simp] theorem emit_clsD (o : Output) : (s.emit o).clsD = s.clsD := rfl
@[simp] theorem emit_discardFailed (o : Output) : (s.emit o).discardFailed = s.discardFailed := rfl
@[simp] theorem emit_drainWarned (o : Output) : (s.emit o).drainWarned = s.drainWarned := rfl
@[simp] theorem emit_tae (o : Output) : (s.emit o).tae = s.tae := rfl
@[simp] theorem emit_ctx (o : Output) : (s.emit o).ctx = s.ctx := rfl
@[simp] theorem emit_nodeCnt (o : Output) : (s.emit o).nodeCnt = s.nodeCnt := rfl
@[simp] theorem emit_sweepPass (o : Output) : (s.emit o).sweepPass = s.sweepPass := rfl
@[simp] theorem emit_sweepPos (o : Output) : (s.emit o).sweepPos = s.sweepPos := rfl
@[simp] theorem emit_agePeriod (o : Output) : (s.emit o).agePeriod = s.agePeriod := rfl
@[simp] theorem emit_portPol (o : Output) : (s.emit o).portPol = s.portPol := rfl
@[simp] theorem emit_flowPol (o : Output) : (s.emit o).flowPol = s.flowPol := rfl
@[simp] theorem emit_ocuWatchPos (o : Output) : (s.emit o).ocuWatchPos = s.ocuWatchPos := rfl
@[simp] theorem emit_ocuSweepHeld (o : Output) : (s.emit o).ocuSweepHeld = s.ocuSweepHeld := rfl
@[simp] theorem emit_ocuWatchHeld (o : Output) : (s.emit o).ocuWatchHeld = s.ocuWatchHeld := rfl
@[simp] theorem emit_ocuBuf (o : Output) : (s.emit o).ocuBuf = s.ocuBuf := rfl
@[simp] theorem emit_phase (o : Output) : (s.emit o).phase = s.phase := rfl
@[simp] theorem emit_gcl (o : Output) : (s.emit o).gcl = s.gcl := rfl
@[simp] theorem emit_gmem (o : Output) : (s.emit o).gmem = s.gmem := rfl
@[simp] theorem emit_clkRun (o : Output) : (s.emit o).clkRun = s.clkRun := rfl
@[simp] theorem emit_ext (o : Output) : (s.emit o).ext = s.ext := rfl
@[simp] theorem emit_extPort (o : Output) : (s.emit o).extPort = s.extPort := rfl
@[simp] theorem emit_extHold (o : Output) : (s.emit o).extHold = s.extHold := rfl
@[simp] theorem emit_rrNext (o : Output) : (s.emit o).rrNext = s.rrNext := rfl
@[simp] theorem emit_exp (o : Output) : (s.emit o).exp = s.exp := rfl
@[simp] theorem emit_dup (o : Output) : (s.emit o).dup = s.dup := rfl
@[simp] theorem emit_spiRun (o : Output) : (s.emit o).spiRun = s.spiRun := rfl
@[simp] theorem emit_dma (o : Output) : (s.emit o).dma = s.dma := rfl
@[simp] theorem emit_podl (o : Output) : (s.emit o).podl = s.podl := rfl
@[simp] theorem emit_settling (o : Output) : (s.emit o).settling = s.settling := rfl
@[simp] theorem emit_podlSeq (o : Output) : (s.emit o).podlSeq = s.podlSeq := rfl
@[simp] theorem emit_avsHit (o : Output) : (s.emit o).avsHit = s.avsHit := rfl
@[simp] theorem emit_avsNew (o : Output) : (s.emit o).avsNew = s.avsNew := rfl
@[simp] theorem emit_avsMin (o : Output) : (s.emit o).avsMin = s.avsMin := rfl
@[simp] theorem emit_grants (o : Output) : (s.emit o).grants = s.grants := rfl
@[simp] theorem emit_epochAt (o : Output) : (s.emit o).epochAt = s.epochAt := rfl
@[simp] theorem emit_spent (o : Output) : (s.emit o).spent = s.spent := rfl
@[simp] theorem emit_keep (o : Output) : (s.emit o).keep = s.keep := rfl
@[simp] theorem emit_mirror (o : Output) : (s.emit o).mirror = s.mirror := rfl
@[simp] theorem emit_ses (o : Output) : (s.emit o).ses = s.ses := rfl
@[simp] theorem emit_sesQ (o : Output) : (s.emit o).sesQ = s.sesQ := rfl
@[simp] theorem emit_sesFails (o : Output) : (s.emit o).sesFails = s.sesFails := rfl
@[simp] theorem emit_keys (o : Output) : (s.emit o).keys = s.keys := rfl
@[simp] theorem emit_sti (o : Output) : (s.emit o).sti = s.sti := rfl

/-! `State.setBel` changes `bel` alone. -/

@[simp] theorem setBel_pending (i : Nat) (b : BelSrc) : (s.setBel i b).pending = s.pending := rfl
@[simp] theorem setBel_regs (i : Nat) (b : BelSrc) : (s.setBel i b).regs = s.regs := rfl
@[simp] theorem setBel_shadows (i : Nat) (b : BelSrc) : (s.setBel i b).shadows = s.shadows := rfl
@[simp] theorem setBel_fresh (i : Nat) (b : BelSrc) : (s.setBel i b).fresh = s.fresh := rfl
@[simp] theorem setBel_now (i : Nat) (b : BelSrc) : (s.setBel i b).now = s.now := rfl
@[simp] theorem setBel_out (i : Nat) (b : BelSrc) : (s.setBel i b).out = s.out := rfl
@[simp] theorem setBel_rsResp (i : Nat) (b : BelSrc) : (s.setBel i b).rsResp = s.rsResp := rfl
@[simp] theorem setBel_mntResp (i : Nat) (b : BelSrc) : (s.setBel i b).mntResp = s.mntResp := rfl
@[simp] theorem setBel_mntCut (i : Nat) (b : BelSrc) : (s.setBel i b).mntCut = s.mntCut := rfl
@[simp] theorem setBel_porstLow (i : Nat) (b : BelSrc) : (s.setBel i b).porstLow = s.porstLow := rfl
@[simp] theorem setBel_blkLow (i : Nat) (b : BelSrc) : (s.setBel i b).blkLow = s.blkLow := rfl
@[simp] theorem setBel_coreClk (i : Nat) (b : BelSrc) : (s.setBel i b).coreClk = s.coreClk := rfl
@[simp] theorem setBel_refClk (i : Nat) (b : BelSrc) : (s.setBel i b).refClk = s.refClk := rfl
@[simp] theorem setBel_fusing (i : Nat) (b : BelSrc) : (s.setBel i b).fusing = s.fusing := rfl
@[simp] theorem setBel_fuse (i : Nat) (b : BelSrc) : (s.setBel i b).fuse = s.fuse := rfl
@[simp] theorem setBel_memInit (i : Nat) (b : BelSrc) : (s.setBel i b).memInit = s.memInit := rfl
@[simp] theorem setBel_time (i : Nat) (b : BelSrc) : (s.setBel i b).time = s.time := rfl
@[simp] theorem setBel_incrHeld (i : Nat) (b : BelSrc) : (s.setBel i b).incrHeld = s.incrHeld := rfl
@[simp] theorem setBel_logCopy (i : Nat) (b : BelSrc) : (s.setBel i b).logCopy = s.logCopy := rfl
@[simp] theorem setBel_belLvl (i : Nat) (b : BelSrc) : (s.setBel i b).belLvl = s.belLvl := rfl
@[simp] theorem setBel_belStack (i : Nat) (b : BelSrc) : (s.setBel i b).belStack = s.belStack := rfl
@[simp] theorem setBel_vec (i : Nat) (b : BelSrc) : (s.setBel i b).vec = s.vec := rfl
@[simp] theorem setBel_belClaims (i : Nat) (b : BelSrc) : (s.setBel i b).belClaims = s.belClaims := rfl
@[simp] theorem setBel_pulsed (i : Nat) (b : BelSrc) : (s.setBel i b).pulsed = s.pulsed := rfl
@[simp] theorem setBel_raised (i : Nat) (b : BelSrc) : (s.setBel i b).raised = s.raised := rfl
@[simp] theorem setBel_faultSyn (i : Nat) (b : BelSrc) : (s.setBel i b).faultSyn = s.faultSyn := rfl
@[simp] theorem setBel_episode (i : Nat) (b : BelSrc) : (s.setBel i b).episode = s.episode := rfl
@[simp] theorem setBel_episodeFirst (i : Nat) (b : BelSrc) : (s.setBel i b).episodeFirst = s.episodeFirst := rfl
@[simp] theorem setBel_blkReset (i : Nat) (b : BelSrc) : (s.setBel i b).blkReset = s.blkReset := rfl
@[simp] theorem setBel_shadowed (i : Nat) (b : BelSrc) : (s.setBel i b).shadowed = s.shadowed := rfl
@[simp] theorem setBel_injected (i : Nat) (b : BelSrc) : (s.setBel i b).injected = s.injected := rfl
@[simp] theorem setBel_lantern (i : Nat) (b : BelSrc) : (s.setBel i b).lantern = s.lantern := rfl
@[simp] theorem setBel_halfNow (i : Nat) (b : BelSrc) : (s.setBel i b).halfNow = s.halfNow := rfl
@[simp] theorem setBel_logRing (i : Nat) (b : BelSrc) : (s.setBel i b).logRing = s.logRing := rfl
@[simp] theorem setBel_logQ (i : Nat) (b : BelSrc) : (s.setBel i b).logQ = s.logQ := rfl
@[simp] theorem setBel_img (i : Nat) (b : BelSrc) : (s.setBel i b).img = s.img := rfl
@[simp] theorem setBel_frames (i : Nat) (b : BelSrc) : (s.setBel i b).frames = s.frames := rfl
@[simp] theorem setBel_taken (i : Nat) (b : BelSrc) : (s.setBel i b).taken = s.taken := rfl
@[simp] theorem setBel_lost (i : Nat) (b : BelSrc) : (s.setBel i b).lost = s.lost := rfl
@[simp] theorem setBel_queues (i : Nat) (b : BelSrc) : (s.setBel i b).queues = s.queues := rfl
@[simp] theorem setBel_fLast (i : Nat) (b : BelSrc) : (s.setBel i b).fLast = s.fLast := rfl
@[simp] theorem setBel_qUsed (i : Nat) (b : BelSrc) : (s.setBel i b).qUsed = s.qUsed := rfl
@[simp] theorem setBel_oldClass (i : Nat) (b : BelSrc) : (s.setBel i b).oldClass = s.oldClass := rfl
@[simp] theorem setBel_cand (i : Nat) (b : BelSrc) : (s.setBel i b).cand = s.cand := rfl
@[simp] theorem setBel_tx (i : Nat) (b : BelSrc) : (s.setBel i b).tx = s.tx := rfl
@[simp] theorem setBel_rx (i : Nat) (b : BelSrc) : (s.setBel i b).rx = s.rx := rfl
@[simp] theorem setBel_injEnd (i : Nat) (b : BelSrc) : (s.setBel i b).injEnd = s.injEnd := rfl
@[simp] theorem setBel_seg (i : Nat) (b : BelSrc) : (s.setBel i b).seg = s.seg := rfl
@[simp] theorem setBel_fldLink (i : Nat) (b : BelSrc) : (s.setBel i b).fldLink = s.fldLink := rfl
@[simp] theorem setBel_mac (i : Nat) (b : BelSrc) : (s.setBel i b).mac = s.mac := rfl
@[simp] theorem setBel_drrPtr (i : Nat) (b : BelSrc) : (s.setBel i b).drrPtr = s.drrPtr := rfl
@[simp] theorem setBel_shaper (i : Nat) (b : BelSrc) : (s.setBel i b).shaper = s.shaper := rfl
@[simp] theorem setBel_credit (i : Nat) (b : BelSrc) : (s.setBel i b).credit = s.credit := rfl
@[simp] theorem setBel_hostQ (i : Nat) (b : BelSrc) : (s.setBel i b).hostQ = s.hostQ := rfl
@[simp] theorem setBel_itkQ (i : Nat) (b : BelSrc) : (s.setBel i b).itkQ = s.itkQ := rfl
@[simp] theorem setBel_etkQ (i : Nat) (b : BelSrc) : (s.setBel i b).etkQ = s.etkQ := rfl
@[simp] theorem setBel_flow (i : Nat) (b : BelSrc) : (s.setBel i b).flow = s.flow := rfl
@[simp] theorem setBel_pfx (i : Nat) (b : BelSrc) : (s.setBel i b).pfx = s.pfx := rfl
@[simp] theorem setBel_clsA (i : Nat) (b : BelSrc) : (s.setBel i b).clsA = s.clsA := rfl
@[simp] theorem setBel_clsS (i : Nat) (b : BelSrc) : (s.setBel i b).clsS = s.clsS := rfl
@[simp] theorem setBel_journal (i : Nat) (b : BelSrc) : (s.setBel i b).journal = s.journal := rfl
@[simp] theorem setBel_clsD (i : Nat) (b : BelSrc) : (s.setBel i b).clsD = s.clsD := rfl
@[simp] theorem setBel_discardFailed (i : Nat) (b : BelSrc) : (s.setBel i b).discardFailed = s.discardFailed := rfl
@[simp] theorem setBel_drainWarned (i : Nat) (b : BelSrc) : (s.setBel i b).drainWarned = s.drainWarned := rfl
@[simp] theorem setBel_tae (i : Nat) (b : BelSrc) : (s.setBel i b).tae = s.tae := rfl
@[simp] theorem setBel_ctx (i : Nat) (b : BelSrc) : (s.setBel i b).ctx = s.ctx := rfl
@[simp] theorem setBel_nodeCnt (i : Nat) (b : BelSrc) : (s.setBel i b).nodeCnt = s.nodeCnt := rfl
@[simp] theorem setBel_sweepPass (i : Nat) (b : BelSrc) : (s.setBel i b).sweepPass = s.sweepPass := rfl
@[simp] theorem setBel_sweepPos (i : Nat) (b : BelSrc) : (s.setBel i b).sweepPos = s.sweepPos := rfl
@[simp] theorem setBel_agePeriod (i : Nat) (b : BelSrc) : (s.setBel i b).agePeriod = s.agePeriod := rfl
@[simp] theorem setBel_portPol (i : Nat) (b : BelSrc) : (s.setBel i b).portPol = s.portPol := rfl
@[simp] theorem setBel_flowPol (i : Nat) (b : BelSrc) : (s.setBel i b).flowPol = s.flowPol := rfl
@[simp] theorem setBel_ocuWatchPos (i : Nat) (b : BelSrc) : (s.setBel i b).ocuWatchPos = s.ocuWatchPos := rfl
@[simp] theorem setBel_ocuSweepHeld (i : Nat) (b : BelSrc) : (s.setBel i b).ocuSweepHeld = s.ocuSweepHeld := rfl
@[simp] theorem setBel_ocuWatchHeld (i : Nat) (b : BelSrc) : (s.setBel i b).ocuWatchHeld = s.ocuWatchHeld := rfl
@[simp] theorem setBel_ocuBuf (i : Nat) (b : BelSrc) : (s.setBel i b).ocuBuf = s.ocuBuf := rfl
@[simp] theorem setBel_phase (i : Nat) (b : BelSrc) : (s.setBel i b).phase = s.phase := rfl
@[simp] theorem setBel_gcl (i : Nat) (b : BelSrc) : (s.setBel i b).gcl = s.gcl := rfl
@[simp] theorem setBel_gmem (i : Nat) (b : BelSrc) : (s.setBel i b).gmem = s.gmem := rfl
@[simp] theorem setBel_clkRun (i : Nat) (b : BelSrc) : (s.setBel i b).clkRun = s.clkRun := rfl
@[simp] theorem setBel_ext (i : Nat) (b : BelSrc) : (s.setBel i b).ext = s.ext := rfl
@[simp] theorem setBel_extPort (i : Nat) (b : BelSrc) : (s.setBel i b).extPort = s.extPort := rfl
@[simp] theorem setBel_extHold (i : Nat) (b : BelSrc) : (s.setBel i b).extHold = s.extHold := rfl
@[simp] theorem setBel_rrNext (i : Nat) (b : BelSrc) : (s.setBel i b).rrNext = s.rrNext := rfl
@[simp] theorem setBel_exp (i : Nat) (b : BelSrc) : (s.setBel i b).exp = s.exp := rfl
@[simp] theorem setBel_dup (i : Nat) (b : BelSrc) : (s.setBel i b).dup = s.dup := rfl
@[simp] theorem setBel_spiRun (i : Nat) (b : BelSrc) : (s.setBel i b).spiRun = s.spiRun := rfl
@[simp] theorem setBel_dma (i : Nat) (b : BelSrc) : (s.setBel i b).dma = s.dma := rfl
@[simp] theorem setBel_podl (i : Nat) (b : BelSrc) : (s.setBel i b).podl = s.podl := rfl
@[simp] theorem setBel_settling (i : Nat) (b : BelSrc) : (s.setBel i b).settling = s.settling := rfl
@[simp] theorem setBel_podlSeq (i : Nat) (b : BelSrc) : (s.setBel i b).podlSeq = s.podlSeq := rfl
@[simp] theorem setBel_avsHit (i : Nat) (b : BelSrc) : (s.setBel i b).avsHit = s.avsHit := rfl
@[simp] theorem setBel_avsNew (i : Nat) (b : BelSrc) : (s.setBel i b).avsNew = s.avsNew := rfl
@[simp] theorem setBel_avsMin (i : Nat) (b : BelSrc) : (s.setBel i b).avsMin = s.avsMin := rfl
@[simp] theorem setBel_grants (i : Nat) (b : BelSrc) : (s.setBel i b).grants = s.grants := rfl
@[simp] theorem setBel_epochAt (i : Nat) (b : BelSrc) : (s.setBel i b).epochAt = s.epochAt := rfl
@[simp] theorem setBel_spent (i : Nat) (b : BelSrc) : (s.setBel i b).spent = s.spent := rfl
@[simp] theorem setBel_keep (i : Nat) (b : BelSrc) : (s.setBel i b).keep = s.keep := rfl
@[simp] theorem setBel_mirror (i : Nat) (b : BelSrc) : (s.setBel i b).mirror = s.mirror := rfl
@[simp] theorem setBel_ses (i : Nat) (b : BelSrc) : (s.setBel i b).ses = s.ses := rfl
@[simp] theorem setBel_sesQ (i : Nat) (b : BelSrc) : (s.setBel i b).sesQ = s.sesQ := rfl
@[simp] theorem setBel_sesFails (i : Nat) (b : BelSrc) : (s.setBel i b).sesFails = s.sesFails := rfl
@[simp] theorem setBel_keys (i : Nat) (b : BelSrc) : (s.setBel i b).keys = s.keys := rfl
@[simp] theorem setBel_sti (i : Nat) (b : BelSrc) : (s.setBel i b).sti = s.sti := rfl

/-! `State.setMac` changes `mac` alone. -/

@[simp] theorem setMac_pending (p : Nat) (m : Mac) : (s.setMac p m).pending = s.pending := rfl
@[simp] theorem setMac_regs (p : Nat) (m : Mac) : (s.setMac p m).regs = s.regs := rfl
@[simp] theorem setMac_shadows (p : Nat) (m : Mac) : (s.setMac p m).shadows = s.shadows := rfl
@[simp] theorem setMac_fresh (p : Nat) (m : Mac) : (s.setMac p m).fresh = s.fresh := rfl
@[simp] theorem setMac_now (p : Nat) (m : Mac) : (s.setMac p m).now = s.now := rfl
@[simp] theorem setMac_out (p : Nat) (m : Mac) : (s.setMac p m).out = s.out := rfl
@[simp] theorem setMac_rsResp (p : Nat) (m : Mac) : (s.setMac p m).rsResp = s.rsResp := rfl
@[simp] theorem setMac_mntResp (p : Nat) (m : Mac) : (s.setMac p m).mntResp = s.mntResp := rfl
@[simp] theorem setMac_mntCut (p : Nat) (m : Mac) : (s.setMac p m).mntCut = s.mntCut := rfl
@[simp] theorem setMac_porstLow (p : Nat) (m : Mac) : (s.setMac p m).porstLow = s.porstLow := rfl
@[simp] theorem setMac_blkLow (p : Nat) (m : Mac) : (s.setMac p m).blkLow = s.blkLow := rfl
@[simp] theorem setMac_coreClk (p : Nat) (m : Mac) : (s.setMac p m).coreClk = s.coreClk := rfl
@[simp] theorem setMac_refClk (p : Nat) (m : Mac) : (s.setMac p m).refClk = s.refClk := rfl
@[simp] theorem setMac_fusing (p : Nat) (m : Mac) : (s.setMac p m).fusing = s.fusing := rfl
@[simp] theorem setMac_fuse (p : Nat) (m : Mac) : (s.setMac p m).fuse = s.fuse := rfl
@[simp] theorem setMac_memInit (p : Nat) (m : Mac) : (s.setMac p m).memInit = s.memInit := rfl
@[simp] theorem setMac_time (p : Nat) (m : Mac) : (s.setMac p m).time = s.time := rfl
@[simp] theorem setMac_incrHeld (p : Nat) (m : Mac) : (s.setMac p m).incrHeld = s.incrHeld := rfl
@[simp] theorem setMac_logCopy (p : Nat) (m : Mac) : (s.setMac p m).logCopy = s.logCopy := rfl
@[simp] theorem setMac_bel (p : Nat) (m : Mac) : (s.setMac p m).bel = s.bel := rfl
@[simp] theorem setMac_belLvl (p : Nat) (m : Mac) : (s.setMac p m).belLvl = s.belLvl := rfl
@[simp] theorem setMac_belStack (p : Nat) (m : Mac) : (s.setMac p m).belStack = s.belStack := rfl
@[simp] theorem setMac_vec (p : Nat) (m : Mac) : (s.setMac p m).vec = s.vec := rfl
@[simp] theorem setMac_belClaims (p : Nat) (m : Mac) : (s.setMac p m).belClaims = s.belClaims := rfl
@[simp] theorem setMac_pulsed (p : Nat) (m : Mac) : (s.setMac p m).pulsed = s.pulsed := rfl
@[simp] theorem setMac_raised (p : Nat) (m : Mac) : (s.setMac p m).raised = s.raised := rfl
@[simp] theorem setMac_faultSyn (p : Nat) (m : Mac) : (s.setMac p m).faultSyn = s.faultSyn := rfl
@[simp] theorem setMac_episode (p : Nat) (m : Mac) : (s.setMac p m).episode = s.episode := rfl
@[simp] theorem setMac_episodeFirst (p : Nat) (m : Mac) : (s.setMac p m).episodeFirst = s.episodeFirst := rfl
@[simp] theorem setMac_blkReset (p : Nat) (m : Mac) : (s.setMac p m).blkReset = s.blkReset := rfl
@[simp] theorem setMac_shadowed (p : Nat) (m : Mac) : (s.setMac p m).shadowed = s.shadowed := rfl
@[simp] theorem setMac_injected (p : Nat) (m : Mac) : (s.setMac p m).injected = s.injected := rfl
@[simp] theorem setMac_lantern (p : Nat) (m : Mac) : (s.setMac p m).lantern = s.lantern := rfl
@[simp] theorem setMac_halfNow (p : Nat) (m : Mac) : (s.setMac p m).halfNow = s.halfNow := rfl
@[simp] theorem setMac_logRing (p : Nat) (m : Mac) : (s.setMac p m).logRing = s.logRing := rfl
@[simp] theorem setMac_logQ (p : Nat) (m : Mac) : (s.setMac p m).logQ = s.logQ := rfl
@[simp] theorem setMac_img (p : Nat) (m : Mac) : (s.setMac p m).img = s.img := rfl
@[simp] theorem setMac_frames (p : Nat) (m : Mac) : (s.setMac p m).frames = s.frames := rfl
@[simp] theorem setMac_taken (p : Nat) (m : Mac) : (s.setMac p m).taken = s.taken := rfl
@[simp] theorem setMac_lost (p : Nat) (m : Mac) : (s.setMac p m).lost = s.lost := rfl
@[simp] theorem setMac_queues (p : Nat) (m : Mac) : (s.setMac p m).queues = s.queues := rfl
@[simp] theorem setMac_fLast (p : Nat) (m : Mac) : (s.setMac p m).fLast = s.fLast := rfl
@[simp] theorem setMac_qUsed (p : Nat) (m : Mac) : (s.setMac p m).qUsed = s.qUsed := rfl
@[simp] theorem setMac_oldClass (p : Nat) (m : Mac) : (s.setMac p m).oldClass = s.oldClass := rfl
@[simp] theorem setMac_cand (p : Nat) (m : Mac) : (s.setMac p m).cand = s.cand := rfl
@[simp] theorem setMac_tx (p : Nat) (m : Mac) : (s.setMac p m).tx = s.tx := rfl
@[simp] theorem setMac_rx (p : Nat) (m : Mac) : (s.setMac p m).rx = s.rx := rfl
@[simp] theorem setMac_injEnd (p : Nat) (m : Mac) : (s.setMac p m).injEnd = s.injEnd := rfl
@[simp] theorem setMac_seg (p : Nat) (m : Mac) : (s.setMac p m).seg = s.seg := rfl
@[simp] theorem setMac_fldLink (p : Nat) (m : Mac) : (s.setMac p m).fldLink = s.fldLink := rfl
@[simp] theorem setMac_drrPtr (p : Nat) (m : Mac) : (s.setMac p m).drrPtr = s.drrPtr := rfl
@[simp] theorem setMac_shaper (p : Nat) (m : Mac) : (s.setMac p m).shaper = s.shaper := rfl
@[simp] theorem setMac_credit (p : Nat) (m : Mac) : (s.setMac p m).credit = s.credit := rfl
@[simp] theorem setMac_hostQ (p : Nat) (m : Mac) : (s.setMac p m).hostQ = s.hostQ := rfl
@[simp] theorem setMac_itkQ (p : Nat) (m : Mac) : (s.setMac p m).itkQ = s.itkQ := rfl
@[simp] theorem setMac_etkQ (p : Nat) (m : Mac) : (s.setMac p m).etkQ = s.etkQ := rfl
@[simp] theorem setMac_flow (p : Nat) (m : Mac) : (s.setMac p m).flow = s.flow := rfl
@[simp] theorem setMac_pfx (p : Nat) (m : Mac) : (s.setMac p m).pfx = s.pfx := rfl
@[simp] theorem setMac_clsA (p : Nat) (m : Mac) : (s.setMac p m).clsA = s.clsA := rfl
@[simp] theorem setMac_clsS (p : Nat) (m : Mac) : (s.setMac p m).clsS = s.clsS := rfl
@[simp] theorem setMac_journal (p : Nat) (m : Mac) : (s.setMac p m).journal = s.journal := rfl
@[simp] theorem setMac_clsD (p : Nat) (m : Mac) : (s.setMac p m).clsD = s.clsD := rfl
@[simp] theorem setMac_discardFailed (p : Nat) (m : Mac) : (s.setMac p m).discardFailed = s.discardFailed := rfl
@[simp] theorem setMac_drainWarned (p : Nat) (m : Mac) : (s.setMac p m).drainWarned = s.drainWarned := rfl
@[simp] theorem setMac_tae (p : Nat) (m : Mac) : (s.setMac p m).tae = s.tae := rfl
@[simp] theorem setMac_ctx (p : Nat) (m : Mac) : (s.setMac p m).ctx = s.ctx := rfl
@[simp] theorem setMac_nodeCnt (p : Nat) (m : Mac) : (s.setMac p m).nodeCnt = s.nodeCnt := rfl
@[simp] theorem setMac_sweepPass (p : Nat) (m : Mac) : (s.setMac p m).sweepPass = s.sweepPass := rfl
@[simp] theorem setMac_sweepPos (p : Nat) (m : Mac) : (s.setMac p m).sweepPos = s.sweepPos := rfl
@[simp] theorem setMac_agePeriod (p : Nat) (m : Mac) : (s.setMac p m).agePeriod = s.agePeriod := rfl
@[simp] theorem setMac_portPol (p : Nat) (m : Mac) : (s.setMac p m).portPol = s.portPol := rfl
@[simp] theorem setMac_flowPol (p : Nat) (m : Mac) : (s.setMac p m).flowPol = s.flowPol := rfl
@[simp] theorem setMac_ocuWatchPos (p : Nat) (m : Mac) : (s.setMac p m).ocuWatchPos = s.ocuWatchPos := rfl
@[simp] theorem setMac_ocuSweepHeld (p : Nat) (m : Mac) : (s.setMac p m).ocuSweepHeld = s.ocuSweepHeld := rfl
@[simp] theorem setMac_ocuWatchHeld (p : Nat) (m : Mac) : (s.setMac p m).ocuWatchHeld = s.ocuWatchHeld := rfl
@[simp] theorem setMac_ocuBuf (p : Nat) (m : Mac) : (s.setMac p m).ocuBuf = s.ocuBuf := rfl
@[simp] theorem setMac_phase (p : Nat) (m : Mac) : (s.setMac p m).phase = s.phase := rfl
@[simp] theorem setMac_gcl (p : Nat) (m : Mac) : (s.setMac p m).gcl = s.gcl := rfl
@[simp] theorem setMac_gmem (p : Nat) (m : Mac) : (s.setMac p m).gmem = s.gmem := rfl
@[simp] theorem setMac_clkRun (p : Nat) (m : Mac) : (s.setMac p m).clkRun = s.clkRun := rfl
@[simp] theorem setMac_ext (p : Nat) (m : Mac) : (s.setMac p m).ext = s.ext := rfl
@[simp] theorem setMac_extPort (p : Nat) (m : Mac) : (s.setMac p m).extPort = s.extPort := rfl
@[simp] theorem setMac_extHold (p : Nat) (m : Mac) : (s.setMac p m).extHold = s.extHold := rfl
@[simp] theorem setMac_rrNext (p : Nat) (m : Mac) : (s.setMac p m).rrNext = s.rrNext := rfl
@[simp] theorem setMac_exp (p : Nat) (m : Mac) : (s.setMac p m).exp = s.exp := rfl
@[simp] theorem setMac_dup (p : Nat) (m : Mac) : (s.setMac p m).dup = s.dup := rfl
@[simp] theorem setMac_spiRun (p : Nat) (m : Mac) : (s.setMac p m).spiRun = s.spiRun := rfl
@[simp] theorem setMac_dma (p : Nat) (m : Mac) : (s.setMac p m).dma = s.dma := rfl
@[simp] theorem setMac_podl (p : Nat) (m : Mac) : (s.setMac p m).podl = s.podl := rfl
@[simp] theorem setMac_settling (p : Nat) (m : Mac) : (s.setMac p m).settling = s.settling := rfl
@[simp] theorem setMac_podlSeq (p : Nat) (m : Mac) : (s.setMac p m).podlSeq = s.podlSeq := rfl
@[simp] theorem setMac_avsHit (p : Nat) (m : Mac) : (s.setMac p m).avsHit = s.avsHit := rfl
@[simp] theorem setMac_avsNew (p : Nat) (m : Mac) : (s.setMac p m).avsNew = s.avsNew := rfl
@[simp] theorem setMac_avsMin (p : Nat) (m : Mac) : (s.setMac p m).avsMin = s.avsMin := rfl
@[simp] theorem setMac_grants (p : Nat) (m : Mac) : (s.setMac p m).grants = s.grants := rfl
@[simp] theorem setMac_epochAt (p : Nat) (m : Mac) : (s.setMac p m).epochAt = s.epochAt := rfl
@[simp] theorem setMac_spent (p : Nat) (m : Mac) : (s.setMac p m).spent = s.spent := rfl
@[simp] theorem setMac_keep (p : Nat) (m : Mac) : (s.setMac p m).keep = s.keep := rfl
@[simp] theorem setMac_mirror (p : Nat) (m : Mac) : (s.setMac p m).mirror = s.mirror := rfl
@[simp] theorem setMac_ses (p : Nat) (m : Mac) : (s.setMac p m).ses = s.ses := rfl
@[simp] theorem setMac_sesQ (p : Nat) (m : Mac) : (s.setMac p m).sesQ = s.sesQ := rfl
@[simp] theorem setMac_sesFails (p : Nat) (m : Mac) : (s.setMac p m).sesFails = s.sesFails := rfl
@[simp] theorem setMac_keys (p : Nat) (m : Mac) : (s.setMac p m).keys = s.keys := rfl
@[simp] theorem setMac_sti (p : Nat) (m : Mac) : (s.setMac p m).sti = s.sti := rfl

/-! `State.setRx` changes `rx` alone. -/

@[simp] theorem setRx_pending (p : Nat) (r : Option Rx) : (s.setRx p r).pending = s.pending := rfl
@[simp] theorem setRx_regs (p : Nat) (r : Option Rx) : (s.setRx p r).regs = s.regs := rfl
@[simp] theorem setRx_shadows (p : Nat) (r : Option Rx) : (s.setRx p r).shadows = s.shadows := rfl
@[simp] theorem setRx_fresh (p : Nat) (r : Option Rx) : (s.setRx p r).fresh = s.fresh := rfl
@[simp] theorem setRx_now (p : Nat) (r : Option Rx) : (s.setRx p r).now = s.now := rfl
@[simp] theorem setRx_out (p : Nat) (r : Option Rx) : (s.setRx p r).out = s.out := rfl
@[simp] theorem setRx_rsResp (p : Nat) (r : Option Rx) : (s.setRx p r).rsResp = s.rsResp := rfl
@[simp] theorem setRx_mntResp (p : Nat) (r : Option Rx) : (s.setRx p r).mntResp = s.mntResp := rfl
@[simp] theorem setRx_mntCut (p : Nat) (r : Option Rx) : (s.setRx p r).mntCut = s.mntCut := rfl
@[simp] theorem setRx_porstLow (p : Nat) (r : Option Rx) : (s.setRx p r).porstLow = s.porstLow := rfl
@[simp] theorem setRx_blkLow (p : Nat) (r : Option Rx) : (s.setRx p r).blkLow = s.blkLow := rfl
@[simp] theorem setRx_coreClk (p : Nat) (r : Option Rx) : (s.setRx p r).coreClk = s.coreClk := rfl
@[simp] theorem setRx_refClk (p : Nat) (r : Option Rx) : (s.setRx p r).refClk = s.refClk := rfl
@[simp] theorem setRx_fusing (p : Nat) (r : Option Rx) : (s.setRx p r).fusing = s.fusing := rfl
@[simp] theorem setRx_fuse (p : Nat) (r : Option Rx) : (s.setRx p r).fuse = s.fuse := rfl
@[simp] theorem setRx_memInit (p : Nat) (r : Option Rx) : (s.setRx p r).memInit = s.memInit := rfl
@[simp] theorem setRx_time (p : Nat) (r : Option Rx) : (s.setRx p r).time = s.time := rfl
@[simp] theorem setRx_incrHeld (p : Nat) (r : Option Rx) : (s.setRx p r).incrHeld = s.incrHeld := rfl
@[simp] theorem setRx_logCopy (p : Nat) (r : Option Rx) : (s.setRx p r).logCopy = s.logCopy := rfl
@[simp] theorem setRx_bel (p : Nat) (r : Option Rx) : (s.setRx p r).bel = s.bel := rfl
@[simp] theorem setRx_belLvl (p : Nat) (r : Option Rx) : (s.setRx p r).belLvl = s.belLvl := rfl
@[simp] theorem setRx_belStack (p : Nat) (r : Option Rx) : (s.setRx p r).belStack = s.belStack := rfl
@[simp] theorem setRx_vec (p : Nat) (r : Option Rx) : (s.setRx p r).vec = s.vec := rfl
@[simp] theorem setRx_belClaims (p : Nat) (r : Option Rx) : (s.setRx p r).belClaims = s.belClaims := rfl
@[simp] theorem setRx_pulsed (p : Nat) (r : Option Rx) : (s.setRx p r).pulsed = s.pulsed := rfl
@[simp] theorem setRx_raised (p : Nat) (r : Option Rx) : (s.setRx p r).raised = s.raised := rfl
@[simp] theorem setRx_faultSyn (p : Nat) (r : Option Rx) : (s.setRx p r).faultSyn = s.faultSyn := rfl
@[simp] theorem setRx_episode (p : Nat) (r : Option Rx) : (s.setRx p r).episode = s.episode := rfl
@[simp] theorem setRx_episodeFirst (p : Nat) (r : Option Rx) : (s.setRx p r).episodeFirst = s.episodeFirst := rfl
@[simp] theorem setRx_blkReset (p : Nat) (r : Option Rx) : (s.setRx p r).blkReset = s.blkReset := rfl
@[simp] theorem setRx_shadowed (p : Nat) (r : Option Rx) : (s.setRx p r).shadowed = s.shadowed := rfl
@[simp] theorem setRx_injected (p : Nat) (r : Option Rx) : (s.setRx p r).injected = s.injected := rfl
@[simp] theorem setRx_lantern (p : Nat) (r : Option Rx) : (s.setRx p r).lantern = s.lantern := rfl
@[simp] theorem setRx_halfNow (p : Nat) (r : Option Rx) : (s.setRx p r).halfNow = s.halfNow := rfl
@[simp] theorem setRx_logRing (p : Nat) (r : Option Rx) : (s.setRx p r).logRing = s.logRing := rfl
@[simp] theorem setRx_logQ (p : Nat) (r : Option Rx) : (s.setRx p r).logQ = s.logQ := rfl
@[simp] theorem setRx_img (p : Nat) (r : Option Rx) : (s.setRx p r).img = s.img := rfl
@[simp] theorem setRx_frames (p : Nat) (r : Option Rx) : (s.setRx p r).frames = s.frames := rfl
@[simp] theorem setRx_taken (p : Nat) (r : Option Rx) : (s.setRx p r).taken = s.taken := rfl
@[simp] theorem setRx_lost (p : Nat) (r : Option Rx) : (s.setRx p r).lost = s.lost := rfl
@[simp] theorem setRx_queues (p : Nat) (r : Option Rx) : (s.setRx p r).queues = s.queues := rfl
@[simp] theorem setRx_fLast (p : Nat) (r : Option Rx) : (s.setRx p r).fLast = s.fLast := rfl
@[simp] theorem setRx_qUsed (p : Nat) (r : Option Rx) : (s.setRx p r).qUsed = s.qUsed := rfl
@[simp] theorem setRx_oldClass (p : Nat) (r : Option Rx) : (s.setRx p r).oldClass = s.oldClass := rfl
@[simp] theorem setRx_cand (p : Nat) (r : Option Rx) : (s.setRx p r).cand = s.cand := rfl
@[simp] theorem setRx_tx (p : Nat) (r : Option Rx) : (s.setRx p r).tx = s.tx := rfl
@[simp] theorem setRx_injEnd (p : Nat) (r : Option Rx) : (s.setRx p r).injEnd = s.injEnd := rfl
@[simp] theorem setRx_seg (p : Nat) (r : Option Rx) : (s.setRx p r).seg = s.seg := rfl
@[simp] theorem setRx_fldLink (p : Nat) (r : Option Rx) : (s.setRx p r).fldLink = s.fldLink := rfl
@[simp] theorem setRx_mac (p : Nat) (r : Option Rx) : (s.setRx p r).mac = s.mac := rfl
@[simp] theorem setRx_drrPtr (p : Nat) (r : Option Rx) : (s.setRx p r).drrPtr = s.drrPtr := rfl
@[simp] theorem setRx_shaper (p : Nat) (r : Option Rx) : (s.setRx p r).shaper = s.shaper := rfl
@[simp] theorem setRx_credit (p : Nat) (r : Option Rx) : (s.setRx p r).credit = s.credit := rfl
@[simp] theorem setRx_hostQ (p : Nat) (r : Option Rx) : (s.setRx p r).hostQ = s.hostQ := rfl
@[simp] theorem setRx_itkQ (p : Nat) (r : Option Rx) : (s.setRx p r).itkQ = s.itkQ := rfl
@[simp] theorem setRx_etkQ (p : Nat) (r : Option Rx) : (s.setRx p r).etkQ = s.etkQ := rfl
@[simp] theorem setRx_flow (p : Nat) (r : Option Rx) : (s.setRx p r).flow = s.flow := rfl
@[simp] theorem setRx_pfx (p : Nat) (r : Option Rx) : (s.setRx p r).pfx = s.pfx := rfl
@[simp] theorem setRx_clsA (p : Nat) (r : Option Rx) : (s.setRx p r).clsA = s.clsA := rfl
@[simp] theorem setRx_clsS (p : Nat) (r : Option Rx) : (s.setRx p r).clsS = s.clsS := rfl
@[simp] theorem setRx_journal (p : Nat) (r : Option Rx) : (s.setRx p r).journal = s.journal := rfl
@[simp] theorem setRx_clsD (p : Nat) (r : Option Rx) : (s.setRx p r).clsD = s.clsD := rfl
@[simp] theorem setRx_discardFailed (p : Nat) (r : Option Rx) : (s.setRx p r).discardFailed = s.discardFailed := rfl
@[simp] theorem setRx_drainWarned (p : Nat) (r : Option Rx) : (s.setRx p r).drainWarned = s.drainWarned := rfl
@[simp] theorem setRx_tae (p : Nat) (r : Option Rx) : (s.setRx p r).tae = s.tae := rfl
@[simp] theorem setRx_ctx (p : Nat) (r : Option Rx) : (s.setRx p r).ctx = s.ctx := rfl
@[simp] theorem setRx_nodeCnt (p : Nat) (r : Option Rx) : (s.setRx p r).nodeCnt = s.nodeCnt := rfl
@[simp] theorem setRx_sweepPass (p : Nat) (r : Option Rx) : (s.setRx p r).sweepPass = s.sweepPass := rfl
@[simp] theorem setRx_sweepPos (p : Nat) (r : Option Rx) : (s.setRx p r).sweepPos = s.sweepPos := rfl
@[simp] theorem setRx_agePeriod (p : Nat) (r : Option Rx) : (s.setRx p r).agePeriod = s.agePeriod := rfl
@[simp] theorem setRx_portPol (p : Nat) (r : Option Rx) : (s.setRx p r).portPol = s.portPol := rfl
@[simp] theorem setRx_flowPol (p : Nat) (r : Option Rx) : (s.setRx p r).flowPol = s.flowPol := rfl
@[simp] theorem setRx_ocuWatchPos (p : Nat) (r : Option Rx) : (s.setRx p r).ocuWatchPos = s.ocuWatchPos := rfl
@[simp] theorem setRx_ocuSweepHeld (p : Nat) (r : Option Rx) : (s.setRx p r).ocuSweepHeld = s.ocuSweepHeld := rfl
@[simp] theorem setRx_ocuWatchHeld (p : Nat) (r : Option Rx) : (s.setRx p r).ocuWatchHeld = s.ocuWatchHeld := rfl
@[simp] theorem setRx_ocuBuf (p : Nat) (r : Option Rx) : (s.setRx p r).ocuBuf = s.ocuBuf := rfl
@[simp] theorem setRx_phase (p : Nat) (r : Option Rx) : (s.setRx p r).phase = s.phase := rfl
@[simp] theorem setRx_gcl (p : Nat) (r : Option Rx) : (s.setRx p r).gcl = s.gcl := rfl
@[simp] theorem setRx_gmem (p : Nat) (r : Option Rx) : (s.setRx p r).gmem = s.gmem := rfl
@[simp] theorem setRx_clkRun (p : Nat) (r : Option Rx) : (s.setRx p r).clkRun = s.clkRun := rfl
@[simp] theorem setRx_ext (p : Nat) (r : Option Rx) : (s.setRx p r).ext = s.ext := rfl
@[simp] theorem setRx_extPort (p : Nat) (r : Option Rx) : (s.setRx p r).extPort = s.extPort := rfl
@[simp] theorem setRx_extHold (p : Nat) (r : Option Rx) : (s.setRx p r).extHold = s.extHold := rfl
@[simp] theorem setRx_rrNext (p : Nat) (r : Option Rx) : (s.setRx p r).rrNext = s.rrNext := rfl
@[simp] theorem setRx_exp (p : Nat) (r : Option Rx) : (s.setRx p r).exp = s.exp := rfl
@[simp] theorem setRx_dup (p : Nat) (r : Option Rx) : (s.setRx p r).dup = s.dup := rfl
@[simp] theorem setRx_spiRun (p : Nat) (r : Option Rx) : (s.setRx p r).spiRun = s.spiRun := rfl
@[simp] theorem setRx_dma (p : Nat) (r : Option Rx) : (s.setRx p r).dma = s.dma := rfl
@[simp] theorem setRx_podl (p : Nat) (r : Option Rx) : (s.setRx p r).podl = s.podl := rfl
@[simp] theorem setRx_settling (p : Nat) (r : Option Rx) : (s.setRx p r).settling = s.settling := rfl
@[simp] theorem setRx_podlSeq (p : Nat) (r : Option Rx) : (s.setRx p r).podlSeq = s.podlSeq := rfl
@[simp] theorem setRx_avsHit (p : Nat) (r : Option Rx) : (s.setRx p r).avsHit = s.avsHit := rfl
@[simp] theorem setRx_avsNew (p : Nat) (r : Option Rx) : (s.setRx p r).avsNew = s.avsNew := rfl
@[simp] theorem setRx_avsMin (p : Nat) (r : Option Rx) : (s.setRx p r).avsMin = s.avsMin := rfl
@[simp] theorem setRx_grants (p : Nat) (r : Option Rx) : (s.setRx p r).grants = s.grants := rfl
@[simp] theorem setRx_epochAt (p : Nat) (r : Option Rx) : (s.setRx p r).epochAt = s.epochAt := rfl
@[simp] theorem setRx_spent (p : Nat) (r : Option Rx) : (s.setRx p r).spent = s.spent := rfl
@[simp] theorem setRx_keep (p : Nat) (r : Option Rx) : (s.setRx p r).keep = s.keep := rfl
@[simp] theorem setRx_mirror (p : Nat) (r : Option Rx) : (s.setRx p r).mirror = s.mirror := rfl
@[simp] theorem setRx_ses (p : Nat) (r : Option Rx) : (s.setRx p r).ses = s.ses := rfl
@[simp] theorem setRx_sesQ (p : Nat) (r : Option Rx) : (s.setRx p r).sesQ = s.sesQ := rfl
@[simp] theorem setRx_sesFails (p : Nat) (r : Option Rx) : (s.setRx p r).sesFails = s.sesFails := rfl
@[simp] theorem setRx_keys (p : Nat) (r : Option Rx) : (s.setRx p r).keys = s.keys := rfl
@[simp] theorem setRx_sti (p : Nat) (r : Option Rx) : (s.setRx p r).sti = s.sti := rfl

/-! `State.setTx` changes `tx` alone. -/

@[simp] theorem setTx_pending (p : Nat) (t : Option Tx) : (s.setTx p t).pending = s.pending := rfl
@[simp] theorem setTx_regs (p : Nat) (t : Option Tx) : (s.setTx p t).regs = s.regs := rfl
@[simp] theorem setTx_shadows (p : Nat) (t : Option Tx) : (s.setTx p t).shadows = s.shadows := rfl
@[simp] theorem setTx_fresh (p : Nat) (t : Option Tx) : (s.setTx p t).fresh = s.fresh := rfl
@[simp] theorem setTx_now (p : Nat) (t : Option Tx) : (s.setTx p t).now = s.now := rfl
@[simp] theorem setTx_out (p : Nat) (t : Option Tx) : (s.setTx p t).out = s.out := rfl
@[simp] theorem setTx_rsResp (p : Nat) (t : Option Tx) : (s.setTx p t).rsResp = s.rsResp := rfl
@[simp] theorem setTx_mntResp (p : Nat) (t : Option Tx) : (s.setTx p t).mntResp = s.mntResp := rfl
@[simp] theorem setTx_mntCut (p : Nat) (t : Option Tx) : (s.setTx p t).mntCut = s.mntCut := rfl
@[simp] theorem setTx_porstLow (p : Nat) (t : Option Tx) : (s.setTx p t).porstLow = s.porstLow := rfl
@[simp] theorem setTx_blkLow (p : Nat) (t : Option Tx) : (s.setTx p t).blkLow = s.blkLow := rfl
@[simp] theorem setTx_coreClk (p : Nat) (t : Option Tx) : (s.setTx p t).coreClk = s.coreClk := rfl
@[simp] theorem setTx_refClk (p : Nat) (t : Option Tx) : (s.setTx p t).refClk = s.refClk := rfl
@[simp] theorem setTx_fusing (p : Nat) (t : Option Tx) : (s.setTx p t).fusing = s.fusing := rfl
@[simp] theorem setTx_fuse (p : Nat) (t : Option Tx) : (s.setTx p t).fuse = s.fuse := rfl
@[simp] theorem setTx_memInit (p : Nat) (t : Option Tx) : (s.setTx p t).memInit = s.memInit := rfl
@[simp] theorem setTx_time (p : Nat) (t : Option Tx) : (s.setTx p t).time = s.time := rfl
@[simp] theorem setTx_incrHeld (p : Nat) (t : Option Tx) : (s.setTx p t).incrHeld = s.incrHeld := rfl
@[simp] theorem setTx_logCopy (p : Nat) (t : Option Tx) : (s.setTx p t).logCopy = s.logCopy := rfl
@[simp] theorem setTx_bel (p : Nat) (t : Option Tx) : (s.setTx p t).bel = s.bel := rfl
@[simp] theorem setTx_belLvl (p : Nat) (t : Option Tx) : (s.setTx p t).belLvl = s.belLvl := rfl
@[simp] theorem setTx_belStack (p : Nat) (t : Option Tx) : (s.setTx p t).belStack = s.belStack := rfl
@[simp] theorem setTx_vec (p : Nat) (t : Option Tx) : (s.setTx p t).vec = s.vec := rfl
@[simp] theorem setTx_belClaims (p : Nat) (t : Option Tx) : (s.setTx p t).belClaims = s.belClaims := rfl
@[simp] theorem setTx_pulsed (p : Nat) (t : Option Tx) : (s.setTx p t).pulsed = s.pulsed := rfl
@[simp] theorem setTx_raised (p : Nat) (t : Option Tx) : (s.setTx p t).raised = s.raised := rfl
@[simp] theorem setTx_faultSyn (p : Nat) (t : Option Tx) : (s.setTx p t).faultSyn = s.faultSyn := rfl
@[simp] theorem setTx_episode (p : Nat) (t : Option Tx) : (s.setTx p t).episode = s.episode := rfl
@[simp] theorem setTx_episodeFirst (p : Nat) (t : Option Tx) : (s.setTx p t).episodeFirst = s.episodeFirst := rfl
@[simp] theorem setTx_blkReset (p : Nat) (t : Option Tx) : (s.setTx p t).blkReset = s.blkReset := rfl
@[simp] theorem setTx_shadowed (p : Nat) (t : Option Tx) : (s.setTx p t).shadowed = s.shadowed := rfl
@[simp] theorem setTx_injected (p : Nat) (t : Option Tx) : (s.setTx p t).injected = s.injected := rfl
@[simp] theorem setTx_lantern (p : Nat) (t : Option Tx) : (s.setTx p t).lantern = s.lantern := rfl
@[simp] theorem setTx_halfNow (p : Nat) (t : Option Tx) : (s.setTx p t).halfNow = s.halfNow := rfl
@[simp] theorem setTx_logRing (p : Nat) (t : Option Tx) : (s.setTx p t).logRing = s.logRing := rfl
@[simp] theorem setTx_logQ (p : Nat) (t : Option Tx) : (s.setTx p t).logQ = s.logQ := rfl
@[simp] theorem setTx_img (p : Nat) (t : Option Tx) : (s.setTx p t).img = s.img := rfl
@[simp] theorem setTx_frames (p : Nat) (t : Option Tx) : (s.setTx p t).frames = s.frames := rfl
@[simp] theorem setTx_taken (p : Nat) (t : Option Tx) : (s.setTx p t).taken = s.taken := rfl
@[simp] theorem setTx_lost (p : Nat) (t : Option Tx) : (s.setTx p t).lost = s.lost := rfl
@[simp] theorem setTx_queues (p : Nat) (t : Option Tx) : (s.setTx p t).queues = s.queues := rfl
@[simp] theorem setTx_fLast (p : Nat) (t : Option Tx) : (s.setTx p t).fLast = s.fLast := rfl
@[simp] theorem setTx_qUsed (p : Nat) (t : Option Tx) : (s.setTx p t).qUsed = s.qUsed := rfl
@[simp] theorem setTx_oldClass (p : Nat) (t : Option Tx) : (s.setTx p t).oldClass = s.oldClass := rfl
@[simp] theorem setTx_cand (p : Nat) (t : Option Tx) : (s.setTx p t).cand = s.cand := rfl
@[simp] theorem setTx_rx (p : Nat) (t : Option Tx) : (s.setTx p t).rx = s.rx := rfl
@[simp] theorem setTx_injEnd (p : Nat) (t : Option Tx) : (s.setTx p t).injEnd = s.injEnd := rfl
@[simp] theorem setTx_seg (p : Nat) (t : Option Tx) : (s.setTx p t).seg = s.seg := rfl
@[simp] theorem setTx_fldLink (p : Nat) (t : Option Tx) : (s.setTx p t).fldLink = s.fldLink := rfl
@[simp] theorem setTx_mac (p : Nat) (t : Option Tx) : (s.setTx p t).mac = s.mac := rfl
@[simp] theorem setTx_drrPtr (p : Nat) (t : Option Tx) : (s.setTx p t).drrPtr = s.drrPtr := rfl
@[simp] theorem setTx_shaper (p : Nat) (t : Option Tx) : (s.setTx p t).shaper = s.shaper := rfl
@[simp] theorem setTx_credit (p : Nat) (t : Option Tx) : (s.setTx p t).credit = s.credit := rfl
@[simp] theorem setTx_hostQ (p : Nat) (t : Option Tx) : (s.setTx p t).hostQ = s.hostQ := rfl
@[simp] theorem setTx_itkQ (p : Nat) (t : Option Tx) : (s.setTx p t).itkQ = s.itkQ := rfl
@[simp] theorem setTx_etkQ (p : Nat) (t : Option Tx) : (s.setTx p t).etkQ = s.etkQ := rfl
@[simp] theorem setTx_flow (p : Nat) (t : Option Tx) : (s.setTx p t).flow = s.flow := rfl
@[simp] theorem setTx_pfx (p : Nat) (t : Option Tx) : (s.setTx p t).pfx = s.pfx := rfl
@[simp] theorem setTx_clsA (p : Nat) (t : Option Tx) : (s.setTx p t).clsA = s.clsA := rfl
@[simp] theorem setTx_clsS (p : Nat) (t : Option Tx) : (s.setTx p t).clsS = s.clsS := rfl
@[simp] theorem setTx_journal (p : Nat) (t : Option Tx) : (s.setTx p t).journal = s.journal := rfl
@[simp] theorem setTx_clsD (p : Nat) (t : Option Tx) : (s.setTx p t).clsD = s.clsD := rfl
@[simp] theorem setTx_discardFailed (p : Nat) (t : Option Tx) : (s.setTx p t).discardFailed = s.discardFailed := rfl
@[simp] theorem setTx_drainWarned (p : Nat) (t : Option Tx) : (s.setTx p t).drainWarned = s.drainWarned := rfl
@[simp] theorem setTx_tae (p : Nat) (t : Option Tx) : (s.setTx p t).tae = s.tae := rfl
@[simp] theorem setTx_ctx (p : Nat) (t : Option Tx) : (s.setTx p t).ctx = s.ctx := rfl
@[simp] theorem setTx_nodeCnt (p : Nat) (t : Option Tx) : (s.setTx p t).nodeCnt = s.nodeCnt := rfl
@[simp] theorem setTx_sweepPass (p : Nat) (t : Option Tx) : (s.setTx p t).sweepPass = s.sweepPass := rfl
@[simp] theorem setTx_sweepPos (p : Nat) (t : Option Tx) : (s.setTx p t).sweepPos = s.sweepPos := rfl
@[simp] theorem setTx_agePeriod (p : Nat) (t : Option Tx) : (s.setTx p t).agePeriod = s.agePeriod := rfl
@[simp] theorem setTx_portPol (p : Nat) (t : Option Tx) : (s.setTx p t).portPol = s.portPol := rfl
@[simp] theorem setTx_flowPol (p : Nat) (t : Option Tx) : (s.setTx p t).flowPol = s.flowPol := rfl
@[simp] theorem setTx_ocuWatchPos (p : Nat) (t : Option Tx) : (s.setTx p t).ocuWatchPos = s.ocuWatchPos := rfl
@[simp] theorem setTx_ocuSweepHeld (p : Nat) (t : Option Tx) : (s.setTx p t).ocuSweepHeld = s.ocuSweepHeld := rfl
@[simp] theorem setTx_ocuWatchHeld (p : Nat) (t : Option Tx) : (s.setTx p t).ocuWatchHeld = s.ocuWatchHeld := rfl
@[simp] theorem setTx_ocuBuf (p : Nat) (t : Option Tx) : (s.setTx p t).ocuBuf = s.ocuBuf := rfl
@[simp] theorem setTx_phase (p : Nat) (t : Option Tx) : (s.setTx p t).phase = s.phase := rfl
@[simp] theorem setTx_gcl (p : Nat) (t : Option Tx) : (s.setTx p t).gcl = s.gcl := rfl
@[simp] theorem setTx_gmem (p : Nat) (t : Option Tx) : (s.setTx p t).gmem = s.gmem := rfl
@[simp] theorem setTx_clkRun (p : Nat) (t : Option Tx) : (s.setTx p t).clkRun = s.clkRun := rfl
@[simp] theorem setTx_ext (p : Nat) (t : Option Tx) : (s.setTx p t).ext = s.ext := rfl
@[simp] theorem setTx_extPort (p : Nat) (t : Option Tx) : (s.setTx p t).extPort = s.extPort := rfl
@[simp] theorem setTx_extHold (p : Nat) (t : Option Tx) : (s.setTx p t).extHold = s.extHold := rfl
@[simp] theorem setTx_rrNext (p : Nat) (t : Option Tx) : (s.setTx p t).rrNext = s.rrNext := rfl
@[simp] theorem setTx_exp (p : Nat) (t : Option Tx) : (s.setTx p t).exp = s.exp := rfl
@[simp] theorem setTx_dup (p : Nat) (t : Option Tx) : (s.setTx p t).dup = s.dup := rfl
@[simp] theorem setTx_spiRun (p : Nat) (t : Option Tx) : (s.setTx p t).spiRun = s.spiRun := rfl
@[simp] theorem setTx_dma (p : Nat) (t : Option Tx) : (s.setTx p t).dma = s.dma := rfl
@[simp] theorem setTx_podl (p : Nat) (t : Option Tx) : (s.setTx p t).podl = s.podl := rfl
@[simp] theorem setTx_settling (p : Nat) (t : Option Tx) : (s.setTx p t).settling = s.settling := rfl
@[simp] theorem setTx_podlSeq (p : Nat) (t : Option Tx) : (s.setTx p t).podlSeq = s.podlSeq := rfl
@[simp] theorem setTx_avsHit (p : Nat) (t : Option Tx) : (s.setTx p t).avsHit = s.avsHit := rfl
@[simp] theorem setTx_avsNew (p : Nat) (t : Option Tx) : (s.setTx p t).avsNew = s.avsNew := rfl
@[simp] theorem setTx_avsMin (p : Nat) (t : Option Tx) : (s.setTx p t).avsMin = s.avsMin := rfl
@[simp] theorem setTx_grants (p : Nat) (t : Option Tx) : (s.setTx p t).grants = s.grants := rfl
@[simp] theorem setTx_epochAt (p : Nat) (t : Option Tx) : (s.setTx p t).epochAt = s.epochAt := rfl
@[simp] theorem setTx_spent (p : Nat) (t : Option Tx) : (s.setTx p t).spent = s.spent := rfl
@[simp] theorem setTx_keep (p : Nat) (t : Option Tx) : (s.setTx p t).keep = s.keep := rfl
@[simp] theorem setTx_mirror (p : Nat) (t : Option Tx) : (s.setTx p t).mirror = s.mirror := rfl
@[simp] theorem setTx_ses (p : Nat) (t : Option Tx) : (s.setTx p t).ses = s.ses := rfl
@[simp] theorem setTx_sesQ (p : Nat) (t : Option Tx) : (s.setTx p t).sesQ = s.sesQ := rfl
@[simp] theorem setTx_sesFails (p : Nat) (t : Option Tx) : (s.setTx p t).sesFails = s.sesFails := rfl
@[simp] theorem setTx_keys (p : Nat) (t : Option Tx) : (s.setTx p t).keys = s.keys := rfl
@[simp] theorem setTx_sti (p : Nat) (t : Option Tx) : (s.setTx p t).sti = s.sti := rfl

/-! `State.setSeg` changes `seg` alone. -/

@[simp] theorem setSeg_pending (p : Nat) (g : Seg) : (s.setSeg p g).pending = s.pending := rfl
@[simp] theorem setSeg_regs (p : Nat) (g : Seg) : (s.setSeg p g).regs = s.regs := rfl
@[simp] theorem setSeg_shadows (p : Nat) (g : Seg) : (s.setSeg p g).shadows = s.shadows := rfl
@[simp] theorem setSeg_fresh (p : Nat) (g : Seg) : (s.setSeg p g).fresh = s.fresh := rfl
@[simp] theorem setSeg_now (p : Nat) (g : Seg) : (s.setSeg p g).now = s.now := rfl
@[simp] theorem setSeg_out (p : Nat) (g : Seg) : (s.setSeg p g).out = s.out := rfl
@[simp] theorem setSeg_rsResp (p : Nat) (g : Seg) : (s.setSeg p g).rsResp = s.rsResp := rfl
@[simp] theorem setSeg_mntResp (p : Nat) (g : Seg) : (s.setSeg p g).mntResp = s.mntResp := rfl
@[simp] theorem setSeg_mntCut (p : Nat) (g : Seg) : (s.setSeg p g).mntCut = s.mntCut := rfl
@[simp] theorem setSeg_porstLow (p : Nat) (g : Seg) : (s.setSeg p g).porstLow = s.porstLow := rfl
@[simp] theorem setSeg_blkLow (p : Nat) (g : Seg) : (s.setSeg p g).blkLow = s.blkLow := rfl
@[simp] theorem setSeg_coreClk (p : Nat) (g : Seg) : (s.setSeg p g).coreClk = s.coreClk := rfl
@[simp] theorem setSeg_refClk (p : Nat) (g : Seg) : (s.setSeg p g).refClk = s.refClk := rfl
@[simp] theorem setSeg_fusing (p : Nat) (g : Seg) : (s.setSeg p g).fusing = s.fusing := rfl
@[simp] theorem setSeg_fuse (p : Nat) (g : Seg) : (s.setSeg p g).fuse = s.fuse := rfl
@[simp] theorem setSeg_memInit (p : Nat) (g : Seg) : (s.setSeg p g).memInit = s.memInit := rfl
@[simp] theorem setSeg_time (p : Nat) (g : Seg) : (s.setSeg p g).time = s.time := rfl
@[simp] theorem setSeg_incrHeld (p : Nat) (g : Seg) : (s.setSeg p g).incrHeld = s.incrHeld := rfl
@[simp] theorem setSeg_logCopy (p : Nat) (g : Seg) : (s.setSeg p g).logCopy = s.logCopy := rfl
@[simp] theorem setSeg_bel (p : Nat) (g : Seg) : (s.setSeg p g).bel = s.bel := rfl
@[simp] theorem setSeg_belLvl (p : Nat) (g : Seg) : (s.setSeg p g).belLvl = s.belLvl := rfl
@[simp] theorem setSeg_belStack (p : Nat) (g : Seg) : (s.setSeg p g).belStack = s.belStack := rfl
@[simp] theorem setSeg_vec (p : Nat) (g : Seg) : (s.setSeg p g).vec = s.vec := rfl
@[simp] theorem setSeg_belClaims (p : Nat) (g : Seg) : (s.setSeg p g).belClaims = s.belClaims := rfl
@[simp] theorem setSeg_pulsed (p : Nat) (g : Seg) : (s.setSeg p g).pulsed = s.pulsed := rfl
@[simp] theorem setSeg_raised (p : Nat) (g : Seg) : (s.setSeg p g).raised = s.raised := rfl
@[simp] theorem setSeg_faultSyn (p : Nat) (g : Seg) : (s.setSeg p g).faultSyn = s.faultSyn := rfl
@[simp] theorem setSeg_episode (p : Nat) (g : Seg) : (s.setSeg p g).episode = s.episode := rfl
@[simp] theorem setSeg_episodeFirst (p : Nat) (g : Seg) : (s.setSeg p g).episodeFirst = s.episodeFirst := rfl
@[simp] theorem setSeg_blkReset (p : Nat) (g : Seg) : (s.setSeg p g).blkReset = s.blkReset := rfl
@[simp] theorem setSeg_shadowed (p : Nat) (g : Seg) : (s.setSeg p g).shadowed = s.shadowed := rfl
@[simp] theorem setSeg_injected (p : Nat) (g : Seg) : (s.setSeg p g).injected = s.injected := rfl
@[simp] theorem setSeg_lantern (p : Nat) (g : Seg) : (s.setSeg p g).lantern = s.lantern := rfl
@[simp] theorem setSeg_halfNow (p : Nat) (g : Seg) : (s.setSeg p g).halfNow = s.halfNow := rfl
@[simp] theorem setSeg_logRing (p : Nat) (g : Seg) : (s.setSeg p g).logRing = s.logRing := rfl
@[simp] theorem setSeg_logQ (p : Nat) (g : Seg) : (s.setSeg p g).logQ = s.logQ := rfl
@[simp] theorem setSeg_img (p : Nat) (g : Seg) : (s.setSeg p g).img = s.img := rfl
@[simp] theorem setSeg_frames (p : Nat) (g : Seg) : (s.setSeg p g).frames = s.frames := rfl
@[simp] theorem setSeg_taken (p : Nat) (g : Seg) : (s.setSeg p g).taken = s.taken := rfl
@[simp] theorem setSeg_lost (p : Nat) (g : Seg) : (s.setSeg p g).lost = s.lost := rfl
@[simp] theorem setSeg_queues (p : Nat) (g : Seg) : (s.setSeg p g).queues = s.queues := rfl
@[simp] theorem setSeg_fLast (p : Nat) (g : Seg) : (s.setSeg p g).fLast = s.fLast := rfl
@[simp] theorem setSeg_qUsed (p : Nat) (g : Seg) : (s.setSeg p g).qUsed = s.qUsed := rfl
@[simp] theorem setSeg_oldClass (p : Nat) (g : Seg) : (s.setSeg p g).oldClass = s.oldClass := rfl
@[simp] theorem setSeg_cand (p : Nat) (g : Seg) : (s.setSeg p g).cand = s.cand := rfl
@[simp] theorem setSeg_tx (p : Nat) (g : Seg) : (s.setSeg p g).tx = s.tx := rfl
@[simp] theorem setSeg_rx (p : Nat) (g : Seg) : (s.setSeg p g).rx = s.rx := rfl
@[simp] theorem setSeg_injEnd (p : Nat) (g : Seg) : (s.setSeg p g).injEnd = s.injEnd := rfl
@[simp] theorem setSeg_fldLink (p : Nat) (g : Seg) : (s.setSeg p g).fldLink = s.fldLink := rfl
@[simp] theorem setSeg_mac (p : Nat) (g : Seg) : (s.setSeg p g).mac = s.mac := rfl
@[simp] theorem setSeg_drrPtr (p : Nat) (g : Seg) : (s.setSeg p g).drrPtr = s.drrPtr := rfl
@[simp] theorem setSeg_shaper (p : Nat) (g : Seg) : (s.setSeg p g).shaper = s.shaper := rfl
@[simp] theorem setSeg_credit (p : Nat) (g : Seg) : (s.setSeg p g).credit = s.credit := rfl
@[simp] theorem setSeg_hostQ (p : Nat) (g : Seg) : (s.setSeg p g).hostQ = s.hostQ := rfl
@[simp] theorem setSeg_itkQ (p : Nat) (g : Seg) : (s.setSeg p g).itkQ = s.itkQ := rfl
@[simp] theorem setSeg_etkQ (p : Nat) (g : Seg) : (s.setSeg p g).etkQ = s.etkQ := rfl
@[simp] theorem setSeg_flow (p : Nat) (g : Seg) : (s.setSeg p g).flow = s.flow := rfl
@[simp] theorem setSeg_pfx (p : Nat) (g : Seg) : (s.setSeg p g).pfx = s.pfx := rfl
@[simp] theorem setSeg_clsA (p : Nat) (g : Seg) : (s.setSeg p g).clsA = s.clsA := rfl
@[simp] theorem setSeg_clsS (p : Nat) (g : Seg) : (s.setSeg p g).clsS = s.clsS := rfl
@[simp] theorem setSeg_journal (p : Nat) (g : Seg) : (s.setSeg p g).journal = s.journal := rfl
@[simp] theorem setSeg_clsD (p : Nat) (g : Seg) : (s.setSeg p g).clsD = s.clsD := rfl
@[simp] theorem setSeg_discardFailed (p : Nat) (g : Seg) : (s.setSeg p g).discardFailed = s.discardFailed := rfl
@[simp] theorem setSeg_drainWarned (p : Nat) (g : Seg) : (s.setSeg p g).drainWarned = s.drainWarned := rfl
@[simp] theorem setSeg_tae (p : Nat) (g : Seg) : (s.setSeg p g).tae = s.tae := rfl
@[simp] theorem setSeg_ctx (p : Nat) (g : Seg) : (s.setSeg p g).ctx = s.ctx := rfl
@[simp] theorem setSeg_nodeCnt (p : Nat) (g : Seg) : (s.setSeg p g).nodeCnt = s.nodeCnt := rfl
@[simp] theorem setSeg_sweepPass (p : Nat) (g : Seg) : (s.setSeg p g).sweepPass = s.sweepPass := rfl
@[simp] theorem setSeg_sweepPos (p : Nat) (g : Seg) : (s.setSeg p g).sweepPos = s.sweepPos := rfl
@[simp] theorem setSeg_agePeriod (p : Nat) (g : Seg) : (s.setSeg p g).agePeriod = s.agePeriod := rfl
@[simp] theorem setSeg_portPol (p : Nat) (g : Seg) : (s.setSeg p g).portPol = s.portPol := rfl
@[simp] theorem setSeg_flowPol (p : Nat) (g : Seg) : (s.setSeg p g).flowPol = s.flowPol := rfl
@[simp] theorem setSeg_ocuWatchPos (p : Nat) (g : Seg) : (s.setSeg p g).ocuWatchPos = s.ocuWatchPos := rfl
@[simp] theorem setSeg_ocuSweepHeld (p : Nat) (g : Seg) : (s.setSeg p g).ocuSweepHeld = s.ocuSweepHeld := rfl
@[simp] theorem setSeg_ocuWatchHeld (p : Nat) (g : Seg) : (s.setSeg p g).ocuWatchHeld = s.ocuWatchHeld := rfl
@[simp] theorem setSeg_ocuBuf (p : Nat) (g : Seg) : (s.setSeg p g).ocuBuf = s.ocuBuf := rfl
@[simp] theorem setSeg_phase (p : Nat) (g : Seg) : (s.setSeg p g).phase = s.phase := rfl
@[simp] theorem setSeg_gcl (p : Nat) (g : Seg) : (s.setSeg p g).gcl = s.gcl := rfl
@[simp] theorem setSeg_gmem (p : Nat) (g : Seg) : (s.setSeg p g).gmem = s.gmem := rfl
@[simp] theorem setSeg_clkRun (p : Nat) (g : Seg) : (s.setSeg p g).clkRun = s.clkRun := rfl
@[simp] theorem setSeg_ext (p : Nat) (g : Seg) : (s.setSeg p g).ext = s.ext := rfl
@[simp] theorem setSeg_extPort (p : Nat) (g : Seg) : (s.setSeg p g).extPort = s.extPort := rfl
@[simp] theorem setSeg_extHold (p : Nat) (g : Seg) : (s.setSeg p g).extHold = s.extHold := rfl
@[simp] theorem setSeg_rrNext (p : Nat) (g : Seg) : (s.setSeg p g).rrNext = s.rrNext := rfl
@[simp] theorem setSeg_exp (p : Nat) (g : Seg) : (s.setSeg p g).exp = s.exp := rfl
@[simp] theorem setSeg_dup (p : Nat) (g : Seg) : (s.setSeg p g).dup = s.dup := rfl
@[simp] theorem setSeg_spiRun (p : Nat) (g : Seg) : (s.setSeg p g).spiRun = s.spiRun := rfl
@[simp] theorem setSeg_dma (p : Nat) (g : Seg) : (s.setSeg p g).dma = s.dma := rfl
@[simp] theorem setSeg_podl (p : Nat) (g : Seg) : (s.setSeg p g).podl = s.podl := rfl
@[simp] theorem setSeg_settling (p : Nat) (g : Seg) : (s.setSeg p g).settling = s.settling := rfl
@[simp] theorem setSeg_podlSeq (p : Nat) (g : Seg) : (s.setSeg p g).podlSeq = s.podlSeq := rfl
@[simp] theorem setSeg_avsHit (p : Nat) (g : Seg) : (s.setSeg p g).avsHit = s.avsHit := rfl
@[simp] theorem setSeg_avsNew (p : Nat) (g : Seg) : (s.setSeg p g).avsNew = s.avsNew := rfl
@[simp] theorem setSeg_avsMin (p : Nat) (g : Seg) : (s.setSeg p g).avsMin = s.avsMin := rfl
@[simp] theorem setSeg_grants (p : Nat) (g : Seg) : (s.setSeg p g).grants = s.grants := rfl
@[simp] theorem setSeg_epochAt (p : Nat) (g : Seg) : (s.setSeg p g).epochAt = s.epochAt := rfl
@[simp] theorem setSeg_spent (p : Nat) (g : Seg) : (s.setSeg p g).spent = s.spent := rfl
@[simp] theorem setSeg_keep (p : Nat) (g : Seg) : (s.setSeg p g).keep = s.keep := rfl
@[simp] theorem setSeg_mirror (p : Nat) (g : Seg) : (s.setSeg p g).mirror = s.mirror := rfl
@[simp] theorem setSeg_ses (p : Nat) (g : Seg) : (s.setSeg p g).ses = s.ses := rfl
@[simp] theorem setSeg_sesQ (p : Nat) (g : Seg) : (s.setSeg p g).sesQ = s.sesQ := rfl
@[simp] theorem setSeg_sesFails (p : Nat) (g : Seg) : (s.setSeg p g).sesFails = s.sesFails := rfl
@[simp] theorem setSeg_keys (p : Nat) (g : Seg) : (s.setSeg p g).keys = s.keys := rfl
@[simp] theorem setSeg_sti (p : Nat) (g : Seg) : (s.setSeg p g).sti = s.sti := rfl

/-! `State.setCtx` changes `ctx` alone. -/

@[simp] theorem setCtx_pending (i : Nat) (c : Ctx) : (s.setCtx i c).pending = s.pending := rfl
@[simp] theorem setCtx_regs (i : Nat) (c : Ctx) : (s.setCtx i c).regs = s.regs := rfl
@[simp] theorem setCtx_shadows (i : Nat) (c : Ctx) : (s.setCtx i c).shadows = s.shadows := rfl
@[simp] theorem setCtx_fresh (i : Nat) (c : Ctx) : (s.setCtx i c).fresh = s.fresh := rfl
@[simp] theorem setCtx_now (i : Nat) (c : Ctx) : (s.setCtx i c).now = s.now := rfl
@[simp] theorem setCtx_out (i : Nat) (c : Ctx) : (s.setCtx i c).out = s.out := rfl
@[simp] theorem setCtx_rsResp (i : Nat) (c : Ctx) : (s.setCtx i c).rsResp = s.rsResp := rfl
@[simp] theorem setCtx_mntResp (i : Nat) (c : Ctx) : (s.setCtx i c).mntResp = s.mntResp := rfl
@[simp] theorem setCtx_mntCut (i : Nat) (c : Ctx) : (s.setCtx i c).mntCut = s.mntCut := rfl
@[simp] theorem setCtx_porstLow (i : Nat) (c : Ctx) : (s.setCtx i c).porstLow = s.porstLow := rfl
@[simp] theorem setCtx_blkLow (i : Nat) (c : Ctx) : (s.setCtx i c).blkLow = s.blkLow := rfl
@[simp] theorem setCtx_coreClk (i : Nat) (c : Ctx) : (s.setCtx i c).coreClk = s.coreClk := rfl
@[simp] theorem setCtx_refClk (i : Nat) (c : Ctx) : (s.setCtx i c).refClk = s.refClk := rfl
@[simp] theorem setCtx_fusing (i : Nat) (c : Ctx) : (s.setCtx i c).fusing = s.fusing := rfl
@[simp] theorem setCtx_fuse (i : Nat) (c : Ctx) : (s.setCtx i c).fuse = s.fuse := rfl
@[simp] theorem setCtx_memInit (i : Nat) (c : Ctx) : (s.setCtx i c).memInit = s.memInit := rfl
@[simp] theorem setCtx_time (i : Nat) (c : Ctx) : (s.setCtx i c).time = s.time := rfl
@[simp] theorem setCtx_incrHeld (i : Nat) (c : Ctx) : (s.setCtx i c).incrHeld = s.incrHeld := rfl
@[simp] theorem setCtx_logCopy (i : Nat) (c : Ctx) : (s.setCtx i c).logCopy = s.logCopy := rfl
@[simp] theorem setCtx_bel (i : Nat) (c : Ctx) : (s.setCtx i c).bel = s.bel := rfl
@[simp] theorem setCtx_belLvl (i : Nat) (c : Ctx) : (s.setCtx i c).belLvl = s.belLvl := rfl
@[simp] theorem setCtx_belStack (i : Nat) (c : Ctx) : (s.setCtx i c).belStack = s.belStack := rfl
@[simp] theorem setCtx_vec (i : Nat) (c : Ctx) : (s.setCtx i c).vec = s.vec := rfl
@[simp] theorem setCtx_belClaims (i : Nat) (c : Ctx) : (s.setCtx i c).belClaims = s.belClaims := rfl
@[simp] theorem setCtx_pulsed (i : Nat) (c : Ctx) : (s.setCtx i c).pulsed = s.pulsed := rfl
@[simp] theorem setCtx_raised (i : Nat) (c : Ctx) : (s.setCtx i c).raised = s.raised := rfl
@[simp] theorem setCtx_faultSyn (i : Nat) (c : Ctx) : (s.setCtx i c).faultSyn = s.faultSyn := rfl
@[simp] theorem setCtx_episode (i : Nat) (c : Ctx) : (s.setCtx i c).episode = s.episode := rfl
@[simp] theorem setCtx_episodeFirst (i : Nat) (c : Ctx) : (s.setCtx i c).episodeFirst = s.episodeFirst := rfl
@[simp] theorem setCtx_blkReset (i : Nat) (c : Ctx) : (s.setCtx i c).blkReset = s.blkReset := rfl
@[simp] theorem setCtx_shadowed (i : Nat) (c : Ctx) : (s.setCtx i c).shadowed = s.shadowed := rfl
@[simp] theorem setCtx_injected (i : Nat) (c : Ctx) : (s.setCtx i c).injected = s.injected := rfl
@[simp] theorem setCtx_lantern (i : Nat) (c : Ctx) : (s.setCtx i c).lantern = s.lantern := rfl
@[simp] theorem setCtx_halfNow (i : Nat) (c : Ctx) : (s.setCtx i c).halfNow = s.halfNow := rfl
@[simp] theorem setCtx_logRing (i : Nat) (c : Ctx) : (s.setCtx i c).logRing = s.logRing := rfl
@[simp] theorem setCtx_logQ (i : Nat) (c : Ctx) : (s.setCtx i c).logQ = s.logQ := rfl
@[simp] theorem setCtx_img (i : Nat) (c : Ctx) : (s.setCtx i c).img = s.img := rfl
@[simp] theorem setCtx_frames (i : Nat) (c : Ctx) : (s.setCtx i c).frames = s.frames := rfl
@[simp] theorem setCtx_taken (i : Nat) (c : Ctx) : (s.setCtx i c).taken = s.taken := rfl
@[simp] theorem setCtx_lost (i : Nat) (c : Ctx) : (s.setCtx i c).lost = s.lost := rfl
@[simp] theorem setCtx_queues (i : Nat) (c : Ctx) : (s.setCtx i c).queues = s.queues := rfl
@[simp] theorem setCtx_fLast (i : Nat) (c : Ctx) : (s.setCtx i c).fLast = s.fLast := rfl
@[simp] theorem setCtx_qUsed (i : Nat) (c : Ctx) : (s.setCtx i c).qUsed = s.qUsed := rfl
@[simp] theorem setCtx_oldClass (i : Nat) (c : Ctx) : (s.setCtx i c).oldClass = s.oldClass := rfl
@[simp] theorem setCtx_cand (i : Nat) (c : Ctx) : (s.setCtx i c).cand = s.cand := rfl
@[simp] theorem setCtx_tx (i : Nat) (c : Ctx) : (s.setCtx i c).tx = s.tx := rfl
@[simp] theorem setCtx_rx (i : Nat) (c : Ctx) : (s.setCtx i c).rx = s.rx := rfl
@[simp] theorem setCtx_injEnd (i : Nat) (c : Ctx) : (s.setCtx i c).injEnd = s.injEnd := rfl
@[simp] theorem setCtx_seg (i : Nat) (c : Ctx) : (s.setCtx i c).seg = s.seg := rfl
@[simp] theorem setCtx_fldLink (i : Nat) (c : Ctx) : (s.setCtx i c).fldLink = s.fldLink := rfl
@[simp] theorem setCtx_mac (i : Nat) (c : Ctx) : (s.setCtx i c).mac = s.mac := rfl
@[simp] theorem setCtx_drrPtr (i : Nat) (c : Ctx) : (s.setCtx i c).drrPtr = s.drrPtr := rfl
@[simp] theorem setCtx_shaper (i : Nat) (c : Ctx) : (s.setCtx i c).shaper = s.shaper := rfl
@[simp] theorem setCtx_credit (i : Nat) (c : Ctx) : (s.setCtx i c).credit = s.credit := rfl
@[simp] theorem setCtx_hostQ (i : Nat) (c : Ctx) : (s.setCtx i c).hostQ = s.hostQ := rfl
@[simp] theorem setCtx_itkQ (i : Nat) (c : Ctx) : (s.setCtx i c).itkQ = s.itkQ := rfl
@[simp] theorem setCtx_etkQ (i : Nat) (c : Ctx) : (s.setCtx i c).etkQ = s.etkQ := rfl
@[simp] theorem setCtx_flow (i : Nat) (c : Ctx) : (s.setCtx i c).flow = s.flow := rfl
@[simp] theorem setCtx_pfx (i : Nat) (c : Ctx) : (s.setCtx i c).pfx = s.pfx := rfl
@[simp] theorem setCtx_clsA (i : Nat) (c : Ctx) : (s.setCtx i c).clsA = s.clsA := rfl
@[simp] theorem setCtx_clsS (i : Nat) (c : Ctx) : (s.setCtx i c).clsS = s.clsS := rfl
@[simp] theorem setCtx_journal (i : Nat) (c : Ctx) : (s.setCtx i c).journal = s.journal := rfl
@[simp] theorem setCtx_clsD (i : Nat) (c : Ctx) : (s.setCtx i c).clsD = s.clsD := rfl
@[simp] theorem setCtx_discardFailed (i : Nat) (c : Ctx) : (s.setCtx i c).discardFailed = s.discardFailed := rfl
@[simp] theorem setCtx_drainWarned (i : Nat) (c : Ctx) : (s.setCtx i c).drainWarned = s.drainWarned := rfl
@[simp] theorem setCtx_tae (i : Nat) (c : Ctx) : (s.setCtx i c).tae = s.tae := rfl
@[simp] theorem setCtx_nodeCnt (i : Nat) (c : Ctx) : (s.setCtx i c).nodeCnt = s.nodeCnt := rfl
@[simp] theorem setCtx_sweepPass (i : Nat) (c : Ctx) : (s.setCtx i c).sweepPass = s.sweepPass := rfl
@[simp] theorem setCtx_sweepPos (i : Nat) (c : Ctx) : (s.setCtx i c).sweepPos = s.sweepPos := rfl
@[simp] theorem setCtx_agePeriod (i : Nat) (c : Ctx) : (s.setCtx i c).agePeriod = s.agePeriod := rfl
@[simp] theorem setCtx_portPol (i : Nat) (c : Ctx) : (s.setCtx i c).portPol = s.portPol := rfl
@[simp] theorem setCtx_flowPol (i : Nat) (c : Ctx) : (s.setCtx i c).flowPol = s.flowPol := rfl
@[simp] theorem setCtx_ocuWatchPos (i : Nat) (c : Ctx) : (s.setCtx i c).ocuWatchPos = s.ocuWatchPos := rfl
@[simp] theorem setCtx_ocuSweepHeld (i : Nat) (c : Ctx) : (s.setCtx i c).ocuSweepHeld = s.ocuSweepHeld := rfl
@[simp] theorem setCtx_ocuWatchHeld (i : Nat) (c : Ctx) : (s.setCtx i c).ocuWatchHeld = s.ocuWatchHeld := rfl
@[simp] theorem setCtx_ocuBuf (i : Nat) (c : Ctx) : (s.setCtx i c).ocuBuf = s.ocuBuf := rfl
@[simp] theorem setCtx_phase (i : Nat) (c : Ctx) : (s.setCtx i c).phase = s.phase := rfl
@[simp] theorem setCtx_gcl (i : Nat) (c : Ctx) : (s.setCtx i c).gcl = s.gcl := rfl
@[simp] theorem setCtx_gmem (i : Nat) (c : Ctx) : (s.setCtx i c).gmem = s.gmem := rfl
@[simp] theorem setCtx_clkRun (i : Nat) (c : Ctx) : (s.setCtx i c).clkRun = s.clkRun := rfl
@[simp] theorem setCtx_ext (i : Nat) (c : Ctx) : (s.setCtx i c).ext = s.ext := rfl
@[simp] theorem setCtx_extPort (i : Nat) (c : Ctx) : (s.setCtx i c).extPort = s.extPort := rfl
@[simp] theorem setCtx_extHold (i : Nat) (c : Ctx) : (s.setCtx i c).extHold = s.extHold := rfl
@[simp] theorem setCtx_rrNext (i : Nat) (c : Ctx) : (s.setCtx i c).rrNext = s.rrNext := rfl
@[simp] theorem setCtx_exp (i : Nat) (c : Ctx) : (s.setCtx i c).exp = s.exp := rfl
@[simp] theorem setCtx_dup (i : Nat) (c : Ctx) : (s.setCtx i c).dup = s.dup := rfl
@[simp] theorem setCtx_spiRun (i : Nat) (c : Ctx) : (s.setCtx i c).spiRun = s.spiRun := rfl
@[simp] theorem setCtx_dma (i : Nat) (c : Ctx) : (s.setCtx i c).dma = s.dma := rfl
@[simp] theorem setCtx_podl (i : Nat) (c : Ctx) : (s.setCtx i c).podl = s.podl := rfl
@[simp] theorem setCtx_settling (i : Nat) (c : Ctx) : (s.setCtx i c).settling = s.settling := rfl
@[simp] theorem setCtx_podlSeq (i : Nat) (c : Ctx) : (s.setCtx i c).podlSeq = s.podlSeq := rfl
@[simp] theorem setCtx_avsHit (i : Nat) (c : Ctx) : (s.setCtx i c).avsHit = s.avsHit := rfl
@[simp] theorem setCtx_avsNew (i : Nat) (c : Ctx) : (s.setCtx i c).avsNew = s.avsNew := rfl
@[simp] theorem setCtx_avsMin (i : Nat) (c : Ctx) : (s.setCtx i c).avsMin = s.avsMin := rfl
@[simp] theorem setCtx_grants (i : Nat) (c : Ctx) : (s.setCtx i c).grants = s.grants := rfl
@[simp] theorem setCtx_epochAt (i : Nat) (c : Ctx) : (s.setCtx i c).epochAt = s.epochAt := rfl
@[simp] theorem setCtx_spent (i : Nat) (c : Ctx) : (s.setCtx i c).spent = s.spent := rfl
@[simp] theorem setCtx_keep (i : Nat) (c : Ctx) : (s.setCtx i c).keep = s.keep := rfl
@[simp] theorem setCtx_mirror (i : Nat) (c : Ctx) : (s.setCtx i c).mirror = s.mirror := rfl
@[simp] theorem setCtx_ses (i : Nat) (c : Ctx) : (s.setCtx i c).ses = s.ses := rfl
@[simp] theorem setCtx_sesQ (i : Nat) (c : Ctx) : (s.setCtx i c).sesQ = s.sesQ := rfl
@[simp] theorem setCtx_sesFails (i : Nat) (c : Ctx) : (s.setCtx i c).sesFails = s.sesFails := rfl
@[simp] theorem setCtx_keys (i : Nat) (c : Ctx) : (s.setCtx i c).keys = s.keys := rfl
@[simp] theorem setCtx_sti (i : Nat) (c : Ctx) : (s.setCtx i c).sti = s.sti := rfl

/-! `State.setSes` changes `ses` alone. -/

@[simp] theorem setSes_pending (i : Nat) (x : Session) : (s.setSes i x).pending = s.pending := rfl
@[simp] theorem setSes_regs (i : Nat) (x : Session) : (s.setSes i x).regs = s.regs := rfl
@[simp] theorem setSes_shadows (i : Nat) (x : Session) : (s.setSes i x).shadows = s.shadows := rfl
@[simp] theorem setSes_fresh (i : Nat) (x : Session) : (s.setSes i x).fresh = s.fresh := rfl
@[simp] theorem setSes_now (i : Nat) (x : Session) : (s.setSes i x).now = s.now := rfl
@[simp] theorem setSes_out (i : Nat) (x : Session) : (s.setSes i x).out = s.out := rfl
@[simp] theorem setSes_rsResp (i : Nat) (x : Session) : (s.setSes i x).rsResp = s.rsResp := rfl
@[simp] theorem setSes_mntResp (i : Nat) (x : Session) : (s.setSes i x).mntResp = s.mntResp := rfl
@[simp] theorem setSes_mntCut (i : Nat) (x : Session) : (s.setSes i x).mntCut = s.mntCut := rfl
@[simp] theorem setSes_porstLow (i : Nat) (x : Session) : (s.setSes i x).porstLow = s.porstLow := rfl
@[simp] theorem setSes_blkLow (i : Nat) (x : Session) : (s.setSes i x).blkLow = s.blkLow := rfl
@[simp] theorem setSes_coreClk (i : Nat) (x : Session) : (s.setSes i x).coreClk = s.coreClk := rfl
@[simp] theorem setSes_refClk (i : Nat) (x : Session) : (s.setSes i x).refClk = s.refClk := rfl
@[simp] theorem setSes_fusing (i : Nat) (x : Session) : (s.setSes i x).fusing = s.fusing := rfl
@[simp] theorem setSes_fuse (i : Nat) (x : Session) : (s.setSes i x).fuse = s.fuse := rfl
@[simp] theorem setSes_memInit (i : Nat) (x : Session) : (s.setSes i x).memInit = s.memInit := rfl
@[simp] theorem setSes_time (i : Nat) (x : Session) : (s.setSes i x).time = s.time := rfl
@[simp] theorem setSes_incrHeld (i : Nat) (x : Session) : (s.setSes i x).incrHeld = s.incrHeld := rfl
@[simp] theorem setSes_logCopy (i : Nat) (x : Session) : (s.setSes i x).logCopy = s.logCopy := rfl
@[simp] theorem setSes_bel (i : Nat) (x : Session) : (s.setSes i x).bel = s.bel := rfl
@[simp] theorem setSes_belLvl (i : Nat) (x : Session) : (s.setSes i x).belLvl = s.belLvl := rfl
@[simp] theorem setSes_belStack (i : Nat) (x : Session) : (s.setSes i x).belStack = s.belStack := rfl
@[simp] theorem setSes_vec (i : Nat) (x : Session) : (s.setSes i x).vec = s.vec := rfl
@[simp] theorem setSes_belClaims (i : Nat) (x : Session) : (s.setSes i x).belClaims = s.belClaims := rfl
@[simp] theorem setSes_pulsed (i : Nat) (x : Session) : (s.setSes i x).pulsed = s.pulsed := rfl
@[simp] theorem setSes_raised (i : Nat) (x : Session) : (s.setSes i x).raised = s.raised := rfl
@[simp] theorem setSes_faultSyn (i : Nat) (x : Session) : (s.setSes i x).faultSyn = s.faultSyn := rfl
@[simp] theorem setSes_episode (i : Nat) (x : Session) : (s.setSes i x).episode = s.episode := rfl
@[simp] theorem setSes_episodeFirst (i : Nat) (x : Session) : (s.setSes i x).episodeFirst = s.episodeFirst := rfl
@[simp] theorem setSes_blkReset (i : Nat) (x : Session) : (s.setSes i x).blkReset = s.blkReset := rfl
@[simp] theorem setSes_shadowed (i : Nat) (x : Session) : (s.setSes i x).shadowed = s.shadowed := rfl
@[simp] theorem setSes_injected (i : Nat) (x : Session) : (s.setSes i x).injected = s.injected := rfl
@[simp] theorem setSes_lantern (i : Nat) (x : Session) : (s.setSes i x).lantern = s.lantern := rfl
@[simp] theorem setSes_halfNow (i : Nat) (x : Session) : (s.setSes i x).halfNow = s.halfNow := rfl
@[simp] theorem setSes_logRing (i : Nat) (x : Session) : (s.setSes i x).logRing = s.logRing := rfl
@[simp] theorem setSes_logQ (i : Nat) (x : Session) : (s.setSes i x).logQ = s.logQ := rfl
@[simp] theorem setSes_img (i : Nat) (x : Session) : (s.setSes i x).img = s.img := rfl
@[simp] theorem setSes_frames (i : Nat) (x : Session) : (s.setSes i x).frames = s.frames := rfl
@[simp] theorem setSes_taken (i : Nat) (x : Session) : (s.setSes i x).taken = s.taken := rfl
@[simp] theorem setSes_lost (i : Nat) (x : Session) : (s.setSes i x).lost = s.lost := rfl
@[simp] theorem setSes_queues (i : Nat) (x : Session) : (s.setSes i x).queues = s.queues := rfl
@[simp] theorem setSes_fLast (i : Nat) (x : Session) : (s.setSes i x).fLast = s.fLast := rfl
@[simp] theorem setSes_qUsed (i : Nat) (x : Session) : (s.setSes i x).qUsed = s.qUsed := rfl
@[simp] theorem setSes_oldClass (i : Nat) (x : Session) : (s.setSes i x).oldClass = s.oldClass := rfl
@[simp] theorem setSes_cand (i : Nat) (x : Session) : (s.setSes i x).cand = s.cand := rfl
@[simp] theorem setSes_tx (i : Nat) (x : Session) : (s.setSes i x).tx = s.tx := rfl
@[simp] theorem setSes_rx (i : Nat) (x : Session) : (s.setSes i x).rx = s.rx := rfl
@[simp] theorem setSes_injEnd (i : Nat) (x : Session) : (s.setSes i x).injEnd = s.injEnd := rfl
@[simp] theorem setSes_seg (i : Nat) (x : Session) : (s.setSes i x).seg = s.seg := rfl
@[simp] theorem setSes_fldLink (i : Nat) (x : Session) : (s.setSes i x).fldLink = s.fldLink := rfl
@[simp] theorem setSes_mac (i : Nat) (x : Session) : (s.setSes i x).mac = s.mac := rfl
@[simp] theorem setSes_drrPtr (i : Nat) (x : Session) : (s.setSes i x).drrPtr = s.drrPtr := rfl
@[simp] theorem setSes_shaper (i : Nat) (x : Session) : (s.setSes i x).shaper = s.shaper := rfl
@[simp] theorem setSes_credit (i : Nat) (x : Session) : (s.setSes i x).credit = s.credit := rfl
@[simp] theorem setSes_hostQ (i : Nat) (x : Session) : (s.setSes i x).hostQ = s.hostQ := rfl
@[simp] theorem setSes_itkQ (i : Nat) (x : Session) : (s.setSes i x).itkQ = s.itkQ := rfl
@[simp] theorem setSes_etkQ (i : Nat) (x : Session) : (s.setSes i x).etkQ = s.etkQ := rfl
@[simp] theorem setSes_flow (i : Nat) (x : Session) : (s.setSes i x).flow = s.flow := rfl
@[simp] theorem setSes_pfx (i : Nat) (x : Session) : (s.setSes i x).pfx = s.pfx := rfl
@[simp] theorem setSes_clsA (i : Nat) (x : Session) : (s.setSes i x).clsA = s.clsA := rfl
@[simp] theorem setSes_clsS (i : Nat) (x : Session) : (s.setSes i x).clsS = s.clsS := rfl
@[simp] theorem setSes_journal (i : Nat) (x : Session) : (s.setSes i x).journal = s.journal := rfl
@[simp] theorem setSes_clsD (i : Nat) (x : Session) : (s.setSes i x).clsD = s.clsD := rfl
@[simp] theorem setSes_discardFailed (i : Nat) (x : Session) : (s.setSes i x).discardFailed = s.discardFailed := rfl
@[simp] theorem setSes_drainWarned (i : Nat) (x : Session) : (s.setSes i x).drainWarned = s.drainWarned := rfl
@[simp] theorem setSes_tae (i : Nat) (x : Session) : (s.setSes i x).tae = s.tae := rfl
@[simp] theorem setSes_ctx (i : Nat) (x : Session) : (s.setSes i x).ctx = s.ctx := rfl
@[simp] theorem setSes_nodeCnt (i : Nat) (x : Session) : (s.setSes i x).nodeCnt = s.nodeCnt := rfl
@[simp] theorem setSes_sweepPass (i : Nat) (x : Session) : (s.setSes i x).sweepPass = s.sweepPass := rfl
@[simp] theorem setSes_sweepPos (i : Nat) (x : Session) : (s.setSes i x).sweepPos = s.sweepPos := rfl
@[simp] theorem setSes_agePeriod (i : Nat) (x : Session) : (s.setSes i x).agePeriod = s.agePeriod := rfl
@[simp] theorem setSes_portPol (i : Nat) (x : Session) : (s.setSes i x).portPol = s.portPol := rfl
@[simp] theorem setSes_flowPol (i : Nat) (x : Session) : (s.setSes i x).flowPol = s.flowPol := rfl
@[simp] theorem setSes_ocuWatchPos (i : Nat) (x : Session) : (s.setSes i x).ocuWatchPos = s.ocuWatchPos := rfl
@[simp] theorem setSes_ocuSweepHeld (i : Nat) (x : Session) : (s.setSes i x).ocuSweepHeld = s.ocuSweepHeld := rfl
@[simp] theorem setSes_ocuWatchHeld (i : Nat) (x : Session) : (s.setSes i x).ocuWatchHeld = s.ocuWatchHeld := rfl
@[simp] theorem setSes_ocuBuf (i : Nat) (x : Session) : (s.setSes i x).ocuBuf = s.ocuBuf := rfl
@[simp] theorem setSes_phase (i : Nat) (x : Session) : (s.setSes i x).phase = s.phase := rfl
@[simp] theorem setSes_gcl (i : Nat) (x : Session) : (s.setSes i x).gcl = s.gcl := rfl
@[simp] theorem setSes_gmem (i : Nat) (x : Session) : (s.setSes i x).gmem = s.gmem := rfl
@[simp] theorem setSes_clkRun (i : Nat) (x : Session) : (s.setSes i x).clkRun = s.clkRun := rfl
@[simp] theorem setSes_ext (i : Nat) (x : Session) : (s.setSes i x).ext = s.ext := rfl
@[simp] theorem setSes_extPort (i : Nat) (x : Session) : (s.setSes i x).extPort = s.extPort := rfl
@[simp] theorem setSes_extHold (i : Nat) (x : Session) : (s.setSes i x).extHold = s.extHold := rfl
@[simp] theorem setSes_rrNext (i : Nat) (x : Session) : (s.setSes i x).rrNext = s.rrNext := rfl
@[simp] theorem setSes_exp (i : Nat) (x : Session) : (s.setSes i x).exp = s.exp := rfl
@[simp] theorem setSes_dup (i : Nat) (x : Session) : (s.setSes i x).dup = s.dup := rfl
@[simp] theorem setSes_spiRun (i : Nat) (x : Session) : (s.setSes i x).spiRun = s.spiRun := rfl
@[simp] theorem setSes_dma (i : Nat) (x : Session) : (s.setSes i x).dma = s.dma := rfl
@[simp] theorem setSes_podl (i : Nat) (x : Session) : (s.setSes i x).podl = s.podl := rfl
@[simp] theorem setSes_settling (i : Nat) (x : Session) : (s.setSes i x).settling = s.settling := rfl
@[simp] theorem setSes_podlSeq (i : Nat) (x : Session) : (s.setSes i x).podlSeq = s.podlSeq := rfl
@[simp] theorem setSes_avsHit (i : Nat) (x : Session) : (s.setSes i x).avsHit = s.avsHit := rfl
@[simp] theorem setSes_avsNew (i : Nat) (x : Session) : (s.setSes i x).avsNew = s.avsNew := rfl
@[simp] theorem setSes_avsMin (i : Nat) (x : Session) : (s.setSes i x).avsMin = s.avsMin := rfl
@[simp] theorem setSes_grants (i : Nat) (x : Session) : (s.setSes i x).grants = s.grants := rfl
@[simp] theorem setSes_epochAt (i : Nat) (x : Session) : (s.setSes i x).epochAt = s.epochAt := rfl
@[simp] theorem setSes_spent (i : Nat) (x : Session) : (s.setSes i x).spent = s.spent := rfl
@[simp] theorem setSes_keep (i : Nat) (x : Session) : (s.setSes i x).keep = s.keep := rfl
@[simp] theorem setSes_mirror (i : Nat) (x : Session) : (s.setSes i x).mirror = s.mirror := rfl
@[simp] theorem setSes_sesQ (i : Nat) (x : Session) : (s.setSes i x).sesQ = s.sesQ := rfl
@[simp] theorem setSes_sesFails (i : Nat) (x : Session) : (s.setSes i x).sesFails = s.sesFails := rfl
@[simp] theorem setSes_keys (i : Nat) (x : Session) : (s.setSes i x).keys = s.keys := rfl
@[simp] theorem setSes_sti (i : Nat) (x : Session) : (s.setSes i x).sti = s.sti := rfl

/-! `State.setChan` changes `dma` alone. -/

@[simp] theorem setChan_pending (c : Nat) (x : Chan) : (s.setChan c x).pending = s.pending := rfl
@[simp] theorem setChan_regs (c : Nat) (x : Chan) : (s.setChan c x).regs = s.regs := rfl
@[simp] theorem setChan_shadows (c : Nat) (x : Chan) : (s.setChan c x).shadows = s.shadows := rfl
@[simp] theorem setChan_fresh (c : Nat) (x : Chan) : (s.setChan c x).fresh = s.fresh := rfl
@[simp] theorem setChan_now (c : Nat) (x : Chan) : (s.setChan c x).now = s.now := rfl
@[simp] theorem setChan_out (c : Nat) (x : Chan) : (s.setChan c x).out = s.out := rfl
@[simp] theorem setChan_rsResp (c : Nat) (x : Chan) : (s.setChan c x).rsResp = s.rsResp := rfl
@[simp] theorem setChan_mntResp (c : Nat) (x : Chan) : (s.setChan c x).mntResp = s.mntResp := rfl
@[simp] theorem setChan_mntCut (c : Nat) (x : Chan) : (s.setChan c x).mntCut = s.mntCut := rfl
@[simp] theorem setChan_porstLow (c : Nat) (x : Chan) : (s.setChan c x).porstLow = s.porstLow := rfl
@[simp] theorem setChan_blkLow (c : Nat) (x : Chan) : (s.setChan c x).blkLow = s.blkLow := rfl
@[simp] theorem setChan_coreClk (c : Nat) (x : Chan) : (s.setChan c x).coreClk = s.coreClk := rfl
@[simp] theorem setChan_refClk (c : Nat) (x : Chan) : (s.setChan c x).refClk = s.refClk := rfl
@[simp] theorem setChan_fusing (c : Nat) (x : Chan) : (s.setChan c x).fusing = s.fusing := rfl
@[simp] theorem setChan_fuse (c : Nat) (x : Chan) : (s.setChan c x).fuse = s.fuse := rfl
@[simp] theorem setChan_memInit (c : Nat) (x : Chan) : (s.setChan c x).memInit = s.memInit := rfl
@[simp] theorem setChan_time (c : Nat) (x : Chan) : (s.setChan c x).time = s.time := rfl
@[simp] theorem setChan_incrHeld (c : Nat) (x : Chan) : (s.setChan c x).incrHeld = s.incrHeld := rfl
@[simp] theorem setChan_logCopy (c : Nat) (x : Chan) : (s.setChan c x).logCopy = s.logCopy := rfl
@[simp] theorem setChan_bel (c : Nat) (x : Chan) : (s.setChan c x).bel = s.bel := rfl
@[simp] theorem setChan_belLvl (c : Nat) (x : Chan) : (s.setChan c x).belLvl = s.belLvl := rfl
@[simp] theorem setChan_belStack (c : Nat) (x : Chan) : (s.setChan c x).belStack = s.belStack := rfl
@[simp] theorem setChan_vec (c : Nat) (x : Chan) : (s.setChan c x).vec = s.vec := rfl
@[simp] theorem setChan_belClaims (c : Nat) (x : Chan) : (s.setChan c x).belClaims = s.belClaims := rfl
@[simp] theorem setChan_pulsed (c : Nat) (x : Chan) : (s.setChan c x).pulsed = s.pulsed := rfl
@[simp] theorem setChan_raised (c : Nat) (x : Chan) : (s.setChan c x).raised = s.raised := rfl
@[simp] theorem setChan_faultSyn (c : Nat) (x : Chan) : (s.setChan c x).faultSyn = s.faultSyn := rfl
@[simp] theorem setChan_episode (c : Nat) (x : Chan) : (s.setChan c x).episode = s.episode := rfl
@[simp] theorem setChan_episodeFirst (c : Nat) (x : Chan) : (s.setChan c x).episodeFirst = s.episodeFirst := rfl
@[simp] theorem setChan_blkReset (c : Nat) (x : Chan) : (s.setChan c x).blkReset = s.blkReset := rfl
@[simp] theorem setChan_shadowed (c : Nat) (x : Chan) : (s.setChan c x).shadowed = s.shadowed := rfl
@[simp] theorem setChan_injected (c : Nat) (x : Chan) : (s.setChan c x).injected = s.injected := rfl
@[simp] theorem setChan_lantern (c : Nat) (x : Chan) : (s.setChan c x).lantern = s.lantern := rfl
@[simp] theorem setChan_halfNow (c : Nat) (x : Chan) : (s.setChan c x).halfNow = s.halfNow := rfl
@[simp] theorem setChan_logRing (c : Nat) (x : Chan) : (s.setChan c x).logRing = s.logRing := rfl
@[simp] theorem setChan_logQ (c : Nat) (x : Chan) : (s.setChan c x).logQ = s.logQ := rfl
@[simp] theorem setChan_img (c : Nat) (x : Chan) : (s.setChan c x).img = s.img := rfl
@[simp] theorem setChan_frames (c : Nat) (x : Chan) : (s.setChan c x).frames = s.frames := rfl
@[simp] theorem setChan_taken (c : Nat) (x : Chan) : (s.setChan c x).taken = s.taken := rfl
@[simp] theorem setChan_lost (c : Nat) (x : Chan) : (s.setChan c x).lost = s.lost := rfl
@[simp] theorem setChan_queues (c : Nat) (x : Chan) : (s.setChan c x).queues = s.queues := rfl
@[simp] theorem setChan_fLast (c : Nat) (x : Chan) : (s.setChan c x).fLast = s.fLast := rfl
@[simp] theorem setChan_qUsed (c : Nat) (x : Chan) : (s.setChan c x).qUsed = s.qUsed := rfl
@[simp] theorem setChan_oldClass (c : Nat) (x : Chan) : (s.setChan c x).oldClass = s.oldClass := rfl
@[simp] theorem setChan_cand (c : Nat) (x : Chan) : (s.setChan c x).cand = s.cand := rfl
@[simp] theorem setChan_tx (c : Nat) (x : Chan) : (s.setChan c x).tx = s.tx := rfl
@[simp] theorem setChan_rx (c : Nat) (x : Chan) : (s.setChan c x).rx = s.rx := rfl
@[simp] theorem setChan_injEnd (c : Nat) (x : Chan) : (s.setChan c x).injEnd = s.injEnd := rfl
@[simp] theorem setChan_seg (c : Nat) (x : Chan) : (s.setChan c x).seg = s.seg := rfl
@[simp] theorem setChan_fldLink (c : Nat) (x : Chan) : (s.setChan c x).fldLink = s.fldLink := rfl
@[simp] theorem setChan_mac (c : Nat) (x : Chan) : (s.setChan c x).mac = s.mac := rfl
@[simp] theorem setChan_drrPtr (c : Nat) (x : Chan) : (s.setChan c x).drrPtr = s.drrPtr := rfl
@[simp] theorem setChan_shaper (c : Nat) (x : Chan) : (s.setChan c x).shaper = s.shaper := rfl
@[simp] theorem setChan_credit (c : Nat) (x : Chan) : (s.setChan c x).credit = s.credit := rfl
@[simp] theorem setChan_hostQ (c : Nat) (x : Chan) : (s.setChan c x).hostQ = s.hostQ := rfl
@[simp] theorem setChan_itkQ (c : Nat) (x : Chan) : (s.setChan c x).itkQ = s.itkQ := rfl
@[simp] theorem setChan_etkQ (c : Nat) (x : Chan) : (s.setChan c x).etkQ = s.etkQ := rfl
@[simp] theorem setChan_flow (c : Nat) (x : Chan) : (s.setChan c x).flow = s.flow := rfl
@[simp] theorem setChan_pfx (c : Nat) (x : Chan) : (s.setChan c x).pfx = s.pfx := rfl
@[simp] theorem setChan_clsA (c : Nat) (x : Chan) : (s.setChan c x).clsA = s.clsA := rfl
@[simp] theorem setChan_clsS (c : Nat) (x : Chan) : (s.setChan c x).clsS = s.clsS := rfl
@[simp] theorem setChan_journal (c : Nat) (x : Chan) : (s.setChan c x).journal = s.journal := rfl
@[simp] theorem setChan_clsD (c : Nat) (x : Chan) : (s.setChan c x).clsD = s.clsD := rfl
@[simp] theorem setChan_discardFailed (c : Nat) (x : Chan) : (s.setChan c x).discardFailed = s.discardFailed := rfl
@[simp] theorem setChan_drainWarned (c : Nat) (x : Chan) : (s.setChan c x).drainWarned = s.drainWarned := rfl
@[simp] theorem setChan_tae (c : Nat) (x : Chan) : (s.setChan c x).tae = s.tae := rfl
@[simp] theorem setChan_ctx (c : Nat) (x : Chan) : (s.setChan c x).ctx = s.ctx := rfl
@[simp] theorem setChan_nodeCnt (c : Nat) (x : Chan) : (s.setChan c x).nodeCnt = s.nodeCnt := rfl
@[simp] theorem setChan_sweepPass (c : Nat) (x : Chan) : (s.setChan c x).sweepPass = s.sweepPass := rfl
@[simp] theorem setChan_sweepPos (c : Nat) (x : Chan) : (s.setChan c x).sweepPos = s.sweepPos := rfl
@[simp] theorem setChan_agePeriod (c : Nat) (x : Chan) : (s.setChan c x).agePeriod = s.agePeriod := rfl
@[simp] theorem setChan_portPol (c : Nat) (x : Chan) : (s.setChan c x).portPol = s.portPol := rfl
@[simp] theorem setChan_flowPol (c : Nat) (x : Chan) : (s.setChan c x).flowPol = s.flowPol := rfl
@[simp] theorem setChan_ocuWatchPos (c : Nat) (x : Chan) : (s.setChan c x).ocuWatchPos = s.ocuWatchPos := rfl
@[simp] theorem setChan_ocuSweepHeld (c : Nat) (x : Chan) : (s.setChan c x).ocuSweepHeld = s.ocuSweepHeld := rfl
@[simp] theorem setChan_ocuWatchHeld (c : Nat) (x : Chan) : (s.setChan c x).ocuWatchHeld = s.ocuWatchHeld := rfl
@[simp] theorem setChan_ocuBuf (c : Nat) (x : Chan) : (s.setChan c x).ocuBuf = s.ocuBuf := rfl
@[simp] theorem setChan_phase (c : Nat) (x : Chan) : (s.setChan c x).phase = s.phase := rfl
@[simp] theorem setChan_gcl (c : Nat) (x : Chan) : (s.setChan c x).gcl = s.gcl := rfl
@[simp] theorem setChan_gmem (c : Nat) (x : Chan) : (s.setChan c x).gmem = s.gmem := rfl
@[simp] theorem setChan_clkRun (c : Nat) (x : Chan) : (s.setChan c x).clkRun = s.clkRun := rfl
@[simp] theorem setChan_ext (c : Nat) (x : Chan) : (s.setChan c x).ext = s.ext := rfl
@[simp] theorem setChan_extPort (c : Nat) (x : Chan) : (s.setChan c x).extPort = s.extPort := rfl
@[simp] theorem setChan_extHold (c : Nat) (x : Chan) : (s.setChan c x).extHold = s.extHold := rfl
@[simp] theorem setChan_rrNext (c : Nat) (x : Chan) : (s.setChan c x).rrNext = s.rrNext := rfl
@[simp] theorem setChan_exp (c : Nat) (x : Chan) : (s.setChan c x).exp = s.exp := rfl
@[simp] theorem setChan_dup (c : Nat) (x : Chan) : (s.setChan c x).dup = s.dup := rfl
@[simp] theorem setChan_spiRun (c : Nat) (x : Chan) : (s.setChan c x).spiRun = s.spiRun := rfl
@[simp] theorem setChan_podl (c : Nat) (x : Chan) : (s.setChan c x).podl = s.podl := rfl
@[simp] theorem setChan_settling (c : Nat) (x : Chan) : (s.setChan c x).settling = s.settling := rfl
@[simp] theorem setChan_podlSeq (c : Nat) (x : Chan) : (s.setChan c x).podlSeq = s.podlSeq := rfl
@[simp] theorem setChan_avsHit (c : Nat) (x : Chan) : (s.setChan c x).avsHit = s.avsHit := rfl
@[simp] theorem setChan_avsNew (c : Nat) (x : Chan) : (s.setChan c x).avsNew = s.avsNew := rfl
@[simp] theorem setChan_avsMin (c : Nat) (x : Chan) : (s.setChan c x).avsMin = s.avsMin := rfl
@[simp] theorem setChan_grants (c : Nat) (x : Chan) : (s.setChan c x).grants = s.grants := rfl
@[simp] theorem setChan_epochAt (c : Nat) (x : Chan) : (s.setChan c x).epochAt = s.epochAt := rfl
@[simp] theorem setChan_spent (c : Nat) (x : Chan) : (s.setChan c x).spent = s.spent := rfl
@[simp] theorem setChan_keep (c : Nat) (x : Chan) : (s.setChan c x).keep = s.keep := rfl
@[simp] theorem setChan_mirror (c : Nat) (x : Chan) : (s.setChan c x).mirror = s.mirror := rfl
@[simp] theorem setChan_ses (c : Nat) (x : Chan) : (s.setChan c x).ses = s.ses := rfl
@[simp] theorem setChan_sesQ (c : Nat) (x : Chan) : (s.setChan c x).sesQ = s.sesQ := rfl
@[simp] theorem setChan_sesFails (c : Nat) (x : Chan) : (s.setChan c x).sesFails = s.sesFails := rfl
@[simp] theorem setChan_keys (c : Nat) (x : Chan) : (s.setChan c x).keys = s.keys := rfl
@[simp] theorem setChan_sti (c : Nat) (x : Chan) : (s.setChan c x).sti = s.sti := rfl

/-! `State.outside` keeps the queue, the resets and the clocks of the state before. -/

@[simp] theorem outside_regs (t : State) : (s.outside t).regs = t.regs := rfl
@[simp] theorem outside_shadows (t : State) : (s.outside t).shadows = t.shadows := rfl
@[simp] theorem outside_fresh (t : State) : (s.outside t).fresh = t.fresh := rfl
@[simp] theorem outside_now (t : State) : (s.outside t).now = t.now := rfl
@[simp] theorem outside_out (t : State) : (s.outside t).out = t.out := rfl
@[simp] theorem outside_rsResp (t : State) : (s.outside t).rsResp = t.rsResp := rfl
@[simp] theorem outside_mntResp (t : State) : (s.outside t).mntResp = t.mntResp := rfl
@[simp] theorem outside_mntCut (t : State) : (s.outside t).mntCut = t.mntCut := rfl
@[simp] theorem outside_fusing (t : State) : (s.outside t).fusing = t.fusing := rfl
@[simp] theorem outside_fuse (t : State) : (s.outside t).fuse = t.fuse := rfl
@[simp] theorem outside_memInit (t : State) : (s.outside t).memInit = t.memInit := rfl
@[simp] theorem outside_time (t : State) : (s.outside t).time = t.time := rfl
@[simp] theorem outside_incrHeld (t : State) : (s.outside t).incrHeld = t.incrHeld := rfl
@[simp] theorem outside_logCopy (t : State) : (s.outside t).logCopy = t.logCopy := rfl
@[simp] theorem outside_bel (t : State) : (s.outside t).bel = t.bel := rfl
@[simp] theorem outside_belLvl (t : State) : (s.outside t).belLvl = t.belLvl := rfl
@[simp] theorem outside_belStack (t : State) : (s.outside t).belStack = t.belStack := rfl
@[simp] theorem outside_vec (t : State) : (s.outside t).vec = t.vec := rfl
@[simp] theorem outside_belClaims (t : State) : (s.outside t).belClaims = t.belClaims := rfl
@[simp] theorem outside_raised (t : State) : (s.outside t).raised = t.raised := rfl
@[simp] theorem outside_faultSyn (t : State) : (s.outside t).faultSyn = t.faultSyn := rfl
@[simp] theorem outside_episode (t : State) : (s.outside t).episode = t.episode := rfl
@[simp] theorem outside_episodeFirst (t : State) : (s.outside t).episodeFirst = t.episodeFirst := rfl
@[simp] theorem outside_blkReset (t : State) : (s.outside t).blkReset = t.blkReset := rfl
@[simp] theorem outside_shadowed (t : State) : (s.outside t).shadowed = t.shadowed := rfl
@[simp] theorem outside_injected (t : State) : (s.outside t).injected = t.injected := rfl
@[simp] theorem outside_lantern (t : State) : (s.outside t).lantern = t.lantern := rfl
@[simp] theorem outside_halfNow (t : State) : (s.outside t).halfNow = t.halfNow := rfl
@[simp] theorem outside_logRing (t : State) : (s.outside t).logRing = t.logRing := rfl
@[simp] theorem outside_logQ (t : State) : (s.outside t).logQ = t.logQ := rfl
@[simp] theorem outside_img (t : State) : (s.outside t).img = t.img := rfl
@[simp] theorem outside_frames (t : State) : (s.outside t).frames = t.frames := rfl
@[simp] theorem outside_taken (t : State) : (s.outside t).taken = t.taken := rfl
@[simp] theorem outside_lost (t : State) : (s.outside t).lost = t.lost := rfl
@[simp] theorem outside_queues (t : State) : (s.outside t).queues = t.queues := rfl
@[simp] theorem outside_fLast (t : State) : (s.outside t).fLast = t.fLast := rfl
@[simp] theorem outside_qUsed (t : State) : (s.outside t).qUsed = t.qUsed := rfl
@[simp] theorem outside_oldClass (t : State) : (s.outside t).oldClass = t.oldClass := rfl
@[simp] theorem outside_cand (t : State) : (s.outside t).cand = t.cand := rfl
@[simp] theorem outside_tx (t : State) : (s.outside t).tx = t.tx := rfl
@[simp] theorem outside_rx (t : State) : (s.outside t).rx = t.rx := rfl
@[simp] theorem outside_injEnd (t : State) : (s.outside t).injEnd = t.injEnd := rfl
@[simp] theorem outside_seg (t : State) : (s.outside t).seg = t.seg := rfl
@[simp] theorem outside_fldLink (t : State) : (s.outside t).fldLink = t.fldLink := rfl
@[simp] theorem outside_mac (t : State) : (s.outside t).mac = t.mac := rfl
@[simp] theorem outside_drrPtr (t : State) : (s.outside t).drrPtr = t.drrPtr := rfl
@[simp] theorem outside_shaper (t : State) : (s.outside t).shaper = t.shaper := rfl
@[simp] theorem outside_credit (t : State) : (s.outside t).credit = t.credit := rfl
@[simp] theorem outside_hostQ (t : State) : (s.outside t).hostQ = t.hostQ := rfl
@[simp] theorem outside_itkQ (t : State) : (s.outside t).itkQ = t.itkQ := rfl
@[simp] theorem outside_etkQ (t : State) : (s.outside t).etkQ = t.etkQ := rfl
@[simp] theorem outside_flow (t : State) : (s.outside t).flow = t.flow := rfl
@[simp] theorem outside_pfx (t : State) : (s.outside t).pfx = t.pfx := rfl
@[simp] theorem outside_clsA (t : State) : (s.outside t).clsA = t.clsA := rfl
@[simp] theorem outside_clsS (t : State) : (s.outside t).clsS = t.clsS := rfl
@[simp] theorem outside_journal (t : State) : (s.outside t).journal = t.journal := rfl
@[simp] theorem outside_clsD (t : State) : (s.outside t).clsD = t.clsD := rfl
@[simp] theorem outside_discardFailed (t : State) : (s.outside t).discardFailed = t.discardFailed := rfl
@[simp] theorem outside_drainWarned (t : State) : (s.outside t).drainWarned = t.drainWarned := rfl
@[simp] theorem outside_tae (t : State) : (s.outside t).tae = t.tae := rfl
@[simp] theorem outside_ctx (t : State) : (s.outside t).ctx = t.ctx := rfl
@[simp] theorem outside_nodeCnt (t : State) : (s.outside t).nodeCnt = t.nodeCnt := rfl
@[simp] theorem outside_sweepPass (t : State) : (s.outside t).sweepPass = t.sweepPass := rfl
@[simp] theorem outside_sweepPos (t : State) : (s.outside t).sweepPos = t.sweepPos := rfl
@[simp] theorem outside_agePeriod (t : State) : (s.outside t).agePeriod = t.agePeriod := rfl
@[simp] theorem outside_portPol (t : State) : (s.outside t).portPol = t.portPol := rfl
@[simp] theorem outside_flowPol (t : State) : (s.outside t).flowPol = t.flowPol := rfl
@[simp] theorem outside_ocuWatchPos (t : State) : (s.outside t).ocuWatchPos = t.ocuWatchPos := rfl
@[simp] theorem outside_ocuSweepHeld (t : State) : (s.outside t).ocuSweepHeld = t.ocuSweepHeld := rfl
@[simp] theorem outside_ocuWatchHeld (t : State) : (s.outside t).ocuWatchHeld = t.ocuWatchHeld := rfl
@[simp] theorem outside_ocuBuf (t : State) : (s.outside t).ocuBuf = t.ocuBuf := rfl
@[simp] theorem outside_phase (t : State) : (s.outside t).phase = t.phase := rfl
@[simp] theorem outside_gcl (t : State) : (s.outside t).gcl = t.gcl := rfl
@[simp] theorem outside_gmem (t : State) : (s.outside t).gmem = t.gmem := rfl
@[simp] theorem outside_clkRun (t : State) : (s.outside t).clkRun = t.clkRun := rfl
@[simp] theorem outside_ext (t : State) : (s.outside t).ext = t.ext := rfl
@[simp] theorem outside_extPort (t : State) : (s.outside t).extPort = t.extPort := rfl
@[simp] theorem outside_extHold (t : State) : (s.outside t).extHold = t.extHold := rfl
@[simp] theorem outside_rrNext (t : State) : (s.outside t).rrNext = t.rrNext := rfl
@[simp] theorem outside_exp (t : State) : (s.outside t).exp = t.exp := rfl
@[simp] theorem outside_dup (t : State) : (s.outside t).dup = t.dup := rfl
@[simp] theorem outside_spiRun (t : State) : (s.outside t).spiRun = t.spiRun := rfl
@[simp] theorem outside_dma (t : State) : (s.outside t).dma = t.dma := rfl
@[simp] theorem outside_podl (t : State) : (s.outside t).podl = t.podl := rfl
@[simp] theorem outside_settling (t : State) : (s.outside t).settling = t.settling := rfl
@[simp] theorem outside_podlSeq (t : State) : (s.outside t).podlSeq = t.podlSeq := rfl
@[simp] theorem outside_avsHit (t : State) : (s.outside t).avsHit = t.avsHit := rfl
@[simp] theorem outside_avsNew (t : State) : (s.outside t).avsNew = t.avsNew := rfl
@[simp] theorem outside_avsMin (t : State) : (s.outside t).avsMin = t.avsMin := rfl
@[simp] theorem outside_grants (t : State) : (s.outside t).grants = t.grants := rfl
@[simp] theorem outside_epochAt (t : State) : (s.outside t).epochAt = t.epochAt := rfl
@[simp] theorem outside_spent (t : State) : (s.outside t).spent = t.spent := rfl
@[simp] theorem outside_keep (t : State) : (s.outside t).keep = t.keep := rfl
@[simp] theorem outside_mirror (t : State) : (s.outside t).mirror = t.mirror := rfl
@[simp] theorem outside_ses (t : State) : (s.outside t).ses = t.ses := rfl
@[simp] theorem outside_sesQ (t : State) : (s.outside t).sesQ = t.sesQ := rfl
@[simp] theorem outside_sesFails (t : State) : (s.outside t).sesFails = t.sesFails := rfl
@[simp] theorem outside_keys (t : State) : (s.outside t).keys = t.keys := rfl
@[simp] theorem outside_sti (t : State) : (s.outside t).sti = t.sti := rfl

end Sys2Proof.Machine
end

