-- ==== Sys2Proof/Laws/Tables.lean ====
section
/-! SUPPORT. What the sparse tables do: an entry that has been set is found again, the others stay, and the canonical form is kept. -/
namespace Sys2Proof.Machine

/-! Bits of numbers. -/

theorem testBit_one_shl (i k : Nat) : (1 <<< i).testBit k = decide (k = i) := by
  rw [Nat.one_shiftLeft, Nat.testBit_two_pow]
  exact decide_eq_decide.mpr eq_comm

theorem testBit_orBit (n i k : Nat) : (orBit n i).testBit k = (n.testBit k || decide (k = i)) := by
  rw [orBit, Nat.testBit_or, testBit_one_shl]

theorem testBit_clrBit (n i k : Nat) : (clrBit n i).testBit k = (n.testBit k && !decide (k = i)) := by
  unfold clrBit
  split
  · rw [Nat.testBit_xor, testBit_one_shl]
    by_cases h : k = i
    · subst h; simp [*]
    · simp [h]
  · by_cases h : k = i
    · subst h; simp [*]
    · simp [h]

theorem testBit_andNot (a m k : Nat) : (andNot a m).testBit k = (a.testBit k && !m.testBit k) := by
  rw [andNot, Nat.testBit_xor, Nat.testBit_and]
  cases a.testBit k <;> simp

theorem tfind_tins_same {α : Type} (m : List (Nat × α)) (k : Nat) (x : α) : tfind (tins m k x) k = some x := by
  induction m with
  | nil => simp [tins, tfind]
  | cons e t ih =>
    obtain ⟨j, w⟩ := e
    simp only [tins]
    split
    · simp [tfind]
    · split
      · simp [tfind]
      · rename_i h; simp [tfind, ih, Ne.symm h]

theorem tfind_tins_other {α : Type} (m : List (Nat × α)) (k j : Nat) (x : α) (h : j ≠ k) :
    tfind (tins m k x) j = tfind m j := by
  induction m with
  | nil => simp [tins, tfind, Ne.symm h]
  | cons e t ih =>
    obtain ⟨i, w⟩ := e
    simp only [tins]
    split
    · simp [tfind, Ne.symm h]
    · split
      · rename_i hk; subst hk; simp [tfind, Ne.symm h]
      · simp [tfind, ih]

theorem tfind_tdel_same {α : Type} (m : List (Nat × α)) (k : Nat) : tfind (tdel m k) k = none := by
  induction m with
  | nil => simp [tdel, tfind]
  | cons e t ih =>
    obtain ⟨j, w⟩ := e
    simp only [tdel]
    split
    · exact ih
    · rename_i h; simp [tfind, h, ih]

theorem tfind_tdel_other {α : Type} (m : List (Nat × α)) (k j : Nat) (h : j ≠ k) : tfind (tdel m k) j = tfind m j := by
  induction m with
  | nil => simp [tdel, tfind]
  | cons e t ih =>
    obtain ⟨i, w⟩ := e
    simp only [tdel]
    split
    · rename_i hk; subst hk; simp [tfind, Ne.symm h, ih]
    · simp [tfind, ih]

/-- The entry that `tset` sets is the one found. -/
@[simp] theorem tfind_tset_same {α : Type} (m : List (Nat × α)) (k : Nat) (v : Option α) : tfind (tset m k v) k = v := by
  cases v <;> simp [tset, tfind_tins_same, tfind_tdel_same]

/-- `tset` leaves every other key. -/
theorem tfind_tset_other {α : Type} (m : List (Nat × α)) (k j : Nat) (v : Option α) (h : j ≠ k) :
    tfind (tset m k v) j = tfind m j := by
  cases v <;> simp [tset, tfind_tins_other, tfind_tdel_other, h]

@[simp] theorem tfind_nil {α : Type} (k : Nat) : tfind ([] : List (Nat × α)) k = none := rfl

@[simp] theorem tget_nil {α : Type} (d : α) (k : Nat) : tget d [] k = d := rfl

/-- The entry that `tput` puts is the one read. -/
@[simp] theorem tget_tput_same {α : Type} [DecidableEq α] (d : α) (m : List (Nat × α)) (k : Nat) (v : α) :
    tget d (tput d m k v) k = v := by
  simp only [tget, tput, tfind_tset_same]
  split <;> simp_all

/-- `tput` leaves every other key. -/
theorem tget_tput_other {α : Type} [DecidableEq α] (d : α) (m : List (Nat × α)) (k j : Nat) (v : α) (h : j ≠ k) :
    tget d (tput d m k v) j = tget d m j := by
  simp [tget, tput, tfind_tset_other, h]

/-- Everything that reading after `tput` can answer. -/
theorem tget_tput {α : Type} [DecidableEq α] (d : α) (m : List (Nat × α)) (k j : Nat) (v : α) :
    tget d (tput d m k v) j = if j = k then v else tget d m j := by
  split
  · subst_vars; simp
  · exact tget_tput_other d m k j v ‹_›

/-- Entries that `p` turns away do not change under a `tset` of a key that `p` turns away. -/
theorem filter_tset {α : Type} (p : Nat → Bool) (m : List (Nat × α)) (k : Nat) (v : Option α) (h : p k = false) :
    (tset m k v).filter (fun e => p e.1) = m.filter (fun e => p e.1) := by
  cases v with
  | none =>
    simp only [tset]
    induction m with
    | nil => rfl
    | cons e t ih =>
      obtain ⟨j, w⟩ := e
      simp only [tdel]
      split
      · rename_i hk; subst hk; simp [h, ih]
      · simp [List.filter_cons, ih]
  | some x =>
    simp only [tset]
    induction m with
    | nil => simp [tins, h]
    | cons e t ih =>
      obtain ⟨j, w⟩ := e
      simp only [tins]
      split
      · simp [h]
      · split
        · rename_i hk; subst hk; simp [h]
        · simp [List.filter_cons, ih]

/-! The canonical form. -/

theorem mem_tins {α : Type} (m : List (Nat × α)) (k : Nat) (x : α) : ∀ e ∈ tins m k x, e = (k, x) ∨ e ∈ m := by
  induction m with
  | nil => simp [tins]
  | cons a t ih =>
    obtain ⟨j, w⟩ := a
    intro e he
    simp only [tins] at he
    split at he
    · simpa using he
    · split at he
      · rcases List.mem_cons.1 he with h | h
        · exact .inl h
        · exact .inr (List.mem_cons_of_mem _ h)
      · rcases List.mem_cons.1 he with h | h
        · exact .inr (h ▸ List.mem_cons_self)
        · exact (ih e h).imp id (List.mem_cons_of_mem _)

theorem mem_tdel {α : Type} (m : List (Nat × α)) (k : Nat) : ∀ e ∈ tdel m k, e ∈ m := by
  induction m with
  | nil => simp [tdel]
  | cons a t ih =>
    obtain ⟨j, w⟩ := a
    intro e he
    simp only [tdel] at he
    split at he
    · exact List.mem_cons_of_mem _ (ih e he)
    · rcases List.mem_cons.1 he with h | h
      · exact h ▸ List.mem_cons_self
      · exact List.mem_cons_of_mem _ (ih e h)

theorem Canonical_tins {α : Type} {d : Nat → α} {m : List (Nat × α)} (hm : Canonical d m) {k : Nat} {x : α} (hx : x ≠ d k) :
    Canonical d (tins m k x) := by
  induction m with
  | nil => simpa [Machine.tins, Canonical] using hx
  | cons a t ih =>
    obtain ⟨j, w⟩ := a
    obtain ⟨h1, h2, h3⟩ := hm
    simp only [Machine.tins]
    split
    · rename_i hk
      refine ⟨hx, ?_, h1, h2, h3⟩
      intro e he
      rcases List.mem_cons.1 he with h | h
      · simpa [h] using hk
      · exact Nat.lt_trans hk (h2 e h)
    · split
      · rename_i hk; subst hk; exact ⟨hx, h2, h3⟩
      · rename_i hk hne
        refine ⟨h1, ?_, ih h3⟩
        intro e he
        rcases mem_tins t k x e he with h | h
        · simp only [h]; omega
        · exact h2 e h

theorem Canonical_tdel {α : Type} {d : Nat → α} {m : List (Nat × α)} (hm : Canonical d m) (k : Nat) :
    Canonical d (tdel m k) := by
  induction m with
  | nil => exact trivial
  | cons a t ih =>
    obtain ⟨j, w⟩ := a
    obtain ⟨h1, h2, h3⟩ := hm
    simp only [Machine.tdel]
    split
    · exact ih h3
    · exact ⟨h1, fun e he => h2 e (mem_tdel t k e he), ih h3⟩

/-- Setting an entry that is not the default, or clearing one, keeps the canonical form. -/
theorem Canonical_tset {α : Type} {d : Nat → α} {m : List (Nat × α)} (hm : Canonical d m) {k : Nat} {v : Option α}
    (hv : v ≠ some (d k)) : Canonical d (tset m k v) := by
  cases v with
  | none => exact Canonical_tdel hm k
  | some x => exact Canonical_tins hm (by simpa using hv)

/-- A table cut down to some of its keys. -/
theorem tfind_filter {α : Type} (p : Nat → Bool) (l : List (Nat × α)) (k : Nat) :
    tfind (l.filter fun e => p e.1) k = if p k then tfind l k else none := by
  induction l with
  | nil => simp [tfind]
  | cons a t ih =>
    obtain ⟨j, v⟩ := a
    by_cases hj : j = k
    · subst hj
      by_cases hp : p j <;> simp [hp, tfind, ih]
    · by_cases hp : p j <;> simp [hp, tfind, ih, hj]

end Sys2Proof.Machine
end

