-- ==== Sys2Proof/Laws/Registers.lean ====
section
/-! SUPPORT. What reading a register or a field answers after a write (R9 to R13), and the gates of clock and reset under updates. -/
namespace Sys2Proof.Machine

theorem ctorIdx_lt (r : Reg) : r.ctorIdx < 512 := by cases r <;> decide

theorem ctorIdx_inj {r r' : Reg} (h : r.ctorIdx = r'.ctorIdx) : r = r' := by
  rw [← Reg.ofNat_ctorIdx r, ← Reg.ofNat_ctorIdx r', h]

/-- Two places of the register window are the same only for one register and one instance. -/
theorem regKey_inj {r r' : Reg} {i i' : Nat} : regKey r i = regKey r' i' ↔ r = r' ∧ i = i' := by
  constructor
  · intro h
    have h1 := ctorIdx_lt r
    have h2 := ctorIdx_lt r'
    simp only [regKey] at h
    have hi : i = i' := by omega
    exact ⟨ctorIdx_inj (by omega), hi⟩
  · rintro ⟨rfl, rfl⟩; rfl

/-- Everything that reading a register can answer after a write. -/
theorem rd_wr (s : State) (r r' : Reg) (i i' : Nat) (w : Word) :
    (s.wr r i w).rd r' i' = if r' = r ∧ i' = i then w else s.rd r' i' := by
  simp only [State.rd, State.wr]
  by_cases h : r' = r ∧ i' = i
  · obtain ⟨rfl, rfl⟩ := h
    simp only [tfind_tset_same, and_self, if_true]
    split <;> simp_all
  · rw [tfind_tset_other _ _ _ _ (fun e => h (regKey_inj.1 e)), if_neg h]

@[simp] theorem rd_wr_same (s : State) (r : Reg) (i : Nat) (w : Word) : (s.wr r i w).rd r i = w := by simp [rd_wr]

/-- A write leaves every other register. -/
theorem rd_wr_other (s : State) {r r' : Reg} {i i' : Nat} (w : Word) (h : ¬(r' = r ∧ i' = i)) :
    (s.wr r i w).rd r' i' = s.rd r' i' := by simp [rd_wr, h]

/-- Fields lie in 32 bits. -/
def Fld.ok (f : Fld) : Prop := f.lo ≤ f.hi ∧ f.hi ≤ 31

/-- A field reads back the value set, cut to its width. -/
theorem of_into_same (f : Fld) (h : f.lo ≤ f.hi ∧ f.hi ≤ 31) (w : Word) (v : Nat) : f.of (f.into w v) = v % 2 ^ f.width := by
  have hw : f.width ≤ 32 - f.lo := by simp only [Fld.width]; omega
  apply Nat.eq_of_testBit_eq
  intro j
  simp only [Fld.of, Fld.into, Fld.mask, word, BitVec.extractLsb'_toNat, Nat.testBit_mod_two_pow, Nat.testBit_shiftRight]
  by_cases hj : j < f.width
  · have h32 : f.lo + j < 32 := by omega
    rw [BitVec.testBit_toNat]
    have e : (BitVec.ofNat 32 ((2 ^ f.width - 1) <<< f.lo))[f.lo + j] = true := by
      rw [← BitVec.getLsbD_eq_getElem, BitVec.getLsbD_ofNat]
      simp [h32, Nat.testBit_shiftLeft, Nat.testBit_two_pow_sub_one, hj]
    have e2 : (BitVec.ofNat 32 ((v % 2 ^ f.width) <<< f.lo))[f.lo + j] = v.testBit j := by
      rw [← BitVec.getLsbD_eq_getElem, BitVec.getLsbD_ofNat]
      simp [h32, Nat.testBit_shiftLeft, Nat.testBit_mod_two_pow, hj]
    simp [hj, h32, e, e2]
  · simp [hj]

/-- Setting a field leaves every field that shares no bit with it. -/
theorem of_into_other (f g : Fld) (h : g.hi < f.lo ∨ f.hi < g.lo) (hg : g.lo ≤ g.hi) (w : Word) (v : Nat) :
    g.of (f.into w v) = g.of w := by
  apply Nat.eq_of_testBit_eq
  intro j
  simp only [Fld.of, Fld.into, Fld.mask, word, BitVec.extractLsb'_toNat, Nat.testBit_mod_two_pow, Nat.testBit_shiftRight]
  by_cases hj : j < g.width
  · have hgw : g.width = g.hi + 1 - g.lo := rfl
    have hfw : f.width = f.hi + 1 - f.lo := rfl
    have hout : g.lo + j < f.lo ∨ f.width ≤ g.lo + j - f.lo := by omega
    rw [BitVec.testBit_toNat, BitVec.testBit_toNat]
    rcases hout with ho | ho
    · simp [hj, BitVec.getLsbD_ofNat, Nat.testBit_shiftLeft, Nat.not_le.2 ho]
      intro hb; exact BitVec.lt_of_getLsbD hb
    · simp [hj, BitVec.getLsbD_ofNat, Nat.testBit_shiftLeft, Nat.testBit_two_pow_sub_one, Nat.testBit_mod_two_pow, Nat.not_lt.2 ho]
      intro hb; exact BitVec.lt_of_getLsbD hb
  · simp [hj]

/-- Everything that reading a field can answer after a field has been set. -/
theorem get_put (s : State) (f g : Fld) (i j v : Nat) :
    (s.put f i v).get g j = if g.reg = f.reg ∧ j = i then g.of (f.into (s.rd f.reg i) v) else s.get g j := by
  simp only [State.get, State.put, rd_wr]
  split <;> simp_all

/-- A field reads back the value set. -/
theorem get_put_same (s : State) (f : Fld) (h : f.lo ≤ f.hi ∧ f.hi ≤ 31) (i v : Nat) : (s.put f i v).get f i = v % 2 ^ f.width := by
  simp [get_put, of_into_same f h]

/-- A field of another register, of another instance or of other bits stays. -/
theorem get_put_other (s : State) (f g : Fld) (i j v : Nat)
    (h : (¬(g.reg = f.reg ∧ j = i)) ∨ ((g.hi < f.lo ∨ f.hi < g.lo) ∧ g.lo ≤ g.hi)) : (s.put f i v).get g j = s.get g j := by
  rw [get_put]
  split
  · rename_i hr
    rcases h with h | ⟨h, hg⟩
    · exact absurd hr h
    · rw [of_into_other f g h hg, State.get, hr.1, hr.2]
  · rfl

/-- A field after a write of its register. -/
theorem get_wr (s : State) (f : Fld) (r : Reg) (i j : Nat) (w : Word) :
    (s.wr r i w).get f j = if f.reg = r ∧ j = i then f.of w else s.get f j := by
  simp only [State.get, rd_wr]
  split <;> simp_all

/-! Registers under updates of anything else. -/

@[simp] theorem rd_used (s : State) (r : Reg) (i : Nat) : s.used.rd r i = s.rd r i := rfl
@[simp] theorem rd_emit (s : State) (o : Output) (r : Reg) (i : Nat) : (s.emit o).rd r i = s.rd r i := rfl
@[simp] theorem rd_setBel (s : State) (k : Nat) (b : BelSrc) (r : Reg) (i : Nat) : (s.setBel k b).rd r i = s.rd r i := rfl
@[simp] theorem rd_setMac (s : State) (p : Nat) (m : Mac) (r : Reg) (i : Nat) : (s.setMac p m).rd r i = s.rd r i := rfl
@[simp] theorem rd_setRx (s : State) (p : Nat) (x : Option Rx) (r : Reg) (i : Nat) : (s.setRx p x).rd r i = s.rd r i := rfl
@[simp] theorem rd_setTx (s : State) (p : Nat) (x : Option Tx) (r : Reg) (i : Nat) : (s.setTx p x).rd r i = s.rd r i := rfl
@[simp] theorem rd_setSeg (s : State) (p : Nat) (x : Seg) (r : Reg) (i : Nat) : (s.setSeg p x).rd r i = s.rd r i := rfl
@[simp] theorem rd_setCtx (s : State) (p : Nat) (x : Ctx) (r : Reg) (i : Nat) : (s.setCtx p x).rd r i = s.rd r i := rfl
@[simp] theorem rd_setSes (s : State) (p : Nat) (x : Session) (r : Reg) (i : Nat) : (s.setSes p x).rd r i = s.rd r i := rfl
@[simp] theorem rd_setChan (s : State) (p : Nat) (x : Chan) (r : Reg) (i : Nat) : (s.setChan p x).rd r i = s.rd r i := rfl

/-- Folding keeps what every step keeps. -/
theorem each_keeps {α β : Type} (g : State → β) (l : List α) (f : State → α → State) (h : ∀ s a, g (f s a) = g s) (s : State) :
    g (s.each l f) = g s := by
  unfold State.each
  induction l generalizing s with
  | nil => rfl
  | cons a t ih => rw [List.foldl_cons, ih, h]

@[simp] theorem rd_present (s : State) (t : Nat) (r : Reg) (i : Nat) : (s.present t).rd r i = s.rd r i := rfl

/-- Presentation changes no register. -/
@[simp] theorem rd_presentAll (s : State) (r : Reg) (i : Nat) : s.presentAll.rd r i = s.rd r i :=
  each_keeps (fun s => s.rd r i) (List.range 8) State.present (fun _ _ => rfl) s

/-! Clock and reset under updates. -/

@[simp] theorem coreOn_wr (s : State) (r : Reg) (i : Nat) (w : Word) : (s.wr r i w).coreOn = s.coreOn := rfl
@[simp] theorem coreOn_put (s : State) (f : Fld) (i v : Nat) : (s.put f i v).coreOn = s.coreOn := rfl
@[simp] theorem coreUp_wr (s : State) (r : Reg) (i : Nat) (w : Word) : (s.wr r i w).coreUp = s.coreUp := rfl
@[simp] theorem coreUp_put (s : State) (f : Fld) (i v : Nat) : (s.put f i v).coreUp = s.coreUp := rfl
@[simp] theorem up_wr (s : State) (r : Reg) (i : Nat) (w : Word) (b : Nat) : (s.wr r i w).up b = s.up b := rfl
@[simp] theorem up_put (s : State) (f : Fld) (i v b : Nat) : (s.put f i v).up b = s.up b := rfl
@[simp] theorem aonUp_wr (s : State) (r : Reg) (i : Nat) (w : Word) : (s.wr r i w).aonUp = s.aonUp := rfl
@[simp] theorem aonUp_put (s : State) (f : Fld) (i v : Nat) : (s.put f i v).aonUp = s.aonUp := rfl

end Sys2Proof.Machine
end

