-- ==== Sys2Proof/Laws/Reset.lean ====
section
/-! SUPPORT. What the always-on domain can do to the core domain while a reset holds it: nothing (R37, R66). -/
namespace Sys2Proof.Machine

/-- The registers of the always-on domain, and GLB_SLV_ERR. -/
def aside (r : Reg) : Bool := isAon r || r == .GLB_SLV_ERR

theorem resetReg_aside {r : Reg} (h : aside r = true) (i : Nat) : resetReg (regKey r i) = false := by
  have e : regKey r i % 512 = r.ctorIdx := by
    have := ctorIdx_lt r
    simp [regKey, Nat.mod_eq_of_lt this]
  simp only [resetReg, e, Reg.ofNat_ctorIdx]
  simp only [aside, Bool.or_eq_true, beq_iff_eq] at h
  rcases h with h | h
  · simp [h]
  · subst h; rfl

/-- The core domain of `t` is that of `s`, and a reset holds it. -/
def CoreStill (s t : State) : Prop := t.coreDomain = s.coreDomain ∧ t.coreOn = false

theorem still_refl {s : State} (h : s.coreOn = false) : CoreStill s s := ⟨rfl, h⟩

/-- What a core domain held in reset is, it stays. -/
theorem still_held {s t : State} (h : CoreStill s t) (hs : s.coreOn = false) (hi : HeldInReset s) : HeldInReset t :=
  fun _ => h.1.trans (hi hs)

/-- A register that a complex reset leaves alone is no part of the core domain. -/
theorem still_wr {s t : State} (h : CoreStill s t) (r : Reg) (i : Nat) (w : Word) (hr : aside r = true) :
    CoreStill s (t.wr r i w) := by
  refine ⟨?_, h.2⟩
  rw [← h.1]
  simp only [State.coreDomain, State.wr]
  rw [filter_tset resetReg _ _ _ (resetReg_aside hr i)]

theorem still_put {s t : State} (h : CoreStill s t) (f : Fld) (i v : Nat) (hr : aside f.reg = true) :
    CoreStill s (t.put f i v) := still_wr h f.reg i _ hr

theorem still_each {s t : State} {α : Type} (h : CoreStill s t) (l : List α) (f : State → α → State)
    (hf : ∀ u a, CoreStill s u → CoreStill s (f u a)) : CoreStill s (t.each l f) := by
  unfold State.each
  induction l generalizing t with
  | nil => exact h
  | cons a l ih => exact ih (hf t a h)

theorem still_when {s t : State} (h : CoreStill s t) (c : Bool) (f : State → State) (hf : CoreStill s t → CoreStill s (f t)) :
    CoreStill s (t.when c f) := by
  cases c
  · exact h
  · exact hf h

theorem still_ite {s t u : State} {c : Prop} [Decidable c] (ht : c → CoreStill s t) (hu : ¬c → CoreStill s u) :
    CoreStill s (if c then t else u) := by
  split
  · exact ht ‹_›
  · exact hu ‹_›

/-- A change of a Belfry input changes that input alone while the core domain is in reset. -/
theorem still_setInput {s t : State} (h : CoreStill s t) (i : Nat) (l : Bool) : CoreStill s (t.setInput i l) := by
  unfold State.setInput
  refine still_ite (fun _ => h) (fun _ => ?_)
  dsimp only
  have e : State.up { t with belLvl := tput false t.belLvl i (l != (decide (1040 ≤ i) && decide (i ≤ 1295))) } 15 = false :=
    up_of_off h.2 15
  rw [inBlock_off _ e]
  exact h

theorem still_pulse {s t : State} (h : CoreStill s t) (i : Nat) : CoreStill s (t.pulse i) := by
  unfold State.pulse
  refine still_ite (fun _ => h) (fun _ => ?_)
  have h1 : CoreStill s { t with pulsed := i :: t.pulsed } := h
  exact still_setInput (still_setInput h1 i true) i false

/-- A counter that a complex reset leaves alone: its own saturation mark lies with it. -/
theorem still_inc {s t : State} (h : CoreStill s t) (f : Fld) (i : Nat) (hr : aside f.reg = true)
    (hm : satSource f.reg = 1467 ∨ satSource f.reg = 1469) : CoreStill s (t.inc f i) := by
  simp only [State.inc, State.add]
  have h1 := still_wr h f.reg i (satAdd f (t.rd f.reg i) 1).1 hr
  refine still_ite (fun _ => ?_) (fun _ => h1)
  refine still_pulse ?_ _
  rcases hm with hm | hm <;> rw [hm]
  · exact still_put h1 .LOG_STATUS_SAT 0 1 rfl
  · exact h1

end Sys2Proof.Machine
end

