-- ==== Sys2Proof/Laws/AlwaysOn.lean ====
section
/-! SUPPORT. Every operation of the always-on domain leaves the core domain alone while a reset holds it (R37, R66). -/
namespace Sys2Proof.Machine

variable {s t : State}

theorem still_levelChange (h : CoreStill s t) (i : Nat) (l : Bool) : CoreStill s (t.levelChange i l) := by
  unfold State.levelChange
  rw [inBlock_off _ (up_of_off (still_setInput h i l).2 15)]
  exact still_setInput h i l

theorem still_episode (h : CoreStill s t) (e : Option (Nat × List Nat)) : CoreStill s { t with episode := e } := h

theorem still_episodeFirst (h : CoreStill s t) (b : Bool) : CoreStill s { t with episodeFirst := b } := h

theorem still_record (h : CoreStill s t) (kind flags : Nat) (body : List Word) (z : Bool) :
    CoreStill s (t.record kind flags body z) :=
  still_ite (fun _ => h) (fun _ => still_inc h .LOG_DROPPED_COUNT 0 rfl (.inl rfl))

theorem still_logSource (h : CoreStill s t) : CoreStill s t.logSource := still_pulse h 1467

theorem still_chipRequest (h : CoreStill s t) (m : Bool) (src : Nat) : CoreStill s (t.chipRequest m src) :=
  still_record (still_inc (still_put h .MNT_RST_STATUS_CHIP_REQ 0 1 rfl) .FLT_CHIP_REQ_CNT_COUNT 0
    rfl (.inl rfl)) _ _ _ _

theorem still_lanternHold (h : CoreStill s t) (why : Nat) : CoreStill s (t.lanternHold why) :=
  still_record (still_put h .FLT_LANTERN_STATE 0 2 rfl) _ _ _ _

theorem still_pinReaction (h : CoreStill s t) : CoreStill s t.pinReaction :=
  still_when (still_put h .FLT_STATUS_PIN_HOLD 0 1 rfl) _ _ fun h => still_lanternHold h _

theorem still_irqReaction (h : CoreStill s t) (i : Nat) : CoreStill s (t.irqReaction i) :=
  still_levelChange (still_put h .FLT_SRC_STATUS_IRQ i 1 rfl) _ _

theorem still_nmtReaction (h : CoreStill s t) : CoreStill s t.nmtReaction := still_put h .FLT_NMT_PEND 0 _ rfl

theorem still_blockReset (h : CoreStill s t) (b : Nat) (m : Bool) (src : Nat) : CoreStill s (t.blockReset b m src) := by
  refine still_ite (fun _ => h) (fun _ => still_record (still_inc ?_ .FLT_BLK_RESETS_COUNT 0 rfl (.inl rfl)) _ _ _ _)
  exact h

theorem still_firstError (h : CoreStill s t) (i : Nat) : CoreStill s (t.firstError i) := by
  refine still_ite (fun _ => still_put h .FLT_FIRST_SRC_OVERFLOW 0 1 rfl) (fun _ => ?_)
  exact still_episodeFirst (still_wr (still_wr (still_wr (still_wr h .FLT_FIRST_SRC 0 _ rfl) .FLT_FIRST_SYN 0 _ rfl)
    .FLT_FIRST_TS_LO 0 _ rfl) .FLT_FIRST_TS_HI 0 _ rfl) true

theorem still_fireCount (h : CoreStill s t) (i : Nat) : CoreStill s (t.fireCount i) :=
  still_put (still_put h .FLT_SRC_STATUS_FIRED i 1 rfl) .FLT_SRC_STATUS_FIRE_CNT i _ rfl

theorem still_leadingFault (h : CoreStill s t) (i : Nat) : CoreStill s (t.leadingFault i) := by
  unfold State.leadingFault
  dsimp only
  refine still_when (still_when (still_when (still_when (still_when ?_ _ _ ?_) _ _ ?_) _ _ ?_) _ _ ?_) _ _ ?_
  · exact still_episode (still_put (still_firstError (still_record (still_fireCount h i) _ _ _ _) i) .FLT_STATUS_EPISODE 0 1
      rfl) _
  · exact fun h => still_irqReaction h _
  · exact fun h => still_nmtReaction h
  · exact fun h => still_blockReset h _ _ _
  · exact fun h => still_chipRequest h _ _
  · exact fun h => still_pinReaction h

theorem still_mergedFault (h : CoreStill s t) (i l : Nat) : CoreStill s (t.mergedFault i l) := by
  unfold State.mergedFault
  dsimp only
  refine still_when (still_when (still_when (still_record (still_fireCount h i) _ _ _ _) _ _ ?_) _ _ ?_) _ _ ?_
  · exact fun h => still_put h .FLT_FIRST_SRC_MERGED 0 _ rfl
  · exact fun h => still_chipRequest h _ _
  · exact fun h => still_pinReaction h

theorem still_fire (h : CoreStill s t) (i : Nat) : CoreStill s (t.fire i) := by
  unfold State.fire
  split
  · exact still_leadingFault h i
  · exact still_mergedFault h i _

theorem still_railLeaves (h : CoreStill s t) (i : Nat) (w : Bool) (y : Word) : CoreStill s (t.railLeaves i w y) := by
  refine still_ite (fun _ => h) (fun _ => ?_)
  dsimp only
  have h1 : CoreStill s { t.put .FLT_SRC_STATUS_RAIL i (if w then 2 else 1) with faultSyn := tput 0 t.faultSyn i y } :=
    still_put h .FLT_SRC_STATUS_RAIL i _ rfl
  refine still_ite (fun _ => ?_) (fun _ => ?_)
  · exact still_inc h1 .FLT_SHADOWED_COUNT 0 rfl (.inl rfl)
  · exact still_fire h1 i

theorem still_capture (h : CoreStill s t) (i : Nat) (w : Bool) (y : Word) : CoreStill s (t.capture' i w y) := by
  unfold State.capture'
  split
  · exact still_railLeaves (t := { t with raised := t.raised.erase _ }) h i _ _
  · exact still_railLeaves h i w y

theorem still_railFollows (h : CoreStill s t) (i : Nat) (st : Rail) : CoreStill s (t.railFollows i st) := by
  cases st
  · exact still_put h .FLT_SRC_STATUS_RAIL i 0 rfl
  · exact still_when h _ _ fun h => still_put (t := t.used) h .FLT_SRC_STATUS_RAIL i 1 rfl
  · exact still_when h _ _ fun h => still_put h .FLT_SRC_STATUS_RAIL i 2 rfl

theorem still_shadowEnd (h : CoreStill s t) (b : Nat) : CoreStill s (t.shadowEnd b) := by
  unfold State.shadowEnd
  refine still_ite (fun _ => h) (fun _ => ?_)
  dsimp only
  have h1 : CoreStill s { t with shadowed := t.shadowed.erase b, episode := t.episode.map fun (e : Nat × List Nat) => (e.1, e.2.erase b) } := h
  exact still_each h1 _ _ fun u a hu => still_ite (fun _ => hu) (fun _ => still_fire hu a)

theorem still_episodeEnd (h : CoreStill s t) : CoreStill s t.episodeEnd := by
  unfold State.episodeEnd
  split
  · have h1 := still_put h .FLT_STATUS_EPISODE 0 0 rfl
    exact still_episodeFirst (still_episode h1 none) false
  · exact h

theorem still_fltStatusWrite (h : CoreStill s t) (w : Word) : CoreStill s (t.fltStatusWrite w) := by
  unfold State.fltStatusWrite
  refine still_when (still_when (still_when (still_when h _ _ ?_) _ _ ?_) _ _ ?_) _ _ ?_ <;>
    exact fun h => still_put h _ 0 0 rfl

theorem still_irqClear (h : CoreStill s t) (i : Nat) : CoreStill s (t.irqClear i) :=
  still_levelChange (still_put h .FLT_SRC_STATUS_IRQ i 0 rfl) _ _

theorem still_firedClear (h : CoreStill s t) (i : Nat) : CoreStill s (t.firedClear i) :=
  still_put (still_put h .FLT_SRC_STATUS_FIRED i 0 rfl) .FLT_SRC_STATUS_FIRE_CNT i 0 rfl

theorem still_nmtClear (h : CoreStill s t) (m : Nat) : CoreStill s (t.nmtClear m) :=
  still_put h .FLT_NMT_PEND 0 _ rfl

theorem still_firstClear (h : CoreStill s t) : CoreStill s t.firstClear := by
  have h1 := still_put (still_put (still_put h .FLT_FIRST_SRC_VALID 0 0 rfl) .FLT_FIRST_SRC_OVERFLOW 0 0
    rfl) .FLT_FIRST_SRC_MERGED 0 0 rfl
  exact still_episodeFirst h1 false

theorem still_lanternArm (h : CoreStill s t) (k : Nat) : CoreStill s (t.lanternArm k) := by
  refine still_ite (fun _ => still_put h .FLT_STATUS_LANTERN_REJ 0 1 rfl) (fun _ => ?_)
  refine still_ite (fun _ => h) (fun _ => ?_)
  have h1 := still_put h .FLT_LANTERN_STATE 0 1 rfl
  exact still_when (t := { t.put .FLT_LANTERN_STATE 0 1 with lantern := false, halfNow := t.get .FLT_LANTERN_HALF }) h1 _ _
    fun h => still_record h _ _ _ _

theorem still_lanternStop (h : CoreStill s t) (k : Nat) : CoreStill s (t.lanternStop k) :=
  still_ite (fun _ => still_put h .FLT_STATUS_LANTERN_REJ 0 1 rfl)
    (fun _ => still_when h _ _ fun h => still_lanternHold h 3)

theorem still_lanternEdge (h : CoreStill s t) : CoreStill s t.lanternEdge := still_ite (fun _ => h) (fun _ => h)

theorem still_lanternWrite (h : CoreStill s t) (w : Word) : CoreStill s (t.lanternWrite w) := by
  unfold State.lanternWrite
  refine still_when (still_when (still_when h _ _ ?_) _ _ ?_) _ _ ?_
  · exact fun h => still_put h .FLT_LANTERN_HALF 0 _ rfl
  · exact fun h => still_lanternArm h _
  · exact fun h => still_lanternStop h _

theorem still_injDataWrite (h : CoreStill s t) (w : Word) : CoreStill s (t.injDataWrite w) := by
  unfold State.injDataWrite
  refine still_when (still_when (still_when (still_put h .FLT_INJ_DATA_ADDR_EN 0 _ rfl) _ _ ?_) _ _ ?_) _ _ ?_ <;>
    exact fun h => still_put h _ 0 _ rfl

theorem still_mntChip (h : CoreStill s t) (k : Nat) : CoreStill s (t.mntChip k) :=
  still_ite (fun _ => still_chipRequest h true 0) (fun _ => still_put h .MNT_RST_STATUS_KEY_ERR 0 1 rfl)

theorem still_mntBlock (h : CoreStill s t) (k b : Nat) : CoreStill s (t.mntBlock k b) :=
  still_ite (fun _ => still_put h .MNT_RST_STATUS_KEY_ERR 0 1 rfl)
    (fun _ => still_ite (fun _ => still_blockReset (still_put h .MNT_RST_REQ_BLOCK 0 b rfl) b true 0)
      (fun _ => still_put (still_put h .MNT_RST_REQ_BLOCK 0 b rfl) .MNT_RST_STATUS_BLOCK_REJ 0 1 rfl))

theorem still_mntReqWrite (h : CoreStill s t) (w : Word) : CoreStill s (t.mntReqWrite w) := by
  have h1 := still_put h .MNT_RST_REQ_BLOCK 0 (Fld.MNT_RST_REQ_BLOCK.of w) rfl
  refine still_ite (fun _ => still_mntChip ?_ _) (fun _ => still_ite (fun _ => still_mntBlock h _ _) (fun _ => h1))
  exact still_ite (fun _ => h1) (fun _ => h)

theorem still_logThresh (h : CoreStill s t) (old : Nat) : CoreStill s (t.logThresh old) :=
  still_ite (fun _ => still_logSource (still_put h .LOG_STATUS_THRESH_HIT 0 1 rfl)) (fun _ => h)

theorem still_logFreeze (h : CoreStill s t) (b : Bool) : CoreStill s (t.logFreeze b) :=
  still_ite (fun _ => h) (fun _ => still_logSource (still_put (still_put h .LOG_STATUS_FROZEN 0 1 rfl)
    .LOG_STATUS_FREEZE_SW 0 _ rfl))

theorem still_memWrite (h : CoreStill s t) (m a : Nat) : CoreStill s (t.memWrite m a) := by
  refine still_ite (fun _ => ?_) (fun _ => h)
  exact still_put (t := { t with injected := _ }) h .FLT_INJ_DATA_ARM 0 0 rfl

theorem still_logStore (h : CoreStill s t) (kind flags time : Nat) (body : List Word) :
    CoreStill s (t.logStore kind flags time body) := by
  unfold State.logStore
  dsimp only
  refine still_logThresh (still_put (still_memWrite ?_ _ _) .LOG_WR_IDX_IDX 0 _ rfl) _
  have h1 : CoreStill s (if t.logFill < 32768 then t
    else ((t.put .LOG_RD_IDX_IDX 0 (t.get .LOG_RD_IDX_IDX + 1)).put .LOG_STATUS_OVERRUN 0 1).inc .LOG_OVERWRITES_COUNT) :=
    still_ite (fun _ => h) (fun _ => still_inc (still_put (still_put h .LOG_RD_IDX_IDX 0 _ rfl)
      .LOG_STATUS_OVERRUN 0 1 rfl) .LOG_OVERWRITES_COUNT 0 rfl (.inl rfl))
  exact h1

theorem still_logDrain (h : CoreStill s t) : CoreStill s t.logDrain := by
  unfold State.logDrain
  split
  · exact h
  · rename_i k f tm body z rest _
    have h0 : CoreStill s { t with logQ := rest } := h
    exact still_ite (fun _ => still_inc h0 .LOG_DROPPED_COUNT 0 rfl (.inl rfl))
      (fun _ => still_when (still_logStore h0 _ _ _ _) _ _ fun h => still_logFreeze h false)

theorem still_logUnfreeze (h : CoreStill s t) : CoreStill s t.logUnfreeze :=
  still_put (still_put h .LOG_STATUS_FROZEN 0 0 rfl) .LOG_STATUS_FREEZE_SW 0 0 rfl

theorem still_logAccWrite (h : CoreStill s t) (w : Word) : CoreStill s (t.logAccWrite w) :=
  still_put (still_put h .LOG_ACC_IDX_INDEX 0 _ rfl) .LOG_ACC_IDX_READY 0 0 rfl

theorem still_logAccReady (h : CoreStill s t) : CoreStill s t.logAccReady := by
  unfold State.logAccReady
  dsimp only
  refine still_put (still_each (still_ite (fun _ => ?_) (fun _ => h)) _ _ ?_) .LOG_ACC_IDX_READY 0 1 rfl
  · exact h
  · exact fun u a hu => still_wr hu .LOG_ACC_DATA a _ rfl

/-- The registers of the always-on domain (R427). -/
def aonRegs : List Reg :=
  [.FLT_BLK_RESETS, .FLT_CFG, .FLT_CHIP_REQ_CNT, .FLT_FIRST_SRC, .FLT_FIRST_SYN, .FLT_FIRST_TS_HI, .FLT_FIRST_TS_LO, .FLT_INJ_ADDR,
   .FLT_INJ_CTRL, .FLT_INJ_DATA, .FLT_LANTERN, .FLT_NMT, .FLT_RST_FRAMES, .FLT_SHADOWED, .FLT_STATUS, .FLT_SRC_CFG, .FLT_SRC_STATUS,
   .GLB_ID, .GLB_REV, .LOG_ACC_DATA, .LOG_ACC_IDX, .LOG_CFG, .LOG_CTRL, .LOG_DROPPED, .LOG_OVERWRITES, .LOG_RD_IDX, .LOG_STATUS,
   .LOG_WR_IDX, .MNT_RST_REQ, .MNT_RST_STATUS]

theorem mem_aonRegs {r : Reg} (h : isAon r = true) : r ∈ aonRegs := by
  cases r <;> first | (exact absurd h (by decide)) | decide

theorem still_store (h : CoreStill s t) (r : Reg) (i : Nat) (w : Word) (hr : aside r = true) : CoreStill s (t.store r i w) :=
  still_wr h r i _ hr

theorem still_plainWrite (h : CoreStill s t) (r : Reg) (i : Nat) (w : Word) (l : Bool) (hr : aside r = true)
    (hh : highHalf r = none) : CoreStill s (t.plainWrite r i w l) := by
  unfold State.plainWrite State.clearCounter
  rw [hh]
  refine still_ite (fun _ => still_ite (fun _ => still_ite (fun _ => still_wr h r i _ hr) (fun _ => h)) (fun _ => h))
    (fun _ => still_wr h r i _ hr)

theorem still_writeHigh (h : CoreStill s t) (r : Reg) (i : Nat) (w : Word) (l : Bool) (hr : isAon r = true) :
    CoreStill s (t.writeHigh r i w l) := by
  have hm := mem_aonRegs hr
  simp only [aonRegs, List.mem_cons, List.not_mem_nil, or_false] at hm
  rcases hm with rfl | rfl | rfl | rfl | rfl | rfl | rfl | rfl | rfl | rfl | rfl | rfl | rfl | rfl | rfl | rfl | rfl | rfl | rfl | rfl |
    rfl | rfl | rfl | rfl | rfl | rfl | rfl | rfl | rfl | rfl
  · exact still_plainWrite h .FLT_BLK_RESETS i w l rfl rfl
  · exact still_plainWrite h .FLT_CFG i w l rfl rfl
  · exact still_plainWrite h .FLT_CHIP_REQ_CNT i w l rfl rfl
  · exact still_ite (fun _ => still_firstClear h) (fun _ => h)
  · exact still_plainWrite h .FLT_FIRST_SYN i w l rfl rfl
  · exact still_plainWrite h .FLT_FIRST_TS_HI i w l rfl rfl
  · exact still_plainWrite h .FLT_FIRST_TS_LO i w l rfl rfl
  · exact still_plainWrite h .FLT_INJ_ADDR i w l rfl rfl
  · exact still_ite (fun _ => h) (fun _ => still_put h .FLT_STATUS_INJ_REJ 0 1 rfl)
  · exact still_injDataWrite h w
  · exact still_lanternWrite h w
  · exact still_nmtClear h _
  · exact still_plainWrite h .FLT_RST_FRAMES i w l rfl rfl
  · exact still_plainWrite h .FLT_SHADOWED i w l rfl rfl
  · exact still_fltStatusWrite h w
  · exact still_ite (fun _ => h) (fun _ => still_store h _ i w rfl)
  · exact still_when (still_when h _ _ fun h => still_firedClear h i) _ _ fun h => still_irqClear h i
  · exact still_plainWrite h .GLB_ID i w l rfl rfl
  · exact still_plainWrite h .GLB_REV i w l rfl rfl
  · exact still_plainWrite h .LOG_ACC_DATA i w l rfl rfl
  · exact still_logAccWrite h w
  · exact still_ite (fun _ => h) (fun _ => still_store h _ i w rfl)
  · exact still_ite (fun _ => still_logFreeze h true) (fun _ => still_ite (fun _ => still_logUnfreeze h) (fun _ => h))
  · exact still_plainWrite h .LOG_DROPPED i w l rfl rfl
  · exact still_plainWrite h .LOG_OVERWRITES i w l rfl rfl
  · exact still_logThresh (still_put h .LOG_RD_IDX_IDX 0 _ rfl) _
  · exact still_plainWrite h .LOG_STATUS i w l rfl rfl
  · exact still_plainWrite h .LOG_WR_IDX i w l rfl rfl
  · exact still_mntReqWrite h w
  · exact still_plainWrite h .MNT_RST_STATUS i w l rfl rfl

/-- A write of an always-on register. -/
theorem still_regWrite (h : CoreStill s t) (r : Reg) (i : Nat) (w : Word) (l : Bool) (hr : isAon r = true) :
    CoreStill s (t.regWrite r i w l) := by
  refine still_ite (fun _ => ?_) (fun _ => h)
  have he : taeEngine r = none := by
    have hm := mem_aonRegs hr
    simp only [aonRegs, List.mem_cons, List.not_mem_nil, or_false] at hm
    rcases hm with rfl | rfl | rfl | rfl | rfl | rfl | rfl | rfl | rfl | rfl | rfl | rfl | rfl | rfl | rfl | rfl | rfl | rfl | rfl | rfl |
      rfl | rfl | rfl | rfl | rfl | rfl | rfl | rfl | rfl | rfl <;> rfl
  unfold State.writeEffect
  rw [he]
  exact still_writeHigh h r i w l hr

/-- A read of an always-on register changes nothing. -/
theorem readEffect_aon (r : Reg) (i : Nat) (hr : isAon r = true) : t.readEffect r i = t := by
  have hm := mem_aonRegs hr
  simp only [aonRegs, List.mem_cons, List.not_mem_nil, or_false] at hm
  rcases hm with rfl | rfl | rfl | rfl | rfl | rfl | rfl | rfl | rfl | rfl | rfl | rfl | rfl | rfl | rfl | rfl | rfl | rfl | rfl | rfl |
    rfl | rfl | rfl | rfl | rfl | rfl | rfl | rfl | rfl | rfl <;> rfl

theorem still_slaveError (h : CoreStill s t) : CoreStill s t.slaveError :=
  still_inc h .GLB_SLV_ERR_COUNT 0 rfl (.inr rfl)

end Sys2Proof.Machine
end

