-- ==== Sys2Proof/Laws/Belfry.lean ====
section
/-! SUPPORT. What an event of a Belfry source changes: Belfry's own bits and nothing else (R347 to R355); and what a counter's
increment changes beside them (R15). -/
namespace Sys2Proof.Machine

variable {s : State}

/-- A state without Belfry's inputs, source bits, presented vectors, open claims and pulses of the step. -/
def State.besideBel (s : State) : State := { s with bel := [], belLvl := [], vec := [], belClaims := [], pulsed := [] }

theorem besideBel_present (s : State) (t : Nat) : (s.present t).besideBel = s.besideBel := rfl
@[simp] theorem besideBel_presentAll (s : State) : s.presentAll.besideBel = s.besideBel :=
  each_keeps State.besideBel (List.range 8) State.present besideBel_present s
@[simp] theorem besideBel_setBel (s : State) (i : Nat) (b : BelSrc) : (s.setBel i b).besideBel = s.besideBel := rfl
@[simp] theorem besideBel_noteWithdrawn (s : State) (i : Nat) : (s.noteWithdrawn i).besideBel = s.besideBel := by
  unfold State.noteWithdrawn; split <;> rfl
@[simp] theorem besideBel_batchEnd (s : State) (i : Nat) : (s.batchEnd i).besideBel = s.besideBel := by
  unfold State.batchEnd; dsimp only; rw [besideBel_presentAll, besideBel_setBel]
@[simp] theorem besideBel_edgeEvent (s : State) (i : Nat) : (s.edgeEvent i).besideBel = s.besideBel := by
  unfold State.edgeEvent
  dsimp only
  split
  · exact besideBel_batchEnd s i
  · rfl

/-- An input's change moves nothing beside Belfry's own bits. -/
@[simp] theorem besideBel_setInput (s : State) (i : Nat) (l : Bool) : (s.setInput i l).besideBel = s.besideBel := by
  unfold State.setInput
  split
  · rfl
  · dsimp only
    have e : ∀ x, ({ s with belLvl := x } : State).besideBel = s.besideBel := fun _ => rfl
    unfold State.inBlock
    split
    · refine Eq.trans ?_ (e (tput false s.belLvl i (l != (decide (1040 ≤ i) && decide (i ≤ 1295)))))
      dsimp only
      cases l <;> split <;> simp
    · exact e _

@[simp] theorem besideBel_pulse (s : State) (i : Nat) : (s.pulse i).besideBel = s.besideBel := by
  unfold State.pulse
  split
  · rfl
  · rw [besideBel_setInput, besideBel_setInput]; rfl

/-- Registers lie beside Belfry's bits. -/
theorem rd_beside {s t : State} (h : t.besideBel = s.besideBel) (r : Reg) (i : Nat) : t.rd r i = s.rd r i :=
  show t.besideBel.rd r i = s.besideBel.rd r i by rw [h]

@[simp] theorem rd_setInput (s : State) (k : Nat) (l : Bool) (r : Reg) (i : Nat) : (s.setInput k l).rd r i = s.rd r i :=
  rd_beside (besideBel_setInput s k l) r i
@[simp] theorem rd_pulse (s : State) (k : Nat) (r : Reg) (i : Nat) : (s.pulse k).rd r i = s.rd r i :=
  rd_beside (besideBel_pulse s k) r i
@[simp] theorem get_setInput (s : State) (k : Nat) (l : Bool) (f : Fld) (i : Nat) : (s.setInput k l).get f i = s.get f i := by
  simp [State.get]
@[simp] theorem get_pulse (s : State) (k : Nat) (f : Fld) (i : Nat) : (s.pulse k).get f i = s.get f i := by simp [State.get]

/-! Counters (R15). -/

/-- The event that a saturated counter leaves in a status register. -/
def satFlag : Nat → Option Fld
  | 1464 => some .KEEP_STATUS_SAT
  | 1465 => some .SES_STATUS_SAT
  | 1466 => some .PWR_STATUS_SAT
  | 1467 => some .LOG_STATUS_SAT
  | _ => none

theorem satMark_eq (s : State) (k : Nat) : s.satMark k = match satFlag k with
    | some f => s.put f 0 1
    | none => s := by
  unfold State.satMark satFlag
  split <;> simp_all

/-- The value that a counter takes. -/
theorem of_satAdd (f : Fld) (h : f.lo ≤ f.hi ∧ f.hi ≤ 31) (w : Word) (n : Nat) :
    f.of (satAdd f w n).1 = min (2 ^ f.width - 1) (f.of w + n) := by
  have hp : 0 < 2 ^ f.width := Nat.two_pow_pos _
  simp only [satAdd]
  rw [of_into_same f h, Nat.mod_eq_of_lt (by omega)]

/-- An increment moves the counter's field and, at the increment that reaches all-ones, a status flag of its block. -/
theorem rd_add (s : State) (f : Fld) (i n : Nat) (r : Reg) (j : Nat)
    (h : ∀ g, satFlag (satSource f.reg) = some g → r ≠ g.reg) :
    (s.add f i n).rd r j = (s.wr f.reg i (satAdd f (s.rd f.reg i) n).1).rd r j := by
  simp only [State.add]
  split
  · rw [rd_pulse, satMark_eq]
    split
    · rename_i g hg
      exact rd_wr_other _ _ (fun hc => h g hg hc.1)
    · rfl
  · rfl

/-- No counter stands in the status register that marks its saturation. -/
theorem satFlag_reg {f g : Fld} (h : satFlag (satSource f.reg) = some g) : f.reg ≠ g.reg := by
  unfold satFlag at h
  split at h <;> cases h <;> (rename_i hs; rintro hr; rw [hr] at hs; exact absurd hs (by decide))

/-- The counter after an increment. -/
theorem get_add (s : State) (f : Fld) (hf : f.lo ≤ f.hi ∧ f.hi ≤ 31) (i n : Nat) :
    (s.add f i n).get f i = min (2 ^ f.width - 1) (s.get f i + n) := by
  unfold State.get
  rw [rd_add s f i n f.reg i (fun g hg => satFlag_reg hg), rd_wr_same, of_satAdd f hf]

end Sys2Proof.Machine
end

