-- ==== Sys2Proof/Laws/Held.lean ====
section
/-! SUPPORT. A reset that holds the core domain: what each kind of command makes of it (R37, R66). -/
namespace Sys2Proof.Machine

variable {s t : State}

theorem held_on (h : t.coreOn = true) : HeldInReset t := fun h' => absurd (h.symm.trans h') (by decide)

theorem still_outside (h : CoreStill s t) (u : State) (hu : u.coreOn = false) : CoreStill s (u.outside t) := ⟨h.1, hu⟩

/-- A change of Ocora's that leaves the core domain alone while a reset holds it. -/
theorem held_become {u : State} (hs : HeldInReset s) (hf : s.coreOn = false → CoreStill s u) (h : s.become u = .next t) :
    HeldInReset t := by
  cases h
  cases hc : s.coreOn
  · exact still_held (still_outside (hf hc) s hc) hc hs
  · exact held_on hc

theorem held_run {b : Nat} {f : State → State} (hs : HeldInReset s) (h : run b f s = .next t) : HeldInReset t :=
  held_become hs (fun hc => by rw [inBlock_off f (up_of_off hc b)]; exact still_refl hc) h

/-- A unit's event leaves the core domain alone where the event does; where the unit does not exist, nothing happens. -/
theorem still_onUnit (h : CoreStill s t) {n i : Nat} (f : State → State) (hf : CoreStill s (f t)) : CoreStill s (t.onUnit n i f) :=
  still_ite (fun _ => hf) (fun _ => h)

theorem held_runOn {n i b : Nat} {f : State → State} (hs : HeldInReset s) (h : runOn n i b f s = .next t) : HeldInReset t :=
  held_become hs (fun hc => still_onUnit (still_refl hc) _ (by rw [inBlock_off f (up_of_off hc b)]; exact still_refl hc)) h

theorem held_soft {b : Nat} {f : State → State} (hs : HeldInReset s) (h : s.become (if s.soft then s.inBlock b f else s) = .next t) :
    HeldInReset t :=
  held_become hs (fun hc => by rw [inBlock_off f (up_of_off hc b)]; exact still_ite (fun _ => still_refl hc) (fun _ => still_refl hc)) h

theorem held_runSoft {b : Nat} {f : State → State} (hs : HeldInReset s) (h : runSoft b f s = .next t) : HeldInReset t := held_soft hs h

theorem held_runSoftOn {n i b : Nat} {f : State → State} (hs : HeldInReset s) (h : runSoftOn n i b f s = .next t) :
    HeldInReset t :=
  held_become hs (fun hc => still_onUnit (still_refl hc) _ (by
    rw [inBlock_off f (up_of_off hc b)]; exact still_ite (fun _ => still_refl hc) (fun _ => still_refl hc))) h

theorem held_runAon {f : State → State} (hf : ∀ u, CoreStill s u → CoreStill s (f u)) (hs : HeldInReset s)
    (h : runAon f s = .next t) : HeldInReset t :=
  held_become hs (fun hc => still_ite (fun _ => hf s (still_refl hc)) (fun _ => still_refl hc)) h

theorem held_runAonOn {n i : Nat} {f : State → State} (hf : ∀ u, CoreStill s u → CoreStill s (f u)) (hs : HeldInReset s)
    (h : runAonOn n i f s = .next t) : HeldInReset t :=
  held_become hs (fun hc => still_onUnit (still_refl hc) _ (still_ite (fun _ => hf s (still_refl hc)) (fun _ => still_refl hc))) h

theorem still_slaveWrite (h : CoreStill s t) (a : Nat) (w : Word) (st : Nat) : CoreStill s (t.slaveWrite a w st) := by
  unfold State.slaveWrite
  split
  · rename_i r i _
    refine still_ite (fun _ => h) (fun _ => still_ite (fun _ => still_slaveError h) (fun hn => ?_))
    have ha : isAon r = true := by
      by_contra hc
      exact hn (.inr (by simp [h.2, hc]))
    show CoreStill s (t.slaveStore r i w)
    unfold State.slaveStore
    exact still_ite (fun _ => h) (fun _ => still_ite (fun _ => still_regWrite h r i w _ ha) (fun _ => h))
  · exact still_ite (fun _ => h) (fun _ => still_ite (fun _ => still_slaveError h) (fun _ => h))

theorem still_slaveRead (h : CoreStill s t) (a : Nat) : CoreStill s (t.slaveRead a) := by
  unfold State.slaveRead
  split
  · rename_i r i _
    refine still_ite (fun _ => h) (fun _ => still_ite (fun _ => still_slaveError h) (fun hn => ?_))
    have ha : isAon r = true := by
      by_contra hc
      exact hn (by simp [h.2, hc])
    show CoreStill s (t.slaveLoad r i).2
    unfold State.slaveLoad State.readReg
    dsimp only
    rw [readEffect_aon r i ha]
    exact still_ite (fun _ => h) (fun _ => h)
  · exact still_ite (fun _ => h) (fun _ => still_ite (fun _ => still_slaveError h) (fun _ => h))

theorem maintReg_aon {a : Nat} {r : Reg} {i : Nat} (h : maintReg a = some (r, i)) : isAon r = true := by
  unfold maintReg at h
  split at h
  · cases h
  · rw [Option.filter_eq_some_iff] at h
    exact h.2

theorem still_maintLoad (h : CoreStill s t) (a : Nat) : CoreStill s (t.maintLoad a).2 := by
  unfold State.maintLoad
  split
  · rename_i r i hr
    unfold State.readReg
    dsimp only
    rw [readEffect_aon r i (maintReg_aon hr)]
    exact h
  · exact h

theorem still_maintStore (h : CoreStill s t) (a : Nat) (w : Word) : CoreStill s (t.maintStore a w) := by
  unfold State.maintStore
  split
  · exact still_regWrite h _ _ w _ (maintReg_aon ‹_›)
  · exact h

theorem still_mntAnswer (h : CoreStill s t) (w : Word) (b : Byte) : CoreStill s (t.mntAnswer w b) := h

theorem still_fldLinkChange (h : CoreStill s t) (l : Nat) (up : Bool) : CoreStill s (t.fldLinkChange l up) := by
  unfold State.fldLinkChange
  have h1 : CoreStill s (t.linkLevel l up) := h
  rw [inBlock_off _ (up_of_off h1.2 2)]
  exact h1

/-! The clocks. -/

theorem coreOn_copyTime (s : State) : s.copyTime.coreOn = s.coreOn := by unfold State.copyTime; split <;> rfl
theorem coreOn_clocked (s : State) (b : Bool) : (s.clocked b).coreOn = s.coreOn := rfl
theorem coreOn_used (s : State) : s.used.coreOn = s.coreOn := rfl
theorem held_copyTime (h : HeldInReset s) : HeldInReset s.copyTime := by unfold State.copyTime; split <;> exact h
theorem held_clocked (h : HeldInReset s) (b : Bool) : HeldInReset (s.clocked b) := h
theorem still_used (h : CoreStill s t) : CoreStill s t.used := h

/-! The state that a complex reset gives. -/

/-- What a complex reset keeps of the registers is the always-on domain's and SES_KEY_STATUS. -/
theorem filter_kept (s : State) : s.powerOnRegs.filter (fun e => resetReg e.1) = [] := by
  rw [List.filter_eq_nil_iff]
  intro e he
  simp only [State.powerOnRegs, List.mem_filter] at he
  have h := he.2
  simp only [keptRegs, List.contains_iff_mem, List.mem_map, List.mem_append, List.mem_filter, List.mem_singleton] at h
  obtain ⟨r, hr, hk⟩ := h
  simp only [resetReg, ← hk, Reg.ofNat_ctorIdx]
  rcases hr with hr | hr
  · simp [hr.2]
  · subst hr; decide

/-- The registers that a complex reset keeps. -/
theorem kept_iff (r : Reg) (i : Nat) : keptRegs.contains (regKey r i % 512) = (isAon r || r == .SES_KEY_STATUS) := by
  have e : regKey r i % 512 = r.ctorIdx := by
    have := ctorIdx_lt r
    simp [regKey, Nat.mod_eq_of_lt this]
  have hsub : ∀ x ∈ aonRegs, x ∈ allRegs := by decide +kernel
  rw [e, Bool.eq_iff_iff]
  simp only [keptRegs, List.contains_iff_mem, List.mem_map, List.mem_append, List.mem_filter, List.mem_singleton,
    Bool.or_eq_true, beq_iff_eq]
  constructor
  · rintro ⟨x, hx, hk⟩
    cases ctorIdx_inj hk
    exact hx.imp (·.2) id
  · rintro (h | h)
    · exact ⟨r, .inl ⟨hsub r (mem_aonRegs h), h⟩, rfl⟩
    · exact ⟨r, .inr h, rfl⟩

/-- What each register holds after a complex reset. -/
theorem rd_coreReset (s : State) (on : Bool) (r : Reg) (i : Nat) :
    (s.coreReset on).rd r i = if isAon r = true ∨ r = .SES_KEY_STATUS then s.rd r i else regReset r i := by
  show (tfind (s.regs.filter fun e => keptRegs.contains (e.1 % 512)) (regKey r i)).getD _ = _
  rw [tfind_filter (fun k => keptRegs.contains (k % 512)), kept_iff r i]
  by_cases h1 : isAon r = true
  · simp [h1]; rfl
  · by_cases h2 : r = .SES_KEY_STATUS
    · simp [h2]; rfl
    · simp [h1, h2]

theorem coreReset_atReset (s : State) : CoreAtReset (s.coreReset false) := by
  unfold CoreAtReset State.coreDomain State.coreReset
  simp only [filter_kept]
  rfl

end Sys2Proof.Machine
end

