-- ==== Sys2Proof/Laws/PerInstr.lean ====
section
/-! SUPPORT. What holds of every row of the command table as syntax, one lemma per row. -/
namespace Sys2Proof.Laws.Table
open Sys2Proof Sys2Proof.Machine

/-- The row is carried out by one of the blocks 1 to 20 of R371, by a domain, or from outside; a register write that waits for memory
initialisation (R400) belongs to a block; and a row that moves a reset pin or a clock comes from outside (R37, R66). -/
def Statement (c : Instr) : Prop :=
  (∀ b, (role c).actor = .block b → 1 ≤ b ∧ b ≤ 20) ∧
  ((role c).waits = true → ∃ b, (role c).actor = .block b) ∧
  (movesPins c = true → (role c).actor = .outside)

/-- A row of block `b` that moves no pin. -/
theorem of_block {c : Instr} {b : Nat} (h : (role c).actor = .block b) (hb : 1 ≤ b ∧ b ≤ 20) (hm : movesPins c = false) : Statement c :=
  ⟨fun x hx => by rw [h] at hx; cases hx; exact hb, fun _ => ⟨b, h⟩, fun hc => (by rw [hm] at hc; cases hc)⟩

/-- A row of a domain, or from outside, that waits for nothing. -/
theorem of_other {c : Instr} (h : ∀ b, (role c).actor ≠ .block b) (hw : (role c).waits = false)
    (hm : movesPins c = true → (role c).actor = .outside) : Statement c :=
  ⟨fun b hb => absurd hb (h b), fun hc => (by rw [hw] at hc; cases hc), hm⟩

/-- The MAC of a port lies in block 1 or 2. -/
theorem macBlock_range (p : Nat) : 1 ≤ macBlock p ∧ macBlock p ≤ 20 := by unfold macBlock; split <;> decide

/-- A table access engine lies in a block. -/
theorem taeBlock_range (k : Nat) : 1 ≤ taeBlock k ∧ taeBlock k ≤ 20 := by unfold taeBlock; split <;> decide

theorem porstNAssert : Statement .porstNAssert := of_other nofun rfl fun _ => rfl
theorem porstNRelease : Statement .porstNRelease := of_other nofun rfl fun _ => rfl
theorem blkRstNAssert : Statement .blkRstNAssert := of_other nofun rfl fun _ => rfl
theorem blkRstNRelease : Statement .blkRstNRelease := of_other nofun rfl fun _ => rfl
theorem fuseAck : ∀ x0, Statement (.fuseAck x0) := fun _ => of_block rfl (by decide) rfl
theorem fuseTimeout : Statement .fuseTimeout := of_block rfl (by decide) rfl
theorem memInitDone : Statement .memInitDone := of_block rfl (by decide) rfl
theorem registerWrite : ∀ x0 x1 x2, Statement (.registerWrite x0 x1 x2) := fun _ _ _ => of_other nofun rfl fun _ => rfl
theorem counterClear : ∀ x0, Statement (.counterClear x0) := fun _ => of_other nofun rfl fun _ => rfl
theorem counterLowRead : ∀ x0, Statement (.counterLowRead x0) := fun _ => of_other nofun rfl fun _ => rfl
theorem rxFrameStart : ∀ x0 x1 x2, Statement (.rxFrameStart x0 x1 x2) := fun _ _ _ => of_block rfl (macBlock_range _) rfl
theorem rxOversizeDetect : ∀ x0 x1, Statement (.rxOversizeDetect x0 x1) := fun _ _ => of_block rfl (macBlock_range _) rfl
theorem rxJabber : ∀ x0 x1, Statement (.rxJabber x0 x1) := fun _ _ => of_block rfl (macBlock_range _) rfl
theorem parseStart : ∀ x0 x1 x2, Statement (.parseStart x0 x1 x2) := fun _ _ _ => of_block rfl (macBlock_range _) rfl
theorem rxFrameEnd : ∀ x0 x1 x2 x3 x4 x5, Statement (.rxFrameEnd x0 x1 x2 x3 x4 x5) := fun _ _ _ _ _ _ => of_block rfl (macBlock_range _) rfl
theorem macControlFrame : ∀ x0 x1 x2 x3, Statement (.macControlFrame x0 x1 x2 x3) := fun _ _ _ _ => of_block rfl (macBlock_range _) rfl
theorem pauseTimerExpire : ∀ x0, Statement (.pauseTimerExpire x0) := fun _ => of_block rfl (macBlock_range _) rfl
theorem pfcTimerExpire : ∀ x0 x1, Statement (.pfcTimerExpire x0 x1) := fun _ _ => of_block rfl (by decide) rfl
theorem itkTransfer : ∀ x0, Statement (.itkTransfer x0) := fun _ => of_block rfl (by decide) rfl
theorem etkTransfer : ∀ x0 x1 x2 x3 x4, Statement (.etkTransfer x0 x1 x2 x3 x4) := fun _ _ _ _ _ => of_block rfl (by decide) rfl
theorem egressTicketProcess : ∀ x0 x1, Statement (.egressTicketProcess x0 x1) := fun _ _ => of_block rfl (by decide) rfl
theorem referenceRelease : ∀ x0 x1 x2, Statement (.referenceRelease x0 x1 x2) := fun _ _ _ => of_block rfl (by decide) rfl
theorem schedChoose : ∀ x0, Statement (.schedChoose x0) := fun _ => of_block rfl (by decide) rfl
theorem copyEnd : ∀ x0 x1, Statement (.copyEnd x0 x1) := fun _ _ => of_block rfl (by decide) rfl
theorem trunkEnable : ∀ x0, Statement (.trunkEnable x0) := fun _ => of_block rfl (by decide) rfl
theorem trunkDisable : ∀ x0, Statement (.trunkDisable x0) := fun _ => of_block rfl (by decide) rfl
theorem loopbackChange : ∀ x0 x1, Statement (.loopbackChange x0 x1) := fun _ _ => of_block rfl (macBlock_range _) rfl
theorem trunkLinkChange : ∀ x0 x1, Statement (.trunkLinkChange x0 x1) := fun _ _ => of_block rfl (by decide) rfl
theorem fldLinkChange : ∀ x0 x1, Statement (.fldLinkChange x0 x1) := fun _ _ => of_other nofun rfl fun _ => rfl
theorem fecCodeword : ∀ x0 x1, Statement (.fecCodeword x0 x1) := fun _ _ => of_block rfl (by decide) rfl
theorem pauseRefresh : ∀ x0 x1, Statement (.pauseRefresh x0 x1) := fun _ _ => of_block rfl (by decide) rfl
theorem fcForce : ∀ x0 x1, Statement (.fcForce x0 x1) := fun _ _ => of_block rfl (macBlock_range _) rfl
theorem macControlTx : ∀ x0, Statement (.macControlTx x0) := fun _ => of_block rfl (macBlock_range _) rfl
theorem lpiEnter : ∀ x0, Statement (.lpiEnter x0) := fun _ => of_block rfl (macBlock_range _) rfl
theorem lpiExit : ∀ x0, Statement (.lpiExit x0) := fun _ => of_block rfl (macBlock_range _) rfl
theorem lpiWakeEnd : ∀ x0, Statement (.lpiWakeEnd x0) := fun _ => of_block rfl (macBlock_range _) rfl
theorem rxLpiEnter : ∀ x0, Statement (.rxLpiEnter x0) := fun _ => of_block rfl (macBlock_range _) rfl
theorem fieldPortEnable : ∀ x0, Statement (.fieldPortEnable x0) := fun _ => of_block rfl (by decide) rfl
theorem fieldPortDisable : ∀ x0, Statement (.fieldPortDisable x0) := fun _ => of_block rfl (by decide) rfl
theorem serviceRequest : ∀ x0, Statement (.serviceRequest x0) := fun _ => of_block rfl (by decide) rfl
theorem serviceRelease : ∀ x0, Statement (.serviceRelease x0) := fun _ => of_block rfl (by decide) rfl
theorem serviceQuiet : ∀ x0, Statement (.serviceQuiet x0) := fun _ => of_block rfl (by decide) rfl
theorem serviceForced : ∀ x0, Statement (.serviceForced x0) := fun _ => of_block rfl (by decide) rfl
theorem babbleClear : ∀ x0, Statement (.babbleClear x0) := fun _ => of_block rfl (by decide) rfl
theorem csmaAttempt : ∀ x0 x1, Statement (.csmaAttempt x0 x1) := fun _ _ => of_block rfl (by decide) rfl
theorem csmaCollision : ∀ x0 x1, Statement (.csmaCollision x0 x1) := fun _ _ => of_block rfl (by decide) rfl
theorem backoffExpire : ∀ x0, Statement (.backoffExpire x0) := fun _ => of_block rfl (by decide) rfl
theorem plcaBeacon : ∀ x0, Statement (.plcaBeacon x0) := fun _ => of_block rfl (by decide) rfl
theorem plcaOwnOpportunity : ∀ x0, Statement (.plcaOwnOpportunity x0) := fun _ => of_block rfl (by decide) rfl
theorem plcaToTimerExpire : ∀ x0, Statement (.plcaToTimerExpire x0) := fun _ => of_block rfl (by decide) rfl
theorem plcaCarrierRise : ∀ x0, Statement (.plcaCarrierRise x0) := fun _ => of_block rfl (by decide) rfl
theorem plcaOppEnd : ∀ x0, Statement (.plcaOppEnd x0) := fun _ => of_block rfl (by decide) rfl
theorem burstTimerExpire : ∀ x0, Statement (.burstTimerExpire x0) := fun _ => of_block rfl (by decide) rfl
theorem foreignBeacon : ∀ x0, Statement (.foreignBeacon x0) := fun _ => of_block rfl (by decide) rfl
theorem babbleWindowExpire : ∀ x0, Statement (.babbleWindowExpire x0) := fun _ => of_block rfl (by decide) rfl
theorem candidateFill : ∀ x0, Statement (.candidateFill x0) := fun _ => of_block rfl (by decide) rfl
theorem candidateReplace : ∀ x0, Statement (.candidateReplace x0) := fun _ => of_block rfl (by decide) rfl
theorem extDiscover : ∀ x0, Statement (.extDiscover x0) := fun _ => of_block rfl (by decide) rfl
theorem extJoinEnable : ∀ x0, Statement (.extJoinEnable x0) := fun _ => of_block rfl (by decide) rfl
theorem extJoinDisable : ∀ x0, Statement (.extJoinDisable x0) := fun _ => of_block rfl (by decide) rfl
theorem extHello : ∀ x0 x1, Statement (.extHello x0 x1) := fun _ _ => of_block rfl (by decide) rfl
theorem extResponse : ∀ x0 x1, Statement (.extResponse x0 x1) := fun _ _ => of_block rfl (by decide) rfl
theorem extChallengeTimeout : ∀ x0, Statement (.extChallengeTimeout x0) := fun _ => of_block rfl (by decide) rfl
theorem extHelloHoldoffExpire : ∀ x0, Statement (.extHelloHoldoffExpire x0) := fun _ => of_block rfl (by decide) rfl
theorem extLeave : ∀ x0 x1, Statement (.extLeave x0 x1) := fun _ _ => of_block rfl (by decide) rfl
theorem extPoll : ∀ x0, Statement (.extPoll x0) := fun _ => of_block rfl (by decide) rfl
theorem extReport : ∀ x0 x1, Statement (.extReport x0 x1) := fun _ _ => of_block rfl (by decide) rfl
theorem extEvent : ∀ x0 x1, Statement (.extEvent x0 x1) := fun _ _ => of_block rfl (by decide) rfl
theorem extPushGo : ∀ x0, Statement (.extPushGo x0) := fun _ => of_block rfl (by decide) rfl
theorem extConfigAck : ∀ x0 x1, Statement (.extConfigAck x0 x1) := fun _ _ => of_block rfl (by decide) rfl
theorem extPushTimeout : ∀ x0, Statement (.extPushTimeout x0) := fun _ => of_block rfl (by decide) rfl
theorem extCredit : ∀ x0 x1, Statement (.extCredit x0 x1) := fun _ _ => of_block rfl (by decide) rfl
theorem extPodlReq : ∀ x0 x1, Statement (.extPodlReq x0 x1) := fun _ _ => of_block rfl (by decide) rfl
theorem extTrunkRoundRobin : ∀ x0, Statement (.extTrunkRoundRobin x0) := fun _ => of_block rfl (by decide) rfl
theorem clsStageAdd : ∀ x0, Statement (.clsStageAdd x0) := fun _ => of_block rfl (by decide) rfl
theorem clsStageDel : ∀ x0, Statement (.clsStageDel x0) := fun _ => of_block rfl (by decide) rfl
theorem clsStageWrite : ∀ x0, Statement (.clsStageWrite x0) := fun _ => of_block rfl (by decide) rfl
theorem clsRead : ∀ x0, Statement (.clsRead x0) := fun _ => of_block rfl (by decide) rfl
theorem clsSearch : ∀ x0, Statement (.clsSearch x0) := fun _ => of_block rfl (by decide) rfl
theorem taeCommandDone : ∀ x0, Statement (.taeCommandDone x0) := fun _ => of_block rfl (taeBlock_range _) rfl
theorem clsCommit : Statement .clsCommit := of_block rfl (by decide) rfl
theorem clsAbort : Statement .clsAbort := of_block rfl (by decide) rfl
theorem clsCommitSwitch : Statement .clsCommitSwitch := of_block rfl (by decide) rfl
theorem clsCommitEcc : Statement .clsCommitEcc := of_block rfl (by decide) rfl
theorem clsDrainEmpty : Statement .clsDrainEmpty := of_block rfl (by decide) rfl
theorem clsCleanupEnd : Statement .clsCleanupEnd := of_block rfl (by decide) rfl
theorem clsDiscardEnd : Statement .clsDiscardEnd := of_block rfl (by decide) rfl
theorem clsDrainWarn : Statement .clsDrainWarn := of_block rfl (by decide) rfl
theorem ageingVisit : ∀ x0, Statement (.ageingVisit x0) := fun _ => of_block rfl (by decide) rfl
theorem nregAgeWrite : ∀ x0, Statement (.nregAgeWrite x0) := fun _ => of_block rfl (by decide) rfl
theorem nregInsert : ∀ x0, Statement (.nregInsert x0) := fun _ => of_block rfl (by decide) rfl
theorem nregDelete : ∀ x0, Statement (.nregDelete x0) := fun _ => of_block rfl (by decide) rfl
theorem nregWriteCfg : ∀ x0, Statement (.nregWriteCfg x0) := fun _ => of_block rfl (by decide) rfl
theorem nregRead : ∀ x0, Statement (.nregRead x0) := fun _ => of_block rfl (by decide) rfl
theorem nregSearch : ∀ x0, Statement (.nregSearch x0) := fun _ => of_block rfl (by decide) rfl
theorem nregClear : ∀ x0, Statement (.nregClear x0) := fun _ => of_block rfl (by decide) rfl
theorem policerRefresh : ∀ x0 x1 x2, Statement (.policerRefresh x0 x1 x2) := fun _ _ _ => of_block rfl (by decide) rfl
theorem polPortCfgWrite : ∀ x0 x1, Statement (.polPortCfgWrite x0 x1) := fun _ _ => of_block rfl (by decide) rfl
theorem polRead : ∀ x0, Statement (.polRead x0) := fun _ => of_block rfl (by decide) rfl
theorem polReset : ∀ x0, Statement (.polReset x0) := fun _ => of_block rfl (by decide) rfl
theorem domeLoopTick : Statement .domeLoopTick := of_block rfl (by decide) rfl
theorem domeAlphaWrite : ∀ x0 x1, Statement (.domeAlphaWrite x0 x1) := fun _ _ => of_block rfl (by decide) rfl
theorem shaperConfigApply : ∀ x0, Statement (.shaperConfigApply x0) := fun _ => of_block rfl (by decide) rfl
theorem nodeQueueClassMove : ∀ x0, Statement (.nodeQueueClassMove x0) := fun _ => of_block rfl (by decide) rfl
theorem ocuCtrlWrite : ∀ x0, Statement (.ocuCtrlWrite x0) := fun _ => of_block rfl (by decide) rfl
theorem ocuSweepSample : Statement .ocuSweepSample := of_block rfl (by decide) rfl
theorem ocuWatchSample : Statement .ocuWatchSample := of_block rfl (by decide) rfl
theorem ocuWatchWrite : ∀ x0 x1, Statement (.ocuWatchWrite x0 x1) := fun _ _ => of_block rfl (by decide) rfl
theorem tpgIncrLoWrite : ∀ x0, Statement (.tpgIncrLoWrite x0) := fun _ => of_block rfl (by decide) rfl
theorem tpgIncrHiWrite : ∀ x0, Statement (.tpgIncrHiWrite x0) := fun _ => of_block rfl (by decide) rfl
theorem tpgTimeFracRead : Statement .tpgTimeFracRead := of_block rfl (by decide) rfl
theorem timeSet : ∀ x0, Statement (.timeSet x0) := fun _ => of_block rfl (by decide) rfl
theorem timeAdj : ∀ x0, Statement (.timeAdj x0) := fun _ => of_block rfl (by decide) rfl
theorem clkcmpGo : ∀ x0, Statement (.clkcmpGo x0) := fun _ => of_block rfl (by decide) rfl
theorem clkcmpDone : ∀ x0, Statement (.clkcmpDone x0) := fun _ => of_block rfl (by decide) rfl
theorem phrefEdge : ∀ x0 x1, Statement (.phrefEdge x0 x1) := fun _ _ => of_block rfl (by decide) rfl
theorem phaseMiss : ∀ x0, Statement (.phaseMiss x0) := fun _ => of_block rfl (by decide) rfl
theorem phaseEnable : ∀ x0, Statement (.phaseEnable x0) := fun _ => of_block rfl (by decide) rfl
theorem phaseDisable : ∀ x0, Statement (.phaseDisable x0) := fun _ => of_block rfl (by decide) rfl
theorem phStatusRead : ∀ x0, Statement (.phStatusRead x0) := fun _ => of_block rfl (by decide) rfl
theorem gclStart : ∀ x0 x1, Statement (.gclStart x0 x1) := fun _ _ => of_block rfl (by decide) rfl
theorem gclStop : ∀ x0, Statement (.gclStop x0) := fun _ => of_block rfl (by decide) rfl
theorem gclChange : ∀ x0, Statement (.gclChange x0) := fun _ => of_block rfl (by decide) rfl
theorem gclListStart : ∀ x0 x1, Statement (.gclListStart x0 x1) := fun _ _ => of_block rfl (by decide) rfl
theorem gclEntryBoundary : ∀ x0 x1, Statement (.gclEntryBoundary x0 x1) := fun _ _ => of_block rfl (by decide) rfl
theorem gclFallbackExit : ∀ x0 x1, Statement (.gclFallbackExit x0 x1) := fun _ _ => of_block rfl (by decide) rfl
theorem tpgWriteEntry : ∀ x0, Statement (.tpgWriteEntry x0) := fun _ => of_block rfl (by decide) rfl
theorem tpgReadEntry : ∀ x0, Statement (.tpgReadEntry x0) := fun _ => of_block rfl (by decide) rfl
theorem spireDecision : ∀ x0 x1, Statement (.spireDecision x0 x1) := fun _ _ => of_block rfl (by decide) rfl
theorem spireCutEnd : ∀ x0 x1 x2 x3, Statement (.spireCutEnd x0 x1 x2 x3) := fun _ _ _ _ => of_block rfl (by decide) rfl
theorem spireFallbackEnd : ∀ x0 x1 x2 x3, Statement (.spireFallbackEnd x0 x1 x2 x3) := fun _ _ _ _ => of_block rfl (by decide) rfl
theorem spiWriteEntry : ∀ x0, Statement (.spiWriteEntry x0) := fun _ => of_block rfl (by decide) rfl
theorem spiReadEntry : ∀ x0, Statement (.spiReadEntry x0) := fun _ => of_block rfl (by decide) rfl
theorem fabricCredit : ∀ x0 x1, Statement (.fabricCredit x0 x1) := fun _ _ => of_block rfl (by decide) rfl
theorem fabricCompletion : ∀ x0 x1 x2 x3, Statement (.fabricCompletion x0 x1 x2 x3) := fun _ _ _ _ => of_block rfl (by decide) rfl
theorem fabricTimeout : ∀ x0 x1, Statement (.fabricTimeout x0 x1) := fun _ _ => of_block rfl (by decide) rfl
theorem dmaQuiesced : Statement .dmaQuiesced := of_block rfl (by decide) rfl
theorem dmaClear : Statement .dmaClear := of_block rfl (by decide) rfl
theorem dmaChannelEnable : ∀ x0, Statement (.dmaChannelEnable x0) := fun _ => of_block rfl (by decide) rfl
theorem dmaChannelDisable : ∀ x0, Statement (.dmaChannelDisable x0) := fun _ => of_block rfl (by decide) rfl
theorem dmaDoorbell : ∀ x0, Statement (.dmaDoorbell x0) := fun _ => of_block rfl (by decide) rfl
theorem dmaStop : ∀ x0, Statement (.dmaStop x0) := fun _ => of_block rfl (by decide) rfl
theorem dmaStopped : ∀ x0, Statement (.dmaStopped x0) := fun _ => of_block rfl (by decide) rfl
theorem dmaDescriptorFetch : ∀ x0 x1, Statement (.dmaDescriptorFetch x0 x1) := fun _ _ => of_block rfl (by decide) rfl
theorem dmaDescriptorComplete : ∀ x0, Statement (.dmaDescriptorComplete x0) := fun _ => of_block rfl (by decide) rfl
theorem dmaPaceHold : ∀ x0, Statement (.dmaPaceHold x0) := fun _ => of_block rfl (by decide) rfl
theorem dmaPaceRelease : ∀ x0, Statement (.dmaPaceRelease x0) := fun _ => of_block rfl (by decide) rfl
theorem dmaPaceTimeout : ∀ x0, Statement (.dmaPaceTimeout x0) := fun _ => of_block rfl (by decide) rfl
theorem dmaStreamFlush : ∀ x0, Statement (.dmaStreamFlush x0) := fun _ => of_block rfl (by decide) rfl
theorem hostRxDeliver : ∀ x0 x1, Statement (.hostRxDeliver x0 x1) := fun _ _ => of_block rfl (by decide) rfl
theorem injectFloorClear : ∀ x0, Statement (.injectFloorClear x0) := fun _ => of_block rfl (by decide) rfl
theorem chkUnitClaim : ∀ x0, Statement (.chkUnitClaim x0) := fun _ => of_block rfl (by decide) rfl
theorem belSourceEvent : ∀ x0, Statement (.belSourceEvent x0) := fun _ => of_block rfl (by decide) rfl
theorem belLevelChange : ∀ x0 x1, Statement (.belLevelChange x0 x1) := fun _ _ => of_other nofun rfl fun _ => rfl
theorem phyIntChange : ∀ x0 x1, Statement (.phyIntChange x0 x1) := fun _ _ => of_other nofun rfl fun _ => rfl
theorem belBatchTimer : ∀ x0, Statement (.belBatchTimer x0) := fun _ => of_block rfl (by decide) rfl
theorem vecTaken : ∀ x0, Statement (.vecTaken x0) := fun _ => of_block rfl (by decide) rfl
theorem belEoi : ∀ x0 x1, Statement (.belEoi x0 x1) := fun _ _ => of_block rfl (by decide) rfl
theorem belSwi : ∀ x0, Statement (.belSwi x0) := fun _ => of_block rfl (by decide) rfl
theorem belSrcCfgWrite : ∀ x0 x1, Statement (.belSrcCfgWrite x0 x1) := fun _ _ => of_block rfl (by decide) rfl
theorem belPendClear : ∀ x0 x1, Statement (.belPendClear x0 x1) := fun _ _ => of_block rfl (by decide) rfl
theorem faultCapture : ∀ x0 x1 x2, Statement (.faultCapture x0 x1 x2) := fun _ _ _ => of_other nofun rfl nofun
theorem blockResetRelease : ∀ x0, Statement (.blockResetRelease x0) := fun _ => of_other nofun rfl nofun
theorem resetShadowEnd : ∀ x0, Statement (.resetShadowEnd x0) := fun _ => of_other nofun rfl nofun
theorem episodeEnd : Statement .episodeEnd := of_other nofun rfl nofun
theorem chipRstReqRelease : Statement .chipRstReqRelease := of_other nofun rfl nofun
theorem coreClkStop : Statement .coreClkStop := of_other nofun rfl fun _ => rfl
theorem domeHoldClear : ∀ x0, Statement (.domeHoldClear x0) := fun _ => of_other nofun rfl nofun
theorem fltIrqClear : ∀ x0, Statement (.fltIrqClear x0) := fun _ => of_other nofun rfl nofun
theorem nmtClear : ∀ x0, Statement (.nmtClear x0) := fun _ => of_other nofun rfl nofun
theorem firstErrorClear : Statement .firstErrorClear := of_other nofun rfl nofun
theorem firedClear : ∀ x0, Statement (.firedClear x0) := fun _ => of_other nofun rfl nofun
theorem lanternArm : ∀ x0, Statement (.lanternArm x0) := fun _ => of_other nofun rfl nofun
theorem lanternStop : ∀ x0, Statement (.lanternStop x0) := fun _ => of_other nofun rfl nofun
theorem pinHoldClear : ∀ x0, Statement (.pinHoldClear x0) := fun _ => of_other nofun rfl nofun
theorem fltInjArm : ∀ x0, Statement (.fltInjArm x0) := fun _ => of_other nofun rfl nofun
theorem logRecordWrite : Statement .logRecordWrite := of_other nofun rfl nofun
theorem logFreeze : Statement .logFreeze := of_other nofun rfl nofun
theorem logUnfreeze : Statement .logUnfreeze := of_other nofun rfl nofun
theorem logAccIdxWrite : ∀ x0, Statement (.logAccIdxWrite x0) := fun _ => of_other nofun rfl nofun
theorem logAccessReady : Statement .logAccessReady := of_other nofun rfl nofun
theorem maintRead : ∀ x0, Statement (.maintRead x0) := fun _ => of_other nofun rfl nofun
theorem maintWrite : ∀ x0 x1, Statement (.maintWrite x0 x1) := fun _ _ => of_other nofun rfl nofun
theorem maintBadOp : ∀ x0, Statement (.maintBadOp x0) := fun _ => of_other nofun rfl nofun
theorem maintFrameCut : ∀ x0 x1 x2 x3, Statement (.maintFrameCut x0 x1 x2 x3) := fun _ _ _ _ => of_other nofun rfl nofun
theorem mntChipReset : ∀ x0, Statement (.mntChipReset x0) := fun _ => of_other nofun rfl nofun
theorem mntBlockReset : ∀ x0 x1, Statement (.mntBlockReset x0 x1) := fun _ _ => of_other nofun rfl nofun
theorem epochGrant : Statement .epochGrant := of_block rfl (by decide) rfl
theorem avsPeriod : ∀ x0, Statement (.avsPeriod x0) := fun _ => of_block rfl (by decide) rfl
theorem avsEmergency : ∀ x0, Statement (.avsEmergency x0) := fun _ => of_block rfl (by decide) rfl
theorem podlReqStable : ∀ x0 x1 x2, Statement (.podlReqStable x0 x1 x2) := fun _ _ _ => of_block rfl (by decide) rfl
theorem podlTick : Statement .podlTick := of_block rfl (by decide) rfl
theorem keyWrite : ∀ x0 x1, Statement (.keyWrite x0 x1) := fun _ _ => of_block rfl (by decide) rfl
theorem keyErase : ∀ x0 x1, Statement (.keyErase x0 x1) := fun _ _ => of_block rfl (by decide) rfl
theorem keyLock : ∀ x0 x1, Statement (.keyLock x0 x1) := fun _ _ => of_block rfl (by decide) rfl
theorem keepGo : Statement .keepGo := of_block rfl (by decide) rfl
theorem keepPeriod : Statement .keepPeriod := of_block rfl (by decide) rfl
theorem keepProductionEnd : Statement .keepProductionEnd := of_block rfl (by decide) rfl
theorem keepOutTimeout : Statement .keepOutTimeout := of_block rfl (by decide) rfl
theorem keepLoad : Statement .keepLoad := of_block rfl (by decide) rfl
theorem keepHeaderCheck : Statement .keepHeaderCheck := of_block rfl (by decide) rfl
theorem keepLoadApply : Statement .keepLoadApply := of_block rfl (by decide) rfl
theorem keepAbort : Statement .keepAbort := of_block rfl (by decide) rfl
theorem mirrorEnable : ∀ x0, Statement (.mirrorEnable x0) := fun _ => of_block rfl (by decide) rfl
theorem mirrorCycle : Statement .mirrorCycle := of_block rfl (by decide) rfl
theorem mirrorCycleEnd : ∀ x0 x1, Statement (.mirrorCycleEnd x0 x1) := fun _ _ => of_block rfl (by decide) rfl
theorem mirrorAck : ∀ x0 x1, Statement (.mirrorAck x0 x1) := fun _ _ => of_block rfl (by decide) rfl
theorem mirrorResync : ∀ x0 x1, Statement (.mirrorResync x0 x1) := fun _ _ => of_block rfl (by decide) rfl
theorem mirrorHello : ∀ x0 x1, Statement (.mirrorHello x0 x1) := fun _ _ => of_block rfl (by decide) rfl
theorem sesOpen : ∀ x0 x1, Statement (.sesOpen x0 x1) := fun _ _ => of_block rfl (by decide) rfl
theorem sesProof : ∀ x0 x1, Statement (.sesProof x0 x1) := fun _ _ => of_block rfl (by decide) rfl
theorem sesChallengeTimeout : ∀ x0, Statement (.sesChallengeTimeout x0) := fun _ => of_block rfl (by decide) rfl
theorem sesLockoutExpire : ∀ x0, Statement (.sesLockoutExpire x0) := fun _ => of_block rfl (by decide) rfl
theorem sesIdleTimeout : ∀ x0, Statement (.sesIdleTimeout x0) := fun _ => of_block rfl (by decide) rfl
theorem sesClose : ∀ x0 x1, Statement (.sesClose x0 x1) := fun _ _ => of_block rfl (by decide) rfl
theorem sesRead : ∀ x0 x1, Statement (.sesRead x0 x1) := fun _ _ => of_block rfl (by decide) rfl
theorem sesWrite : ∀ x0 x1, Statement (.sesWrite x0 x1) := fun _ _ => of_block rfl (by decide) rfl
theorem sesTae : ∀ x0 x1, Statement (.sesTae x0 x1) := fun _ _ => of_block rfl (by decide) rfl
theorem sesCommit : ∀ x0 x1, Statement (.sesCommit x0 x1) := fun _ _ => of_block rfl (by decide) rfl
theorem sesAbort : ∀ x0 x1, Statement (.sesAbort x0 x1) := fun _ _ => of_block rfl (by decide) rfl
theorem sesKeepFetch : ∀ x0 x1, Statement (.sesKeepFetch x0 x1) := fun _ _ => of_block rfl (by decide) rfl
theorem sesStiStart : ∀ x0 x1, Statement (.sesStiStart x0 x1) := fun _ _ => of_block rfl (by decide) rfl
theorem sesStiData : ∀ x0 x1, Statement (.sesStiData x0 x1) := fun _ _ => of_block rfl (by decide) rfl
theorem sesStiValidate : ∀ x0 x1, Statement (.sesStiValidate x0 x1) := fun _ _ => of_block rfl (by decide) rfl
theorem sesStiCommit : ∀ x0 x1, Statement (.sesStiCommit x0 x1) := fun _ _ => of_block rfl (by decide) rfl
theorem sesStiAbort : ∀ x0 x1, Statement (.sesStiAbort x0 x1) := fun _ _ => of_block rfl (by decide) rfl
theorem sesDeferredResponse : ∀ x0, Statement (.sesDeferredResponse x0) := fun _ => of_block rfl (by decide) rfl
theorem stiLoadStart : Statement .stiLoadStart := of_block rfl (by decide) rfl
theorem stiLoadData : ∀ x0, Statement (.stiLoadData x0) := fun _ => of_block rfl (by decide) rfl
theorem stiValidate : Statement .stiValidate := of_block rfl (by decide) rfl
theorem stiValidationEnd : ∀ x0, Statement (.stiValidationEnd x0) := fun _ => of_block rfl (by decide) rfl
theorem stiCommit : Statement .stiCommit := of_block rfl (by decide) rfl
theorem stiCommitSwitch : Statement .stiCommitSwitch := of_block rfl (by decide) rfl
theorem stiCommitEcc : Statement .stiCommitEcc := of_block rfl (by decide) rfl
theorem stiAbort : Statement .stiAbort := of_block rfl (by decide) rfl
theorem coreClkReturn : Statement .coreClkReturn := of_other nofun rfl fun _ => rfl
theorem ptpRefclkStop : Statement .ptpRefclkStop := of_other nofun rfl fun _ => rfl
theorem ptpRefclkReturn : Statement .ptpRefclkReturn := of_other nofun rfl fun _ => rfl
theorem lanternHalfPeriod : Statement .lanternHalfPeriod := of_other nofun rfl nofun
theorem railStateChange : ∀ x0 x1, Statement (.railStateChange x0 x1) := fun _ _ => of_other nofun rfl nofun
theorem mirrorDisable : Statement .mirrorDisable := of_block rfl (by decide) rfl
theorem mirrorDeltaReceive : ∀ x0 x1, Statement (.mirrorDeltaReceive x0 x1) := fun _ _ => of_block rfl (by decide) rfl

end Sys2Proof.Laws.Table
end

