-- ==== Sys2Proof/Laws/Reads.lean ====
section
/-! SUPPORT. What the reads of 64-bit counters return and change (R16). -/
namespace Sys2Proof.Machine

/-- The high half of a counter reads as its shadow. -/
theorem view_high {x : Reg × Reg} (h : x ∈ counters64) (s : State) (i : Nat) :
    s.view x.2 i = tget 0 s.shadows (regKey x.1 i) := by
  simp only [counters64, List.mem_cons, List.not_mem_nil, or_false] at h
  rcases h with rfl | rfl | rfl | rfl | rfl | rfl | rfl | rfl | rfl | rfl | rfl <;> simp only [State.view] <;> rfl

/-- The low half reads as it stands. -/
theorem view_low {x : Reg × Reg} (h : x ∈ counters64) (s : State) (i : Nat) : s.view x.1 i = s.rd x.1 i &&& readable x.1 := by
  simp only [counters64, List.mem_cons, List.not_mem_nil, or_false] at h
  rcases h with rfl | rfl | rfl | rfl | rfl | rfl | rfl | rfl | rfl | rfl | rfl <;> simp only [State.view] <;> rfl

/-- A read of the low half copies the high half into the shadow. -/
theorem readEffect_low {x : Reg × Reg} (h : x ∈ counters64) (s : State) (i : Nat) :
    s.readEffect x.1 i = { s with shadows := tput 0 s.shadows (regKey x.1 i) (s.rd x.2 i) } := by
  simp only [counters64, List.mem_cons, List.not_mem_nil, or_false] at h
  rcases h with rfl | rfl | rfl | rfl | rfl | rfl | rfl | rfl | rfl | rfl | rfl <;> simp only [State.readEffect] <;> rfl

end Sys2Proof.Machine
end

