-- ==== Sys2Proof/Laws/Writes.lean ====
section
/-! SUPPORT. What a register write does to the word, bit by bit (R10 to R12). -/
namespace Sys2Proof.Machine

/-! Bits of words. -/

@[simp] theorem wbit_and (a b : Word) (i : Nat) : wbit (a &&& b) i = (wbit a i && wbit b i) := by simp [wbit]
@[simp] theorem wbit_or (a b : Word) (i : Nat) : wbit (a ||| b) i = (wbit a i || wbit b i) := by simp [wbit]
theorem wbit_not (a : Word) {i : Nat} (h : i < 32) : wbit (~~~ a) i = !wbit a i := by
  simp only [wbit, BitVec.testBit_toNat, BitVec.getLsbD_not, h, decide_true, Bool.true_and]
theorem wbit_word (n : Nat) {i : Nat} (h : i < 32) : wbit (word n) i = n.testBit i := by
  simp only [wbit, word, BitVec.testBit_toNat, BitVec.getLsbD_ofNat, h, decide_true, Bool.true_and]

/-- The ones of a list of fields. -/
theorem testBit_masks (l : List FieldInfo) (a b : Nat) :
    (l.foldl (fun a f => a ||| ((2 ^ (f.hi + 1 - f.lo) - 1) <<< f.lo)) a).testBit b
      = (a.testBit b || l.any fun f => decide (f.lo ≤ b) && decide (b ≤ f.hi)) := by
  induction l generalizing a with
  | nil => simp
  | cons f t ih =>
    rw [List.foldl_cons, ih, List.any_cons, Nat.testBit_or, Nat.testBit_shiftLeft, Nat.testBit_two_pow_sub_one, Bool.or_assoc]
    congr 2
    rw [Bool.eq_iff_iff]
    simp only [Bool.and_eq_true, decide_eq_true_eq]
    omega

/-- A bit of the mask of the fields that satisfy `p`. -/
theorem wbit_maskOf (r : Reg) (p : FieldInfo → Bool) {b : Nat} (h : b < 32) :
    wbit (maskOf r p) b = (regInfo r).fields.any fun f => p f && (decide (f.lo ≤ b) && decide (b ≤ f.hi)) := by
  rw [maskOf, wbit_word _ h, testBit_masks, Nat.zero_testBit, Bool.false_or, List.any_filter]

/-! Writes without an effect of their own. -/

/-- A register without an effect of its own takes a write by its access codes. -/
theorem writeEffect_plain (s : State) {r : Reg} (h : ownEffect r = false) (i : Nat) (w : Word) (l : Bool) :
    s.writeEffect r i w l = s.plainWrite r i w l := by
  simp only [ownEffect, Bool.or_eq_false_iff] at h
  have hn : ∀ x ∈ effectRegs, r ≠ x := by
    rintro x hx rfl
    simp [hx] at h
  have ht : taeEngine r = none := Option.not_isSome_iff_eq_none.mp (by simp [h.2])
  unfold State.writeEffect
  rw [ht]
  dsimp only
  revert hn
  cases r <;> intro hn <;> first | rfl | exact absurd rfl (hn _ (by decide))

/-- A register without an effect of its own is not FLT_INJ_CTRL. -/
theorem factoryInject_plain (s : State) {a : Nat} {r : Reg} {i : Nat} (ha : regOf a = some (r, i)) (h : ownEffect r = false) :
    s.factoryInject a = false := by
  simp only [State.factoryInject, ha]
  have : r ≠ .FLT_INJ_CTRL := by rintro rfl; exact absurd h (by decide)
  simp [this]

end Sys2Proof.Machine
end

