-- ==== Sys2Proof/Tests/Slice0.lean ====
section
/-! SUPPORT. Tests: commands that are ill formed, one-step tests, and for every statement with hypotheses concrete states and
operands that meet them. -/
namespace Sys2Proof.Tests
open Sys2Proof Sys2Proof.Machine
set_option Elab.async false

/-! The states of the tests. -/

/-- The machine after start-up, with a small structure: field port 1023 on lane 255, extended field port 1022, trunk 1037 for mirror
mode, extender trunk 1038, and trunk 1039 at 100 Gb/s. -/
def ready : State :=
  ({ State.reset with fusing := false
                      img := { lanes := [(1022, 0x800002F0#32), (1023, 0x400000FF#32), (1037, 0x88000000#32), (1038, 0x84000000#32), (1039, 0xC0000000#32)]
                               ext := [(47, (0x8E010000#32, 0#32))] } }
    |>.put .GLB_BOOT_MEM_INIT_DONE 0 1).put .STI_STATUS_COMMITTED 0 1

/-- A trunk enabled, with LINK. -/
def trunk (m : Nat) (s : State) : State := (s.put .MAC_CFG_EN m 1).put .MAC_STATUS_LINK m 1

/-- A field port enabled, with LINK, in operating state `st`. -/
def field (p st : Nat) (s : State) : State := ((s.put .SEG_CFG_EN p 1).put .MAC_STATUS_LINK p 1).put .SEG_STATUS_STATE p st

/-- A live frame of one cell with head cell 5. -/
def frame5 (refs : Nat) : DFrame := { length := 60, cells := 1, refs := refs, data := List.replicate 60 0 }

/-- A copy of it in queue `q`. -/
def copy5 (q cls : Nat) : Copy := { head := 5, cells := 1, q := q, cls := cls, tag := 0, wl := 64, join := 0, edit := 0, handle := 0, tcls := cls }

/-! Commands that are ill formed, one for each check of well-formedness. -/

theorem test_illFormed_1 :
    ([.registerWrite (2 ^ 25) 0 0, .registerWrite 0 0 16, .counterClear (2 ^ 25), .counterClear 2, .counterLowRead (2 ^ 25),
      .counterLowRead 2, .rxFrameStart 1040 false [], .rxOversizeDetect 1040 [], .rxJabber 1040 false, .parseStart 1040 [] [],
      .rxFrameEnd 1040 [] 0 false false [], .macControlFrame 1040 [] 0 false, .pauseTimerExpire 1040, .pfcTimerExpire 16 0,
      .pfcTimerExpire 0 8, .itkTransfer 2, .etkTransfer 2 0 0 0 0, .egressTicketProcess 2 false, .referenceRelease 2 0 false,
      .schedChoose 1040, .copyEnd 1040 .ok, .trunkEnable 16, .trunkDisable 16, .loopbackChange 1040 0] : List Instr).all (fun c => !wellFormed c) = true := by decide +kernel

theorem test_illFormed_2 :
    ([.trunkLinkChange 16 false, .fldLinkChange 256 false, .fecCodeword 16 false, .pauseRefresh 16 0, .fcForce 1040 0,
      .macControlTx 1040, .lpiEnter 1040, .lpiExit 1040, .lpiWakeEnd 1040, .rxLpiEnter 1040, .fieldPortEnable 1024,
      .fieldPortDisable 1024, .serviceRequest 1024, .serviceRelease 1024, .serviceQuiet 1024, .serviceForced 1024,
      .babbleClear 1024, .csmaAttempt 1024 false, .csmaCollision 1024 false, .backoffExpire 1024, .plcaBeacon 1024,
      .plcaOwnOpportunity 1024, .plcaToTimerExpire 1024, .plcaCarrierRise 1024] : List Instr).all (fun c => !wellFormed c) = true := by decide +kernel

theorem test_illFormed_3 :
    ([.plcaOppEnd 1024, .burstTimerExpire 1024, .foreignBeacon 1024, .babbleWindowExpire 1024, .candidateFill 1024,
      .candidateReplace 1024, .extDiscover 48, .extJoinEnable 48, .extJoinDisable 48, .extHello 16 [], .extResponse 16 [],
      .extChallengeTimeout 48, .extLeave 16 [], .extPoll 48, .extReport 16 [], .extEvent 16 [], .extPushGo 48,
      .extConfigAck 16 [], .extPushTimeout 48, .extCredit 16 [], .extPodlReq 16 [], .extTrunkRoundRobin 16,
      .policerRefresh .node 262144 .ok, .policerRefresh .flow 65536 .ok] : List Instr).all (fun c => !wellFormed c) = true := by decide +kernel

theorem test_illFormed_4 :
    ([.policerRefresh .port 1040 .ok, .polPortCfgWrite 1040 0, .domeAlphaWrite 8 0, .shaperConfigApply 1040,
      .nodeQueueClassMove 262144, .ocuWatchWrite 1024 0, .phrefEdge 2 [], .phaseMiss 2, .phaseEnable 2, .phaseDisable 2,
      .phStatusRead 2, .gclStart 1040 [], .gclStop 1040, .gclChange 1040, .gclListStart 1040 [], .gclEntryBoundary 1040 .ok,
      .gclFallbackExit 1040 [], .spireDecision 16 [], .spireCutEnd 16 [] 0 false, .spireFallbackEnd 16 [] 0 false,
      .fabricCredit 2 false, .fabricCompletion 2 0 [] false, .fabricTimeout 2 0, .dmaChannelEnable 64] : List Instr).all (fun c => !wellFormed c) = true := by decide +kernel

theorem test_illFormed_5 :
    ([.dmaChannelDisable 64, .dmaDoorbell 64, .dmaStop 64, .dmaStopped 64, .dmaDescriptorFetch 64 0, .dmaDescriptorComplete 64,
      .dmaPaceHold 64, .dmaPaceRelease 64, .dmaPaceTimeout 64, .dmaStreamFlush 64, .hostRxDeliver 64 .ok, .injectFloorClear 64,
      .chkUnitClaim 64, .belSourceEvent 2048, .belLevelChange 2048 false, .phyIntChange 256 false, .belBatchTimer 2048,
      .vecTaken 8, .belEoi 8 0, .belSrcCfgWrite 2048 0, .belPendClear 2048 0, .faultCapture 512 false 0, .blockResetRelease 32,
      .resetShadowEnd 32] : List Instr).all (fun c => !wellFormed c) = true := by decide +kernel

theorem test_illFormed_6 :
    ([.fltIrqClear 512, .firedClear 512, .maintRead (2 ^ 24), .maintWrite (2 ^ 24) 0, .maintBadOp 256, .maintBadOp 0x0D,
      .maintBadOp 0x0E, .maintFrameCut 256 0 0 0, .maintFrameCut 0 (2 ^ 24) 0 0, .maintFrameCut 0 0 0 80,
      .podlReqStable 256 false 0, .keyWrite 8 0, .keyErase 8 0, .keyLock 8 0, .mirrorCycleEnd 16 [], .mirrorAck 16 [],
      .mirrorResync 16 [], .mirrorHello 16 [], .sesOpen 16 [], .sesProof 16 [], .sesChallengeTimeout 4, .sesLockoutExpire 8,
      .sesIdleTimeout 4, .sesClose 16 []] : List Instr).all (fun c => !wellFormed c) = true := by decide +kernel

theorem test_illFormed_7 :
    ([.sesRead 16 [], .sesWrite 16 [], .sesTae 16 [], .sesCommit 16 [], .sesAbort 16 [], .sesKeepFetch 16 [], .sesStiStart 16 [],
      .sesStiData 16 [], .sesStiValidate 16 [], .sesStiCommit 16 [], .sesStiAbort 16 [], .sesDeferredResponse 4,
      .railStateChange 512 .ok, .mirrorDeltaReceive 16 []] : List Instr).all (fun c => !wellFormed c) = true := by decide +kernel

/-! Witnesses: the machine as a whole, resets, registers. -/

theorem wit_QueueIsFirstInFirstOut :
    (∃ t, core.run 1 { ready with pending := [.coreClkReturn] } = .next t) ∧ ready.pending = [] := ⟨⟨_, rfl⟩, by decide⟩

theorem wit_EveryCommandOfAnExistingUnitAnswers :
    (role (.rxLpiEnter 1040)).exists_ = false ∧ (role (.rxLpiEnter 1039)).exists_ = true ∧
    wellFormed (.rxLpiEnter 1039) = true ∧ ready.flag .FLT_STATUS_FACTORY = false ∧
    (let s := ready.put .FLT_STATUS_FACTORY 0 1
     s.flag .FLT_STATUS_FACTORY = true ∧ regOf ((regInfo .FLT_INJ_CTRL).base) = some (.FLT_INJ_CTRL, 0) ∧ s.coreClk = true ∧ s.refClk = true ∧
     15 % 16 = 15) := by decide +kernel

theorem wit_CommandsLeavePinsClocksAndQueue : (∃ t, exec .coreClkReturn ready = .next t) ∧ movesPins (.rxLpiEnter 1039) = false :=
  ⟨⟨_, rfl⟩, by decide⟩

theorem wit_HeldCoreKeepsItsResetValues :
    HeldInReset { State.reset with blkLow := true, fusing := false } ∧ ({ State.reset with blkLow := true, fusing := false } : State).coreOn = false ∧
    ∃ t, step { State.reset with blkLow := true, fusing := false, pending := [.ptpRefclkReturn] } = .next t := by
  refine ⟨?_, by decide, ⟨_, rfl⟩⟩
  unfold HeldInReset CoreAtReset; decide

theorem wit_BlockThatCannotActChangesNothing :
    (role (.rxLpiEnter 1039)).exists_ = true ∧ ({ ready with blkReset := [1] } : State).up 1 = false ∧
    (role (.timeSet [])).waits = true ∧ State.reset.flag .GLB_BOOT_MEM_INIT_DONE = false ∧
    (role (.blockResetRelease 31)).actor = .core ∧ ({ ready with blkLow := true } : State).coreUp = false ∧
    (role .episodeEnd).actor = .alwaysOn ∧
    ({ ready with refClk := false } : State).aonUp = false := by decide +kernel

theorem wit_PowerOnResetGivesResetState : ({ ready with porstLow := true } : State).porstLow = true := by decide +kernel

theorem wit_ComplexResetSparesAlwaysOnAndKeys :
    ready.porstLow = false ∧ ({ ready with porstLow := true } : State).porstLow = true ∧ isAon .GLB_ID = true ∧ isAon .SES_CFG = false := by decide +kernel

theorem wit_ClocksFuseReadAndMemoryInitEndBoot :
    State.reset.up 20 = true ∧ State.reset.fusing = true ∧ State.reset.fuse.length < 63 ∧
    ({ State.reset with fuse := List.replicate 63 0 } : State).fuse.length = 63 ∧ ready.fusing = false ∧ ready.memInit = false ∧
    ({ ready with memInit := true } : State).memInit = true := by decide +kernel

theorem wit_SlavePortAnswersErrorsAndCountsThem :
    ready.coreClk = true ∧ regOf 2 = none ∧ regOf 0x1FFFFFC = none ∧ regOf 0x20 = none ∧
    regOf 0x1300000 = some (.BEL_GLB_CFG, 0) ∧ isAon .BEL_GLB_CFG = false ∧ State.reset.coreOn = true ∧ State.reset.soft = false ∧
    regBlock .BEL_GLB_CFG 0 ≠ 20 ∧ ({ ready with blkLow := true } : State).coreOn = false ∧
    regOf 0 = some (.GLB_ID, 0) ∧ isAon .GLB_ID = true ∧ ready.refClk = true := by decide +kernel

theorem wit_RegisterWriteFollowsAccessCodes :
    regOf 0x1300000 = some (.BEL_GLB_CFG, 0) ∧ ownEffect .BEL_GLB_CFG = false ∧ isCounter .BEL_GLB_CFG = false ∧
    ready.slaveRuns (isAon .BEL_GLB_CFG) = true ∧ ready.porstLow = false ∧
    (isAon .BEL_GLB_CFG || (ready.soft || regBlock .BEL_GLB_CFG 0 == 20) && ready.up (regBlock .BEL_GLB_CFG 0)) = true := by decide +kernel

theorem wit_CountersStopClearAndReadWhole :
    regOf 0x100 = some (.GLB_EGT_ERR, 0) ∧ isCounter .GLB_EGT_ERR = true ∧ ownEffect .GLB_EGT_ERR = false ∧
    ready.slaveRuns (isAon .GLB_EGT_ERR) = true ∧ ready.porstLow = false ∧
    (isAon .GLB_EGT_ERR || (ready.soft || regBlock .GLB_EGT_ERR 0 == 20) && ready.up (regBlock .GLB_EGT_ERR 0)) = true ∧
    regOf ((regInfo .CHK_DONE_LO).base) = some (.CHK_DONE_LO, 0) ∧ (Reg.CHK_DONE_LO, Reg.CHK_DONE_HI) ∈ counters64 ∧
    ready.coreClk = true ∧ ready.coreOn = true ∧
    Fld.GLB_EGT_ERR_COUNT.lo ≤ Fld.GLB_EGT_ERR_COUNT.hi ∧ Fld.GLB_EGT_ERR_COUNT.hi ≤ 31 ∧
    (let s := ready.put .GLB_EGT_ERR_COUNT 0 (2 ^ 32 - 2); s.get .GLB_EGT_ERR_COUNT < 2 ^ 32 - 1 ∧ 2 ^ 32 - 1 ≤ s.get .GLB_EGT_ERR_COUNT + 1) ∧
    ¬(ready.get .GLB_EGT_ERR_COUNT < 2 ^ 32 - 1 ∧ 2 ^ 32 - 1 ≤ ready.get .GLB_EGT_ERR_COUNT + 1) := by decide +kernel

theorem wit_MaintenancePortReachesAlwaysOnRegisters :
    ready.aonUp = true ∧ regOf (4 * 0) = some (.GLB_ID, 0) ∧ isAon .GLB_ID = true ∧
    regOf (4 * 0x7C3C00) = some (.MNT_RST_REQ, 0) ∧ isAon .MNT_RST_REQ = true ∧ (0x800000 ≤ 0xFFFFFF) ∧
    regOf (4 * 0x7FFFFF) = none ∧ ¬(Reg.MNT_RST_REQ = .FLT_INJ_CTRL ∧ ready.flag .FLT_STATUS_FACTORY = true) ∧
    (∃ t, exec (.maintRead 0) ready = .next t) ∧ (∃ t, exec (.maintWrite 0 0) ready = .next t) :=
  ⟨by decide, by decide, by decide, by decide, by decide, by decide, by decide, by decide, ⟨_, rfl⟩, ⟨_, rfl⟩⟩

/-! Witnesses: ports, frames, tickets. -/

/-- A reception on trunk 1039 with a head cell, of 64 bytes. -/
def rx64 : Rx := { bytes := List.replicate 60 0, port := 1039, head := some 5, cells := 1, maxFrame := 1522 }

/-- Trunk 1039 in reception. -/
def receiving (r : Rx) : State := { trunk 1039 ready with rx := [(1039, some r)] }

/-- Trunk 1039 in transmission of nothing but a control frame's bytes. -/
def tx0 : Tx := { copy := none, bytes := [], good := true, cls := 0, octets := 64, owner := 1039 }

theorem wit_TrunkLinkFollowsEnableAndPcs :
    15 < 16 ∧ 1024 + 15 = 1039 ∧ ready.up 1 = true ∧ ready.soft = true ∧ ready.flag .MAC_CFG_EN 1039 = false ∧
    (trunk 1039 ready).flag .MAC_CFG_EN 1039 = true ∧ ((receiving rx64).rxOf 1039).isSome = true ∧ (trunk 1039 ready).enabled 1039 = true ∧
    ready.enabled 1039 = false ∧ (trunk 1039 ready).link 1039 = true ∧ ready.link 1039 = false ∧
    macBlock 1039 = 1 ∧ macBlock 1023 = 2 ∧ ready.up 2 = true ∧ (trunk 1039 ready).rateCode 1039 = 4 := by decide +kernel

theorem wit_HeldControlFrameGoesFirst :
    (let s := trunk 1039 ready
     ready.up 1 = true ∧ ready.soft = true ∧ s.enabled 1039 = true ∧ s.link 1039 = true ∧ s.extended 1039 = false ∧ s.halfDuplex 1039 = false ∧
     (s.macOf 1039).autoHeld.or (s.macOf 1039).forcedHeld = none) ∧
    (let s := (trunk 1039 ready).setMac 1039 { autoHeld := some ⟨false, 0, [0xFFFF]⟩ }
     s.enabled 1039 = true ∧ s.flag .MAC_STATUS_TX_LPI 1039 = false ∧ (s.macOf 1039).waking = false ∧ s.txOf 1039 = none ∧
     ((s.macOf 1039).autoHeld.or (s.macOf 1039).forcedHeld).isSome = true) ∧
    (let s := ((trunk 1039 ready).setMac 1039 { autoHeld := some ⟨false, 0, [0xFFFF]⟩ }).put .MAC_STATUS_TX_LPI 1039 1
     s.enabled 1039 = true ∧ s.flag .MAC_STATUS_TX_LPI 1039 = true) ∧
    (field 1023 2 ready).halfDuplex 1023 = true ∧ ready.extended 1022 = true ∧ ready.enabled 1039 = false := by decide +kernel

theorem wit_LowPowerIdleIsEnteredAndLeft :
    (let s := (trunk 1039 ready).put .MAC_EEE_EN 1039 1
     s.up (macBlock 1039) = true ∧ s.flag .MAC_EEE_EN 1039 = true ∧ s.enabled 1039 = true ∧ s.link 1039 = true ∧ s.extended 1039 = false ∧
     s.flag .MAC_STATUS_TX_LPI 1039 = false ∧ (s.macOf 1039).waking = false ∧ s.txOf 1039 = none ∧ s.lpiNeeded 1039 = false ∧
     s.lpiBarred 1039 = false) ∧
    (let s := (trunk 1039 ready).put .MAC_STATUS_TX_LPI 1039 1
     s.flag .MAC_STATUS_TX_LPI 1039 = true ∧ s.flag .MAC_EEE_EN 1039 = false) ∧
    ready.flag .MAC_EEE_EN 1039 = false ∧ ready.flag .MAC_STATUS_TX_LPI 1039 = false ∧ ready.enabled 1039 = false := by decide +kernel

theorem wit_FrameStartOpensAReception :
    (let s := trunk 1039 ready
     let u := (s.put .MAC_STATUS_RX_LPI 1039 0).used
     s.up (macBlock 1039) = true ∧ s.enabled 1039 = true ∧ s.link 1039 = true ∧ s.get .MAC_CFG_LOOP 1039 ≠ 2 ∧ s.rxOf 1039 = none ∧
     s.consumed 1039 [] = false ∧ u.spiTreat 1039 [] [] = none ∧ u.domeHeld = false ∧ u.aboveFloor = true) ∧
    (let s := (trunk 1039 ready).put .FLT_STATUS_DOME_HOLD 0 1
     s.enabled 1039 = true ∧ s.rxOf 1039 = none ∧ s.domeHeld = true ∧ (s.put .MAC_STATUS_RX_LPI 1039 0).used.spiTreat 1039 [] [] = none) ∧
    (let s := (trunk 1039 ready).put .DOME_CFG_INGRESS_FLOOR 0 65535
     let t := { s with lost := 131072 - 65535 }
     t.enabled 1039 = true ∧ t.rxOf 1039 = none ∧ t.domeHeld = false ∧ t.aboveFloor = false) ∧
    (let s := field 1023 segQuarantine ready
     s.up (macBlock 1023) = true ∧ s.enabled 1023 = true ∧ s.link 1023 = true ∧ s.get .MAC_CFG_LOOP 1023 ≠ 2 ∧ s.rxOf 1023 = none ∧
     s.segState 1023 = segQuarantine) ∧
    ready.enabled 1039 = false ∧ ready.rxOf 1039 = none := by decide +kernel

theorem wit_FrameStartOpensAReception_moments :
    (let s := receiving { rx64 with maxFrame := 59 }
     s.up (macBlock 1039) = true ∧ s.rxOf 1039 = some { rx64 with maxFrame := 59 } ∧ rx64.spi = none ∧
     59 < (s.stored 1039 (List.replicate 60 0)).length) ∧
    (receiving rx64).rxOf (1024 + 15) = some rx64 ∧ rx64.cut = false ∧ ready.up 4 = true ∧ ready.flag .FLT_STATUS_FACTORY = false := by decide +kernel

theorem wit_DiscardedFrameCountsOnce :
    let s := receiving rx64
    let g := s.rxGrow 1039 rx64.bytes
    s.up (macBlock 1039) = true ∧ s.flag .FLT_STATUS_FACTORY = false ∧ (s.rxOf 1039).map (·.express) = some false ∧
    (∃ r, g.rxOf 1039 = some r ∧ r.cut = false ∧ r.spi = none) ∧ g.segState 1039 ≠ segQuarantine ∧
    g.isFragment 1039 rx64 ((g.stored 1039 rx64.bytes).length + 4) false = false ∧ (∀ r, g.rxOf 1039 = some r → ownOpp r = false) := by
  refine ⟨by decide, by decide, by decide, ⟨_, rfl, by decide, by decide⟩, by decide, by decide, ?_⟩
  intro r h; cases h; decide

/-- A PAUSE frame of 60 bytes, and a PFC frame. -/
def pause60 : List Byte := beBytes 6 0x0180C2000001 ++ beBytes 6 0 ++ beBytes 2 0x8808 ++ beBytes 2 1 ++ beBytes 2 0xFFFF ++ List.replicate 42 0
/-- A PFC frame of 60 bytes. -/
def pfc60 : List Byte := beBytes 6 0x0180C2000001 ++ beBytes 6 0 ++ beBytes 2 0x8808 ++ beBytes 2 0x101 ++ List.replicate 44 0

theorem wit_GoodControlFrameActsAtItsEnd :
    (let s := receiving { rx64 with bytes := pause60 }
     let g := s.rxGrow 1039 pause60
     s.up 1 = true ∧ (s.rxOf 1039).map (·.express) = some false ∧ (g.rxOf 1039).isSome = true ∧ (g.rxOf 1039).map (·.cut) = some false ∧
     (g.rxOf 1039).map (·.badStart) = some false ∧ (g.rxOf 1039).map (·.maxFrame) = some 1522 ∧ g.extTrunkRole 1039 = false ∧
     isCtrl pause60 = true ∧ 64 ≤ pause60.length + 4 ∧ pause60.length + 4 ≤ 1522 ∧ beAt pause60 0 6 = 0x0180C2000001 ∧
     beAt pause60 14 2 = 1 ∧ crc32 pause60 = (word (crc32 pause60)).toNat) ∧
    isCtrl pfc60 = true ∧ pfc60.length = 60 ∧ beAt pfc60 0 6 = 0x0180C2000001 ∧ beAt pfc60 14 2 = 0x101 ∧
    crc32 pfc60 = (word (crc32 pfc60)).toNat := by decide +kernel

theorem wit_TicketLanesKeepTheirOrder :
    (let s := { ready with itkQ := [(1, [[0, 0, 0, 0, 0, 0]])], etkQ := [(1, [[5, 1039, 0, 0]])] }
     s.up 8 = true ∧ s.itk 1 = [[0, 0, 0, 0, 0, 0]] ∧ s.committed = true ∧ s.flag .FLT_STATUS_DOME_HOLD = false ∧ (s.etk 1).length < 64 ∧
     s.etk 1 = [[5, 1039, 0, 0]] ∧ s.frame (wbits (5 : Word) 16 0) = none ∧
     ({ s with frames := [(5, frame5 1)] } : State).frame (wbits (5 : Word) 16 0) = some (frame5 1)) ∧
    ready.itk 1 = [] ∧ ready.etk 1 = [] ∧ State.reset.committed = false ∧
    64 ≤ (({ ready with etkQ := [(1, List.replicate 64 [])] } : State).etk 1).length := by decide +kernel

theorem wit_ReferencesFollowCopies :
    (let s := { ready with frames := [(5, frame5 2)] }
     s.up 8 = true ∧ s.frame 5 = some (frame5 2) ∧ 2 ≤ (frame5 2).refs ∧ s.committed = true ∧ s.flag .FLT_STATUS_DOME_HOLD = false ∧
     (s.offer 5 (frame5 2) (8 * 1039) 0 0 0 0).1 = true ∧ s.frame 6 = none) ∧
    (let s := { ready with frames := [(5, frame5 1)] }
     s.frame 5 = some (frame5 1) ∧ (frame5 1).refs ≤ 1) ∧
    (let s := { ready with frames := [(5, { frame5 1 with cells := 131072 })] }
     s.threshold (s.queueClass 0) 0 < s.queueCells 0 + 131072 ∧ (s.offer 5 { frame5 1 with cells := 131072 } 0 0 0 0 0).1 = false) ∧
    State.reset.committed = false := by decide +kernel
/-! Witnesses: Dome loop, scheduler, Oculus, segments. -/

/-- One copy of class `cls` waits on port `p`; its frame has one reference. -/
def waiting (p cls : Nat) (s : State) : State :=
  { s with frames := [(5, frame5 1)], queues := [(262144 + 8 * p + cls, [copy5 (262144 + 8 * p + cls) cls])] }

theorem wit_AdaptiveLoopMovesAlphaWithinBounds :
    ready.up 8 = true ∧ ready.soft = true ∧ ready.get .DOME_CLASS_ALPHA_ALPHA_MIN 7 ≤ ready.get .DOME_CLASS_ALPHA_ALPHA_MAX 7 ∧ 7 < 8 ∧
    Reg.DOME_CLASS_CFG ≠ .DOME_CLASS_CUR := by decide +kernel

theorem wit_StrictClassAndLeastTagWin :
    (let s := waiting 1039 7 (trunk 1039 ready)
     (s.eligible true 1039 7).isSome = true ∧ s.strictMin 1039 ≤ 7 ∧ (s.wfqHead 1039 7).isSome = true ∧ (s.choose true 1039).1.isSome = true) ∧
    (let s := waiting 1039 0 (trunk 1039 ready)
     (s.eligible true 1039 0).isSome = true ∧ ∀ j < 8, 0 < j → s.eligible true 1039 j = none) ∧
    (∀ j < 8, ready.eligible false 1039 j = none) := by decide +kernel

theorem wit_ChosenCopyStartsAndTrunkServesInTurn :
    (let s := waiting 1039 7 (trunk 1039 ready)
     s.up 9 = true ∧ (s.downDrop 1039).txFree 1039 = true ∧ (s.downDrop 1039).role 1039 ≠ 1 ∧ ((s.downDrop 1039).choose true 1039).1.isSome = true ∧
     s.link 1039 = true) ∧
    (let s := trunk 1039 ready; (s.downDrop 1039).txFree 1039 = true ∧ ((s.downDrop 1039).choose true 1039).1 = none) ∧
    ({ trunk 1039 ready with tx := [(1039, some tx0)] } : State).txFree 1039 = false ∧ ready.extended 1022 = true ∧ ready.role 1038 = 1 ∧
    ready.enabled 1039 = false ∧ (ready.put .MAC_CFG_DOWN_DROP 1039 0).flag .MAC_CFG_DOWN_DROP 1039 = false := by decide +kernel

theorem wit_ChosenCopyStartsAndTrunkServesInTurn_candidate :
    (let s := waiting 1023 7 (field 1023 segNormal ready)
     s.up 9 = true ∧ s.slotOpen 1023 = true ∧ s.candOf 1023 = none ∧ s.csmaBusy 1023 = false ∧ (s.choose true 1023).1.isSome = true) ∧
    (let s := field 1023 segNormal ready; s.slotOpen 1023 = true ∧ s.candOf 1023 = none ∧ (s.choose true 1023).1 = none) ∧
    (let s := { waiting 1023 7 ((field 1023 segNormal ready).put .SCH_PORT_CFG_CAND_REPL 1023 1) with cand := [(1023, some (copy5 (262144 + 8 * 1023) 0))] }
     s.candOf 1023 = some (copy5 (262144 + 8 * 1023) 0) ∧ s.flag .SCH_PORT_CFG_CAND_REPL 1023 = true ∧
     (∃ k < 8, s.strictMin 1023 ≤ k ∧ 0 < k ∧ (s.eligible true 1023 k).isSome = true) ∧ s.get .SEG_TXSTATE_ATTEMPTS 1023 = 0 ∧
     ¬(s.plcaPort 1023 = true ∧ s.get .SEG_STATUS_CUR_ID 1023 = 0)) ∧
    (let s := { (field 1023 segNormal ready).put .SCH_PORT_CFG_CAND_REPL 1023 0 with cand := [(1023, some (copy5 (262144 + 8 * 1023) 0))] }
     (s.candOf 1023).isSome = true ∧ s.flag .SCH_PORT_CFG_CAND_REPL 1023 = false) ∧
    ready.slotOpen 1023 = false := by decide +kernel

theorem wit_ChosenCopyStartsAndTrunkServesInTurn_roundRobin :
    (let s := trunk 1038 ready
     s.role 1038 = 1 ∧ s.txFree 1038 = true ∧ s.enabled 1038 = true ∧ s.link 1038 = true ∧ s.flag .MAC_STATUS_RX_PAUSED 1038 = false ∧
     s.up 9 = true ∧ s.extPortsOn 14 = [1022] ∧ 1024 + 14 = 1038) ∧
    (let s := { trunk 1038 ready with cand := [(1022, some (copy5 0 0))] }
     s.candOf 1022 = some (copy5 0 0) ∧ (1022 : Nat) ≠ 1038) ∧
    ready.enabled 1038 = false ∧ ready.portOfLane 255 = some 1023 ∧ ready.up 2 = true ∧ ready.portOfLane 254 = none := by decide +kernel

theorem wit_FrameEndsAndBoundariesAct :
    (let s := { trunk 1039 ready with tx := [(1039, some tx0)] }
     s.up 9 = true ∧ s.txOf 1039 = some tx0 ∧ tx0.cut = false ∧ tx0.copy = none) ∧
    (let s := { trunk 1039 ready with tx := [(1039, some { tx0 with copy := some (copy5 (262144 + 8 * 1039 + 7) 7), cls := 7 })] }
     (s.sending 1039).isSome = true) ∧
    (let t := { tx0 with copy := some (copy5 0 0), owner := 1023 }
     let s := { field 1023 segNormal ready with tx := [(1023, some t)] }
     s.txOf 1023 = some t ∧ t.cut = false ∧ t.copy = some (copy5 0 0) ∧ s.eccOf 2 5 .ok ≠ .uncorr) ∧
    ready.txOf 1039 = none ∧ ready.sending 1039 = none := by decide +kernel

theorem wit_CreditIsBounded :
    tget 0 ready.credit (8 * 1039 + 7) ≤ Fld.SCH_CBS_HI_HI_CREDIT.of (ready.inForce .SCH_CBS_HI (8 * 1039 + 7)) * 16 * 3000000 ∧
    (ready.put .MAC_STATUS_RX_PAUSED 1039 1).flag .MAC_STATUS_RX_PAUSED 1039 = true ∧
    (let s := trunk 1039 ready
     ¬(s.flag .MAC_STATUS_RX_PAUSED 1039 = true ∨ (s.get .MAC_STATUS_RX_PFC_PAUSED 1039).testBit 7 = true ∨ s.gateOpen 1039 7 = false) ∧
     s.sending 1039 ≠ some 7 ∧ s.classHolds 1039 7 = false ∧ (s.candOf 1039).any (·.cls == 7) = false ∧ 0 ≤ tget 0 s.credit (8 * 1039 + 7) ∧
     tget 0 ({ s with credit := [(8 * 1039 + 7, -5)] } : State).credit (8 * 1039 + 7) < 0) ∧
    (let s := { trunk 1039 ready with tx := [(1039, some { tx0 with copy := some (copy5 (262144 + 8 * 1039 + 7) 7), cls := 7 })] }
     s.sending 1039 = some 7) := by decide +kernel

theorem wit_OculusVisitsItsQueuesInTurn : 1023 < 1024 ∧ ready.up 10 = true ∧ ready.soft = true := by decide +kernel

theorem wit_SegmentStateFollowsItsLevels :
    ready.up 2 = true ∧ ready.soft = true ∧ ready.onLane 1023 = true ∧ ready.segState 1023 = segDisabled ∧ ready.kind 1023 = 0 ∧
    (let s := field 1023 segNormal ready; s.flag .SEG_CFG_EN 1023 = true ∧ s.segState 1023 = segNormal) ∧
    (let s := field 1023 segToService ready; s.flag .SEG_CFG_EN 1023 = true ∧ s.segState 1023 = segToService ∧ s.txOf 1023 = none) ∧
    (let s := { field 1023 segService ready with tx := [(1023, some tx0)] }
     s.flag .SEG_CFG_EN 1023 = true ∧ s.segState 1023 = segService ∧ (s.txOf 1023).isSome = true) := by decide +kernel

theorem wit_CollisionBacksOffOrEnds :
    (let s := { (field 1023 segNormal ready).put .SEG_CFG_ACCESS 1023 0 with frames := [(5, frame5 1)], cand := [(1023, some (copy5 (262144 + 8 * 1023) 0))] }
     s.up 2 = true ∧ s.csmaPort 1023 = true ∧ s.get .SEG_TXSTATE_BACKOFF 1023 = 0 ∧ s.txFree 1023 = true ∧
     s.candOf 1023 = some (copy5 (262144 + 8 * 1023) 0) ∧ s.candReady 1023 (copy5 (262144 + 8 * 1023) 0) = true) ∧
    (let t := { tx0 with copy := some (copy5 (262144 + 8 * 1023) 0), owner := 1023 }
     let s := { (field 1023 segNormal ready).put .SEG_CFG_ACCESS 1023 0 with tx := [(1023, some t)] }
     s.halfDuplex 1023 = true ∧ s.txOf 1023 = some t ∧ t.copy = some (copy5 (262144 + 8 * 1023) 0) ∧ s.plcaPort 1023 = false ∧
     s.get .SEG_TXSTATE_ATTEMPTS 1023 + 1 < 16 ∧ (s.put .SEG_TXSTATE_ATTEMPTS 1023 15).get .SEG_TXSTATE_ATTEMPTS 1023 + 1 = 16) ∧
    ready.csmaPort 1023 = false ∧ ready.halfDuplex 1039 = false := by decide +kernel

theorem wit_PlcaCycleRunsItsOpportunities :
    (let s := ((field 1023 segNormal ready).put .SEG_CFG_ACCESS 1023 1).put .SEG_STATUS_CUR_ID 1023 254
     s.up 2 = true ∧ s.plcaRuns 1023 = true ∧ s.get .SEG_STATUS_CUR_ID 1023 ≠ 0xFF ∧ s.txOf 1023 = none) ∧
    (let s := { ((field 1023 segNormal ready).put .SEG_CFG_ACCESS 1023 1).put .SEG_STATUS_PLCA_ACTIVE 1023 1 with
                frames := [(5, frame5 1)], cand := [(1023, some (copy5 (262144 + 8 * 1023) 0))] }
     let s1 := s.put .SEG_STATUS_CUR_ID 1023 0
     let mine := s1.setSeg 1023 { s1.segOf 1023 with burst := 0, mine := true, carrier := none }
     s.plcaRuns 1023 = true ∧ s.flag .SEG_STATUS_PLCA_ACTIVE 1023 = true ∧ mine.txFree 1023 = true ∧
     s.candOf 1023 = some (copy5 (262144 + 8 * 1023) 0) ∧ mine.candReady 1023 (copy5 (262144 + 8 * 1023) 0) = true) ∧
    (let s := ((field 1023 segNormal ready).put .SEG_CFG_ACCESS 1023 1).put .SEG_STATUS_PLCA_ACTIVE 1023 1
     s.plcaRuns 1023 = true ∧ s.flag .SEG_STATUS_PLCA_ACTIVE 1023 = true ∧ s.candOf 1023 = none) ∧
    ready.plcaRuns 1023 = false := by decide +kernel
/-! Witnesses: extenders, table access engines, the classifier's commits, the registry, policers, time, phase, gates. -/

/-- The slot 47 in state `st`. -/
def slot (st : Nat) (s : State) : State := s.put .EXT_STATUS_STATE 47 st

/-- The head of a manager frame with message `msg`, version `ver`, body length `len` and SEQ 1, for the unit with address 7. -/
def mgmtHead (msg ver len : Nat) : List Byte :=
  beBytes 6 0 ++ beBytes 6 7 ++ beBytes 2 (ready.get .EXT_GLB_CFG_ETYPE) ++ beBytes 1 0x45 ++ beBytes 1 ver ++ beBytes 1 msg ++ beBytes 1 0 ++
    beBytes 2 len ++ beBytes 2 0 ++ beBytes 4 1

/-- A HELLO of unit 7 for the versions `v`. -/
def hello7 (v : Nat) : List Byte := mgmtHead 2 0 4 ++ beBytes 1 v ++ List.replicate 3 0

theorem wit_ExtenderJoinFollowsItsTable :
    (let s := trunk 1038 ready
     s.up 3 = true ∧ s.soft = true ∧ s.extState 47 = extIdle ∧ s.extTrunkUp 47 = true) ∧
    (slot extRefused ready).extState 47 = extRefused ∧ (slot extJoined ready).extState 47 = extJoined ∧
    (let s := slot extDiscovering (trunk 1038 ready); s.extState 47 = extDiscovering ∧ s.extTrunkUp 47 = true) ∧
    (slot extChallenging ready).extState 47 = extChallenging ∧
    (let s := slot extDiscovering (trunk 1038 ready)
     let f := hello7 2
     let a := (s.add64 .MAC_RX_FRAMES_LO .MAC_RX_FRAMES_HI 1038 1).add64 .MAC_RX_OCTETS_LO .MAC_RX_OCTETS_HI 1038 (max 60 f.length + 4)
     s.role 1038 = 1 ∧ s.enabled 1038 = true ∧ s.link 1038 = true ∧ beAt f 12 2 = s.get .EXT_GLB_CFG_ETYPE ∧ beAt f 14 1 = 0x45 ∧
     beAt f 15 1 = 0 ∧ beAt f 16 1 = 0x02 ∧ beAt f 18 2 = 4 ∧ 30 ≤ f.length ∧ beAt f 6 6 = 7 ∧ 7 ∉ s.extHold ∧ a.helloSlot 14 7 = some 47 ∧
     commonVersion (beAt f 26 1) = 1 ∧ ¬(1 = 0 ∨ 1 < wbits (s.slotWords 47).1 17 16) ∧
     (s.get .SES_KEY_STATUS_WRITTEN).testBit (wbits (s.slotWords 47).1 2 0) = false ∧ commonVersion (beAt (hello7 0) 26 1) = 0 ∧
     ((s.put .SES_KEY_STATUS_WRITTEN 0 1).get .SES_KEY_STATUS_WRITTEN).testBit (wbits (s.slotWords 47).1 2 0) = true) ∧
    (let s := trunk 1038 ready
     let f := hello7 2
     7 ∈ ({ s with extHold := [7] } : State).extHold ∧
     ((s.add64 .MAC_RX_FRAMES_LO .MAC_RX_FRAMES_HI 1038 1).add64 .MAC_RX_OCTETS_LO .MAC_RX_OCTETS_HI 1038 (max 60 f.length + 4)).helloSlot 14 7 = none) := by
  decide

/-- Slot 47 joined with unit 7. -/
def joined : State := (((slot extJoined (trunk 1038 ready)).put .EXT_UNIT_LO_SA_LO 47 7)).put .EXT_STATUS_VERSION 47 1

/-- A LEAVE of unit 7 under the session key of an empty list, with its tag. -/
def leave7 : List Byte := mgmtHead 0x7E 1 0 ++ (hmac (joined.extData 47).sk (mgmtHead 0x7E 1 0)).take 16

theorem wit_ManagementFramesAuthenticateOrAreCounted :
    (let f := mgmtHead 0x7E 1 0 ++ List.replicate 16 0
     let a := (joined.add64 .MAC_RX_FRAMES_LO .MAC_RX_FRAMES_HI 1038 1).add64 .MAC_RX_OCTETS_LO .MAC_RX_OCTETS_HI 1038 (max 60 f.length + 4)
     joined.up 3 = true ∧ joined.role 1038 = 1 ∧ joined.enabled 1038 = true ∧ joined.link 1038 = true ∧
     beAt f 12 2 = joined.get .EXT_GLB_CFG_ETYPE ∧ beAt f 14 1 = 0x45 ∧ beAt f 16 1 = 0x7E ∧ mgmtLen 0x7E = some (beAt f 18 2) ∧
     42 + beAt f 18 2 ≤ f.length ∧ a.slotOfUnit 14 (beAt f 6 6) = some 47 ∧ joined.extState 47 = extJoined ∧
     beAt f 15 1 = joined.get .EXT_STATUS_VERSION 47 ∧ mgmtVersion 0x7E ≤ beAt f 15 1 ∧ (joined.extData 47).seqIn < beAt f 22 4) ∧
    (slot extIdle ready).extState 47 ≠ extJoined ∧
    (let s := trunk 1038 ready
     ((s.add64 .MAC_RX_FRAMES_LO .MAC_RX_FRAMES_HI 1038 1).add64 .MAC_RX_OCTETS_LO .MAC_RX_OCTETS_HI 1038 64).slotOfUnit 14 7 = none) ∧
    (let f := mgmtHead 4 0 48 ++ List.replicate 48 0
     beAt f 16 1 = 0x04 ∧ mgmtLen 0x04 = some (beAt f 18 2) ∧ beAt f 15 1 = 0 ∧ 26 + beAt f 18 2 ≤ f.length) ∧
    joined.soft = true ∧ (joined.put .EXT_STATUS_PUSH_BUSY 47 1).flag .EXT_STATUS_PUSH_BUSY 47 = true := by decide +kernel

theorem wit_ManagementFramesAuthenticateOrAreCounted_tag :
    slice leave7 26 16 = (hmac (joined.extData 47).sk (leave7.take 26)).take 16 := by
  have h : (mgmtHead 0x7E 1 0).length = 26 := by decide +kernel
  simp [leave7, slice, h]

/-- A command that waits in engine `k`. -/
def tae (k target op view addr : Nat) (d : List Word) (s : State) : State :=
  { s with tae := [(k, some { target := target, op := op, view := view, addr := addr, data := d })] }

theorem wit_TableCommandsEndWithTheirOutcome :
    ready.up (taeBlock (engineNum .spi)) = true ∧ regOf 0x1100800 = some ((taeRegs 4).cmd, 0) ∧ wbit 0x80000000#32 31 = true ∧ ready.soft = true ∧
    ready.taeOwned 4 = false ∧ tget none ready.tae 4 = none ∧ (tget none (tae 4 0 4 0 255 [] ready).tae 4).isSome = true ∧
    (let t : Tae := { target := 1, op := 5, view := 0, addr := 0, data := [], done := some (15, some (2 ^ 18 - 1), List.replicate 32 1) }
     let s := { ready with tae := [(0, some t)] }
     tget none s.tae 0 = some t ∧ t.done = some (15, some (2 ^ 18 - 1), List.replicate 32 1) ∧ 15 < 16 ∧
     (List.replicate 32 (1 : Word)).length ≤ (taeRegs 0).words ∧ 2 ^ 18 - 1 < 2 ^ 18 ∧ 0 < 2) ∧
    (∀ t, tget none ready.tae 4 = some t → t.done = none) ∧
    ((Instr.spiWriteEntry .uncorr, 4, 3) ∈ [(Instr.spiReadEntry .uncorr, 4, 4), (.spiWriteEntry .uncorr, 4, 3)]) ∧
    (∀ t, (tae 4 0 4 0 255 [] ready).taeOf 4 = some t → t.op ≠ 3) ∧ ((tae 4 0 3 0 255 [] ready).taeOf 4).map (·.op) = some 3 ∧
    ((tae 2 6 7 0 0 [] ready).taeOf 2).map (fun t => decide (5 < t.target)) = some true := by
  refine ⟨by decide, by decide, by decide, by decide, by decide, by decide, by decide, by decide, ?_, by decide, ?_, by decide, by decide⟩
  · intro t h; cases h
  · intro t h; cases h; decide

theorem wit_StagedCommandsAreCheckedInOrder :
    (let s := tae 0 1 1 0 0 (List.replicate 32 0) ready
     s.up 5 = true ∧ (s.taeOf 0).isSome = true ∧ (1 == 1 || 1 == 2) = true ∧ s.stageLocked = false) ∧
    (let s := (tae 0 5 3 0 65535 (List.replicate 32 0) ready).put .CLS_COMMIT_STATUS_STATE 0 clsCommitting
     s.stageLocked = true ∧ 3 ≤ 5 ∧ 5 ≤ 5 ∧ 65535 < clsRange 5) ∧
    (tae 0 2 2 0 0 [] ready).stageLocked = false ∧
    ready.viewVersion 1 = none ∧ ready.viewVersion 2 = none ∧ ready.viewVersion 0 = some ready.versionA ∧
    ready.clsAddrOk 5 65535 = true ∧ ready.clsAddrOk 2 16383 = true ∧ ready.clsAddrOk 1 0x80FFF = true := by decide +kernel

theorem wit_CommitSequenceFollowsItsTable :
    ready.up 5 = true ∧ ready.soft = true ∧ ready.get .CLS_COMMIT_STATUS_STATE = clsIdle ∧ ready.get .CLS_COMMIT_STATUS_DRAIN = 0 ∧
    (ready.put .CLS_COMMIT_STATUS_STATE 0 clsStaging).get .CLS_COMMIT_STATUS_STATE = clsStaging ∧
    (let s := (ready.put .CLS_COMMIT_STATUS_STATE 0 clsStaging).put .CLS_COMMIT_STATUS_DRAIN 0 2
     s.get .CLS_COMMIT_STATUS_STATE = clsStaging ∧ s.get .CLS_COMMIT_STATUS_DRAIN = 2) ∧
    (ready.put .CLS_COMMIT_STATUS_STATE 0 clsWait).get .CLS_COMMIT_STATUS_STATE = clsWait ∧
    (let s := ready.put .CLS_COMMIT_STATUS_STATE 0 clsCommitting; s.get .CLS_COMMIT_STATUS_STATE = clsCommitting ∧ s.taeOf 0 = none) ∧
    (ready.put .CLS_COMMIT_STATUS_STATE 0 clsDiscarding).get .CLS_COMMIT_STATUS_STATE = clsDiscarding := by decide +kernel

theorem wit_RegistryFollowsItsCommandsAndVisits :
    (let s := tae 1 1 1 0 (1040 * 256 - 1) (List.replicate 16 0) ready
     s.up 6 = true ∧ (s.taeOf 1).map (fun t => (t.op, t.target)) = some (1, 1) ∧ s.nregBadIndex (1040 * 256 - 1) = true) ∧
    (let s := tae 1 1 5 0 (1023 * 256 + 254) (List.replicate 16 0) ready
     (s.taeOf 1).map (fun t => (t.op, t.target)) = some (5, 1) ∧ s.nregBadIndex (1023 * 256 + 254) = false ∧ s.present' 1023 = true) ∧
    ((tae 1 1 2 0 1 [] ready).taeOf 1).map (·.op) = some 2 ∧ ((tae 1 1 3 0 1 [] ready).taeOf 1).map (·.op) = some 3 ∧
    ((tae 1 1 4 0 1 [] ready).taeOf 1).map (·.op) = some 4 ∧
    (let s := tae 1 2 6 0 (1023 * 256 + 254) [] ready
     (s.taeOf 1).map (fun t => (t.op, t.target)) = some (6, 2) ∧ s.nregBadIndex (1023 * 256 + 254) = false ∧
     s.eccOf 6 (1023 * 256 + 254) .ok ≠ .uncorr ∧ 3 < 4) ∧
    (let s := ready.put .NREG_AGE_PERIOD 0 1; s.committed = true ∧ s.get .NREG_AGE_PERIOD ≠ 0 ∧ s.soft = true) ∧
    (ready.put .NREG_AGE_PERIOD 0 0).get .NREG_AGE_PERIOD = 0 := by decide +kernel

theorem wit_PolicerRefillsWithinItsBurst :
    ({} : Pol).levelC ≤ profCbs [] * polUnit ∧ ({} : Pol).levelE ≤ profEbs [] * polUnit ∧ profMode [] ≠ 1 ∧ profMode [0x40000000#32] = 1 ∧
    ready.up 7 = true ∧ ready.flag .POL_PORT_CFG_EN 1039 = false ∧ profMode (ready.profile ready.versionA (ready.polProfile .port 1039)) = 0 ∧
    (ready.put .POL_PORT_CFG_EN 1039 1).flag .POL_PORT_CFG_EN 1039 = true ∧ ready.eccOf 7 (polAddr .port 1039) .ok ≠ .uncorr ∧
    (let s := tae 2 2 4 0 1039 [] ready
     (s.taeOf 2).map (·.op) = some 4 ∧ polTarget 2 1039 = some .port ∧ s.eccOf 7 (polAddr .port 1039) .ok ≠ .uncorr) ∧
    ((tae 2 1 7 0 65535 [] ready).taeOf 2).map (·.op) = some 7 ∧ polTarget 1 65535 = some .flow ∧ ready.soft = true ∧
    wbits (ready.rd .POL_PORT_CFG 1039) 15 0 = wbits (0 : Word) 15 0 ∧ wbit (0 : Word) 31 = false ∧
    wbits (ready.rd .POL_PORT_CFG 1039) 15 0 ≠ wbits (1 : Word) 15 0 := by decide +kernel

theorem wit_TimeBaseTakesItsWritesWhole :
    ready.up 11 = true ∧ ready.soft = true ∧ (0x008000000000 ≤ 0x80 * 2 ^ 32 + 0) ∧ (0x140 * 2 ^ 32 + 0 ≤ 0x014000000000) := by decide +kernel

theorem wit_PhaseSourceFollowsItsStates :
    (let s := ready.setPh 1 { ready.ph 1 with lastEdge := some 0 }
     s.up 11 = true ∧ (s.ph 1).lastEdge = some 0 ∧ (s.time : Int) - 0 < 12000000 * nsUnit) ∧
    (ready.ph 1).lastEdge = none ∧ ready.phState 1 = phOff ∧ (ready.setPhState 1 phTracking).phState 1 = phTracking ∧
    (let s := ready.setPhState 1 phLocked; s.phState 1 = phLocked ∧ s.get .TPG_PH_CFG_HOLD_CYCLES 1 ≠ 0) ∧
    (let s := (ready.setPhState 1 phLocked).put .TPG_PH_CFG_HOLD_CYCLES 1 0; s.phState 1 = phLocked ∧ s.get .TPG_PH_CFG_HOLD_CYCLES 1 = 0) ∧
    (let s := (ready.setPhState 1 phHoldover).put .TPG_PH_STATUS_MISSES 1 (ready.get .TPG_PH_CFG_HOLD_CYCLES 1)
     s.phState 1 = phHoldover ∧ s.get .TPG_PH_STATUS_MISSES 1 = s.get .TPG_PH_CFG_HOLD_CYCLES 1) ∧
    (let s := ready.setPhState 1 phHoldover; s.phState 1 = phHoldover ∧ s.get .TPG_PH_STATUS_MISSES 1 ≠ s.get .TPG_PH_CFG_HOLD_CYCLES 1) ∧
    ready.soft = true := by decide +kernel

/-- A gate list of one entry, at the longest base and length. -/
def plan1 : GclPlan := { base := 65535, len := 1, cycle := 1000000 }

theorem wit_GateListsStartChangeAndStop :
    ready.up 11 = true ∧ ready.soft = true ∧ ready.gclState 1039 = gclIdle ∧ (ready.adminPlan 1039).refusal ≠ 0 ∧
    (let s := (ready.put .TPG_GCL_ADMIN_LIST_LEN 1039 1).put .TPG_GCL_ADMIN_CYCLE_CYCLE 1039 1000000
     s.gclState 1039 = gclIdle ∧ (s.adminPlan 1039).refusal = 0) ∧
    (let s := (ready.put .TPG_GCL_CFG_EN 1039 1).put .TPG_GCL_STATUS_STATE 1039 gclRunning
     s.gclState 1039 = gclRunning ∧ ¬(s.flag .TPG_GCL_CFG_EN 1039 = false ∨ s.gclState 1039 = gclIdle ∨ s.gclState 1039 = gclHalted)) ∧
    ready.flag .TPG_GCL_CFG_EN 1039 = false ∧ (ready.gclOf 1039).pend = none ∧
    (let p : GclPend := { plan := plan1, bTime := 0 }
     let s := ({ ready with gcl := [(1039, { pend := some p })] }).put .TPG_GCL_STATUS_STATE 1039 gclPending
     (s.gclOf 1039).pend = some p ∧ s.gclState 1039 ≠ gclHalted ∧ p.plan.angle = false ∧ p.plan.src < 2 ∧ p.plan.len < 8192 ∧
     p.plan.base < 65536 ∧ p.plan.cycle < 2 ^ 32 ∧ p.plan.ns < 2 ^ 30 ∧ p.plan.sec < 2 ^ 48) ∧
    (let s := (ready.put .TPG_GCL_STATUS_STATE 1039 gclFallTime).setPhState 0 phLocked
     s.gclState 1039 = gclFallTime ∧ s.phGood (s.operPlan 1039).src = true) ∧
    (let s := tae 3 1 3 0 65535 [0, 1, 0, 0] ready
     (s.taeOf 3).map (·.op) = some 3 ∧ gateBad [0, 1, 0, 0] = false ∧ s.gateInUse 65535 = false) ∧
    gateBad [0xFFFFFFFF, 1, 0, 0] = true ∧ ((tae 3 1 4 0 65535 [] ready).taeOf 3).map (·.op) = some 4 := by decide +kernel
/-! Witnesses: the express path, DMA, Belfry, faults, log, budget, keys, Keep, mirror, sessions, structure image. -/

/-- The pair of trunks 1036 and 1039, enabled, with trunk 1036 present. -/
def paired : State :=
  (({ ready with img := { ready.img with lanes := [(1036, 0xC0000000#32), (1039, 0xC0000000#32)], pairs := [(7, 0x80000C0F#32)] } }).put
    .SPI_PAIR_CFG_EN 7 1)

/-- An express reception of that pair. -/
def spi7 : SpiRx := { pair := 7, dir := 0, cls := 7 }

theorem wit_SpireDecidesOnceAndFallsBack :
    (let r := { rx64 with express := true }
     let s := { trunk 1039 paired with rx := [(1039, some r)] }
     s.up 12 = true ∧ s.rxOf 1039 = some r ∧ r.badStart = false ∧ r.oversize = false ∧ r.express = true ∧ 28 ≤ r.bytes.length ∧
     s.spiTreat 1039 r.bytes [] = none) ∧
    ready.rxOf 1039 = none ∧ (receiving { rx64 with badStart := true }).rxOf 1039 = some { rx64 with badStart := true } ∧
    ready.up 1 = true ∧ ((((receiving { rx64 with spi := some { spi7 with cut := true } }).rxOf 1039).bind (·.spi)).map (·.cut)).getD false = true ∧
    (((ready.rxOf 1039).bind (·.spi)).map (·.cut)).getD false = false ∧
    ((((receiving { rx64 with spi := some { spi7 with fallback := true } }).rxOf 1039).bind (·.spi)).map (·.fallback)).getD false = true := by
  decide

theorem wit_SpireDecidesOnceAndFallsBack_forward :
    (let s := { (paired.put .SPI_PAIR_CFG_DUP_EN 7 1) with dup := [(7, [{ sa := 1, seq := 2, fwd0 := true, fwd1 := false, own := false, made := 0 }])] }
     s.isDup { spi7 with key := some (1, 2) } true = true) ∧
    paired.isDup spi7 true = false ∧ paired.spiEgress spi7 = 1036 + 0 ∧ (trunk 1036 paired).spiBusy spi7 = false ∧ paired.spiBusy spi7 = true ∧
    paired.domeHeld = false ∧ paired.aboveFloor = true ∧
    ({ paired.put .DOME_CFG_INGRESS_FLOOR 0 65535 with lost := 131072 - 65535 } : State).aboveFloor = false := by decide +kernel

theorem wit_SpireDecidesOnceAndFallsBack_entries :
    ready.up 12 = true ∧ ((tae 4 0 3 0 255 [1, 0x80000000#32, 0, 0] ready).taeOf 4).map (fun t => (t.op, expBad t.data)) = some (3, false) ∧
    ((tae 4 0 3 0 255 [1, 0x80000000#32, 0, 1] ready).taeOf 4).map (fun t => expBad t.data) = some true ∧
    ((tae 4 0 4 0 255 [] ready).taeOf 4).map (·.op) = some 4 := by decide +kernel

/-- A read of 32 bytes outstanding on port 1 for channel 63. -/
def txn1 : Txn := { m := 1, tag := 31, kind := 0, c := 63, addr := 0, pos := 0, len := 32 }

theorem wit_BusErrorHaltsEveryChannel :
    (let s := { ready with dma := { txns := [txn1] } }
     1 < 2 ∧ s.up 20 = true ∧ (s.dma.txns.find? fun t => t.m == 1 && t.tag == 31) = some txn1 ∧ s.up 13 = true ∧
     s.flag .DMA_GLB_STATUS_BUS_ERR = false) ∧
    (ready.dma.txns.find? fun t => t.m == 1 && t.tag == 31) = none ∧ ready.soft = true ∧
    (ready.put .DMA_GLB_STATUS_BUS_ERR 0 1).flag .DMA_GLB_STATUS_BUS_ERR = true ∧ ready.flag .DMA_GLB_STATUS_QUIESCED = false ∧
    (ready.put .DMA_GLB_STATUS_QUIESCED 0 1).flag .DMA_GLB_STATUS_QUIESCED = true := by decide +kernel

/-- Channel 63 in state `st`. -/
def chan63 (st : Nat) (x : Chan) (s : State) : State := { s with dma := { chans := [(63, x)] } }.put .DMA_CH_STATUS_STATE 63 st

theorem wit_ChannelFollowsItsStates :
    ready.up 13 = true ∧ ready.soft = true ∧ ready.committed = true ∧ ready.chState 63 = chOff ∧ State.reset.committed = false ∧
    (chan63 chIdle {} ready).chState 63 = chIdle ∧ (chan63 chStopped {} ready).chState 63 = chStopped ∧
    (chan63 chRun {} ready).chState 63 = chRun ∧ (chan63 chHalted {} ready).chState 63 = chHalted ∧
    (chan63 chStopping {} ready).chState 63 = chStopping ∧ (chan63 chStopping {} ready).atBoundary 63 = true ∧
    (chan63 chStopping { post := [(0, [])] } ready).atBoundary 63 = false := by decide +kernel

/-- A descriptor owned by Ocora, of a copy channel, and one not owned. -/
def desc0 : List Word := [0x80000000#32, 0, 0, 0, 0, 0, 0, 0]
/-- A host item of frame 5. -/
def item5 : HostItem := { head := 5, cells := 1, image := List.replicate 8 0 }

theorem wit_DescriptorsBeginWaitAndComplete :
    (let s := chan63 chRun { arrived := some desc0 } ready
     s.up 13 = true ∧ (s.chan 63).arrived = some desc0 ∧ s.chRuns 63 = true ∧ wbit (nth desc0 0 0) 31 = true) ∧
    (let s := chan63 chRun { arrived := some [0] } ready
     (s.chan 63).arrived = some [0] ∧ s.chRuns 63 = true ∧ wbit (nth [(0 : Word)] 0 0) 31 = false ∧ s.flag .DMA_CH_STATUS_DB_PEND 63 = false ∧
     s.chState 63 = chRun ∧ (s.put .DMA_CH_STATUS_DB_PEND 63 1).flag .DMA_CH_STATUS_DB_PEND 63 = true) ∧
    (ready.chan 63).arrived = none ∧ (ready.chan 63).desc = none ∧
    (let s := (chan63 chRun { desc := some desc0, posted := true } ready).put .DMA_CH_CFG_LIMIT 63 1
     (s.chan 63).desc = some desc0 ∧ (s.chan 63).posted = true ∧ (s.chan 63).post = [] ∧ (s.chan 63).code.getD 0 ≠ 1 ∧ s.chState 63 = chRun ∧
     s.get .DMA_CH_CFG_LIMIT 63 ≤ (s.chan 63).count + 1) ∧
    ready.up 14 = true ∧
    (let s := { (chan63 chRun { desc := some desc0, waits := 4 } ready).put .DMA_CH_CFG_MODE 63 1 with hostQ := [(63, [item5])], frames := [(5, frame5 1)] }
     let x := s.chan 63
     x.desc = some desc0 ∧ s.host 63 = [item5] ∧ s.chMode 63 = 1 ∧ s.chRuns 63 = true ∧ x.waits = 4 ∧ x.head = none ∧ x.unit = none ∧
     s.frame item5.head = some (frame5 1) ∧ s.eccOf 1 item5.head .ok = .ok) := by decide +kernel

/-- Source `i` enabled for target 7 at priority 31, as a pulse source (SENSE 2), with its pending bit; target 7 enabled. -/
def pending7 (i sense : Nat) : State :=
  let s := ((ready.put .BEL_SRC_CFG_EN i 1).put .BEL_SRC_CFG_TARGETS i 128).put .BEL_SRC_CFG_PRIO i 31
  { (s.put .BEL_SRC_CFG_SENSE i sense).put .BEL_TGT_CFG_EN 7 1 with bel := [(i, { pend := 128 })] }

theorem wit_PresentedSourceIsTheHighestPresentable :
    (let s := pending7 2047 2
     (s.present 7).presented 7 = some 2047 ∧ s.presented 7 = none ∧ s.belConfigured.Pairwise (· < ·) ∧ s.presentable 7 2047 = true) ∧
    (let s := (pending7 2047 2).present 7
     s.up 15 = true ∧ s.presented 7 = some 2047 ∧ s.levelMode 2047 = false ∧ s.presentable 7 2047 = true) ∧
    ready.presented 7 = none ∧ ready.soft = true ∧
    (let s := { ready with belStack := [(7, [(2047, 31)])] }
     s.stackOf 7 = [(2047, 31)] ∧ wbits (2047 : Word) 10 0 = 2047) ∧
    ((ready.stackOf 7).head?.map (·.1)) ≠ some (wbits (2047 : Word) 10 0) ∧ ready.flag .BEL_TGT_STATUS_ORDER_ERR 7 = false := by decide +kernel

theorem wit_SourcesBecomePendingOnTheirTargets :
    (pending7 2047 0).levelMode 2047 = true ∧ ready.up 15 = true ∧ ({ ready with blkReset := [15] } : State).up 15 = false ∧
    (∀ x ∈ (pending7 2047 0).belClaims, x.src ≠ 2047 ∧ x.withdrawn = false) ∧ (pending7 2047 2).sense 2047 = 2 ∧ (pending7 2047 2).belInput 2047 = false ∧
    (let s := { ready with bel := [(2047, { held := 1 })] }; (s.belSrc 2047).held ≠ 0) ∧ (pending7 2047 2).levelMode 2047 = false ∧
    (ready.belSrc 2047).held = 0 ∧ ready.soft = true ∧ wbits (0 : Word) 15 0 = 0 ∧ wbits (0x8000#32 : Word) 15 0 = 2 ^ 15 := by decide +kernel

theorem wit_LeadingFaultReactsAndMergedFaultDoesNot :
    511 < 512 ∧ ready.aonUp = true ∧ ready.raised.find? (fun x => x.source == 8) = none ∧ faultReserved 8 = false ∧
    ready.get .FLT_SRC_STATUS_RAIL 8 = 0 ∧ ready.shadowed.contains (faultOwner 8 0) = false ∧ ready.episode = none ∧
    ({ ready with shadowed := [faultOwner 8 0] } : State).shadowed.contains (faultOwner 8 0) = true ∧ faultReserved 511 = true ∧
    ready.flag .FLT_FIRST_SRC_VALID = false ∧ (ready.put .FLT_FIRST_SRC_VALID 0 1).flag .FLT_FIRST_SRC_VALID = true ∧
    (let s := (ready.put .FLT_SRC_CFG_MASK_EN 8 1).put .FLT_SRC_CFG_REACT 8 31
     (s.faultReact 8).testBit 0 = true ∧ (s.faultReact 8).testBit 1 = true ∧ (s.faultReact 8).testBit 2 = true ∧ (s.faultReact 8).testBit 3 = true ∧
     (s.faultReact 8).testBit 4 = true ∧ resettable (faultOwner 8 0x30000000#32) = true) ∧
    (let s := ((ready.put .FLT_SRC_CFG_MASK_EN 8 1).put .FLT_SRC_CFG_REACT 8 4).put .FLT_CFG_REPEAT_LIMIT 0 1
     (s.faultReact 8).testBit 2 = true ∧ s.get .FLT_CFG_REPEAT_LIMIT ≠ 0 ∧
     s.get .FLT_CFG_REPEAT_LIMIT < min 15 ((s.put .FLT_SRC_STATUS_FIRE_CNT 8 15).get .FLT_SRC_STATUS_FIRE_CNT 8 + 1)) ∧
    ({ ready with episode := some (0, [13]) } : State).episode = some (0, [13]) := by decide +kernel

theorem wit_EpisodesShadowsAndResetsEnd :
    ready.aonUp = true ∧ ready.coreUp = true ∧ ready.get .FLT_SRC_STATUS_RAIL 511 ≠ 2 ∧
    (ready.put .FLT_SRC_STATUS_RAIL 511 2).get .FLT_SRC_STATUS_RAIL 511 = 2 ∧ ready.shadowed.contains 31 = false ∧
    ({ ready with shadowed := [13] } : State).shadowed.contains 13 = true ∧ ready.blkReset.contains 13 = false ∧
    ({ ready with episode := some (8, []) } : State).episode = some (8, []) ∧ ready.episode = none ∧
    ({ ready with blkReset := [13] } : State).blkReset.contains 13 = true ∧ ready.dma.txns = [] ∧
    ({ ready with dma := { txns := [txn1] } } : State).dma.txns ≠ [] := by decide +kernel

theorem wit_ClearsEndTheirReactionAndLanternFollowsItsKey :
    511 < 512 ∧ ready.aonUp = true ∧ (0 : Nat) ≠ 0x5A ∧ ready.flag .FLT_STATUS_PIN_HOLD = false ∧
    (ready.put .FLT_STATUS_PIN_HOLD 0 1).flag .FLT_STATUS_PIN_HOLD = true ∧ ready.get .FLT_LANTERN_STATE ≠ 1 ∧
    (ready.put .FLT_LANTERN_STATE 0 1).get .FLT_LANTERN_STATE = 1 := by decide +kernel

theorem wit_LogKeepsItsRingAndFreezes :
    ready.aonUp = true ∧ ready.logQ = [] ∧
    (let s := { ready with logQ := [(1, 0, 0, [0, 0, 0, 0, 0], true)] }
     s.logQ = [(1, 0, 0, [0, 0, 0, 0, 0], true)] ∧ s.flag .LOG_STATUS_FROZEN = false ∧ [(0 : Word), 0, 0, 0, 0].length ≤ 5 ∧ ¬32768 ≤ s.logFill) ∧
    (ready.put .LOG_STATUS_FROZEN 0 1).flag .LOG_STATUS_FROZEN = true ∧ 32768 ≤ (ready.put .LOG_WR_IDX_IDX 0 32768).logFill ∧
    (ready.put .LOG_ACC_IDX_READY 0 1).flag .LOG_ACC_IDX_READY = true ∧ ready.flag .LOG_ACC_IDX_READY = false ∧
    ready.eccOf 0xD (ready.get .LOG_ACC_IDX_INDEX) .ok ≠ .uncorr := by decide +kernel
/-! Witnesses: budget, keys, Keep, mirror, sessions, structure image. -/

theorem wit_EpochGrantsStayWithinThePool :
    ready.up 16 = true ∧ [4].contains 4 = true ∧ [4].contains 3 = false ∧ (1500 : Nat) ≤ 1500 ∧
    (ready.put .PWR_STATUS_EMERG 0 1).flag .PWR_STATUS_EMERG = true ∧ nth ready.grants 4 0 ≤ 1500 ∧
    (((List.range 5).filter fun e => [4].contains e).map ready.floorGrant).sum ≤ ready.get .PWR_POOL_POOL := by decide +kernel

theorem wit_VoltageLoopMovesOneStepWithinItsLimits :
    ready.up 16 = true ∧ signed8 (ready.get .PWR_AVS_CFG_TRIM_MIN) ≤ ready.trim ∧ ready.trim ≤ signed8 (ready.get .PWR_AVS_CFG_TRIM_MAX) ∧
    ready.get .PWR_AVS_THR_CRIT ≤ 255 ∧ 0 < (ready.put .PWR_AVS_THR_CRIT 0 1).get .PWR_AVS_THR_CRIT ∧ ready.flag .PWR_STATUS_EMERG = false := by decide +kernel

theorem wit_PodlTickGrantsWithinItsBudget :
    255 < 256 ∧ ready.up 16 = true ∧ ready.portOfLane 254 = none ∧ ready.portOfLane 255 = some 1023 ∧
    (ready.put .PWR_PODL_CFG_EN 0 0).flag .PWR_PODL_CFG_EN = false := by decide +kernel

theorem wit_KeySlotsAreWrittenErasedAndLocked :
    7 < 8 ∧ 0x3C < 256 ∧ 255 < 256 ∧ (255 : Nat) ≠ 0x3C ∧ ready.up 18 = true ∧ ready.soft = true ∧ ready.keyLocked 7 = false ∧
    (ready.put .SES_KEY_STATUS_LOCKED 0 128).keyLocked 7 = true := by decide +kernel

theorem wit_KeepProductionRunsFromGoToDone :
    ready.up 17 = true ∧ ready.soft = true ∧ ready.keepState = keepIdle ∧
    (ready.put .KEEP_STATUS_STATE 0 keepProducing).keepState = keepProducing ∧ (ready.put .KEEP_CFG_PERIOD 0 0).get .KEEP_CFG_PERIOD = 0 ∧
    (ready.put .KEEP_CFG_PERIOD 0 1).get .KEEP_CFG_PERIOD ≠ 0 ∧
    (let s := { ready with keep := { pos := 1, image := [0] } }.put .KEEP_STATUS_STATE 0 keepFetching
     s.keepState = keepFetching ∧ s.keep.pos = s.keep.image.length ∧ s.stagingBad = false) ∧
    ({ ready with injected := [⟨9, 0, true⟩] } : State).stagingBad = true := by decide +kernel

/-- The first 64 bytes of a Keep image of 64 bytes with key 0. -/
def keepHead : List Byte :=
  beBytes 4 0x4F434B50 ++ beBytes 1 0 ++ beBytes 1 1 ++ beBytes 2 0 ++ leBytes 4 64 ++ leBytes 2 8 ++ List.replicate 50 0

theorem wit_KeepLoadAppliesWholeOrFails :
    ready.up 17 = true ∧ ready.soft = true ∧ ((ready.put .DMA_CH_CFG_EN 0 1).put .DMA_CH_CFG_MODE 0 6).loadAllowed = true ∧ State.reset.loadAllowed = false ∧ ready.keepState ≠ keepLoading ∧
    (let s := { ready with keep := { loaded := keepHead } }.put .KEEP_STATUS_STATE 0 keepLoading
     s.keepState = keepLoading ∧ s.keep.checked = false ∧ 64 ≤ s.keep.loaded.length ∧ s.keepHeaderFail s.keep.written s.keep.loaded ≠ 0 ∧
     s.keepHeaderFail 1 s.keep.loaded = 0) ∧
    (let s := { ready with keep := { loaded := keepHead, checked := true } }.put .KEEP_STATUS_STATE 0 keepLoading
     s.keepState = keepLoading ∧ s.keep.checked = true ∧ leAt s.keep.loaded 8 4 ≤ s.keep.loaded.length ∧ s.stagingBad = false ∧
     ({ s with injected := [⟨9, 0, true⟩] } : State).stagingBad = true) := by decide +kernel

/-- A mirror frame with message `msg` and body `b`. -/
def mir (msg : Nat) (b : List Byte) : List Byte :=
  List.replicate 12 0 ++ beBytes 2 (ready.get .SES_CFG_ETYPE) ++ beBytes 1 0x4D ++ beBytes 1 1 ++ beBytes 1 msg ++ beBytes 1 0 ++
    beBytes 2 b.length ++ beBytes 2 0 ++ beBytes 4 1 ++ b

/-- Mirror mode in state `st`, as the standby or not. -/
def mirroring (standby st : Nat) : State :=
  (((trunk 1037 ready).put .KEEP_MIR_CFG_EN 0 1).put .KEEP_MIR_CFG_ROLE 0 standby).put .KEEP_MIR_STATUS_STATE 0 st

theorem wit_MirrorSetsApplyWholeOrAreDropped :
    (let f := mir 4 (beBytes 4 0 ++ beBytes 4 (crc32c []))
     let s := mirroring 1 mirRunning
     let a := (s.add64 .MAC_RX_FRAMES_LO .MAC_RX_FRAMES_HI 1037 1).add64 .MAC_RX_OCTETS_LO .MAC_RX_OCTETS_HI 1037 (max 60 f.length + 4)
     let s0 := { a with mirror := { s.mirror with held := [] } }
     1024 + 13 = 1037 ∧ s.up 17 = true ∧ s.role 1037 = 2 ∧ s.enabled 1037 = true ∧ s.link 1037 = true ∧ beAt f 12 2 = s.get .SES_CFG_ETYPE ∧
     s.flag .KEEP_MIR_CFG_EN = true ∧ mirOk f = true ∧ beAt f 16 1 = 4 ∧ s.standby = true ∧ s.mirState = mirRunning ∧ s.mirror.since < mirCycleOf f ∧ s.mirror.held = [] ∧
     beAt (mirBody f) 0 4 = 0 ∧ beAt (mirBody f) 4 4 = crc32c [] ∧ (match s0.mirApply with | .ok _ => true | .error _ => false) = true) ∧
    (let f := mir 5 (beBytes 4 0)
     let s := (mirroring 0 mirRunning).put .KEEP_MIR_STATUS_UNACKED 0 1
     mirOk f = true ∧ beAt f 16 1 = 5 ∧ s.standby = false ∧ s.mirState = mirRunning ∧
     s.get .KEEP_MIR_CYCLE_MIR_CYCLE - beAt (mirBody f) 0 4 < s.get .KEEP_MIR_STATUS_UNACKED ∧
     beAt (mirBody f) 0 4 ≤ s.get .KEEP_MIR_CYCLE_MIR_CYCLE) := by decide +kernel

theorem wit_MirrorSetsApplyWholeOrAreDropped_other :
    ready.soft = true ∧ ready.flag .KEEP_MIR_CFG_EN = false ∧ ready.mirState ≠ mirRunning ∧ ready.enabled 1037 = false ∧
    (trunk 1037 ready).enabled 1037 = true ∧ (trunk 1037 ready).flag .KEEP_MIR_CFG_EN = false ∧
    mirOk (mir 1 []) = true ∧ mirOk (mir 3 []) = true ∧ mirOk (mir 6 []) = true ∧ mirOk (mir 7 []) = true ∧
    beAt (mir 1 []) 16 1 = 1 ∧ beAt (mir 3 []) 16 1 = 3 ∧ beAt (mir 6 []) 16 1 = 6 ∧ beAt (mir 7 []) 16 1 = 7 ∧
    beAt (mirBody (mir 4 (beBytes 4 1 ++ beBytes 4 0))) 0 4 = 1 ∧ (mirroring 1 mirResync).mirState ≠ mirRunning ∧
    (mirroring 1 mirLost).mirState = mirLost := by decide +kernel

/-- A session frame of sender 7 with message `msg`, SID, SEQ and body. -/
def ses (msg sid seq : Nat) (b : List Byte) : List Byte :=
  beBytes 6 ready.sesSa ++ beBytes 6 7 ++ beBytes 2 (ready.get .SES_CFG_ETYPE) ++ beBytes 1 0x53 ++ beBytes 1 1 ++ beBytes 1 msg ++ beBytes 1 0 ++
    beBytes 2 b.length ++ beBytes 2 sid ++ beBytes 4 seq ++ b

/-- Session 3 in state `st` for sender 7 on trunk 15, and slot 7 written. -/
def session3 (st : Nat) : State :=
  (((((trunk 1039 ready).put .SES_CFG_TRUNKS 0 0x8000).put .SES_KEY_STATUS_WRITTEN 0 0x80).put .SES_SESS_STATE 3 st).put .SES_SESS_TRUNK 3 15).put
    .SES_SESS_SA_LO_SA_LO 3 7

/-- The right PROOF of session 3. -/
def proof3 : List Byte := hmac ((session3 sesChallenged).key 0) (0x11 :: (session3 sesChallenged).sesNonces 3)

theorem wit_SessionsOpenByProof :
    (let s := session3 sesFree
     let f := ses 1 0 0 (beBytes 1 7 ++ List.replicate 19 0)
     s.up 18 = true ∧ s.enabled 1039 = true ∧ s.link 1039 = true ∧ s.isSession 1039 f = true ∧ sesMsg f = 1 ∧ sesWhole f = true ∧ sesLen f = 20 ∧
     sesSid f = 0 ∧ sesSeq f = 0 ∧ beAt (sesBody f) 1 3 = 0 ∧ beAt (sesBody f) 0 1 = 7 ∧ (s.get .SES_KEY_STATUS_WRITTEN).testBit 7 = true ∧
     (s.get .SES_STATUS_SLOT_OUT).testBit 7 = false ∧ ((List.range 4).find? fun k => s.sesState k == sesFree) = some 0) ∧
    (let s := session3 sesChallenged
     let f := ses 3 0 0 (List.replicate 32 0)
     s.isSession 1039 f = true ∧ sesMsg f = 3 ∧ sesWhole f = true ∧ s.sesFind 15 sesChallenged f = some 3 ∧ sesLen f = 32 ∧ sesSeq f = 0 ∧
     sesBody f ≠ hmac (s.key (s.get .SES_SESS_SLOT 3)) (0x11 :: s.sesNonces 3)) ∧
    (let f := ses 3 0 0 proof3
     let s := session3 sesChallenged
     s.isSession 1039 f = true ∧ sesMsg f = 3 ∧ sesWhole f = true ∧ s.sesFind 15 sesChallenged f = some 3 ∧ sesLen f = 32 ∧ sesSeq f = 0 ∧
     sesBody f = hmac (s.key (s.get .SES_SESS_SLOT 3)) (0x11 :: s.sesNonces 3)) ∧
    (session3 sesFree).sesFind 15 sesChallenged (ses 3 0 0 []) = none ∧ sesWhole (ses 1 0 0 []) = true ∧ sesLen (ses 1 0 0 []) ≠ 20 := by decide +kernel

theorem wit_SessionsOpenByProof_timers :
    3 < 4 ∧ 7 < 8 ∧ (session3 sesChallenged).sesState 3 = sesChallenged ∧ ((session3 sesOpened).sesOf 3).waits = none ∧
    (session3 sesOpened).sesState 3 = sesOpened ∧ (session3 sesFree).sesState 3 ≠ sesOpened := by decide +kernel

/-- A READ of session 3 with SEQ `q` and its tag. -/
def read3 (q : Nat) : List Byte := ses 0x10 0 q [] ++ (hmac [] (0x01 :: ses 0x10 0 q [])).take 16

theorem wit_SessionCommandsAreAcceptedOnceInOrder :
    (let s := session3 sesOpened
     let f := read3 1
     s.up 18 = true ∧ s.flag .FLT_STATUS_FACTORY = false ∧ s.enabled 1039 = true ∧ s.link 1039 = true ∧ s.isSession 1039 f = true ∧
     sesMsg f = 0x10 ∧ sesWhole f = true ∧ s.sesBusy = false ∧ s.sesFind 15 sesOpened f = some 3 ∧ s.sesTagged 3 f = true ∧
     (s.sesOf 3).seq < sesSeq f ∧ sesSeq f < 0xFFFFFFF0) ∧
    (let s := (session3 sesOpened).setSes 3 { seq := 1 }
     s.sesTagged 3 (read3 1) = true ∧ sesSeq (read3 1) = (s.sesOf 3).seq ∧ (s.sesOf 3).seq ≠ 0 ∧ sesSeq (read3 0) < (s.sesOf 3).seq) ∧
    0xFFFFFFF0 ≤ sesSeq (read3 0xFFFFFFF0) ∧
    (let s := (session3 sesOpened).setSes 3 { waits := some 0x20 }
     s.sesBusy = true ∧ (s.sesOf 3).waits = some 0x20 ∧ s.sesReady 0x20 = true ∧ (s.sesOf 3).closing = none ∧ s.sesQ = [] ∧
     ({ s with tae := [(0, some { target := 1, op := 5, view := 0, addr := 0, data := [] })] } : State).sesReady 0x20 = false) ∧
    (session3 sesOpened).sesTagged 3 (ses 0x10 0 1 []) = false ∧ (session3 sesFree).sesFind 15 sesOpened (read3 1) = none ∧
    ((session3 sesOpened).sesOf 3).waits = none := by decide +kernel

theorem wit_StructureImagePathFollowsItsStates :
    ready.up 19 = true ∧ ready.soft = true ∧ ready.stiState = stiIdle ∧
    (let s := ready.put .STI_STATUS_STATE 0 stiLoading; s.stiState = stiLoading ∧ s.sti.owner = none ∧ 4 * s.sti.words.length < 524288) ∧
    (ready.put .STI_STATUS_STATE 0 stiValidating).stiState = stiValidating ∧ (ready.put .STI_STATUS_STATE 0 stiValid).stiState = stiValid ∧
    (ready.put .STI_STATUS_STATE 0 stiCommitting).stiState = stiCommitting ∧
    (let s := { ready with sti := { owner := some 3 } }.put .STI_STATUS_STATE 0 stiLoading
     ¬(s.stiState = stiIdle ∨ s.sti.owner = none)) ∧
    ready.imageFail = some (1, 0) := by decide +kernel
/-! Further witnesses: the clauses of the statements at their other hypotheses. -/

theorem wit_PowerOnResetGivesResetState_clock :
    ready.coreClk = true ∧ ({ ready with refClk := false } : State).refClk = false := by decide +kernel

theorem wit_ComplexResetSparesAlwaysOnAndKeys_clock :
    ({ ready with refClk := false } : State).aonUp = false ∧ ready.aonUp = true ∧ ({ ready with blkLow := true } : State).blkLow = true ∧
    (let s := { ready with coreClk := false }; s.aonUp = true ∧ s.blkLow = false ∧ s.coreClk = false) := by decide +kernel

theorem wit_MaintenancePortReachesAlwaysOnRegisters_cut :
    32 < 33 ∧ 33 < 64 ∧ (0x0C : Nat) ≠ 0x0D ∧
    (match exec (.maintRead 0) ready with | .next t => t.mntResp.isSome | _ => false) = true ∧
    (match exec (.maintWrite 0 0) ready with | .next t => t.mntResp.isSome | _ => false) = true := by decide +kernel

theorem wit_TrunkLinkFollowsEnableAndPcs_loop :
    ((2 % 4 = 2) ∧ 1023 < 1024) ∧ ¬(1 % 4 = 2 ∧ 1023 < 1024) ∧ ready.get .MAC_CFG_LOOP 1023 % 3 = 3 % 4 % 3 ∧
    ready.get .MAC_CFG_LOOP 1023 % 3 ≠ 1 % 4 % 3 ∧ ready.get .MAC_CFG_LOOP 1039 % 3 ≠ 2 % 4 % 3 ∧ ready.rateCode 1038 ≠ 4 ∧
    ready.rxOf 1039 = none ∧ (receiving rx64).rxOf 1039 = some rx64 := by decide +kernel

theorem wit_HeldControlFrameGoesFirst_waits :
    (let s := (trunk 1039 ready).setMac 1039 { autoHeld := some ⟨false, 0, [0xFFFF]⟩, waking := true }
     s.macPort 1039 = 1039 ∧ s.draining 1039 = false ∧ s.halfDuplex 1039 = false ∧ (s.macOf 1039).waking = true) ∧
    (let s := { trunk 1039 ready with tx := [(1039, some tx0)] }; (s.txOf 1039).isSome = true ∧ s.draining 1039 = false) ∧
    (trunk 1039 ready).draining 1039 = false := by decide +kernel

theorem wit_FrameStartOpensAReception_loop :
    (let s := (trunk 1039 ready).put .MAC_CFG_LOOP 1039 1
     s.listens 1039 = true ∧ s.link 1039 = true ∧ s.get .MAC_CFG_LOOP 1039 = 1 ∧ s.rxOf 1039 = none ∧ (s.macOf 1039).back = [] ∧
     ((s.setMac 1039 { back := [[0]] }).macOf 1039).back = [[0]]) ∧
    (let s := trunk 1039 ready; s.listens 1039 = true ∧ s.get .MAC_CFG_LOOP 1039 ≠ 1 ∧ s.consumed 1039 [] = false) ∧
    ready.listens 1039 = false := by decide +kernel

theorem wit_FrameStartOpensAReception_cut :
    (let r := { rx64 with head := none, spi := some { spi7 with cut := true } }
     let s := receiving r
     s.rxOf 1039 = some r ∧ r.spi = some { spi7 with cut := true } ∧ min r.maxFrame (s.maxFrame (s.spiEgress spi7)) < (List.replicate 2000 (0 : Byte)).length ∧
     (List.replicate 60 (0 : Byte)).length ≤ min r.maxFrame (s.maxFrame (s.spiEgress spi7))) ∧
    rx64.spi.filter (·.cut) = none := by decide +kernel

/-- A graph of one Ethernet header, after which the walk ends as parsed. -/
def graph1 : Graph := { types := [[14#32, 0x10000#32, 0, 0]], nodes := [[0, 0, 0x1FF#32, 0]] }

theorem wit_FrameStartOpensAReception_parse :
    (let r := { rx64 with cells := 2, graph := graph1 }
     let s := receiving r
     let d := List.replicate 200 (0 : Byte)
     s.rxOf 1039 = some r ∧ r.back = none ∧ cellsFor (s.stored 1039 d).length ≤ r.cells ∧ r.head.isSome = true ∧ r.parsed = none ∧
     192 ≤ (s.stored 1039 d).length ∧ s.up 4 = true ∧ s.up 5 = true ∧
     (parse r.graph (s.stored 1039 d) false).stop = 0 ∧ (parse r.graph (s.stored 1039 d) false).mal = none ∧
     (parse {} (s.stored 1039 d) false).stop ≠ 0) ∧
    (receiving { rx64 with head := none }).rxOf 1039 = some { rx64 with head := none } := by decide +kernel


theorem wit_DiscardedFrameCountsOnce_fields :
    let s := receiving rx64
    let g := s.rxGrow 1039 rx64.bytes
    s.rxOf 1039 = some rx64 ∧ rx64.express = false ∧ rx64.back = none ∧ g.rxOf 1039 = some rx64 ∧ rx64.cut = false ∧ rx64.spi = none ∧
    rx64.quar = false ∧ rx64.symbol = false ∧ ownOpp rx64 = false ∧ g.extTrunkRole 1039 = false ∧ rx64.port = 1039 := by decide +kernel

theorem wit_GoodControlFrameActsAtItsEnd_fields :
    let r := { rx64 with bytes := pause60 }
    let s := receiving r
    let g := s.rxGrow 1039 pause60
    s.rxOf 1039 = some r ∧ g.rxOf 1039 = some r ∧ r.express = false ∧ r.back = none ∧ r.spi = none ∧ r.symbol = false ∧ r.quar = false ∧
    ownOpp r = false ∧ g.isFragment 1039 r (pause60.length + 4) false = false := by decide +kernel

theorem wit_TicketLanesKeepTheirOrder_read : ready.eccOf 2 5 .ok = .ok := by decide +kernel

theorem wit_ReferencesFollowCopies_cycle :
    ready.taken = [] ∧ ready.eccOf 2 5 .ok = .ok ∧ 1 < (frame5 2).refs ∧ (frame5 2).refs = 2 ∧ (frame5 2).refs < 3 ∧
    (frame5 2).cells = 1 := by decide +kernel

theorem wit_ChosenCopyStartsAndTrunkServesInTurn_own :
    (let s := (trunk 1039 ready).setMac 1039 { own := [[0]] }
     (s.downDrop 1039).link 1039 = true ∧ ((s.downDrop 1039).macOf 1039).own = [[0]] ∧ (s.downDrop 1039).enabled 1039 = true ∧
     (s.downDrop 1039).flag .MAC_STATUS_RX_PAUSED 1039 = false ∧ (s.downDrop 1039).flag .MAC_STATUS_TX_LPI 1039 = false ∧
     ((s.downDrop 1039).macOf 1039).waking = false ∧ (s.downDrop 1039).txOf 1039 = none ∧ ((s.downDrop 1039).macOf 1039).autoHeld = none ∧
     ((s.downDrop 1039).macOf 1039).forcedHeld = none) ∧
    (let s := (trunk 1038 ready).setMac 1038 { own := [[0]] }; s.role 1038 = 1 ∧ (s.macOf 1038).own ≠ []) ∧
    (ready.macOf 1038).own = [] ∧ ready.segSends 1023 = false := by decide +kernel

/-- Port 1023 as a point-to-point lane of kind 3. -/
def pointToPoint (s : State) : State := { s with img := { s.img with lanes := [(1023, 0x580000FF#32)] } }

theorem wit_ChosenCopyStartsAndTrunkServesInTurn_fieldPort :
    (let s := { pointToPoint (field 1023 segNormal ready) with cand := [(1023, some (copy5 (262144 + 8 * 1023) 0))] }
     s.kind 1023 = 3 ∧ (s.downDrop 1023).txFree 1023 = true ∧ (s.downDrop 1023).extended 1023 = false ∧ (s.downDrop 1023).segSends 1023 = true ∧
     (s.downDrop 1023).halfDuplex 1023 = false ∧ (s.downDrop 1023).candOf 1023 = some (copy5 (262144 + 8 * 1023) 0)) := by decide +kernel

theorem wit_ChosenCopyStartsAndTrunkServesInTurn_yields :
    let s := { waiting 1023 7 ((field 1023 segNormal ready).put .SCH_PORT_CFG_CAND_REPL 1023 1) with cand := [(1023, some (copy5 (262144 + 8 * 1023) 0))] }
    ¬(s.csmaKind 1023 = true ∧ s.get .SEG_TXSTATE_ATTEMPTS 1023 ≠ 0) ∧ s.burstOpen 1023 = false ∧ s.slotOpen 1023 = true := by decide +kernel

theorem wit_FrameEndsAndBoundariesAct_ecc :
    let c := copy5 0 0
    let t := { tx0 with copy := some c, owner := 1023 }
    let s := { field 1023 segNormal ready with tx := [(1023, some t)], frames := [(5, frame5 1)] }
    s.up 9 = true ∧ s.txOf 1023 = some t ∧ t.cut = false ∧ (s.frame c.head).isSome = true ∧ s.eccOf 2 c.head .ok = .ok ∧
    ({ s with injected := [⟨2, 5, false⟩] } : State).eccOf 2 c.head .ok = .corr ∧
    ({ s with injected := [⟨2, 5, true⟩] } : State).eccOf 2 c.head .ok = .uncorr ∧ s.queue 262143 = [] := by decide +kernel

theorem wit_OculusVisitsItsQueuesInTurn_states :
    (let s := (ready.put .OCU_CTRL_SWEEP_EN 0 1).put .OCU_CTRL_WATCH_EN 0 1
     s.flag .OCU_CTRL_SWEEP_EN = true ∧ s.flag .OCU_CTRL_WATCH_EN = true ∧ s.mayRun 2 = true ∧
     ({ s with grants := [0, 0, 0, 0, 0] } : State).mayRun 2 = false) := by decide +kernel

theorem wit_SegmentStateFollowsItsLevels_other :
    ready.extended 1022 = true ∧ (field 1023 segToService ready).onLane 1023 = true ∧ (field 1023 segDisabled ready).segState 1023 = segDisabled ∧
    (field 1023 segDisabled ready).link 1023 = true := by decide +kernel

theorem wit_CollisionBacksOffOrEnds_again :
    (let c := copy5 (262144 + 8 * 1023) 0
     let t := { tx0 with copy := some c, owner := 1023 }
     let again (st access : Nat) :=
       let s := { (field 1023 st ready).put .SEG_CFG_ACCESS 1023 access with tx := [(1023, some t)], frames := [(5, frame5 1)] }
       let s0 := ((s.setTx 1023 none).emit (.jam 1023)).burstEnd 1023
       ((s0.inc .SEG_COLLISIONS_COUNT 1023).returnCand 1023).newCand 1023 { c with tries := c.tries + 1 }
     (again segNormal 0).slotOpen 1023 = true ∧ (again segToService 0).slotOpen 1023 = false ∧ (again segNormal 1).slotOpen 1023 = true) ∧
    ((field 1023 segNormal ready).put .SEG_CFG_ACCESS 1023 1).plcaPort 1023 = true ∧
    ((field 1023 segNormal ready).put .SEG_CFG_ACCESS 1023 1).halfDuplex 1023 = true ∧ ready.get .MAC_CFG_LOOP 1023 ≠ 1 ∧
    ({ copy5 0 0 with tries := 15 } : Copy).tries + 1 = 16 := by decide +kernel

theorem wit_PlcaCycleRunsItsOpportunities_cycle :
    (let s := ((field 1023 segToService ready).put .SEG_CFG_ACCESS 1023 1).put .SEG_STATUS_CUR_ID 1023 1
     s.cycleRuns 1023 = true ∧ s.get .SEG_STATUS_CUR_ID 1023 ≠ 0xFF ∧ s.txOf 1023 = none ∧ s.plcaRuns 1023 = false) ∧
    (let s := (field 1023 segNormal ready).put .SEG_CFG_ACCESS 1023 1
     s.plcaPort 1023 = true ∧ s.onLane 1023 = true ∧ s.halfDuplex 1023 = true ∧ s.segState 1023 ≠ segDisabled ∧ s.get .MAC_CFG_LOOP 1023 ≠ 1 ∧
     s.enabled 1023 = true) ∧
    (let s := (ready.put .SEG_CFG_ACCESS 1023 1).put .MAC_STATUS_LINK 1023 1
     s.plcaPort 1023 = true ∧ s.onLane 1023 = true ∧ s.enabled 1023 = false) ∧
    (let s := { ((field 1023 segNormal ready).put .SEG_CFG_ACCESS 1023 1).put .SEG_STATUS_PLCA_ACTIVE 1023 1 with
                frames := [(5, frame5 1)], cand := [(1023, some (copy5 (262144 + 8 * 1023) 0))] }.put .TPG_GCL_STATUS_GATES 1023 0
     let s1 := (s.put .SEG_STATUS_CUR_ID 1023 0).commitEnd 1023
     let mine := s1.setSeg 1023 { s1.segOf 1023 with burst := 0, mine := true, carrier := none }
     mine.txFree 1023 = true ∧ (s.setSeg 1023 { carrier := some 3 }).segOf 1023 ≠ {}) := by decide +kernel

theorem wit_ExtenderJoinFollowsItsTable_down :
    ready.extTrunkUp 47 = false ∧ (slot extJoined (trunk 1038 ready)).extTrunkUp 47 = true ∧ (slot extRefused ready).extState 47 = extRefused := by
  decide +kernel

/-- Slot 47 challenging unit 7, and a RESPONSE of it. -/
def challenging : State := ((slot extChallenging (trunk 1038 ready)).put .EXT_UNIT_LO_SA_LO 47 7).put .SES_KEY_STATUS_WRITTEN 0 1
/-- Its RESPONSE with the proof `x`. -/
def response7 (x : List Byte) : List Byte := mgmtHead 4 0 48 ++ List.replicate 16 0 ++ x

theorem wit_ManagementFramesAuthenticateOrAreCounted_response :
    let f := response7 (List.replicate 32 0)
    let a := (challenging.add64 .MAC_RX_FRAMES_LO .MAC_RX_FRAMES_HI 1038 1).add64 .MAC_RX_OCTETS_LO .MAC_RX_OCTETS_HI 1038 (max 60 f.length + 4)
    challenging.up 3 = true ∧ challenging.role 1038 = 1 ∧ challenging.enabled 1038 = true ∧ challenging.link 1038 = true ∧
    beAt f 12 2 = challenging.get .EXT_GLB_CFG_ETYPE ∧ beAt f 14 1 = 0x45 ∧ beAt f 16 1 = 0x04 ∧ mgmtLen 0x04 = some (beAt f 18 2) ∧
    beAt f 15 1 = 0 ∧ 26 + beAt f 18 2 ≤ f.length ∧ a.slotOfUnit 14 (beAt f 6 6) = some 47 ∧ challenging.extState 47 = extChallenging := by decide +kernel

theorem wit_TableCommandsEndWithTheirOutcome_credit :
    ready.mayRun 0 = true ∧ ({ ready with grants := [0, 0, 0, 0, 0] } : State).mayRun 0 = false ∧
    ((tae 0 1 1 0 0 [] ready).taeOf 0).map (·.op) = some 1 ∧ (∀ t, (tae 0 1 5 0 0 [] ready).taeOf 0 = some t → t.op ≠ 1) := by
  refine ⟨by decide +kernel, by decide +kernel, by decide +kernel, ?_⟩
  intro t h; cases h; decide

theorem wit_StagedCommandsAreCheckedInOrder_lock :
    (let t : Tae := { target := 1, op := 1, view := 0, addr := 0, data := [], opened := true }
     let s := { ready with tae := [(0, some t)] }
     s.taeOf 0 = some t ∧ t.opened = true ∧ s.get .CLS_COMMIT_STATUS_STATE ≠ clsDiscarding ∧ s.flag .CLS_COMMIT_STATUS_STAGE_FAIL = false ∧
     s.committed = true ∧ s.mayRun 0 = true) ∧
    (let t : Tae := { target := 1, op := 1, view := 0, addr := 0, data := [], opened := false }
     ({ ready with tae := [(0, some t)] } : State).taeOf 0 = some t ∧ t.opened = false) ∧
    ready.clsBad 1 (ready.clsFirst 1 0) .ok = false ∧ ready.clsBad 1 (ready.clsFirst 1 0) .uncorr = true ∧
    ready.searchBad 1 ready.versionA [] .ok = false := by decide +kernel

theorem wit_CommitSequenceFollowsItsTable_credit :
    ready.mayRun 0 = true ∧ ({ ready with grants := [0, 0, 0, 0, 0] } : State).mayRun 0 = false ∧
    (ready.put .CLS_COMMIT_STATUS_DRAIN 0 2).get .CLS_COMMIT_STATUS_DRAIN = 2 := by decide +kernel

theorem wit_RegistryFollowsItsCommandsAndVisits_visit :
    (let s := ready.put .NREG_AGE_PERIOD 0 1
     s.mayRun 1 = true ∧ ({ s with grants := [0, 0, 0, 0, 0] } : State).mayRun 1 = false) ∧
    ready.portUnread 1023 = none ∧ ({ ready with injected := [⟨5, 1023 * 256 + 1, true⟩] } : State).portUnread 1023 = some (1023 * 256 + 1) ∧
    ready.eccOf 5 7 .uncorr = .uncorr ∧ ready.nodeByAddr 1023 7 = none := by decide +kernel

theorem wit_PolicerRefillsWithinItsBurst_profile :
    (let a := profAddr (ready.polProfile .port 1039)
     ready.eccOf 7 a .ok ≠ .uncorr ∧ ({ ready with injected := [⟨7, a, true⟩] } : State).eccOf 7 a .ok = .uncorr) ∧
    ready.eccOf 7 (profAddr 1) .ok ≠ .uncorr := by decide +kernel

theorem wit_GateListsStartChangeAndStop_entry :
    (let p : GclPend := { plan := plan1, bTime := 0 }
     let s := ({ ready with gcl := [(1039, { pend := some p })] }).put .TPG_GCL_STATUS_STATE 1039 gclPending
     p.plan.base + (segAt (s.planSegs p.plan) 0).idx = 65535 ∧ 65535 ∈ [65535] ∧ 65535 ∉ ([] : List Nat)) ∧
    (let p : GclPend := { plan := { plan1 with angle := true, src := 1 }, bTime := 0 }
     let s := (({ ready with gcl := [(1039, { pend := some p })] }).put .TPG_GCL_STATUS_STATE 1039 gclPending).put .TPG_GCL_CFG_FALLBACK 1039 1
     p.plan.angle = true ∧ s.phGood p.plan.src = false ∧ s.flag .TPG_GCL_CFG_FALLBACK 1039 = true) ∧
    (ready.put .TPG_GCL_STATUS_STATE 1039 gclRunning).gclState 1039 = gclRunning ∧ Ecc.corr ≠ .uncorr ∧
    (let s := tae 3 1 3 0 65535 [0, 1, 0, 0] (ready.put .TPG_GCL_STATUS_STATE 1039 gclRunning)
     (s.taeOf 3).map (·.op) = some 3) ∧
    (let s := { ready with gcl := [(1039, { pend := some { plan := plan1, bTime := 0 } })] }
     s.gateInUse 65535 = true) := by decide +kernel

/-- A frame of the pair's own station, under HSR. -/
def hsrOwn : List Byte := beBytes 6 1 ++ beBytes 6 ready.hsrSa ++ beBytes 2 0x892F ++ List.replicate 20 0

/-- A frame to another station, under HSR. -/
def hsrOther : List Byte := beBytes 6 2 ++ beBytes 6 (ready.hsrSa + 1) ++ beBytes 2 0x892F ++ List.replicate 20 0

theorem wit_SpireDecidesOnceAndFallsBack_treat :
    (let s := trunk 1039 (paired.put .SPI_PAIR_CFG_HSR_EN 7 1)
     (s.spiTreat 1039 hsrOther []).map (·.2) = some true ∧ s.expAsked 1039 hsrOther = false ∧ s.expAsked 1039 (List.replicate 64 0) = true) ∧
    (let e : List Word := [0, 0xBE000000#32, 0, 0]
     let s := { trunk 1039 paired with exp := [(255, e)] }
     (s.spiTreat 1039 (List.replicate 64 0) []).map (fun y => (y.2, y.1.own)) = some (true, false) ∧
     s.spiTreat 1039 (List.replicate 64 0) [255] = none ∧ s.expAsked 1039 (List.replicate 64 0) = true) ∧
    (let s := trunk 1039 (paired.put .SPI_PAIR_CFG_HSR_EN 7 1)
     (s.spiTreat 1039 hsrOwn []).map (fun y => (y.2, y.1.own, y.1.key)) = some (false, false, none)) ∧
    ((receiving { rx64 with oversize := true }).rxOf 1039).map (·.oversize) = some true ∧
    (paired.put .FLT_STATUS_DOME_HOLD 0 1).domeHeld = true := by decide +kernel

theorem wit_BusErrorHaltsEveryChannel_clear :
    (let s := { ready with dma := { txns := [{ txn1 with err := true }] } }
     (s.dma.txns.find? fun t => t.m == 1 && t.tag == 31) = some { txn1 with err := true }) ∧ txn1.err = false ∧
    ({ ready with dma := { clearing := true } } : State).dma.clearing = true ∧ ready.dma.clearing = false ∧
    ({ ready with dma := { txns := [{ txn1 with lost := true }] } } : State).dma.txns.all (·.lost) = true ∧
    ({ ready with dma := { txns := [txn1] } } : State).dma.txns.all (·.lost) = false := by decide +kernel

theorem wit_ChannelFollowsItsStates_stream :
    (let s := (chan63 chRun { desc := some desc0 } ready).put .DMA_CH_CFG_MODE 63 3
     s.chState 63 = chRun ∧ s.chMode 63 = 3 ∧ (s.chan 63).desc.isSome = true) := by decide +kernel

theorem wit_DescriptorsBeginWaitAndComplete_ends :
    (let s := chan63 chStopping { arrived := some desc0 } ready
     (s.chan 63).arrived = some desc0 ∧ s.chState 63 = chStopping) ∧
    (let s := chan63 chHalted { desc := some desc0, posted := true, abort := true } ready
     (s.chan 63).desc = some desc0 ∧ (s.chan 63).posted = true ∧ (s.chan 63).post = [] ∧ (s.chan 63).abort = true) ∧
    (let s := chan63 chHalted { desc := some desc0, posted := true } ready
     (s.chan 63).abort = false ∧ s.chRuns 63 = false) ∧
    (let s := chan63 chRun { desc := some desc0, posted := true, code := some 1 } ready
     (s.chan 63).code.getD 0 = 1 ∧ s.chRuns 63 = true) ∧
    (let s := (chan63 chRun { desc := some desc0, posted := true } ready).put .DMA_CH_CFG_LIMIT 63 2
     (s.chan 63).count + 1 < s.get .DMA_CH_CFG_LIMIT 63) ∧
    (let s := { (chan63 chRun { desc := some desc0, waits := 4 } ready).put .DMA_CH_CFG_MODE 63 1 with hostQ := [(63, [item5])], frames := [(5, frame5 1)] }
     s.hostNext 63 = some item5 ∧ s.flag .DMA_CH_STATUS_PACED 63 = false ∧ s.mayRun 4 = true ∧ s.eccOf 2 item5.head .ok = .ok ∧
     s.eccOf 1 item5.head .uncorr = .uncorr ∧ ({ s with grants := [0, 0, 0, 0, 0] } : State).mayRun 4 = false) ∧
    ready.hostNext 63 = none := by decide +kernel

theorem wit_PresentedSourceIsTheHighestPresentable_driven :
    ((pending7 2047 2).present 7).driven 7 = some ⟨2047, 0, 31⟩ ∧ ready.driven 7 = none ∧ (ready.put .BEL_GLB_CFG_SPUR_WIN 0 0).get .BEL_GLB_CFG_SPUR_WIN = 0 ∧
    State.reset.committed = false := by decide +kernel

theorem wit_SourcesBecomePendingOnTheirTargets_claims :
    belReserved 1470 = true ∧ belReserved 2047 = false ∧ (∀ x ∈ ready.belClaims, x.src ≠ 1470 ∧ x.withdrawn = false) ∧
    (let s := { pending7 2047 0 with belLvl := [(2047, true)], belClaims := [⟨7, 2047, 0, false⟩] }
     s.asserted 2047 = true ∧ s.now - 0 < s.get .BEL_GLB_CFG_SPUR_WIN) ∧ wbits (0x20#32 : Word) 15 0 = 2 ^ 5 := by decide +kernel

theorem wit_EpisodesShadowsAndResetsEnd_quiet :
    ready.dma.quiet = true ∧ ({ ready with dma := { txns := [txn1] } } : State).dma.quiet = false ∧
    ({ ready with blkReset := [13], shadowed := [13] } : State).blkReset.contains 13 = true ∧
    ({ ready with episode := some (8, [13]) } : State).episode = some (8, [13]) ∧ ready.blkLow = false ∧
    ({ ready with shadowed := [faultOwner 8 0] } : State).shadowed.contains (faultOwner 8 0) = true := by decide +kernel

theorem wit_EpochGrantsStayWithinThePool_work :
    (tae 1 2 5 0 0 [] ready).hasWork 4 = false ∧ ready.hasWork 1 = true ∧ (ready.put .NREG_AGE_PERIOD 0 0).hasWork 1 = false ∧
    (((List.range 5).filter ready.hasWork).map ready.floorGrant).sum ≤ ready.get .PWR_POOL_POOL ∧ ready.grantOf 4 ≤ 1500 ∧
    ready.flag .PWR_STATUS_EMERG = false ∧ (ready.put .PWR_STATUS_EMERG 0 1).flag .PWR_STATUS_EMERG = true := by decide +kernel

theorem wit_KeepProductionRunsFromGoToDone_credit :
    ready.mayRun 3 = true ∧ ({ ready with grants := [0, 0, 0, 0, 0] } : State).mayRun 3 = false ∧
    ready.keep.pos = ready.keep.image.length := by decide +kernel

theorem wit_KeepLoadAppliesWholeOrFails_result :
    (match ready.loadImage (ready.key 0) keepHead with | .ok _ => false | .error e => e.1 == 0x06) = true := by decide +kernel

theorem wit_SessionsOpenByProof_idle :
    (let s := (session3 sesOpened).setSes 3 { waits := some 0x20 }
     (s.sesOf 3).waits.isSome = true ∧ s.sesState 3 = sesOpened) := by decide +kernel

theorem wit_SessionCommandsAreAcceptedOnceInOrder_closing :
    (let s := (session3 sesOpened).setSes 3 { waits := some 0x20, closing := some 2 }
     (s.sesOf 3).waits = some 0x20 ∧ s.sesReady 0x20 = true ∧ (s.sesOf 3).closing = some 2 ∧ s.sesQ = []) := by decide +kernel

theorem wit_MirrorSetsApplyWholeOrAreDropped_error :
    (let s0 := { (mirroring 1 mirRunning).put .CLS_COMMIT_STATUS_STATE 0 clsStaging with mirror := { held := [(2, List.replicate 24 0)] } }
     (match s0.mirApply with | .ok _ => false | .error e => e.1 == 0x09) = true) := by decide +kernel

/-! Tests of single steps and functions; the expected values are the worked examples of the specification, or follow from the rule
named. -/

/-- The outcome is the next state `t`. -/
def nextIs (o : Host.Outcome State Fault Refusal) (t : State) : Bool := match o with
  | .next u => decide (u = t)
  | _ => false

/-- The outcome is the refusal `r`. -/
def refusedIs (o : Host.Outcome State Fault Refusal) (r : Refusal) : Bool := match o with
  | .refused q => decide (q = r)
  | _ => false

/-- The nine ASCII bytes "123456789". -/
def nine : List Byte := (List.range 9).map fun i => byte (0x31 + i)

/-- R70: the CRC-32C of the nine bytes is 0xE306_9283. -/
theorem test_crc32c : crc32c nine = 0xE3069283 := by decide +kernel

/-- The worked example of chapter 15, unit 2: the relay check is 0x29B1, sent as 0x29, 0xB1. -/
theorem test_relayCheck :
    let s := (((ready.wr .CHK_CFG 2 0x000F0000#32).wr .CHK_POLY_LO 2 0x1021#32).wr .CHK_INIT_LO 2 0xFFFF#32).wr .CHK_XOR_LO 2 0
    let v := s.chkOut 2 (s.chkRun 2 (s.chkInit 2) nine)
    v = 0x29B1 ∧ s.chkBytes 2 v = [0x29#8, 0xB1#8] := by decide +kernel

/-- The same, unit 3: the drive check is 0xE306_9283, sent as 0x83, 0x92, 0x06, 0xE3. -/
theorem test_driveCheck :
    let s := (((ready.wr .CHK_CFG 3 0xE01F0000#32).wr .CHK_POLY_LO 3 0x1EDC6F41#32).wr .CHK_INIT_LO 3 0xFFFFFFFF#32).wr .CHK_XOR_LO 3 0xFFFFFFFF#32
    let v := s.chkOut 3 (s.chkRun 3 (s.chkInit 3) nine)
    v = 0xE3069283 ∧ s.chkBytes 3 v = [0x83#8, 0x92#8, 0x06#8, 0xE3#8] := by decide +kernel

/-- The worked example of chapter 20: the credit of class 7 on T4 lies at 0x0E6_04EC; FLT_FIRST_SRC at 0x140_0010 and at its mirror. -/
theorem test_registerAddresses :
    regOf 0x0E604EC = some (.SCH_CBS_CREDIT, 8 * 1028 + 7) ∧ regOf 0x1400010 = some (.FLT_FIRST_SRC, 0) ∧
    regOf 0x1F10010 = some (.FLT_FIRST_SRC, 0) := by decide +kernel

/-- The same: a maintenance read of GLB_BOOT returns 0 with NOT_AON; its own offset is word 0x00_0004. -/
theorem test_maintenanceNotAlwaysOn :
    nextIs (exec (.maintRead 4) ready) { ready with mntResp := some (0#32, 0x03#8) } = true := by decide +kernel

/-- The worked example of chapter 18: a pool of 3,000 and its five grants. -/
theorem test_poolOf3000 :
    let e (k prio floor max : Nat) (s : State) := ((s.put .PWR_ENG_CFG_PRIO k prio).put .PWR_ENG_CFG_FLOOR k floor).put .PWR_ENG_CFG_MAX k max
    let s := (e 4 3 500 1200 (e 3 0 200 1500 (e 2 1 0 1500 (e 1 2 100 1500 (e 0 1 0 375 ready))))).put .PWR_POOL_POOL 0 3000
    let u := { ((s.put .OCU_CTRL_SWEEP_EN 0 1).put .KEEP_STATUS_STATE 0 keepProducing).put .CLS_COMMIT_STATUS_STATE 0 clsCommitting with
                 dma := { txns := [{ m := 1, tag := 31, kind := 0, c := 63, addr := 0, pos := 0, len := 32 }] } }
    u.epochGrants = [50, 1500, 50, 200, 1200] := by decide +kernel

/-- The worked example of chapter 10 at 400 µs: with C at 100 and EP at 4,000 bytes a frame of 1,000 bytes is yellow, and EP falls
to 3,000; at 4,000 µs with C at 1,000 it is green, and C falls to 0. -/
theorem test_cameraPolicer :
    let w : List Word := [0x500000FA#32, 0, 4000, 4000]
    let at400 : Pol := { levelC := 100 * polUnit, levelE := 4000 * polUnit }
    let at4000 : Pol := { levelC := 1000 * polUnit, levelE := 0 }
    profMode w = 1 ∧ polResult w at400 1000 0 = 1 ∧ polDebit w at400 1000 1 = { at400 with levelE := 3000 * polUnit } ∧
    polResult w at4000 1000 0 = 0 ∧ polDebit w at4000 1000 0 = { at4000 with levelC := 0 } := by decide +kernel

/-- The worked example of chapter 1, step 4: the rejected copy's RELEASE takes the ingress reference: 3 becomes 2. -/
theorem test_releaseTakesOneReference :
    let s := { ready with frames := [(0x1A2C, { frame5 3 with length := 300, cells := 2 })] }
    nextIs (exec (.referenceRelease 0 0x1A2C false) s) { s with frames := [(0x1A2C, { frame5 2 with length := 300, cells := 2 })] } = true := by decide +kernel

/-- The worked example of chapter 4: a PAUSE with pause_time 1,000 loads the timer and sets RX_PAUSED, under FC_MODE 1. -/
theorem test_pauseLoadsTimer :
    let f := beBytes 6 0x0180C2000001 ++ beBytes 6 0 ++ beBytes 2 0x8808 ++ beBytes 2 1 ++ beBytes 2 1000 ++ List.replicate 42 0
    let s := (receiving { rx64 with bytes := f }).put .MAC_CFG_FC_MODE 1039 1
    (match exec (.macControlFrame 1039 f (word (crc32 f)) false) s with
     | .next t => decide ((t.macOf 1039).pause = 1000) && t.flag .MAC_STATUS_RX_PAUSED 1039 && (t.get .MAC_RX_PAUSE_COUNT 1039 == 1)
     | _ => false) = true := by decide +kernel

/-- R48: an unaligned write is answered ERROR and counted; R3, R48: GLB_ID is read-only, and a write to it changes nothing. -/
theorem test_slavePort :
    nextIs (exec (.registerWrite 2 0 15) ready) { ready.wr .GLB_SLV_ERR 0 1 with rsResp := some ⟨0, true⟩ } = true ∧
    nextIs (exec (.registerWrite 0 0xFFFFFFFF#32 15) ready) { ready with rsResp := some ⟨0, false⟩ } = true := by decide +kernel

/-- R374: an ARM with its key runs the Lantern from OFF, with its output low. -/
theorem test_lanternArm :
    (match exec (.lanternArm 0x5A) ready with
     | .next t => decide (t.get .FLT_LANTERN_STATE = 1) && !t.lantern
     | _ => false) = true := by decide +kernel

/-- R207, R432: an operation that the engine does not have is BAD_CMD, 0x6, at the command's end. -/
theorem test_badCommand :
    (match exec (.registerWrite 0x1100800 0x8009000F#32 15) ready with
     | .next t => (match exec (.taeCommandDone .spi) t with
       | .next u => decide (wbits (u.rd .SPI_TAE_STATUS) 23 20 = 6) && !wbit (u.rd .SPI_TAE_STATUS) 31 && wbit (t.rd .SPI_TAE_STATUS) 31
       | _ => false)
     | _ => false) = true := by decide +kernel

/-- A unit that does not exist has no event: nothing changes (log 40). -/
theorem test_noSuchUnit : nextIs (exec (.rxLpiEnter 1040) ready) ready = true := by decide +kernel

/-- R377: in factory test mode the effect of FLT_INJ_CTRL is not given. -/
theorem test_factoryInjection :
    refusedIs (exec (.registerWrite ((regInfo .FLT_INJ_CTRL).base) 0 15) (ready.put .FLT_STATUS_FACTORY 0 1)) .factoryInjection = true := by decide +kernel

end Sys2Proof.Tests
end

section
/-! What a write through the register slave port does to a register without an effect of its own (R10 to R12, R15). -/
namespace Sys2Proof.Machine

variable {s : State} {a : Nat} {r : Reg} {i : Nat}

/-- A block that can act lies in a core domain out of reset. -/
theorem coreOn_of_up {b : Nat} (h : s.up b = true) : s.coreOn = true := by
  simp only [State.up, State.coreUp, Bool.and_eq_true] at h
  exact h.1.1

/-- The port stores a write of such a register by its access codes, where the register's block can act (R371, R400). -/
theorem slaveStore_plain (he : ownEffect r = false) (hp : s.porstLow = false)
    (hw : (isAon r || (s.soft || regBlock r i == 20) && s.up (regBlock r i)) = true) (w : Word) :
    s.slaveStore r i w = s.plainWrite r i w s.committed := by
  have hreach : (isAon r || s.soft || regBlock r i == 20) = true := by
    revert hw; cases isAon r <;> simp +contextual
  have hacts : ((regInfo r).aon || s.up (regBlock r i)) = true := by
    change (isAon r || s.up (regBlock r i)) = true
    revert hw; cases isAon r <;> simp +contextual
  simp only [State.slaveStore, hp, hreach, State.regWrite, hacts, if_true, Bool.false_eq_true, if_false,
    writeEffect_plain s he]

/-- A whole write of such a register is stored by its access codes and answered OK. -/
theorem busWrite_plain (ha : regOf a = some (r, i)) (he : ownEffect r = false) (hr : s.slaveRuns (isAon r) = true)
    (hp : s.porstLow = false) (hw : (isAon r || (s.soft || regBlock r i == 20) && s.up (regBlock r i)) = true) (w : Word) :
    s.busWrite a w 15 = s.become ((s.plainWrite r i w s.committed).slaveOk 0) := by
  have hon : (!s.coreOn && !isAon r) = false := by
    cases h : isAon r with
    | true => simp
    | false =>
      simp only [h, Bool.false_or, Bool.and_eq_true] at hw
      simp [coreOn_of_up hw.2]
  simp [State.busWrite, factoryInject_plain s ha he, State.slaveWrite, ha, hr, hon, slaveStore_plain he hp hw w]

/-! The access codes, bit by bit. -/

/-- A bit stands in a mask where a field that satisfies `p` covers it. -/
theorem wbit_maskOf_iff (r : Reg) (p : FieldInfo → Bool) {b : Nat} (h : b < 32) :
    wbit (maskOf r p) b = true ↔ ∃ f ∈ (regInfo r).fields, f.lo ≤ b ∧ b ≤ f.hi ∧ p f = true := by
  rw [wbit_maskOf r p h]
  simp only [List.any_eq_true, Bool.and_eq_true, decide_eq_true_eq]
  exact exists_congr fun f => and_congr_right fun _ => and_comm.trans and_assoc

/-- What a write by access codes leaves in each bit, by the masks of the fields that take it. -/
theorem wbit_rd_fieldsWrite (s : State) (r : Reg) (i : Nat) (w : Word) (locked : Bool) {b : Nat} (h : b < 32) :
    wbit ((s.fieldsWrite r i w locked).rd r i) b =
      if wbit (maskOf r fun f => f.acc == .rw || (f.acc == .rwl && !locked)) b = true then wbit w b
      else if wbit (maskOf r fun f => f.acc == .w1c) b = true then wbit (s.rd r i) b && !wbit w b
      else wbit (s.rd r i) b := by
  simp only [State.fieldsWrite, rd_wr_same, wbit_or, wbit_and, wbit_not _ h]
  split
  · simp [*]
  · split <;> simp [*]

/-- A write by access codes changes its register alone. -/
theorem fieldsWrite_eq_wr (s : State) (r : Reg) (i : Nat) (w : Word) (locked : Bool) :
    s.fieldsWrite r i w locked = s.wr r i ((s.fieldsWrite r i w locked).rd r i) := by
  simp only [State.fieldsWrite, rd_wr_same]

/-- Settles O11: the port reaches the access codes, which each bit then follows. -/
theorem registerWriteFollowsAccessCodes : Obligations.RegisterWriteFollowsAccessCodes := by
  intro a w r i s ha he hc hr hp hw
  have hplain : s.plainWrite r i w s.committed = s.fieldsWrite r i w s.committed := by simp [State.plainWrite, hc]
  have hexec : exec (.registerWrite a w 15) s = .next ((s.fieldsWrite r i w s.committed).slaveOk 0) :=
    (busWrite_plain ha he hr hp hw w).trans (by rw [hplain]; rfl)
  refine ⟨_, hexec, congrArg (fun t => t.slaveOk 0) (fieldsWrite_eq_wr s r i w s.committed), fun b hb => ?_⟩
  refine (wbit_rd_fieldsWrite s r i w s.committed hb).trans (if_congr ?_ rfl (if_congr ?_ rfl rfl))
  · rw [wbit_maskOf_iff r _ hb]
    simp only [Bool.or_eq_true, Bool.and_eq_true, beq_iff_eq, Bool.not_eq_true']
  · rw [wbit_maskOf_iff r _ hb]
    simp only [beq_iff_eq]

end Sys2Proof.Machine
end

section
/-! Counters: what a write clears, what a read of a low half keeps, where an increment stops (R15, R16). -/
namespace Sys2Proof.Machine

/-- The counters of 64 bits lie in the core domain. -/
theorem isAon_low {lo hi : Reg} (h : (lo, hi) ∈ counters64) : isAon lo = false :=
  (by decide : ∀ x ∈ counters64, isAon x.1 = false) _ h

/-- A clear leaves the shadows. -/
@[simp] theorem shadows_clearCounter (s : State) (r : Reg) (i : Nat) : (s.clearCounter r i).shadows = s.shadows := by
  unfold State.clearCounter
  split
  · rfl
  · split <;> rfl

/-- An increment leaves the shadows. -/
@[simp] theorem shadows_add64 (s : State) (lo hi : Reg) (i n : Nat) : (s.add64 lo hi i n).shadows = s.shadows := by
  rw [State.add64, wr_shadows, wr_shadows]

/-- A read of a low half through the port answers it and copies the high half into the shadow. -/
theorem slaveRead_low {s : State} {a i : Nat} {lo hi : Reg} (ha : regOf a = some (lo, i)) (h : (lo, hi) ∈ counters64)
    (hc : s.coreClk = true) (hon : s.coreOn = true) :
    s.slaveRead a =
      ({ s with shadows := tput 0 s.shadows (regKey lo i) (s.rd hi i) } : State).slaveOk (s.rd lo i &&& readable lo) := by
  have hp : s.porstLow = false := by
    simp only [State.coreOn, Bool.and_eq_true, Bool.not_eq_true'] at hon
    exact hon.1
  simp only [State.slaveRead, ha, isAon_low h, State.slaveRuns, hc, hon, State.slaveLoad, State.readReg, hp, view_low h,
    readEffect_low h]
  rfl

/-- A high half reads as the shadow put there by the read of its low half. -/
theorem view_high_of_shadow {u : State} {m : List (Nat × Word)} {lo hi : Reg} {i : Nat} {v : Word} (h : (lo, hi) ∈ counters64)
    (hu : u.shadows = tput 0 m (regKey lo i) v) : u.view hi i = v := by
  rw [view_high h, hu, tget_tput_same]

/-- A field lies below two to its width. -/
theorem of_lt (f : Fld) (w : Word) : f.of w < 2 ^ f.width := BitVec.isLt _

/-- An increment reports saturation exactly where it brings the counter to all-ones. -/
theorem satAdd_reaches_top (f : Fld) (w : Word) (n : Nat) :
    (satAdd f w n).2 = true ↔ f.of w < 2 ^ f.width - 1 ∧ 2 ^ f.width - 1 ≤ f.of w + n := by
  have hlt := of_lt f w
  simp only [satAdd, Bool.and_eq_true, bne_iff_ne, ne_eq, beq_iff_eq]
  omega

/-- An increment that does not reach all-ones raises no event and changes the counter's register alone. -/
theorem add_of_not_top (s : State) (f : Fld) (i n : Nat)
    (h : ¬(s.get f i < 2 ^ f.width - 1 ∧ 2 ^ f.width - 1 ≤ s.get f i + n)) :
    s.add f i n = s.wr f.reg i (satAdd f (s.rd f.reg i) n).1 :=
  if_neg (mt (satAdd_reaches_top f (s.rd f.reg i) n).1 h)

/-- A write of a counter without an effect of its own: zero clears it, any other value leaves it (R15, R16). -/
theorem busWrite_counter {s : State} {a : Nat} {r : Reg} {i : Nat} (ha : regOf a = some (r, i)) (hc : isCounter r = true)
    (he : ownEffect r = false) (hr : s.slaveRuns (isAon r) = true) (hp : s.porstLow = false)
    (hw : (isAon r || (s.soft || regBlock r i == 20) && s.up (regBlock r i)) = true) (w : Word) :
    s.busWrite a w 15 = s.become ((if w = 0 then s.clearCounter r i else s).slaveOk 0) := by
  rw [busWrite_plain ha he hr hp hw, State.plainWrite, if_pos hc]

/-- A clear moves nothing that is driven from outside. -/
theorem outside_clearCounter (s : State) (r : Reg) (i : Nat) (w : Word) :
    s.outside ((s.clearCounter r i).slaveOk w) = (s.clearCounter r i).slaveOk w := by
  unfold State.clearCounter
  split
  · rfl
  · split <;> rfl

/-- Settles O12: writes by the access code, reads by the shadow's entry, increments by the cut at all-ones. -/
theorem countersStopClearAndReadWhole : Obligations.CountersStopClearAndReadWhole := by
  refine ⟨fun a w r i s ha hc he hr hp hw => ?_, fun a lo hi i s ha h hclk hon => ?_, fun f i n s hlo hhi => ?_⟩
  · have hwrite := busWrite_counter ha hc he hr hp hw
    refine ⟨rfl, fun hne => ?_, ?_⟩
    · calc exec (.registerWrite a w 15) s
        _ = s.become ((if w = 0 then s.clearCounter r i else s).slaveOk 0) := hwrite w
        _ = .next (s.slaveOk 0) := by rw [if_neg hne]; rfl
    · exact (hwrite 0).trans (congrArg Host.Outcome.next (outside_clearCounter s r i 0))
  · refine ⟨_, congrArg s.become (slaveRead_low ha h hclk hon), rfl, rfl, rfl, fun u hu => ?_, fun lo' hi' i' h' hne => ?_⟩
    · exact ⟨view_high_of_shadow h hu, view_high_of_shadow h ((shadows_clearCounter u lo i).trans hu),
        view_high_of_shadow h ((shadows_add64 u lo hi i 1).trans hu)⟩
    · have hkey : regKey lo' i' ≠ regKey lo i := fun e => hne (Prod.ext_iff.2 (regKey_inj.1 e))
      rw [view_high h', view_high h']
      exact tget_tput_other 0 s.shadows _ _ _ hkey
  · exact ⟨of_satAdd f ⟨hlo, hhi⟩ _ n, satAdd_reaches_top f _ n, fun g hg hd => of_into_other f g hd hg _ _,
      add_of_not_top s f i n⟩

end Sys2Proof.Machine
end

section
/-! What is driven from outside (R37, R65, R66): the collector's reactions leave it, and so does every command but the moves of the
pins and clocks themselves. -/
namespace Sys2Proof.Machine

/-! The pins, the clocks and the queue under the collector's operations. -/

/-- The queue of waiting commands, the reset pins and the clocks. -/
def State.external (s : State) : List Instr × Bool × Bool × Bool × Bool := (s.pending, s.porstLow, s.blkLow, s.coreClk, s.refClk)

theorem external_put (s : State) (f : Fld) (i v : Nat) : (s.put f i v).external = s.external := rfl

theorem external_of_beside {s t : State} (h : t.besideBel = s.besideBel) : t.external = s.external :=
  show t.besideBel.external = s.besideBel.external by rw [h]

theorem external_pulse (s : State) (k : Nat) : (s.pulse k).external = s.external := external_of_beside (besideBel_pulse s k)
theorem external_setInput (s : State) (k : Nat) (l : Bool) : (s.setInput k l).external = s.external :=
  external_of_beside (besideBel_setInput s k l)

theorem external_when {s t : State} (h : t.external = s.external) (c : Bool) {f : State → State}
    (hf : ∀ u, (f u).external = u.external) : (t.when c f).external = s.external := by
  cases c
  · exact h
  · exact (hf t).trans h

theorem external_ite {s t u : State} {c : Prop} [Decidable c] (ht : t.external = s.external) (hu : u.external = s.external) :
    (if c then t else u).external = s.external := by
  split
  · exact ht
  · exact hu

theorem external_satMark (s : State) (k : Nat) : (s.satMark k).external = s.external := by
  rw [satMark_eq]; split <;> rfl

theorem external_inc (s : State) (f : Fld) (i : Nat) : (s.inc f i).external = s.external :=
  external_ite ((external_pulse _ _).trans (external_satMark _ _)) rfl

theorem external_record (s : State) (kind flags : Nat) (body : List Word) (z : Bool) :
    (s.record kind flags body z).external = s.external :=
  external_ite rfl (external_inc s _ 0)

theorem external_spurCount (s : State) : s.spurCount.external = s.external :=
  each_keeps State.external (s.belClaims.filter Claim.withdrawn) (fun u x => u.inc .BEL_SPURIOUS_AFTER_CLAIM_COUNT x.target)
    (fun u x => external_inc u _ x.target) { s with belClaims := s.belClaims.filter fun x => !Claim.withdrawn x }

theorem external_levelChange (s : State) (i : Nat) (l : Bool) : (s.levelChange i l).external = s.external :=
  external_ite ((external_spurCount _).trans (external_setInput s i l)) (external_setInput s i l)

theorem external_chipRequest (s : State) (m : Bool) (src : Nat) : (s.chipRequest m src).external = s.external :=
  (external_record _ _ _ _ _).trans (external_inc _ _ 0)

theorem external_pinReaction (s : State) : s.pinReaction.external = s.external :=
  external_when (external_put s _ 0 1) _ fun _ => external_record _ _ _ _ _

theorem external_irqReaction (s : State) (i : Nat) : (s.irqReaction i).external = s.external :=
  external_levelChange (s.put .FLT_SRC_STATUS_IRQ i 1) _ _

theorem external_blockReset (s : State) (b : Nat) (m : Bool) (src : Nat) : (s.blockReset b m src).external = s.external :=
  external_ite rfl ((external_record _ _ _ _ _).trans (external_inc _ _ 0))

theorem external_firstError (s : State) (i : Nat) : (s.firstError i).external = s.external := external_ite rfl rfl

theorem external_episode (s : State) (e : Option (Nat × List Nat)) : ({ s with episode := e } : State).external = s.external := rfl

theorem external_leadingFault (s : State) (i : Nat) : (s.leadingFault i).external = s.external := by
  unfold State.leadingFault
  dsimp only
  refine external_when (external_when (external_when (external_when (external_when ?_ _ ?_) _ ?_) _ ?_) _ ?_) _ ?_
  · rw [external_episode, external_put, external_firstError, external_record]; rfl
  · exact fun u => external_irqReaction u i
  · exact fun u => rfl
  · exact fun u => external_blockReset u _ _ _
  · exact fun u => external_chipRequest u _ _
  · exact external_pinReaction

theorem external_mergedFault (s : State) (i l : Nat) : (s.mergedFault i l).external = s.external := by
  unfold State.mergedFault
  dsimp only
  refine external_when (external_when (external_when ?_ _ ?_) _ ?_) _ ?_
  · exact external_record (s.fireCount i) _ _ _ _
  · exact fun u => rfl
  · exact fun u => external_chipRequest u _ _
  · exact external_pinReaction

theorem external_fire (s : State) (i : Nat) : (s.fire i).external = s.external := by
  unfold State.fire
  split
  · exact external_leadingFault s i
  · exact external_mergedFault s i _

theorem external_railLeaves (s : State) (i : Nat) (w : Bool) (y : Word) : (s.railLeaves i w y).external = s.external :=
  external_ite rfl (external_ite (external_inc _ _ 0) (external_fire _ i))

/-- The collector's watch over CORE_CLK moves nothing that is driven from outside. -/
theorem external_watchClock (s : State) : s.watchClock.external = s.external :=
  external_ite rfl (external_ite rfl (external_railLeaves s.used 0 _ _))

/-! The form of every other command. -/

/-- What carries a command out: the actor of its role, except that the two reads of a time register come through the register
slave port, which answers whatever runs (R48). -/
def carrier : Instr → Actor
  | .tpgTimeFracRead | .phStatusRead _ => .outside
  | c => (role c).actor

/-- The actor has its clock and is out of reset (R37, R65, R371). -/
def State.acts (s : State) : Actor → Bool
  | .block b => s.up b
  | .core => s.coreUp
  | .alwaysOn => s.aonUp
  | .outside => true

/-- The actor can act, and memory initialisation has finished where the command waits for it (R400). -/
def State.gate (s : State) (a : Actor) (waits : Bool) : Bool := s.acts a && (!waits || s.soft)

/-- A meaning behind a gate: while the gate is open it is one change, or the refusal of R377; while it is shut it changes nothing. -/
def Gated (a : Actor) (waits : Bool) (o : State → Host.Outcome State Fault Refusal) : Prop :=
  ∀ s, (o s = .refused .factoryInjection ∧ s.gate a waits = true) ∨ ∃ u, o s = s.become u ∧ (s.gate a waits = false → u = s)

theorem gate_now (s : State) (a : Actor) : s.gate a false = s.acts a := by simp [State.gate]

theorem soft_off {s : State} {b : Nat} (f : State → State) (h : s.gate (.block b) true = false) :
    (if s.soft then s.inBlock b f else s) = s := by
  simp only [State.gate, State.acts, Bool.not_true, Bool.false_or, Bool.and_eq_false_iff] at h
  rcases h with h | h
  · rw [inBlock_off f h, ite_self]
  · simp [h]

theorem gated_run (b : Nat) (f : State → State) : Gated (.block b) false (run b f) :=
  fun s => .inr ⟨_, rfl, fun h => inBlock_off f ((gate_now s (.block b)).symm.trans h)⟩

theorem gated_runOn (n i b : Nat) (f : State → State) : Gated (.block b) false (runOn n i b f) :=
  fun s => .inr ⟨_, rfl, fun h => by rw [State.onUnit, inBlock_off f ((gate_now s (.block b)).symm.trans h), ite_self]⟩

theorem gated_runSoft (b : Nat) (f : State → State) : Gated (.block b) true (runSoft b f) :=
  fun _ => .inr ⟨_, rfl, soft_off f⟩

theorem gated_runSoftOn (n i b : Nat) (f : State → State) : Gated (.block b) true (runSoftOn n i b f) :=
  fun _ => .inr ⟨_, rfl, fun h => by rw [State.onUnit, soft_off f h, ite_self]⟩

theorem gated_runAon (f : State → State) : Gated .alwaysOn false (runAon f) :=
  fun s => .inr ⟨_, rfl, fun h => by simp [show s.aonUp = false from (gate_now s .alwaysOn).symm.trans h]⟩

theorem gated_runAonOn (n i : Nat) (f : State → State) : Gated .alwaysOn false (runAonOn n i f) :=
  fun s => .inr ⟨_, rfl, fun h => by simp [State.onUnit, show s.aonUp = false from (gate_now s .alwaysOn).symm.trans h]⟩

/-- What answers whatever runs has no gate. -/
theorem gated_become (f : State → State) : Gated .outside false (fun s => s.become (f s)) :=
  fun _ => .inr ⟨_, rfl, nofun⟩

/-- A refusal in place of an acting command's change. -/
theorem gated_refusing {a : Actor} {o : State → Host.Outcome State Fault Refusal} (h : Gated a false o) (c : State → Prop)
    [DecidablePred c] (hc : ∀ s, c s → s.acts a = true) :
    Gated a false (fun s => if c s then .refused .factoryInjection else o s) := by
  intro s
  by_cases h1 : c s
  · exact .inl ⟨if_pos h1, (gate_now s a).trans (hc s h1)⟩
  · simp only [if_neg h1]; exact h s

theorem gated_busWrite (a : Nat) (w : Word) (st : Nat) : Gated .outside false (fun s => s.busWrite a w st) :=
  gated_refusing (gated_become _) _ fun _ _ => rfl

/-- Every command but the moves of the pins and clocks, by the form of its meaning. -/
theorem exec_gated (c : Instr) (h : movesPins c = false) : Gated (carrier c) (role c).waits (exec c) := by
  cases c with
  | porstNAssert | porstNRelease | blkRstNAssert | blkRstNRelease | coreClkStop | coreClkReturn | ptpRefclkStop | ptpRefclkReturn =>
    cases h
  | counterLowRead | fldLinkChange | tpgTimeFracRead | phStatusRead | belLevelChange | phyIntChange => exact gated_become _
  | registerWrite | counterClear => exact gated_busWrite _ _ _
  | blockResetRelease =>
    exact fun s => .inr ⟨_, rfl, fun h => by simp [State.onUnit, show s.coreUp = false from (gate_now s .core).symm.trans h]⟩
  | maintWrite | maintFrameCut => exact gated_refusing (gated_runAon _) _ fun s hs => by simp_all [State.maintInject, State.acts]
  | sesWrite | sesDeferredResponse | rxFrameEnd => exact gated_refusing (gated_runOn _ _ _ _) _ fun s hs => by simp_all [State.acts]
  | faultCapture | resetShadowEnd | fltIrqClear | firedClear | railStateChange => exact gated_runAonOn _ _ _
  | episodeEnd | chipRstReqRelease | domeHoldClear | nmtClear | firstErrorClear | lanternArm | lanternStop | pinHoldClear
  | fltInjArm | logRecordWrite | logFreeze | logUnfreeze | logAccIdxWrite | logAccessReady | maintRead | maintBadOp
  | mntChipReset | mntBlockReset | lanternHalfPeriod => exact gated_runAon _
  | clsCommit | clsAbort | nregAgeWrite | ocuCtrlWrite | tpgIncrLoWrite | tpgIncrHiWrite | timeSet | timeAdj | clkcmpGo | dmaClear
  | belSwi | keepGo | keepLoad | keepAbort | mirrorEnable | stiLoadStart | stiLoadData | stiValidate | stiCommit | stiAbort
  | mirrorDisable => exact gated_runSoft _ _
  | trunkEnable | trunkDisable | loopbackChange | fcForce | fieldPortEnable | fieldPortDisable | serviceRequest | serviceRelease
  | babbleClear | extJoinEnable | extJoinDisable | extPushGo | polPortCfgWrite | domeAlphaWrite | ocuWatchWrite | phaseEnable
  | phaseDisable | gclStart | gclStop | gclChange | dmaChannelEnable | dmaChannelDisable | dmaDoorbell | dmaStop | belEoi
  | belSrcCfgWrite | belPendClear | keyWrite | keyErase | keyLock => exact gated_runSoftOn _ _ _ _
  | fuseAck | fuseTimeout | memInitDone | extHelloHoldoffExpire | clsStageAdd | clsStageDel | clsStageWrite | clsRead
  | clsSearch | taeCommandDone | clsCommitSwitch | clsCommitEcc | clsDrainEmpty | clsCleanupEnd | clsDiscardEnd
  | clsDrainWarn | ageingVisit | nregInsert | nregDelete | nregWriteCfg | nregRead | nregSearch | nregClear | polRead
  | polReset | domeLoopTick | ocuSweepSample | ocuWatchSample | clkcmpDone | tpgWriteEntry | tpgReadEntry | spiWriteEntry
  | spiReadEntry | dmaQuiesced | epochGrant | avsPeriod | avsEmergency | podlTick | keepPeriod | keepProductionEnd
  | keepOutTimeout | keepHeaderCheck | keepLoadApply | mirrorCycle | stiValidationEnd | stiCommitSwitch | stiCommitEcc => exact gated_run _ _
  | _ => exact gated_runOn _ _ _ _
end Sys2Proof.Machine
end

section
/-! No command but the moves of pins and clocks touches them, and none touches the queue (R37). -/
namespace Sys2Proof.Machine

theorem external_outside (s u : State) : (s.outside u).external = s.external := rfl

/-- Every other command leaves all of what is driven from outside. -/
theorem exec_external {c : Instr} {s t : State} (hm : movesPins c = false) (h : exec c s = .next t) : t.external = s.external := by
  rcases exec_gated c hm s with ⟨hr, -⟩ | ⟨u, hu, -⟩
  · rw [hr] at h; cases h
  · rw [hu] at h; cases h; exact external_outside s u

/-- The moves of the pins and clocks leave the queue. -/
theorem pending_of_pinMove {c : Instr} {s t : State} (hm : movesPins c = true) (h : exec c s = .next t) : t.pending = s.pending := by
  have watch (u : State) : u.watchClock.pending = u.pending := congrArg Prod.fst (external_watchClock u)
  have copy : s.copyTime.pending = s.pending := by unfold State.copyTime; split <;> rfl
  cases c with
  | porstNAssert => cases h; rfl
  | porstNRelease =>
    cases h
    show (if s.porstLow then (s.powerReset false (!s.blkLow)).watchClock else s).pending = s.pending
    split
    · exact watch _
    · rfl
  | blkRstNAssert =>
    cases h
    show (if s.blkLow then s else { s.copyTime.coreReset false with blkLow := true }.watchClock).pending = s.pending
    split
    · rfl
    · exact (watch _).trans copy
  | blkRstNRelease =>
    cases h
    show (if !s.blkLow then s else if s.porstLow then { s with blkLow := false }
      else { s.coreReset true with blkLow := false }.watchClock).pending = s.pending
    split
    · rfl
    · split
      · rfl
      · exact watch _
  | coreClkStop => cases h; exact copy
  | coreClkReturn | ptpRefclkStop | ptpRefclkReturn => cases h; rfl
  | _ => cases hm

/-- Settles O4, by the form of every command's meaning. -/
theorem commandsLeavePinsClocksAndQueue : Obligations.CommandsLeavePinsClocksAndQueue := by
  intro c s t h
  have hrest (hm : movesPins c = false) : t.external = s.external := exec_external hm h
  simp only [State.external, Prod.mk.injEq] at hrest
  refine ⟨?_, fun hm => (hrest hm).2⟩
  cases hm : movesPins c with
  | true => exact pending_of_pinMove hm h
  | false => exact (hrest hm).1

/-! A gate that is shut (R37, R371, R400). -/

/-- What cannot act, or must still wait for memory initialisation, changes nothing: so much of O6 holds, of every command by its
carrier. -/
theorem exec_of_shut {c : Instr} {s : State} (hm : movesPins c = false) (hg : s.gate (carrier c) (role c).waits = false) :
    exec c s = .next s := by
  rcases exec_gated c hm s with ⟨-, ho⟩ | ⟨u, hu, hs⟩
  · rw [hg] at ho; cases ho
  · rw [hu, hs hg]; rfl

/-- A read of a core-domain register is answered ERROR while the core domain is in reset (R48). -/
theorem slaveRead_held {s : State} {a : Nat} {r : Reg} {i : Nat} (ha : regOf a = some (r, i)) (hr : isAon r = false)
    (hclk : s.coreClk = true) (hoff : s.coreOn = false) : s.slaveRead a = s.slaveError := by
  simp [State.slaveRead, ha, State.slaveRuns, hr, hclk, hoff]

theorem regOf_timeFrac : regOf (regInfo .TPG_TIME_FRAC).base = some (.TPG_TIME_FRAC, 0) := by decide +kernel

/-- The read of the time base goes through the slave port, which answers it while a reset holds the core domain. -/
theorem exec_timeFracRead_held {s : State} (hclk : s.coreClk = true) (hoff : s.coreOn = false) :
    exec .tpgTimeFracRead s = s.become s.slaveError :=
  congrArg s.become (slaveRead_held regOf_timeFrac rfl hclk hoff)

/-- Refutes O6: TPG_TIME_FRAC_READ is a row of block 11, but while BLK_RST_N holds the core domain in reset the register slave port
answers its read with ERROR (R48). -/
theorem not_blockThatCannotActChangesNothing : ¬ Obligations.BlockThatCannotActChangesNothing := by
  intro h
  have hkeeps := h.1 .tpgTimeFracRead { State.reset with blkLow := true } rfl
  rw [exec_timeFracRead_held rfl rfl] at hkeeps
  have hanswer : (some ⟨0, true⟩ : Option SlaveAnswer) = none := congrArg State.rsResp (Host.Outcome.next.inj hkeeps)
  cases hanswer

end Sys2Proof.Machine
end

section
/-! A core domain held in reset keeps its reset values through every step (R37, R66). -/
namespace Sys2Proof.Machine

variable {s t : State}

/-! Commands that act behind a gate of the core domain, and those that answer whatever runs. -/

theorem coreOn_of_external (h : t.external = s.external) : t.coreOn = s.coreOn := by
  simp only [State.external, Prod.mk.injEq] at h
  obtain ⟨-, hp, hb, -, -⟩ := h
  rw [State.coreOn, hp, hb, State.coreOn]

/-- A row whose gate a reset of the core domain shuts: it changes nothing in reset, and leaves the core domain out of it. -/
theorem held_coreRow {c : Instr} (hm : movesPins c = false) (hg : s.coreOn = false → s.gate (carrier c) (role c).waits = false)
    (hs : HeldInReset s) (h : exec c s = .next t) : HeldInReset t := by
  cases hc : s.coreOn with
  | false => rw [exec_of_shut hm (hg hc)] at h; cases h; exact hs
  | true => exact held_on ((coreOn_of_external (exec_external hm h)).trans hc)

/-- A block of the core domain acts only out of reset. -/
theorem held_blockRow {c : Instr} {b : Nat} (hc : carrier c = .block b) (hm : movesPins c = false) (hs : HeldInReset s)
    (h : exec c s = .next t) : HeldInReset t :=
  held_coreRow hm (fun hoff => by rw [hc, State.gate, State.acts, up_of_off hoff, Bool.false_and]) hs h

/-- A row that may refuse instead. -/
theorem held_ite {p : Prop} [Decidable p] {o : Host.Outcome State Fault Refusal} (ho : o = .next t → HeldInReset t)
    (h : (if p then .refused .factoryInjection else o) = .next t) : HeldInReset t := by
  split at h
  · cases h
  · exact ho h

theorem held_busWrite {a : Nat} {w : Word} {st : Nat} (hs : HeldInReset s) (h : s.busWrite a w st = .next t) : HeldInReset t :=
  held_ite (held_become hs fun hc => still_slaveWrite (still_refl hc) a w st) h

theorem still_maintCut (h : CoreStill s t) (op a : Nat) (w : Word) (k : Nat) : CoreStill s (t.maintCut op a w k) := by
  have hx : CoreStill s (if op = 0x0D ∧ 32 < k then t.maintLoad a
      else (0, if op = 0x0E ∧ 64 ≤ k then t.maintStore a w else t)).2 := by
    split
    · exact still_maintLoad h a
    · exact still_ite (fun _ => still_maintStore h a w) (fun _ => h)
  exact hx

/-! The pins and the clocks. -/

theorem still_watchClock (h : CoreStill s t) : CoreStill s t.watchClock :=
  still_ite (fun _ => h) fun _ => still_ite (fun _ => still_railFollows h 0 .ok) fun _ => still_railLeaves (still_used h) 0 _ _

theorem held_watchClock (h : HeldInReset s) : HeldInReset s.watchClock := fun hoff => by
  have hs : s.coreOn = false := (coreOn_of_external (external_watchClock s)).symm.trans hoff
  exact still_held (still_watchClock (still_refl hs)) hs h hoff

theorem powerReset_atReset (s : State) (low : Bool) : CoreAtReset (s.powerReset low false) := rfl

theorem held_porstNRelease (hs : HeldInReset s) (h : execPorstNRelease s = .next t) : HeldInReset t := by
  cases h
  split
  · refine held_watchClock fun hoff => ?_
    have hblk : s.blkLow = true := by simpa [State.coreOn, State.powerReset] using hoff
    rw [hblk]
    exact powerReset_atReset s false
  · exact hs

theorem held_blkRstNAssert (hs : HeldInReset s) (h : execBlkRstNAssert s = .next t) : HeldInReset t := by
  cases h
  split
  · exact hs
  · exact held_watchClock fun _ => coreReset_atReset s.copyTime

theorem held_blkRstNRelease (hs : HeldInReset s) (h : execBlkRstNRelease s = .next t) : HeldInReset t := by
  cases h
  split
  · exact hs
  · split
    · rename_i hp
      exact fun _ => hs (by simp [State.coreOn, hp])
    · rename_i hp
      exact held_watchClock (held_on (by simpa [State.coreOn, State.coreReset] using hp))

/-- A clock stops or runs again: the collector looks, and nothing else moves. -/
theorem held_clockMove (hs : HeldInReset s) (h : s.become s.watchClock = .next t) : HeldInReset t :=
  held_become hs (fun hc => still_watchClock (still_refl hc)) h

theorem held_tick (hs : HeldInReset s) (h : s.become s.tick = .next t) : HeldInReset t := by
  refine held_become hs (fun hc => ?_) h
  have hup : s.coreUp = false := by simp [State.coreUp, hc]
  unfold State.tick
  rw [if_neg (by simp [hup])]
  exact still_ite (fun _ => still_refl hc) fun _ => still_refl hc

/-! Every command. -/

theorem held_exec (c : Instr) (hs : HeldInReset s) (h : exec c s = .next t) : HeldInReset t := by
  cases c with
  | porstNAssert => cases h; exact fun _ => powerReset_atReset s true
  | porstNRelease => exact held_porstNRelease hs h
  | blkRstNAssert => exact held_blkRstNAssert hs h
  | blkRstNRelease => exact held_blkRstNRelease hs h
  | coreClkStop => exact held_clockMove (held_clocked (held_copyTime hs) false) h
  | coreClkReturn => exact held_clockMove (held_clocked hs true) h
  | ptpRefclkStop => cases h; exact hs
  | ptpRefclkReturn => exact held_clockMove (s := { s with refClk := true }) hs h
  | registerWrite | counterClear => exact held_busWrite hs h
  | counterLowRead a => exact held_become hs (fun hc => still_slaveRead (still_refl hc) a) h
  | tpgTimeFracRead => exact held_become hs (fun hc => still_slaveRead (still_refl hc) _) h
  | phStatusRead a => exact held_become hs (fun hc => still_onUnit (still_refl hc) _ (still_slaveRead (still_refl hc) _)) h
  | fldLinkChange l up => exact held_become hs (fun hc => still_onUnit (still_refl hc) _ (still_fldLinkChange (still_refl hc) l up)) h
  | belLevelChange i l => exact held_become hs (fun hc => still_onUnit (still_refl hc) _ (still_levelChange (still_refl hc) i l)) h
  | phyIntChange n l => exact held_become hs (fun hc => still_onUnit (still_refl hc) _ (still_levelChange (still_refl hc) _ l)) h
  | blockResetRelease => exact held_coreRow rfl (fun hoff => by simp [State.gate, carrier, role, State.acts, State.coreUp, hoff]) hs h
  | faultCapture i w y => exact held_runAonOn (fun _ hu => still_capture hu i w y) hs h
  | railStateChange i st => exact held_runAonOn (fun _ hu => still_railFollows hu i st) hs h
  | resetShadowEnd b => exact held_runAonOn (fun _ hu => still_shadowEnd hu b) hs h
  | episodeEnd => exact held_runAon (fun _ hu => still_episodeEnd hu) hs h
  | chipRstReqRelease =>
    exact held_runAon (fun _ hu => still_ite (fun _ => still_put hu .MNT_RST_STATUS_CHIP_REQ 0 0 rfl) fun _ => hu) hs h
  | domeHoldClear w | pinHoldClear w => exact held_runAon (fun _ hu => still_fltStatusWrite hu w) hs h
  | fltIrqClear i => exact held_runAonOn (fun _ hu => still_irqClear hu i) hs h
  | firedClear i => exact held_runAonOn (fun _ hu => still_firedClear hu i) hs h
  | nmtClear m => exact held_runAon (fun _ hu => still_nmtClear hu m) hs h
  | firstErrorClear => exact held_runAon (fun _ hu => still_firstClear hu) hs h
  | lanternArm k => exact held_runAon (fun _ hu => still_lanternArm hu k) hs h
  | lanternStop k => exact held_runAon (fun _ hu => still_lanternStop hu k) hs h
  | lanternHalfPeriod => exact held_runAon (fun _ hu => still_lanternEdge hu) hs h
  | fltInjArm w => exact held_runAon (fun _ hu => still_injDataWrite hu w) hs h
  | mntChipReset k => exact held_runAon (fun _ hu => still_mntChip hu k) hs h
  | mntBlockReset k b => exact held_runAon (fun _ hu => still_mntBlock hu k _) hs h
  | logRecordWrite => exact held_runAon (fun _ hu => still_logDrain hu) hs h
  | logFreeze => exact held_runAon (fun _ hu => still_logFreeze hu true) hs h
  | logUnfreeze => exact held_runAon (fun _ hu => still_logUnfreeze hu) hs h
  | logAccIdxWrite w => exact held_runAon (fun _ hu => still_logAccWrite hu w) hs h
  | logAccessReady => exact held_runAon (fun _ hu => still_ite (fun _ => hu) fun _ => still_logAccReady hu) hs h
  | maintRead a =>
    have hread (u : State) (hu : CoreStill s u) : CoreStill s ((u.maintLoad a).2.mntAnswer (u.maintLoad a).1
        (u.maintStatus false (maintReg a).isNone)) := still_mntAnswer (still_maintLoad hu a) _ _
    exact held_runAon hread hs h
  | maintWrite a w => exact held_ite (held_runAon (fun _ hu => still_mntAnswer (still_maintStore hu a w) _ _) hs) h
  | maintBadOp op => exact held_runAon (fun _ hu => still_ite (fun _ => hu) fun _ => still_mntAnswer hu _ _) hs h
  | maintFrameCut op a w k => exact held_ite (held_runAon (fun _ hu => still_maintCut hu op a w k) hs) h
  | _ => exact held_blockRow rfl rfl hs h

/-- Settles O5, by the command at the front of the queue, or the clocks' cycle where none waits. -/
theorem heldCoreKeepsItsResetValues : Obligations.HeldCoreKeepsItsResetValues := by
  intro s t hs h
  unfold step at h
  split at h
  · exact held_tick hs h
  · rename_i c rest _
    exact held_exec (s := { s with pending := rest }) c hs h

end Sys2Proof.Machine
end

section
/-! The resets, the clocks and the start-up (R66, R67, R383, R400). -/
namespace Sys2Proof.Machine

/-! The collector's watch over CORE_CLK, case by case (R383). -/

theorem watchClock_off {s : State} (h : s.aonUp = false) : s.watchClock = s := by simp [State.watchClock, h]

theorem watchClock_ok {s : State} (h : s.aonUp = true) (hok : s.blkLow = true ∨ s.coreClk = true) :
    s.watchClock = s.put .FLT_SRC_STATUS_RAIL 0 0 := by
  have hok' : (s.blkLow || s.coreClk) = true := by simpa using hok
  simp only [State.watchClock, h, hok', State.railFollows]
  rfl

theorem watchClock_fires {s : State} (h : s.aonUp = true) (hb : s.blkLow = false) (hc : s.coreClk = false) :
    s.watchClock = s.used.railLeaves 0 false (word s.free) := by simp [State.watchClock, h, hb, hc]

/-! PORST_N. -/

/-- A register at its reset value takes no entry. -/
theorem wr_reset {s : State} (h : s.regs = []) (r : Reg) (i : Nat) : s.wr r i (regReset r i) = s := by
  cases s
  cases h
  simp [State.wr, tset, tdel]

/-- Every register reads its reset value where none is away from it. -/
theorem rd_reset {s : State} (h : s.regs = []) (r : Reg) (i : Nat) : s.rd r i = regReset r i := by
  rw [State.rd, h, tfind_nil, Option.getD_none]

theorem railReset : Fld.into .FLT_SRC_STATUS_RAIL (regReset .FLT_SRC_STATUS 0) 0 = regReset .FLT_SRC_STATUS 0 := by decide

/-- Right after a power-on reset the collector finds nothing, unless CORE_CLK stands still. -/
theorem watchClock_powerReset (s : State) (h : s.coreClk = true ∨ s.refClk = false) :
    (s.powerReset false (!s.blkLow)).watchClock = s.powerReset false (!s.blkLow) := by
  generalize hp : s.powerReset false (!s.blkLow) = p
  have hregs : p.regs = [] := by rw [← hp]; rfl
  have hclk : p.coreClk = s.coreClk := by rw [← hp]; rfl
  have haon : p.aonUp = s.refClk := by rw [← hp]; rfl
  cases href : s.refClk with
  | false => exact watchClock_off (haon.trans href)
  | true =>
    have hrun : s.coreClk = true := h.resolve_right (by simp [href])
    rw [watchClock_ok (haon.trans href) (.inr (hclk.trans hrun)), State.put, rd_reset hregs]
    exact (congrArg (p.wr .FLT_SRC_STATUS 0) railReset).trans (wr_reset hregs _ 0)

/-- Settles O7, from the state that a power-on reset builds. -/
theorem powerOnResetGivesResetState : Obligations.PowerOnResetGivesResetState := by
  intro s
  refine ⟨rfl, rfl, watchClock_powerReset s, fun low on => ?_⟩
  exact ⟨rfl, rfl, rfl, rfl, rfl, rfl, rfl, rd_reset rfl, rfl, rfl, rfl, rfl, rfl, rfl, rfl⟩

/-! BLK_RST_N. -/

theorem rd_copyTime (s : State) (r : Reg) (i : Nat) : s.copyTime.rd r i = s.rd r i := by
  unfold State.copyTime; split <;> rfl

/-- The state that BLK_RST_N's fall leaves, before the collector looks. -/
def State.blkFallen (s : State) : State := { s.copyTime.coreReset false with blkLow := true }

/-- The state that its rise leaves, before the collector looks. -/
def State.blkRisen (s : State) : State :=
  if s.porstLow then { s with blkLow := false } else { s.coreReset true with blkLow := false }

/-- What a complex reset spares beside the registers. -/
structure Spared (s v : State) : Prop where
  pending : v.pending = s.pending
  keys : v.keys = s.keys
  logRing : v.logRing = s.logRing
  logQ : v.logQ = s.logQ
  raised : v.raised = s.raised
  shadowed : v.shadowed = s.shadowed
  episode : v.episode = s.episode
  lantern : v.lantern = s.lantern
  fldLink : v.fldLink = s.fldLink
  coreClk : v.coreClk = s.coreClk
  refClk : v.refClk = s.refClk
  porstLow : v.porstLow = s.porstLow

theorem spared_copyTime (s : State) : Spared s s.copyTime := by
  unfold State.copyTime; split <;> constructor <;> rfl

theorem spared_coreReset {s v : State} (h : Spared s v) (on low : Bool) : Spared s { v.coreReset on with blkLow := low } := by
  obtain ⟨_, _, _, _, _, _, _, _, _, _, _, _⟩ := h
  constructor <;> assumption

theorem spared_blkFallen (s : State) : Spared s s.blkFallen := spared_coreReset (spared_copyTime s) false true

theorem spared_blkRisen (s : State) : Spared s s.blkRisen := by
  unfold State.blkRisen
  split
  · constructor <;> rfl
  · exact spared_coreReset (by constructor <;> rfl) true false

theorem rd_blkFallen (s : State) (r : Reg) (i : Nat) :
    s.blkFallen.rd r i = if isAon r = true ∨ r = .SES_KEY_STATUS then s.rd r i else regReset r i := by
  rw [← rd_copyTime s r i]
  exact rd_coreReset s.copyTime false r i

theorem blkRisen_inReset {s : State} (h : s.porstLow = true) : s.blkRisen = { s with blkLow := false } := if_pos h
theorem blkRisen_outOfReset {s : State} (h : s.porstLow = false) : s.blkRisen = { s.coreReset true with blkLow := false } :=
  if_neg (by simp [h])

theorem blkLow_blkRisen (s : State) : s.blkRisen.blkLow = false := by unfold State.blkRisen; split <;> rfl

theorem rd_blkRisen (s : State) (r : Reg) (i : Nat) :
    s.blkRisen.rd r i = if isAon r = true ∨ r = .SES_KEY_STATUS ∨ s.porstLow = true then s.rd r i else regReset r i := by
  cases hp : s.porstLow with
  | true => rw [blkRisen_inReset hp, if_pos (.inr (.inr rfl))]; rfl
  | false =>
    rw [blkRisen_outOfReset hp]
    exact (rd_coreReset s true r i).trans (by simp)

theorem exec_blkFall {s : State} (h : s.blkLow = false) : exec .blkRstNAssert s = .next s.blkFallen.watchClock :=
  congrArg Host.Outcome.next (if_neg (by simp [h]))

theorem exec_blkRise {s : State} (h : s.blkLow = true) : exec .blkRstNRelease s = .next s.blkRisen.watchClock := by
  refine congrArg Host.Outcome.next ((if_neg (by simp [h])).trans ?_)
  by_cases hp : s.porstLow = true
  · have hoff : State.aonUp { s with blkLow := false } = false := by simp [State.aonUp, hp]
    rw [blkRisen_inReset hp, watchClock_off hoff]
    exact if_pos hp
  · rw [blkRisen_outOfReset (Bool.eq_false_iff.2 hp)]
    exact if_neg hp

/-- The level of BLK_RST_N is not among what is spared. -/
theorem spared_anyLevel {s v : State} {b : Bool} (h : Spared { s with blkLow := b } v) : Spared s v := by
  obtain ⟨_, _, _, _, _, _, _, _, _, _, _, _⟩ := h
  constructor <;> assumption

/-- Settles O8: a pin that moves resets, one that does not leaves the state, and the collector looks in each of its cases. -/
theorem complexResetSparesAlwaysOnAndKeys : Obligations.ComplexResetSparesAlwaysOnAndKeys := by
  refine ⟨fun s => ?_, fun s => ⟨watchClock_off, watchClock_ok, watchClock_fires⟩⟩
  let low : State := { s with blkLow := true }
  let high : State := { s with blkLow := false }
  refine ⟨high.blkFallen, low.blkRisen, exec_blkFall rfl, rfl, rfl, coreReset_atReset high.copyTime, exec_blkRise rfl,
    blkLow_blkRisen low, fun hp => blkRisen_inReset (s := low) hp, fun hp => ?_, rfl, rfl, fun v hv => ?_⟩
  · rw [blkRisen_outOfReset (s := low) hp]
    exact ⟨rfl, rfl, coreReset_atReset low⟩
  · have hkept : Spared s v ∧ ∀ r i, v.rd r i =
        if isAon r = true ∨ r = .SES_KEY_STATUS ∨ (v.blkLow = false ∧ s.porstLow = true) then s.rd r i else regReset r i := by
      simp only [List.mem_cons, List.not_mem_nil, or_false] at hv
      rcases hv with rfl | rfl
      · have hlow : high.blkFallen.blkLow = true := rfl
        exact ⟨spared_anyLevel (spared_blkFallen high),
          fun r i => (rd_blkFallen high r i).trans (if_congr (by simp [hlow]) rfl rfl)⟩
      · exact ⟨spared_anyLevel (spared_blkRisen low),
          fun r i => (rd_blkRisen low r i).trans (if_congr (by simp [blkLow_blkRisen, low]) rfl rfl)⟩
    obtain ⟨⟨h1, h2, h3, h4, h5, h6, h7, h8, h9, h10, h11, h12⟩, hrd⟩ := hkept
    exact ⟨h1, h2, h3, h4, h5, h6, h7, h8, h9, h10, h11, h12, hrd⟩

end Sys2Proof.Machine
end

section
/-! The clocks, the fuse read and memory initialisation (R67, R383, R400, R440). -/
namespace Sys2Proof.Machine

/-! The clocks. -/

/-- What the collector's look makes of a clock's move. -/
theorem outside_watchClock (s : State) : s.outside s.watchClock =
    if s.aonUp = false then s
    else if s.blkLow = true ∨ s.coreClk = true then s.put .FLT_SRC_STATUS_RAIL 0 0
    else s.outside (s.used.railLeaves 0 false (word s.free)) := by
  by_cases haon : s.aonUp = false
  · rw [if_pos haon, watchClock_off haon]; rfl
  · rw [if_neg haon]
    rw [Bool.not_eq_false] at haon
    by_cases hok : s.blkLow = true ∨ s.coreClk = true
    · rw [if_pos hok, watchClock_ok haon hok]; rfl
    · rw [if_neg hok]
      simp only [not_or, Bool.not_eq_true] at hok
      rw [watchClock_fires haon hok.1 hok.2]

theorem copyTime_clocked (s : State) :
    s.copyTime.clocked false = { s with coreClk := false, logCopy := if s.coreUp then s.ns else s.logCopy } := by
  unfold State.copyTime State.clocked
  cases s.coreUp <;> rfl

theorem exec_coreClkStop (s : State) : exec .coreClkStop s =
    .next ((s.copyTime.clocked false).outside (s.copyTime.clocked false).watchClock) := rfl

/-! The fuse read. -/

/-- The state at the end of the fuse read, but for the fault source that a failed read raises. -/
def State.fuseOver (s : State) (code : Nat) : State :=
  ({ (s.put .GLB_BOOT_FUSE_DONE 0 1).put .GLB_BOOT_FUSE_ERR 0 code with fusing := false, memInit := true } : State).putFlag
    .FLT_STATUS_FACTORY 0 (code == 0 && wbit (nth s.fuse 0 0) 31)

theorem fuseEnd_ok (s : State) : s.fuseEnd 0 = s.fuseOver 0 := rfl
theorem fuseEnd_failed (s : State) {code : Nat} (h : code ≠ 0) : s.fuseEnd code = (s.fuseOver code).raiseFree 1 := if_neg h

theorem fuseAck_idle {s : State} (h : s.fusing = false) (w : Word) : s.fuseAck w = s := if_pos (by simp [h])

theorem fuseAck_more {s : State} (h : s.fusing = true) (hl : s.fuse.length < 63) (w : Word) :
    s.fuseAck w = { s with fuse := s.fuse ++ [w] } := by
  have hlen : (s.fuse ++ [w]).length < 64 := by rw [List.length_append, List.length_singleton]; omega
  exact (if_neg (by simp [h])).trans (if_pos hlen)

/-- The CRC of a complete read (R67). -/
theorem fuseCrcOk_complete {l : List Word} (hl : l.length = 63) (w : Word) :
    fuseCrcOk (l ++ [w]) = decide (crc32c (bytesOf l) = w.toNat) := by
  have htake : (l ++ [w]).take 63 = l := by rw [← hl, List.take_left]
  have hlast : nth (l ++ [w]) 63 0 = w := by simp [nth, ← hl]
  rw [fuseCrcOk, htake, hlast, beq_eq_decide]

theorem fuseAck_last {s : State} (h : s.fusing = true) (hl : s.fuse.length = 63) (w : Word) :
    s.fuseAck w = ({ s with fuse := s.fuse ++ [w] } : State).fuseEnd (if crc32c (bytesOf s.fuse) = w.toNat then 0 else 2) := by
  have hlen : ¬(s.fuse ++ [w]).length < 64 := by rw [List.length_append, List.length_singleton]; omega
  refine (if_neg (by simp [h])).trans ((if_neg hlen).trans ?_)
  show State.fuseEnd _ (if fuseCrcOk (s.fuse ++ [w]) = true then 0 else 2) = _
  simp only [fuseCrcOk_complete hl, decide_eq_true_eq]

/-- A FUSE_ACK of the block that can act. -/
theorem exec_fuseAck {s : State} (hup : s.up 20 = true) (w : Word) : exec (.fuseAck w) s = s.become (s.fuseAck w) := run_up _ hup

theorem exec_fuseTimeout {s : State} (hup : s.up 20 = true) :
    exec .fuseTimeout s = s.become (if s.fusing then s.fuseEnd 1 else s) := run_up _ hup

theorem exec_fuseAck_last {s : State} (hup : s.up 20 = true) (h : s.fusing = true) (hl : s.fuse.length = 63) (w : Word) :
    exec (.fuseAck w) s = if crc32c (bytesOf s.fuse) = w.toNat then .next (State.fuseOver { s with fuse := s.fuse ++ [w] } 0)
      else .next (s.outside ((State.fuseOver { s with fuse := s.fuse ++ [w] } 2).raiseFree 1)) := by
  rw [exec_fuseAck hup, fuseAck_last h hl]
  split
  · rfl
  · rw [fuseEnd_failed _ (by decide)]; rfl

/-! Memory initialisation. -/

theorem exec_memInitDone {s : State} (hup : s.up 20 = true) : exec .memInitDone s =
    s.become (if s.memInit then ({ s.clearMemories with memInit := false } : State).put .GLB_BOOT_MEM_INIT_DONE 0 1 else s) := run_up _ hup

/-- Settles O9, from the collector's look, the moments of the fuse read and the end of memory initialisation. -/
theorem clocksFuseReadAndMemoryInitEndBoot : Obligations.ClocksFuseReadAndMemoryInitEndBoot := by
  refine ⟨fun s => ⟨?_, ?_, rfl, ?_⟩, fun w s hup => ⟨fun hidle => ⟨?_, ?_⟩, fun hread => ?_, fun hread hlen => ?_, fun hread hlen => ?_⟩,
    fun s hup => ⟨fun hidle => ?_, fun hinit => ?_⟩⟩
  · rw [exec_coreClkStop, copyTime_clocked, outside_watchClock]
  · exact congrArg Host.Outcome.next (outside_watchClock { s with coreClk := true })
  · exact congrArg Host.Outcome.next (outside_watchClock { s with refClk := true })
  · rw [exec_fuseAck hup, fuseAck_idle hidle]; rfl
  · rw [exec_fuseTimeout hup, hidle]; rfl
  · rw [exec_fuseTimeout hup, hread, if_pos rfl, fuseEnd_failed s (by decide)]; rfl
  · rw [exec_fuseAck hup, fuseAck_more hread hlen]; rfl
  · exact exec_fuseAck_last hup hread hlen w
  · rw [exec_memInitDone hup, hidle]; rfl
  · rw [exec_memInitDone hup, hinit]; rfl

end Sys2Proof.Machine
end

section
/-! Reference counts and the ticket lanes (R25 to R33, R40 to R45, R244). -/
namespace Sys2Proof.Machine

/-! What leaves the live frames and the queues alone. -/

/-- The live frames and the queues. -/
def State.frameStore (s : State) : List (Nat × DFrame) × List (Nat × List Copy) := (s.frames, s.queues)

theorem frameStore_ite {s t u : State} {c : Prop} [Decidable c] (ht : t.frameStore = s.frameStore) (hu : u.frameStore = s.frameStore) :
    (if c then t else u).frameStore = s.frameStore := by
  split
  · exact ht
  · exact hu

theorem frameStore_inc (s : State) (f : Fld) (i : Nat) : (s.inc f i).frameStore = s.frameStore := by
  have hp (t : State) (k : Nat) : (t.pulse k).frameStore = t.frameStore :=
    show (t.pulse k).besideBel.frameStore = t.besideBel.frameStore by rw [besideBel_pulse]
  have hm (t : State) (k : Nat) : (t.satMark k).frameStore = t.frameStore := by rw [satMark_eq]; split <;> rfl
  exact frameStore_ite ((hp _ _).trans (hm _ _)) rfl

theorem frameStore_countDrop (s : State) (col p : Nat) : (s.countDrop col p).frameStore = s.frameStore := by
  unfold State.countDrop
  split <;> exact frameStore_inc s _ p

theorem frameStore_memWrite (s : State) (m a : Nat) : (s.memWrite m a).frameStore = s.frameStore := frameStore_ite rfl rfl

theorem frameStore_drrRest (s : State) (p k : Nat) : (s.drrRest p k).frameStore = s.frameStore := frameStore_ite rfl rfl

theorem frameStore_flowControl (s : State) (p : Nat) : (s.flowControl p).frameStore = s.frameStore := by
  have hpause : (s.fcPause p).frameStore = s.frameStore := frameStore_ite rfl (frameStore_ite rfl rfl)
  have hpfc (t : State) : (t.fcPfc p).frameStore = t.frameStore := frameStore_ite rfl rfl
  exact frameStore_ite ((hpfc _).trans hpause) rfl

/-! Queues and frames that change. -/

theorem frameStore_setQueue (s : State) (q : Nat) (l : List Copy) :
    (s.setQueue q l).frameStore = (s.frames, tput [] s.queues q l) := by
  rw [State.setQueue, frameStore_drrRest]; rfl

theorem frames_setQueue (s : State) (q : Nat) (l : List Copy) : (s.setQueue q l).frames = s.frames :=
  congrArg Prod.fst (frameStore_setQueue s q l)
theorem queues_setQueue (s : State) (q : Nat) (l : List Copy) : (s.setQueue q l).queues = tput [] s.queues q l :=
  congrArg Prod.snd (frameStore_setQueue s q l)

theorem frameStore_addRef (s : State) (h : Nat) (f : DFrame) :
    (s.addRef h f).frameStore = (tset s.frames h (some { f with refs := f.refs + 1 }), s.queues) := frameStore_memWrite _ _ _

theorem offer_over {s : State} {h q col edit handle cls : Nat} {f : DFrame}
    (ho : s.threshold (s.queueClass q) col < s.queueCells q + f.cells) : s.offer h f q col edit handle cls =
      (false, (s.inc .DOME_CLASS_DROP_COUNT (s.queueClass q)).countDrop col (queuePort q)) := if_pos ho

/-- The finish tag that a copy of the frame would get (R253). -/
def State.offerTag (s : State) (f : DFrame) (q edit : Nat) : Option Nat :=
  s.finishTag (queuePort q) (s.queueClass q) q (s.wireLength f edit + s.get .SCH_PORT_CFG_OVERHEAD (queuePort q))

theorem offer_untagged {s : State} {h q col edit handle cls : Nat} {f : DFrame}
    (ho : ¬s.threshold (s.queueClass q) col < s.queueCells q + f.cells) (ht : s.offerTag f q edit = none) :
    s.offer h f q col edit handle cls = (false, s.inc .SCH_TAG_REJ_COUNT (queuePort q)) := by
  unfold State.offerTag at ht
  simp only [State.offer, if_neg ho, ht]

theorem offer_tagged {s : State} {h q col edit handle cls t : Nat} {f : DFrame}
    (ho : ¬s.threshold (s.queueClass q) col < s.queueCells q + f.cells) (ht : s.offerTag f q edit = some t) :
    ∃ (c : Copy) (l : List (Nat × Nat)), c.head = h ∧ s.offer h f q col edit handle cls =
      (true, { (s.setQueue q (s.queue q ++ [c])).addRef h f with fLast := l }) := by
  unfold State.offerTag at ht
  simp only [State.offer, if_neg ho, ht]
  exact ⟨_, _, rfl, rfl⟩

/-- What an offered copy comes to (R244, R253): it is rejected, and frames and queues stay, or it joins its queue's end and its frame
has one reference more. -/
theorem offer_cases (s : State) (h : Nat) (f : DFrame) (q col edit handle cls : Nat) :
    ((s.offer h f q col edit handle cls).1 = false ∧ (s.offer h f q col edit handle cls).2.frameStore = s.frameStore) ∨
    ((s.offer h f q col edit handle cls).1 = true ∧ ∃ c : Copy, c.head = h ∧ (s.offer h f q col edit handle cls).2.frameStore =
      (tset s.frames h (some { f with refs := f.refs + 1 }), tput [] s.queues q (s.queue q ++ [c]))) := by
  by_cases ho : s.threshold (s.queueClass q) col < s.queueCells q + f.cells
  · rw [offer_over ho]
    exact .inl ⟨rfl, (frameStore_countDrop _ _ _).trans (frameStore_inc _ _ _)⟩
  · cases ht : s.offerTag f q edit with
    | none =>
      rw [offer_untagged ho ht]
      exact .inl ⟨rfl, frameStore_inc _ _ _⟩
    | some t =>
      obtain ⟨c, l, hc, htaken⟩ := offer_tagged (h := h) (handle := handle) (cls := cls) ho ht
      rw [htaken]
      refine .inr ⟨rfl, c, hc, (frameStore_addRef _ h f).trans ?_⟩
      rw [frames_setQueue, queues_setQueue]

/-- A copy that is taken. -/
theorem offer_taken {s : State} {h q col edit handle cls : Nat} {f : DFrame} (ho : (s.offer h f q col edit handle cls).1 = true) :
    (s.offer h f q col edit handle cls).2.frame h = some { f with refs := f.refs + 1 } ∧
    (∃ c : Copy, c.head = h ∧ (s.offer h f q col edit handle cls).2.queue q = s.queue q ++ [c]) ∧
    ∀ k, k ≠ q → (s.offer h f q col edit handle cls).2.queue k = s.queue k := by
  rcases offer_cases s h f q col edit handle cls with ⟨hno, -⟩ | ⟨-, c, hc, hstore⟩
  · rw [ho] at hno; cases hno
  · obtain ⟨hframes, hqueues⟩ := Prod.mk.inj hstore
    refine ⟨?_, ⟨c, hc, ?_⟩, fun k hk => ?_⟩
    · rw [State.frame, hframes, tfind_tset_same]
    · rw [State.queue, hqueues, tget_tput_same]
    · rw [State.queue, hqueues, tget_tput_other _ _ _ _ _ hk]; rfl

/-- A copy that is rejected. -/
theorem offer_rejected {s : State} {h q col edit handle cls : Nat} {f : DFrame} (ho : (s.offer h f q col edit handle cls).1 = false) :
    (s.offer h f q col edit handle cls).2.frames = s.frames ∧ (s.offer h f q col edit handle cls).2.queues = s.queues := by
  rcases offer_cases s h f q col edit handle cls with ⟨-, hstore⟩ | ⟨hyes, -⟩
  · exact Prod.mk.inj hstore
  · rw [ho] at hyes; cases hyes

/-! Releases (R45). -/

theorem switchOpen_iff {s : State} (hup : s.up 8 = true) :
    s.switchOpen = true ↔ s.committed = true ∧ s.flag .FLT_STATUS_DOME_HOLD = false := by
  simp [State.switchOpen, hup]

theorem switchOpen_shut {s : State} (hup : s.up 8 = true) (h : ¬(s.committed = true ∧ s.flag .FLT_STATUS_DOME_HOLD = false)) :
    s.switchOpen = false := Bool.eq_false_iff.2 (mt (switchOpen_iff hup).1 h)

theorem exec_referenceRelease {s : State} {lane : Nat} (hl : lane < 2) (hup : s.up 8 = true) (h : Nat) (more : Bool) :
    exec (.referenceRelease lane h more) s = s.become ((s.release h).endUnless more) := runOn_up _ hl hup

theorem release_shut {s : State} (hshut : s.switchOpen = false) (h : Nat) : s.release h = s := if_pos (by simp [hshut])

theorem release_dead {s : State} (hopen : s.switchOpen = true) {h : Nat} (hf : s.frame h = none) :
    s.release h = s.egtError 1 true 0 := by simp [State.release, hopen, hf]

theorem release_live {s : State} (hopen : s.switchOpen = true) {h : Nat} {f : DFrame} (hf : s.frame h = some f) :
    s.release h = s.dropRef h := by simp [State.release, hopen, hf]

/-! The end of a cycle (R32). -/

theorem cycleEnd_idle {s : State} (h : s.taken = []) : s.cycleEnd = s := by
  cases s; cases h; rfl

theorem taken_dropRef (s : State) (h : Nat) : tget 0 (s.dropRef h).taken h = tget 0 s.taken h + 1 :=
  tget_tput_same 0 s.taken h (tget 0 s.taken h + 1)

theorem cycleEnd_dropRef {s : State} (h : Nat) (hs : s.taken = []) : (s.dropRef h).cycleEnd = s.takeRefs h 1 := by
  cases s; cases hs; rfl

/-- A descriptor without an error reads and changes nothing. -/
theorem descRead_ok {s : State} {h : Nat} (he : s.eccOf 2 h .ok = .ok) : s.descRead h = s := by
  unfold State.descRead
  rw [he]
  split <;> rfl

theorem takeRefs_ok {s : State} {h : Nat} {f : DFrame} (hf : s.frame h = some f) (he : s.eccOf 2 h .ok = .ok) (k : Nat) :
    s.takeRefs h k = if k < f.refs then (s.setFrame h { f with refs := f.refs - k }).memWrite 2 h
      else ((if f.refs < k then s.egtError 6 true 0 else s).freeFrame h).memWrite 2 h := by
  simp only [State.takeRefs, descRead_ok he, hf]

theorem frames_freeFrame (s : State) (h : Nat) : (s.freeFrame h).frames = tset s.frames h none ∨ s.frame h = none ∧ s.freeFrame h = s := by
  unfold State.freeFrame
  split
  · exact .inr ⟨‹_›, rfl⟩
  · refine .inl ?_
    split
    · exact congrArg Prod.fst (frameStore_flowControl _ _)
    · rfl

theorem frame_freeFrame (s : State) (h : Nat) : (s.freeFrame h).frame h = none ∧ ∀ j, j ≠ h → (s.freeFrame h).frame j = s.frame j := by
  rcases frames_freeFrame s h with hfree | ⟨hnone, hsame⟩
  · exact ⟨by rw [State.frame, hfree, tfind_tset_same], fun j hj => by rw [State.frame, hfree, tfind_tset_other _ _ _ _ hj]; rfl⟩
  · rw [hsame]; exact ⟨hnone, fun _ _ => rfl⟩

/-- Settles O21, from what an offer comes to, what a release does, and what the end of its cycle makes of a count. -/
theorem referencesFollowCopies : Obligations.ReferencesFollowCopies := by
  intro lane h q col edit handle cls k more f s hl hup
  have hrel := exec_referenceRelease hl hup h more
  refine ⟨fun _ ho => offer_taken ho, offer_rejected, fun ho => by rw [offer_over ho], fun hcom hhold => ⟨fun hf => ?_, fun hf => ?_⟩,
    fun hshut => ?_, ⟨taken_dropRef s h, rfl⟩, fun hs => ⟨cycleEnd_idle hs, cycleEnd_dropRef h hs⟩,
    fun hf he => ⟨fun hk => ?_, fun hk => ?_, fun hk => ?_⟩, frame_freeFrame s h⟩
  · rw [hrel, release_dead ((switchOpen_iff hup).2 ⟨hcom, hhold⟩) hf]; rfl
  · rw [hrel, release_live ((switchOpen_iff hup).2 ⟨hcom, hhold⟩) hf]; rfl
  · have hno : ¬(s.committed = true ∧ s.flag .FLT_STATUS_DOME_HOLD = false) := fun ⟨hc, hh⟩ => by
      rcases hshut with h1 | h1
      · rw [hc] at h1; cases h1
      · rw [hh] at h1; cases h1
    rw [hrel, release_shut (switchOpen_shut hup hno)]; rfl
  · rw [takeRefs_ok hf he, if_pos hk]
  · rw [takeRefs_ok hf he, if_neg (by omega), if_neg (by omega)]
  · rw [takeRefs_ok hf he, if_neg (by omega), if_pos hk]

end Sys2Proof.Machine
end

section
/-! The lanes of the ticket interfaces, and the checks of an egress ticket (R27, R40 to R44). -/
namespace Sys2Proof.Machine

variable {s : State} {lane : Nat}

/-! The lanes. -/

theorem exec_itkTransfer (hl : lane < 2) (hup : s.up 8 = true) : exec (.itkTransfer lane) s = s.become (s.itkTransfer lane) :=
  runOn_up _ hl hup

theorem exec_etkTransfer (hl : lane < 2) (hup : s.up 8 = true) (a b c d : Word) :
    exec (.etkTransfer lane a b c d) s = s.become (s.etkTransfer lane [a, b, c, d]) := runOn_up _ hl hup

theorem itkTransfer_none (h : s.itk lane = []) : s.itkTransfer lane = s := by simp only [State.itkTransfer, h]

theorem itkTransfer_shut (h : s.switchOpen = false) : s.itkTransfer lane = s := by
  unfold State.itkTransfer
  split
  · rfl
  · rw [h]; rfl

theorem itkTransfer_open {tk : List Word} {rest : List (List Word)} (ho : s.switchOpen = true) (h : s.itk lane = tk :: rest) :
    s.itkTransfer lane = ({ s with itkQ := tput [] s.itkQ lane rest } : State).emit (.ticket lane tk) := by
  simp only [State.itkTransfer, h, ho, if_true]

theorem etkTransfer_refused (tk : List Word) (h : s.switchOpen = false ∨ 64 ≤ (s.etk lane).length) : s.etkTransfer lane tk = s := by
  refine if_neg ?_
  rw [Bool.and_eq_true, decide_eq_true_eq]
  rintro ⟨ho, hlen⟩
  rcases h with h | h
  · rw [ho] at h; cases h
  · omega

theorem etkTransfer_taken (tk : List Word) (ho : s.switchOpen = true) (hlen : (s.etk lane).length < 64) :
    s.etkTransfer lane tk = { s with etkQ := tput [] s.etkQ lane (s.etk lane ++ [tk]) } := if_pos (by simp [ho, hlen])

/-! The checks of an egress ticket. -/

theorem exec_egressTicketProcess (hl : lane < 2) (hup : s.up 8 = true) (more : Bool) :
    exec (.egressTicketProcess lane more) s = s.become (s.etkProcess lane more) := runOn_up _ hl hup

theorem etkProcess_none (h : s.etk lane = []) (more : Bool) : s.etkProcess lane more = s.endUnless more := by
  simp only [State.etkProcess, h]

theorem etkProcess_oldest {tk : List Word} {rest : List (List Word)} (h : s.etk lane = tk :: rest) (more : Bool) :
    s.etkProcess lane more = (({ s with etkQ := tput [] s.etkQ lane rest } : State).processTicket tk).endUnless more := by
  simp only [State.etkProcess, h]

/-- A ticket for a head cell that is not live. -/
theorem processTicket_dead {tk : List Word} (h : s.frame (wbits (nth tk 0 0) 16 0) = none) :
    s.processTicket tk = s.egtError 1 false (wbits (nth tk 1 0) 10 0) := by
  have hread : s.descRead (wbits (nth tk 0 0) 16 0) = s := if_pos (by rw [h]; rfl)
  have herr : s.ticketError (wbits (nth tk 0 0) 16 0) (wbits (nth tk 0 0) 30 17) (wbits (nth tk 1 0) 10 0) (wbits (nth tk 1 0) 18 11) = 1 := by
    simp only [State.ticketError, h]
  simp only [State.processTicket, hread, herr, h, Option.isSome_none, Bool.and_false, Bool.false_eq_true, if_false]
  rfl

theorem ticketError_live {h : Nat} {f : DFrame} (hf : s.frame h = some f) (len dst qsel : Nat) :
    s.ticketError h len dst qsel = if f.length ≠ len then 2 else if s.dstError dst qsel ≠ 0 then s.dstError dst qsel
      else if 4095 ≤ f.refs then 5 else 0 := by
  simp only [State.ticketError, hf]

/-- What follows from the first of three checks that fails, by its cause, or from none. -/
theorem firstFailing {α : Type} (len refs : Prop) [Decidable len] [Decidable refs] (dst : Nat) (failed : Nat → α) (passed : α) :
    (if (if len then 2 else if dst ≠ 0 then dst else if refs then 5 else 0) ≠ 0
      then failed (if len then 2 else if dst ≠ 0 then dst else if refs then 5 else 0) else passed) =
    if len then failed 2 else if dst ≠ 0 then failed dst else if refs then failed 5 else passed := by
  by_cases hl : len
  · simp [hl]
  · by_cases hd : dst ≠ 0
    · simp [hl, hd]
    · by_cases hr : refs <;> simp [hl, hd, hr]

/-- A ticket for a live frame whose descriptor reads: the first check that fails, or the offer, and then the release. -/
theorem processTicket_live {tk : List Word} {f : DFrame} (h : s.frame (wbits (nth tk 0 0) 16 0) = some f)
    (he : s.eccOf 2 (wbits (nth tk 0 0) 16 0) .ok = .ok) :
    let hd := wbits (nth tk 0 0) 16 0
    let dst := wbits (nth tk 1 0) 10 0
    let qsel := wbits (nth tk 1 0) 18 11
    let done (x : State) := if wbit (nth tk 0 0) 31 = true then x.dropRef hd else x
    s.processTicket tk = done (
      if f.length ≠ wbits (nth tk 0 0) 30 17 then s.egtError 2 false dst
      else if s.dstError dst qsel ≠ 0 then s.egtError (s.dstError dst qsel) false dst
      else if 4095 ≤ f.refs then s.egtError 5 false dst
      else (s.enqueueTicket hd dst qsel (wbits (nth tk 1 0) 24 23) (wbits (nth tk 1 0) 21 19) (wbits (nth tk 2 0) 19 12)
        (wbits (nth tk 2 0) 11 0) tk).2) := by
  have hlive : (s.frame (wbits (nth tk 0 0) 16 0)).isSome = true := by rw [h]; rfl
  simp only [State.processTicket, descRead_ok he, ticketError_live h, hlive, Bool.and_true]
  rw [firstFailing _ _ _ fun e => s.egtError e false (wbits (nth tk 1 0) 10 0)]

/-- Settles O20: each lane's oldest ticket by whether the interface is open, and an egress ticket by its first failing check. -/
theorem ticketLanesKeepTheirOrder : Obligations.TicketLanesKeepTheirOrder := by
  refine ⟨fun lane a b c d tk rest s hl hup => ⟨fun h => ?_, fun h ho => ?_, fun h => ?_, fun ho hlen => ?_⟩,
    fun lane more tk rest s hl hup => ⟨fun h => ?_, fun h hf => ?_, fun f h hf he => ?_⟩⟩
  · have hstill : s.itkTransfer lane = s := h.elim itkTransfer_none fun hno => itkTransfer_shut (switchOpen_shut hup hno)
    rw [exec_itkTransfer hl hup, hstill]; rfl
  · refine ⟨_, (exec_itkTransfer hl hup).trans (congrArg s.become (itkTransfer_open ((switchOpen_iff hup).2 ho) h)), rfl, ?_, ?_, rfl⟩
    · exact tget_tput_same [] s.itkQ lane rest
    · exact fun k hk => tget_tput_other [] s.itkQ lane k rest hk
  · rw [exec_etkTransfer hl hup, etkTransfer_refused _ (h.imp_left (switchOpen_shut hup))]; rfl
  · refine ⟨_, (exec_etkTransfer hl hup a b c d).trans (congrArg s.become (etkTransfer_taken _ ((switchOpen_iff hup).2 ho) hlen)), ?_, ?_, rfl⟩
    · exact tget_tput_same [] s.etkQ lane _
    · exact fun k hk => tget_tput_other [] s.etkQ lane k _ hk
  · rw [exec_egressTicketProcess hl hup, etkProcess_none h]; rfl
  · rw [exec_egressTicketProcess hl hup, etkProcess_oldest h, processTicket_dead (s := { s with etkQ := tput [] s.etkQ lane rest }) hf]; rfl
  · rw [exec_egressTicketProcess hl hup, etkProcess_oldest h, processTicket_live (s := { s with etkQ := tput [] s.etkQ lane rest }) hf he]; rfl

end Sys2Proof.Machine
end

section
/-! The start of a frame on a MAC port, and the moments of its reception (R19, R20, R95, R99 to R101, R111, R172, R243). -/
namespace Sys2Proof.Machine

variable {s : State} {p : Nat}

/-! The start. -/

/-- A port takes a frame's start: it listens, has LINK, is not in far-end loopback, and receives nothing yet. -/
def State.takesStart (s : State) (p : Nat) : Prop :=
  s.listens p = true ∧ s.link p = true ∧ s.get .MAC_CFG_LOOP p ≠ 2 ∧ s.rxOf p = none

/-- The reception that a frame on the medium begins, before it takes a cell. -/
def State.rxOpened (s : State) (p : Nat) (ok : Bool) (d : List Byte) : Rx :=
  let n := s.rxPort p d
  let st := s.segState p
  { bytes := d, port := n, badStart := !ok, ts := s.rxStamp n, maxFrame := s.maxFrame n, opp := s.rxOpp p n d
    half := s.halfDuplex p, plca := s.plcaPort p && st != segService && st != segToNormal, quar := !isTrunk p && st == segQuarantine }

/-- The state in which a start has been seen. -/
def State.rxSeen (s : State) (p : Nat) : State := (s.put .MAC_STATUS_RX_LPI p 0).used

theorem listens_eq (s : State) (p : Nat) : s.listens p = if p < 1024
    then s.onLane p && !(s.segOf p).deaf && (s.enabled p || (s.plcaPort p && (s.segOf p).carrier.isSome)) else s.enabled p := by
  unfold State.listens isTrunk
  by_cases h : p < 1024
  · rw [if_pos h, if_neg (by simpa using h)]
  · rw [if_neg h, if_pos (by simpa using h)]

theorem rxStart_shut (h : ¬s.takesStart p) (ok : Bool) (d : List Byte) : s.rxStart p ok d = s := by
  refine if_pos ?_
  by_contra hc
  refine h ?_
  simpa [State.takesStart, and_assoc] using hc

theorem rxStart_takes (h : s.takesStart p) (ok : Bool) (d : List Byte) : s.rxStart p ok d =
    if s.get .MAC_CFG_LOOP p = 1 then
      match (s.macOf p).back with
      | [] => s
      | x :: l => (s.setMac p { s.macOf p with back := l }).rxBegin p true (some x) (x.take (x.length - 4))
    else s.rxBegin p ok none d := by
  obtain ⟨hlisten, hlink, hloop, hidle⟩ := h
  exact if_neg (by simp [hlisten, hlink, hloop, hidle])

/-- A frame that takes no cell (R95, R112, R145). -/
theorem rxBegin_noCell {ok : Bool} {d : List Byte} (h : ok = false ∨ s.consumed p d = true ∨ (s.rxOpened p ok d).quar = true) :
    s.rxBegin p ok none d = (s.rxSeen p).setRx p (some (s.rxOpened p ok d)) := by
  refine if_pos ?_
  rw [Bool.or_eq_true, Bool.or_eq_true, Bool.not_eq_true', or_assoc]
  exact h

/-- A frame that the Spire does not take goes for its head cell. -/
theorem rxBegin_stored {d : List Byte} (hc : s.consumed p d = false) (hq : (s.rxOpened p true d).quar = false)
    (hspi : (s.rxSeen p).spiTreat p d [] = none) : s.rxBegin p true none d = (s.rxSeen p).takeHead p (s.rxOpened p true d) := by
  have hno : ¬((!true || s.consumed p d || (s.rxOpened p true d).quar) = true) := by simp [hc, hq]
  refine (if_neg hno).trans ?_
  show (match (s.rxSeen p).spiTreat p d [] with
    | some (x, _) => _
    | none => (s.rxSeen p).takeHead p (s.rxOpened p true d)) = _
  rw [hspi]

theorem takeHead_held (h : s.domeHeld = true) (r : Rx) : s.takeHead p r = s.setRx p (some { r with cut := true }) := if_pos h

theorem takeHead_floor (h : s.domeHeld = false) (hf : s.aboveFloor = false) (r : Rx) :
    s.takeHead p r = s.setRx p (some { r with noCell := true }) := (if_neg (by simp [h])).trans (if_pos (by simp [hf]))

theorem takeHead_takes (h : s.domeHeld = false) (hf : s.aboveFloor = true) (r : Rx) : s.takeHead p r =
    (((s.used.headWrite s.pickHead).setRx p (some { r with head := some s.pickHead, cells := cellsFor (min r.bytes.length 256), inflight := true
                                                           version := s.versionA, graph := s.img.graph })).notePeak).flowControl p :=
  (if_neg (by simp [h])).trans (if_neg (by simp [hf]))

theorem exec_rxFrameStart (hp : p < 1040) (hup : s.up (macBlock p) = true) (ok : Bool) (d : List Byte) :
    exec (.rxFrameStart p ok d) s = s.become (s.rxStart p ok d) := runOn_up _ hp hup

/-- A start on the medium, where no loopback returns frames. -/
theorem exec_rxFrameStart_medium (hp : p < 1040) (hup : s.up (macBlock p) = true) (h : s.takesStart p) (hl : s.get .MAC_CFG_LOOP p ≠ 1)
    (ok : Bool) (d : List Byte) : exec (.rxFrameStart p ok d) s = s.become (s.rxBegin p ok none d) := by
  rw [exec_rxFrameStart hp hup, rxStart_takes h, if_neg hl]

/-! During the reception. -/

/-- A reception whose frame has outgrown MAX_FRAME: it holds no cell any more (R100). -/
def Rx.shed (r : Rx) (d : List Byte) : Rx :=
  { r with bytes := d, oversize := true, head := none, fbHead := none, cells := 0, inflight := false }

theorem rxOversize_idle (h : s.rxOf p = none) (d : List Byte) : s.rxOversize p d = s := by simp only [State.rxOversize, h]
theorem rxJabber_idle (h : s.rxOf p = none) (err : Bool) : s.rxJabber p err = s := by simp only [State.rxJabber, h]
theorem rxGrow_idle (h : s.rxOf p = none) (d : List Byte) : s.rxGrow p d = s := by simp only [State.rxGrow, h]
theorem rxParse_idle (h : s.rxOf p = none) (bad : List (Nat × Nat)) : s.rxParse p bad = s := by simp only [State.rxParse, h]

/-- Byte MAX_FRAME + 1 of a frame that is not being cut through (R100). -/
theorem rxOversize_stored {r : Rx} (h : s.rxOf p = some r) (hcut : r.spi.filter (·.cut) = none) (d : List Byte) : s.rxOversize p d =
    if r.maxFrame < (s.stored p d).length then (s.setRx p (some (r.shed d))).flowControl p else s := by
  simp only [State.rxOversize, h, hcut, decide_eq_true_eq]
  split <;> rfl

/-- A frame being cut through, at the lesser MAX_FRAME (R307). -/
theorem rxOversize_cut {r : Rx} {x : SpiRx} (h : s.rxOf p = some r) (hspi : r.spi = some x) (hcut : x.cut = true) (d : List Byte) :
    s.rxOversize p d = if min r.maxFrame (s.maxFrame (s.spiEgress x)) < d.length then
      (((s.setRx p (some { (if r.maxFrame < (s.stored p d).length then r.shed d else { r with bytes := d }) with
        spi := some { x with cut := false, key := none } })).flowControl p).cutEnd x
          (d.take (min r.maxFrame (s.maxFrame (s.spiEgress x)) - 4)) false) else s := by
  have hfilter : r.spi.filter (·.cut) = some x := by rw [hspi, Option.filter_some, if_pos hcut]
  simp only [State.rxOversize, h, hfilter, decide_eq_true_eq]
  rfl

/-- The counter of a reception that reaches 16,384 bytes outside quarantine (R97, R100, R372). -/
def State.countJabber (s : State) (p : Nat) (r : Rx) (err : Bool) : State :=
  if r.cut then s.inc .FLT_RST_FRAMES_COUNT
  else if r.badStart then s.inc .MAC_RX_PREAMBLE_COUNT p
  else if err = true ∨ r.symbol = true then s.inc .MAC_RX_SYMBOL_COUNT p
  else s.inc .MAC_RX_OVERSIZE_COUNT r.port

theorem multidrop_iff (s : State) (p : Nat) : (!isTrunk p && s.kind p == 0) = true ↔ p < 1024 ∧ s.kind p = 0 := by simp [isTrunk]

theorem rxJabber_ends {r : Rx} (h : s.rxOf p = some r) (err : Bool) : s.rxJabber p err =
    if (p < 1024 ∧ s.kind p = 0) ∧ (r.quar = true ∨ s.segState p = segQuarantine) then (s.dropRx p).inc .SEG_QUAR_RX_COUNT p
    else if p < 1024 ∧ s.kind p = 0 then ((s.dropRx p).countJabber p r err).babbleEvent p else (s.dropRx p).countJabber p r err := by
  simp only [State.rxJabber, h, State.countJabber, ← multidrop_iff, Bool.and_eq_true, Bool.or_eq_true, beq_iff_eq]

/-! The parse (R172, R173, R182). -/

/-- Of two entries put at one key the later stays. -/
theorem tins_tins {α : Type} (m : List (Nat × α)) (k : Nat) (x y : α) : tins (tins m k x) k y = tins m k y := by
  induction m with
  | nil => simp [tins]
  | cons e t ih =>
    obtain ⟨j, z⟩ := e
    by_cases hlt : k < j
    · simp [tins, hlt]
    · by_cases heq : k = j
      · simp [tins, heq]
      · simp [tins, hlt, heq, ih]

theorem setRx_setRx (s : State) (p : Nat) (r r' : Rx) : (s.setRx p (some r)).setRx p (some r') = s.setRx p (some r') :=
  congrArg (fun m => { s with rx := m }) (tins_tins s.rx p (some r) (some r'))

theorem rxOf_setRx (s : State) (p : Nat) (x : Option Rx) : (s.setRx p x).rxOf p = x := tget_tput_same _ _ _ _

/-- The port's frame comes from the medium. -/
theorem rxWire_medium (h : ∀ r, s.rxOf p = some r → r.back = none) (d : List Byte) (fcs : Word) : s.rxWire p d fcs = (d, fcs.toNat) := by
  unfold State.rxWire
  cases hr : s.rxOf p with
  | none => rfl
  | some r => rw [Option.bind_some, h r hr]

theorem exec_parseStart (hp : p < 1040) (hup : s.up (macBlock p) = true) (d : List Byte) (bad : List (Nat × Nat)) :
    exec (.parseStart p d bad) s = s.become ((s.rxGrow p (s.rxWire p d 0).1).rxParse p bad) := runOn_up _ hp hup

/-- The bytes that have arrived need no further cell. -/
theorem rxGrow_fits {r : Rx} {d : List Byte} (h : s.rxOf p = some r) (hcells : cellsFor (s.stored p d).length ≤ r.cells) :
    s.rxGrow p d = s.setRx p (some { r with bytes := d }) := by
  simp only [State.rxGrow, h]
  exact if_pos (.inr hcells)

/-- A frame whose bytes have arrived and fit is walked where it holds a head cell, has 192 bytes and has not been walked (R173). -/
theorem exec_parseStart_fits {r : Rx} {d : List Byte} {bad : List (Nat × Nat)} (hp : p < 1040) (hup : s.up (macBlock p) = true)
    (h : s.rxOf p = some r) (hback : r.back = none) (hcells : cellsFor (s.stored p d).length ≤ r.cells) :
    exec (.parseStart p d bad) s = s.become ((s.setRx p (some { r with bytes := d })).rxParse p bad) := by
  have hmedium : ∀ x, s.rxOf p = some x → x.back = none := fun x hx => by rw [h] at hx; cases hx; exact hback
  rw [exec_parseStart hp hup, rxWire_medium hmedium, rxGrow_fits h hcells]

theorem rxParse_early {r : Rx} {bad : List (Nat × Nat)} (h : s.rxOf p = some r)
    (he : r.head = none ∨ r.parsed.isSome = true ∨ (s.stored p r.bytes).length < 192) : s.rxParse p bad = s := by
  simp only [State.rxParse, h]
  refine if_pos ?_
  rw [Bool.or_eq_true, Bool.or_eq_true, decide_eq_true_eq, Option.isNone_iff_eq_none, or_assoc]
  exact he

/-- A walk that ends otherwise than parsed, or malformed, starts no lookups (R182). -/
theorem rxParse_diverted {r : Rx} {bad : List (Nat × Nat)} (h : s.rxOf p = some r) (hh : r.head.isSome = true) (hn : r.parsed = none)
    (hlen : 192 ≤ (s.stored p r.bytes).length) (h4 : s.up 4 = true)
    (hw : (parse r.graph (s.stored p r.bytes) false).stop ≠ 0 ∨ (parse r.graph (s.stored p r.bytes) false).mal.isSome = true) :
    s.rxParse p bad = s.setRx p (some { r with parsed := some (parse r.graph (s.stored p r.bytes) false) }) := by
  have hgo : ¬(r.head.isNone || r.parsed.isSome || decide ((s.stored p r.bytes).length < 192)) = true := by
    simp [← Option.not_isSome, hh, hn, hlen]
  simp only [State.rxParse, h, if_neg hgo, h4]
  exact if_pos hw

/-- A walk that ends parsed starts the lookups (R172). -/
theorem rxParse_looksUp {r : Rx} {bad : List (Nat × Nat)} (h : s.rxOf p = some r) (hh : r.head.isSome = true) (hn : r.parsed = none)
    (hlen : 192 ≤ (s.stored p r.bytes).length) (h4 : s.up 4 = true) (h5 : s.up 5 = true)
    (hstop : (parse r.graph (s.stored p r.bytes) false).stop = 0) (hmal : (parse r.graph (s.stored p r.bytes) false).mal = none) :
    let w := parse r.graph (s.stored p r.bytes) false
    let l := s.lookup r.version r.port w.vec (badIn 3 bad) (badIn 4 bad)
    s.rxParse p bad = l.2.setRx p (some { r with parsed := some w, lookup := some l.1 }) := by
  have hgo : ¬(r.head.isNone || r.parsed.isSome || decide ((s.stored p r.bytes).length < 192)) = true := by
    simp [← Option.not_isSome, hh, hn, hlen]
  have hw : ¬((parse r.graph (s.stored p r.bytes) false).stop ≠ 0 ∨ (parse r.graph (s.stored p r.bytes) false).mal.isSome = true) := by
    simp [hstop, hmal]
  simp only [State.rxParse, h, if_neg hgo, h4, h5, if_neg hw]
  rfl

/-! The ends. -/

theorem exec_rxOversizeDetect (hp : p < 1040) (hup : s.up (macBlock p) = true) (d : List Byte) :
    exec (.rxOversizeDetect p d) s = s.become (s.rxOversize p d) := runOn_up _ hp hup

theorem exec_rxJabber (hp : p < 1040) (hup : s.up (macBlock p) = true) (err : Bool) :
    exec (.rxJabber p err) s = s.become (s.rxJabber p err) := runOn_up _ hp hup

/-- Outside factory test mode no session injects (R377). -/
theorem sesInjects_off (h : s.flag .FLT_STATUS_FACTORY = false) (t : Nat) (d : List Byte) : s.sesInjects t d = false := by
  simp only [State.sesInjects, h, Bool.false_and]

theorem exec_rxFrameEnd (hp : p < 1040) (hup : s.up (macBlock p) = true) (hf : s.flag .FLT_STATUS_FACTORY = false) (d : List Byte)
    (fcs : Word) (err coll : Bool) (bad : List (Nat × Nat)) :
    exec (.rxFrameEnd p d fcs err coll bad) s = s.become (s.rxEnd State.consumeFrame p d fcs err coll bad) :=
  (if_neg (by simp [sesInjects_off hf])).trans (runOn_up _ hp hup)

theorem exec_macControlFrame (hp : p < 1040) (hup : s.up (macBlock p) = true) (d : List Byte) (fcs : Word) (err : Bool) :
    exec (.macControlFrame p d fcs err) s = s.become (if isCtrl (s.rxWire p d fcs).1
      then s.rxEnd (fun s _ _ => s) p d fcs err false [] else s) := runOn_up _ hp hup

theorem become_ite (s t : State) (c : Prop) [Decidable c] : s.become (if c then t else s) = .next (if c then s.outside t else s) := by
  split <;> rfl

theorem getD_map_eq_any {α : Type} (o : Option α) (f : α → Bool) : (o.map f).getD false = o.any f := by cases o <;> rfl

theorem exec_spireCutEnd {t : Nat} (ht : t < 16) (hup : s.up 1 = true) (d : List Byte) (fcs : Word) (err : Bool) :
    exec (.spireCutEnd t d fcs err) s = s.become (if ((s.rxOf (1024 + t)).bind (·.spi)).any (·.cut) = true
      then s.rxEnd (fun s _ _ => s) (1024 + t) d fcs err false [] else s) := by
  rw [← getD_map_eq_any]
  exact runOn_up _ ht hup

theorem exec_spireFallbackEnd {t : Nat} (ht : t < 16) (hup : s.up 1 = true) (d : List Byte) (fcs : Word) (err : Bool) :
    exec (.spireFallbackEnd t d fcs err) s = s.become (if ((s.rxOf (1024 + t)).bind (·.spi)).any (·.fallback) = true
      then s.rxEnd (fun s _ _ => s) (1024 + t) d fcs err false [] else s) := by
  rw [← getD_map_eq_any]
  exact runOn_up _ ht hup

/-- Settles O17: the start by what the port does and what takes a cell, each moment by the reception it meets, the ends by one end of a
reception. -/
theorem frameStartOpensAReception : Obligations.FrameStartOpensAReception := by
  refine ⟨fun p ok d s hp hup => ?_, fun p t d err bad r s hp ht hup => ?_, fun p t d fcs err coll bad s hp ht => ?_⟩
  · have hstart := exec_rxFrameStart hp hup ok d
    refine ⟨listens_eq s p, fun h => ?_, fun h hloop hback => ?_, fun x l h hloop hback => ?_, fun h hloop hno => ?_,
      fun h hloop hok hc hq hspi => ?_⟩
    · rw [hstart, rxStart_shut h]; rfl
    · rw [hstart, rxStart_takes h, if_pos hloop, hback]; rfl
    · rw [hstart, rxStart_takes h, if_pos hloop, hback]; rfl
    · rw [exec_rxFrameStart_medium hp hup h hloop, rxBegin_noCell hno]; rfl
    · subst hok
      rw [exec_rxFrameStart_medium hp hup h hloop, rxBegin_stored hc hq hspi]
      refine ⟨fun hheld => ?_, fun hheld hfloor => ?_, fun hheld hfloor => ?_⟩
      · rw [takeHead_held (s := s.rxSeen p) hheld]; rfl
      · rw [takeHead_floor (s := s.rxSeen p) hheld hfloor]; rfl
      · rw [takeHead_takes (s := s.rxSeen p) hheld hfloor]; rfl
  · refine ⟨fun h => ⟨?_, ?_, ?_⟩, fun h hcut => ?_, fun x h hspi hcut => ⟨fun hle => ?_, fun hlt => ?_⟩, fun h => ?_, fun h hback hcells => ?_⟩
    · rw [exec_rxOversizeDetect hp hup, rxOversize_idle h]; rfl
    · rw [exec_rxJabber hp hup, rxJabber_idle h]; rfl
    · rw [exec_parseStart hp hup, rxGrow_idle h, rxParse_idle h]; rfl
    · rw [exec_rxOversizeDetect hp hup, rxOversize_stored h hcut, become_ite]; rfl
    · rw [exec_rxOversizeDetect hp hup, rxOversize_cut h hspi hcut, if_neg (Nat.not_lt.2 hle)]; rfl
    · rw [exec_rxOversizeDetect hp hup, rxOversize_cut h hspi hcut, if_pos hlt]; rfl
    · rw [exec_rxJabber hp hup, rxJabber_ends h]; rfl
    · have hgrown : (s.setRx p (some { r with bytes := d })).rxOf p = some { r with bytes := d } := rxOf_setRx _ _ _
      rw [exec_parseStart_fits hp hup h hback hcells]
      refine ⟨fun hearly => ?_, fun hhead hnew hlen h4 => ⟨fun hw => ?_, fun hstop hmal h5 => ?_⟩⟩
      · rw [rxParse_early hgrown hearly]; rfl
      · rw [rxParse_diverted hgrown hhead hnew hlen h4 hw, setRx_setRx]; rfl
      · rw [rxParse_looksUp hgrown hhead hnew hlen h4 h5 hstop hmal]; rfl
  · refine ⟨fun hup hf => exec_rxFrameEnd hp hup hf d fcs err coll bad, fun hup => ?_, fun hup => ⟨?_, ?_⟩⟩
    · rw [exec_macControlFrame hp hup, become_ite]
    · rw [exec_spireCutEnd ht hup, become_ite]
    · rw [exec_spireFallbackEnd ht hup, become_ite]

end Sys2Proof.Machine
end

section
/-! The register slave port: OK and ERROR (R11, R48, R49). -/
namespace Sys2Proof.Machine

variable {s : State} {a : Nat} {r : Reg} {i : Nat}

/-- A write that is not whole, or is not of FLT_INJ_CTRL, is no injection in factory test mode. -/
theorem exec_registerWrite {st : Nat} (h : s.factoryInject a = false ∨ st % 16 ≠ 15) (w : Word) :
    exec (.registerWrite a w st) s = s.become (s.slaveWrite a w st) := by
  refine if_neg ?_
  rcases h with h | h <;> simp [h]

theorem factoryInject_nowhere (h : regOf a = none) : s.factoryInject a = false := by simp only [State.factoryInject, h]

theorem factoryInject_other (h : regOf a = some (r, i)) (hr : r ≠ .FLT_INJ_CTRL) : s.factoryInject a = false := by
  simp [State.factoryInject, h, hr]

/-- FLT_INJ_CTRL lies in the always-on domain. -/
theorem ne_injCtrl_of_core (h : isAon r = false) : r ≠ .FLT_INJ_CTRL := by rintro rfl; cases h

theorem slaveRuns_core (hclk : s.coreClk = true) : s.slaveRuns false = true := by simp [State.slaveRuns, hclk]

/-- Where no register lies, only the form of the access counts. -/
theorem slaveWrite_nowhere (hclk : s.coreClk = true) (ha : regOf a = none) (w : Word) (st : Nat) :
    s.slaveWrite a w st = if a % 4 ≠ 0 ∨ st % 16 ≠ 15 then s.slaveError else s.slaveOk 0 := by
  simp only [State.slaveWrite, ha, slaveRuns_core hclk]
  rfl

/-- A write of a register while the port answers for it. -/
theorem slaveWrite_register (hr : s.slaveRuns (isAon r) = true) (ha : regOf a = some (r, i)) (w : Word) (st : Nat) :
    s.slaveWrite a w st =
      if st % 16 ≠ 15 ∨ (!s.coreOn && !isAon r) = true then s.slaveError else (s.slaveStore r i w).slaveOk 0 := by
  simp only [State.slaveWrite, ha, hr]
  rfl

/-- Until memory initialisation has finished, a write outside the global region stores nothing in the core domain (R400). -/
theorem slaveStore_waits (hr : isAon r = false) (hs : s.soft = false) (hb : regBlock r i ≠ 20) (w : Word) :
    s.slaveStore r i w = s := by
  unfold State.slaveStore
  split
  · rfl
  · exact if_neg (by simp [hr, hs, hb])

/-- GLB_SLV_ERR marks no saturation, so its count moves it alone. -/
theorem rd_slaveError {r : Reg} (h : r ≠ .GLB_SLV_ERR) (i : Nat) : s.slaveError.rd r i = s.rd r i :=
  (rd_add s .GLB_SLV_ERR_COUNT 0 1 r i (fun g hg => by cases hg)).trans (rd_wr_other s _ fun hc => h hc.1)

/-- Settles O10: the answer by the access's form and the state of the register's domain. -/
theorem slavePortAnswersErrorsAndCountsThem : Obligations.SlavePortAnswersErrorsAndCountsThem := by
  intro a w st s hclk
  refine ⟨fun ha => ?_, fun r i ha hr => ?_, fun r i ha hr href hst => ?_, rfl, get_add s .GLB_SLV_ERR_COUNT (by decide) 0 1,
    fun r i h => rd_slaveError h i⟩
  · rw [exec_registerWrite (.inl (factoryInject_nowhere ha)), slaveWrite_nowhere hclk ha]
    split <;> rfl
  · have hruns : s.slaveRuns (isAon r) = true := by rw [hr]; exact slaveRuns_core hclk
    rw [exec_registerWrite (.inl (factoryInject_other ha (ne_injCtrl_of_core hr))), slaveWrite_register hruns ha]
    refine ⟨fun hbad => ?_, fun hst hon hsoft hblock => ?_⟩
    · rw [if_pos (by simpa [hr] using hbad)]; rfl
    · rw [if_neg (by simp [hst, hon]), slaveStore_waits hr hsoft hblock]; rfl
  · have hruns : s.slaveRuns (isAon r) = true := by simp [State.slaveRuns, hclk, href]
    rw [exec_registerWrite (.inr hst), slaveWrite_register hruns ha, if_pos (.inl hst)]; rfl

end Sys2Proof.Machine
end

section
/-! The maintenance port: its accesses, its cuts and its reset requests (R60 to R64, R436, R437). -/
namespace Sys2Proof.Machine

variable {s : State} {a : Nat} {r : Reg} {i : Nat}

/-! The accesses. -/

theorem maintReg_of_aon (ha : a < 0x800000) (hreg : regOf (4 * a) = some (r, i)) (hr : isAon r = true) :
    maintReg a = some (r, i) := by
  rw [maintReg, if_neg (Nat.not_le.2 ha), hreg, Option.filter_some, if_pos hr]

theorem maintReg_none (h : 0x800000 ≤ a ∨ ∀ r i, regOf (4 * a) = some (r, i) → isAon r = false) : maintReg a = none := by
  unfold maintReg
  split
  · rfl
  · rw [Option.filter_eq_none_iff]
    rintro ⟨r, i⟩ hreg
    simp [h.resolve_left ‹_› r i hreg]

theorem maintLoad_reg (h : maintReg a = some (r, i)) : s.maintLoad a = (s.view r i, s) := by
  simp only [State.maintLoad, h, State.readReg, readEffect_aon r i (maintReg_aon h)]

theorem maintLoad_none (h : maintReg a = none) : s.maintLoad a = (0, s) := by simp only [State.maintLoad, h]

theorem maintStore_reg (h : maintReg a = some (r, i)) (w : Word) : s.maintStore a w = s.regWrite r i w s.committed := by
  simp only [State.maintStore, h]

theorem maintStore_none (h : maintReg a = none) (w : Word) : s.maintStore a w = s := by simp only [State.maintStore, h]

/-- Only FLT_INJ_CTRL injects, and only in factory test mode (R377, R385). -/
theorem maintInject_of_reg (hreg : regOf (4 * a) = some (r, i)) (h : ¬(r = .FLT_INJ_CTRL ∧ s.flag .FLT_STATUS_FACTORY = true)) :
    s.maintInject a = false := by
  have hinj : s.factoryInject (4 * a) = false := by
    simp only [State.factoryInject, hreg]
    simpa using h
  simp [State.maintInject, hinj]

/-- An address that names no always-on register injects nothing. -/
theorem maintInject_none (h : 0x800000 ≤ a ∨ ∀ r i, regOf (4 * a) = some (r, i) → isAon r = false) : s.maintInject a = false := by
  rcases h with h | h
  · simp [State.maintInject, Nat.not_lt.2 h]
  · cases hreg : regOf (4 * a) with
    | none => simp [State.maintInject, factoryInject_nowhere hreg]
    | some x => exact maintInject_of_reg hreg fun hx => ne_injCtrl_of_core (h x.1 x.2 hreg) hx.1

theorem exec_maintRead (h : s.aonUp = true) (a : Nat) : exec (.maintRead a) s = s.become
    ((s.maintLoad a).2.mntAnswer (s.maintLoad a).1 (s.maintStatus false (maintReg a).isNone)) :=
  runAon_up (fun s => (s.maintLoad a).2.mntAnswer (s.maintLoad a).1 (s.maintStatus false (maintReg a).isNone)) h

theorem exec_maintWrite (h : s.aonUp = true) (hi : s.maintInject a = false) (w : Word) : exec (.maintWrite a w) s = s.become
    ((s.maintStore a w).mntAnswer 0 (s.maintStatus false (maintReg a).isNone)) :=
  (if_neg (by simp [hi])).trans (runAon_up _ h)

theorem exec_maintBadOp (h : s.aonUp = true) {op : Nat} (h1 : op ≠ 0x0D) (h2 : op ≠ 0x0E) :
    exec (.maintBadOp op) s = s.become (s.mntAnswer 0 (s.maintStatus true false)) := by
  have hbad : ¬(op = 0x0D ∨ op = 0x0E) := by simp [h1, h2]
  exact (runAon_up (fun s => if op = 0x0D ∨ op = 0x0E then s else s.mntAnswer 0 (s.maintStatus true false)) h).trans
    (congrArg s.become (if_neg hbad))

/-- The status byte, bit by bit (R61). -/
theorem maintStatus_eq (s : State) (bad notAon : Bool) : s.maintStatus bad notAon =
    byte ((if s.blkLow = true ∨ s.coreClk = false then 8 else 0) + (b2n bad * 4 + b2n notAon * 2) + 1) := by
  simp only [State.maintStatus, b2n, ← Nat.add_assoc]
  congr 3
  cases s.blkLow <;> cases s.coreClk <;> rfl

/-! The cuts (R63). -/

theorem exec_maintFrameCut (h : s.aonUp = true) {op clock : Nat} (hi : ¬(op = 0x0E ∧ 64 ≤ clock ∧ s.maintInject a = true)) (w : Word) :
    exec (.maintFrameCut op a w clock) s = s.become (s.maintCut op a w clock) := (if_neg hi).trans (runAon_up _ h)

/-- A cut before the frame's access leaves only the bits carried so far. -/
theorem maintCut_early {op clock : Nat} (hread : ¬(op = 0x0D ∧ 32 < clock)) (hwrite : ¬(op = 0x0E ∧ 64 ≤ clock)) (w : Word) :
    ∃ st, s.maintCut op a w clock = { s with mntResp := none, mntCut := maintBits clock 0 st } := by
  simp only [State.maintCut, if_neg hread, if_neg hwrite]
  exact ⟨_, rfl⟩

theorem maintBits_early {clock : Nat} (h : clock ≤ 32) (d : Word) (st : Byte) : maintBits clock d st = [] := by
  have hzero : min clock 79 - 40 = 0 := by omega
  rw [maintBits, hzero]; rfl

/-- A read that has been made stands, with its answer's bits so far. -/
theorem maintCut_read {clock : Nat} (h : 32 < clock) (w : Word) : s.maintCut 0x0D a w clock =
    { (s.maintLoad a).2 with mntResp := none
                             mntCut := maintBits clock (s.maintLoad a).1 (s.maintStatus false (maintReg a).isNone) } := by
  unfold State.maintCut
  rw [if_pos ⟨rfl, h⟩]
  rfl

/-- A write that has been performed stands, with its answer's bits so far. -/
theorem maintCut_write {clock : Nat} (h : 64 ≤ clock) (w : Word) : s.maintCut 0x0E a w clock =
    { s.maintStore a w with mntResp := none, mntCut := maintBits clock 0 (s.maintStatus false (maintReg a).isNone) } := by
  unfold State.maintCut
  rw [if_neg (by simp), if_pos ⟨rfl, h⟩]
  rfl

theorem length_maintBits (clock : Nat) (d : Word) (st : Byte) : (maintBits clock d st).length = min clock 79 - 40 := by
  rw [maintBits, List.length_map, List.length_range]

theorem getElem?_maintBits {clock k : Nat} (h : k < min clock 79 - 40) (d : Word) (st : Byte) :
    (maintBits clock d st)[k]? = some (if k < 32 then d.getMsbD k else st.getMsbD (k - 32)) := by
  rw [maintBits, List.getElem?_map, List.getElem?_range h]; rfl

/-- A write that completes has not been refused. -/
theorem maintInject_of_next {t : State} {w : Word} (h : exec (.maintWrite a w) s = .next t) : s.maintInject a = false := by
  cases hi : s.maintInject a with
  | false => rfl
  | true =>
    have hrefused : exec (.maintWrite a w) s = .refused .factoryInjection := if_pos hi
    rw [hrefused] at h; cases h

/-! The reset requests (R64). -/

theorem exec_mntChipReset (h : s.aonUp = true) (key : Nat) : exec (.mntChipReset key) s = s.become (s.mntChip key) :=
  runAon_up (fun s => s.mntChip key) h

theorem exec_mntBlockReset (h : s.aonUp = true) (key block : Nat) :
    exec (.mntBlockReset key block) s = s.become (s.mntBlock key (block % 32)) :=
  runAon_up (fun s => s.mntBlock key (block % 32)) h

theorem mntChip_noKey {key : Nat} (h : key ≠ 0xC5) : s.mntChip key = s.put .MNT_RST_STATUS_KEY_ERR 0 1 := if_neg h
theorem mntBlock_noKey {key : Nat} (h : key ≠ 0xC5) (b : Nat) : s.mntBlock key b = s.put .MNT_RST_STATUS_KEY_ERR 0 1 := if_pos h

theorem mntBlock_key (s : State) (b : Nat) : s.mntBlock 0xC5 b = if resettable b
    then (s.put .MNT_RST_REQ_BLOCK 0 b).blockReset b true 0
    else (s.put .MNT_RST_REQ_BLOCK 0 b).put .MNT_RST_STATUS_BLOCK_REJ 0 1 := if_neg (by simp)

/-- Settles O13: each frame by the register its address reaches, each cut by the clock it comes at, each reset request by its key. -/
theorem maintenancePortReachesAlwaysOnRegisters : Obligations.MaintenancePortReachesAlwaysOnRegisters := by
  refine ⟨⟨fun a op w s hup => ⟨fun r i ha hreg hr => ?_, fun hnone => ?_, fun h1 h2 => ?_⟩, fun op a clock w s hup =>
    ⟨fun hc => ?_, fun hop => ?_, fun t d st hc ht hresp => ?_, fun t d st hc ht hresp => ?_, fun d st => ?_⟩⟩,
    fun key block s hup => ⟨fun hkey => ?_, ?_, ?_, fun b => rfl⟩⟩
  · have hm := maintReg_of_aon ha hreg hr
    refine ⟨?_, fun hinj => ?_⟩
    · rw [exec_maintRead hup, maintLoad_reg hm, maintStatus_eq, hm]; rfl
    · rw [exec_maintWrite hup (maintInject_of_reg hreg hinj), maintStore_reg hm, maintStatus_eq, hm]; rfl
  · have hm := maintReg_none hnone
    refine ⟨?_, ?_⟩
    · rw [exec_maintRead hup, maintLoad_none hm, maintStatus_eq, hm]; rfl
    · rw [exec_maintWrite hup (maintInject_none hnone), maintStore_none hm, maintStatus_eq, hm]; rfl
  · rw [exec_maintBadOp hup h1 h2, maintStatus_eq]; rfl
  · obtain ⟨st, hcut⟩ := maintCut_early (s := s) (a := a) (op := op) (clock := clock) (by omega) (by omega) w
    rw [exec_maintFrameCut hup (by omega), hcut, maintBits_early hc]; rfl
  · obtain ⟨st, hcut⟩ := maintCut_early (s := s) (a := a) (op := op) (clock := clock) (by omega) (by omega) w
    exact ⟨_, by rw [exec_maintFrameCut hup (by omega), hcut]; rfl⟩
  · rw [exec_maintRead hup] at ht
    cases ht
    cases hresp
    rw [exec_maintFrameCut hup (by simp), maintCut_read hc]; rfl
  · have hinj := maintInject_of_next ht
    rw [exec_maintWrite hup hinj] at ht
    cases ht
    cases hresp
    rw [exec_maintFrameCut hup (by simp [hinj]), maintCut_write hc]; rfl
  · exact ⟨length_maintBits clock d st, fun k hk => getElem?_maintBits hk d st⟩
  · rw [exec_mntChipReset hup, exec_mntBlockReset hup, mntChip_noKey hkey, mntBlock_noKey hkey]
    exact ⟨rfl, rfl⟩
  · rw [exec_mntChipReset hup]; rfl
  · rw [exec_mntBlockReset hup, mntBlock_key]
    split <;> rfl

end Sys2Proof.Machine
end

section
/-! Rails, shadows, episodes and block resets: what each command of the collector comes to (R59, R360, R361, R366, R371, R372). -/
namespace Sys2Proof.Machine

variable {s : State} {i b : Nat}

/-! Rails that move without a firing (R360, R361). -/

theorem exec_railStateChange (hi : i < 512) (h : s.aonUp = true) (st : Rail) :
    exec (.railStateChange i st) s = s.become (s.railFollows i st) := runAonOn_up (fun s => s.railFollows i st) hi h

theorem railFollows_ok (s : State) (i : Nat) : s.railFollows i .ok = s.put .FLT_SRC_STATUS_RAIL i 0 := rfl

theorem railFollows_wire (s : State) (i : Nat) : s.railFollows i .wire =
    if s.get .FLT_SRC_STATUS_RAIL i = 1 then s.put .FLT_SRC_STATUS_RAIL i 2 else s := if_congr beq_iff_eq rfl rfl

theorem railFollows_fault (s : State) (i : Nat) : s.railFollows i .fault = if s.get .FLT_SRC_STATUS_RAIL i = 2
    then { s.used.put .FLT_SRC_STATUS_RAIL i 1 with faultSyn := tput 0 s.faultSyn i (word s.free) } else s :=
  if_congr beq_iff_eq rfl rfl

/-! Shadows and episodes (R366, R372). -/

theorem exec_resetShadowEnd (hb : b < 32) (h : s.aonUp = true) : exec (.resetShadowEnd b) s = s.become (s.shadowEnd b) :=
  runAonOn_up (fun s => s.shadowEnd b) hb h

theorem shadowEnd_waits (h : s.shadowed.contains b = false ∨ s.blkReset.contains b = true) : s.shadowEnd b = s := by
  refine if_pos ?_
  rcases h with h | h <;> simp [-List.contains_eq_mem, h]

/-- The state in which the shadow of block `b` has ended, before the block's sources are looked at. -/
def State.outOfShadow (s : State) (b : Nat) : State :=
  { s with shadowed := s.shadowed.erase b, episode := s.episode.map fun e : Nat × List Nat => (e.1, e.2.erase b) }

theorem shadowEnd_ends (hs : s.shadowed.contains b = true) (hr : s.blkReset.contains b = false) : s.shadowEnd b =
    (s.outOfShadow b).each ((s.outOfShadow b).blockSources b) fun s i => if s.get .FLT_SRC_STATUS_RAIL i = 0 then s else s.fire i :=
  if_neg (by simp [-List.contains_eq_mem, hs, hr])

theorem exec_episodeEnd (h : s.aonUp = true) : exec .episodeEnd s = s.become s.episodeEnd := runAon_up State.episodeEnd h

theorem episodeEnd_over {l : Nat} (h : s.episode = some (l, [])) :
    s.episodeEnd = { s.put .FLT_STATUS_EPISODE 0 0 with episode := none, episodeFirst := false } := by
  simp only [State.episodeEnd, h]

theorem episodeEnd_none (h : s.episode = none) : s.episodeEnd = s := by simp only [State.episodeEnd, h]

theorem episodeEnd_shadowed {l k : Nat} {m : List Nat} (h : s.episode = some (l, k :: m)) : s.episodeEnd = s := by
  simp only [State.episodeEnd, h]

theorem exec_chipRstReqRelease (h : s.aonUp = true) : exec .chipRstReqRelease s =
    s.become (if s.blkLow = true then s.put .MNT_RST_STATUS_CHIP_REQ 0 0 else s) :=
  runAon_up (fun s => if s.blkLow = true then s.put .MNT_RST_STATUS_CHIP_REQ 0 0 else s) h

/-! The end of a block's reset (R371). -/

theorem exec_blockResetRelease (hb : b < 32) (h : s.coreUp = true) : exec (.blockResetRelease b) s = s.become (s.blockRelease b) :=
  congrArg s.become ((onUnit_in (fun s => if s.coreUp then s.blockRelease b else s) hb).trans (if_pos h))

theorem blockRelease_waits (h : s.blkReset.contains b = false ∨ b = 13 ∧ s.dma.quiet = false) : s.blockRelease b = s := by
  refine if_pos ?_
  rcases h with h | ⟨rfl, hq⟩
  · simp [-List.contains_eq_mem, h]
  · simp [hq]

theorem blockRelease_ends (hr : s.blkReset.contains b = true) (hq : b ≠ 13 ∨ s.dma.quiet = true) :
    s.blockRelease b = State.recover { s with blkReset := s.blkReset.erase b } b := by
  refine if_neg ?_
  rcases hq with hq | hq <;> simp [-List.contains_eq_mem, hr, hq]

/-- Settles O48: each end by the state that it waits for. -/
theorem episodesShadowsAndResetsEnd : Obligations.EpisodesShadowsAndResetsEnd := by
  intro i b s hi hb
  refine ⟨fun hup => ⟨?_, ?_, fun hrail => ?_, fun hrail => ?_, fun hwait => ?_, fun hs hr => ?_, fun l he => ?_, fun he => ?_, ?_⟩,
    fun hup => ⟨fun hwait => ?_, fun hr hq => ?_⟩⟩
  · rw [exec_railStateChange hi hup, railFollows_ok]; rfl
  · rw [exec_railStateChange hi hup, railFollows_wire, become_ite]; rfl
  · rw [exec_railStateChange hi hup, railFollows_fault, if_neg hrail]; rfl
  · rw [exec_railStateChange hi hup, railFollows_fault, if_pos hrail]
    exact ⟨_, rfl, get_put_same s.used .FLT_SRC_STATUS_RAIL (by decide) i 1, rfl⟩
  · rw [exec_resetShadowEnd hb hup, shadowEnd_waits hwait]; rfl
  · rw [exec_resetShadowEnd hb hup, shadowEnd_ends hs hr]; rfl
  · rw [exec_episodeEnd hup, episodeEnd_over he]; rfl
  · rw [exec_episodeEnd hup]
    rcases he with he | ⟨l, k, m, he⟩
    · rw [episodeEnd_none he]; rfl
    · rw [episodeEnd_shadowed he]; rfl
  · rw [exec_chipRstReqRelease hup, become_ite]; rfl
  · rw [exec_blockResetRelease hb hup, blockRelease_waits hwait]; rfl
  · rw [exec_blockResetRelease hb hup, blockRelease_ends hr hq]; rfl

end Sys2Proof.Machine
end

section
/-! What flags read after an update, what an update of one register leaves, and what an event of a Belfry source leaves of the source
bits (R9 to R15, R347 to R353). -/
namespace Sys2Proof.Machine

/-! Flags. -/

theorem flag_put_other (s : State) (f g : Fld) (i j v : Nat)
    (h : (¬(g.reg = f.reg ∧ j = i)) ∨ ((g.hi < f.lo ∨ f.hi < g.lo) ∧ g.lo ≤ g.hi)) : (s.put f i v).flag g j = s.flag g j := by
  rw [State.flag, get_put_other s f g i j v h, State.flag]

theorem flag_put_zero (s : State) (f : Fld) (h : f.lo ≤ f.hi ∧ f.hi ≤ 31) (i : Nat) : (s.put f i 0).flag f i = false := by
  rw [State.flag, get_put_same s f h, Nat.zero_mod]; rfl

theorem flag_put_one (s : State) (f : Fld) (h : f.lo ≤ f.hi ∧ f.hi ≤ 31) (i : Nat) : (s.put f i 1).flag f i = true := by
  have hw : 1 < 2 ^ f.width := Nat.one_lt_two_pow (by simp only [Fld.width]; omega)
  rw [State.flag, get_put_same s f h, Nat.mod_eq_of_lt hw]; rfl

theorem flag_putFlag (s : State) (f : Fld) (h : f.lo ≤ f.hi ∧ f.hi ≤ 31) (i : Nat) (b : Bool) : (s.putFlag f i b).flag f i = b := by
  cases b
  · exact flag_put_zero s f h i
  · exact flag_put_one s f h i

theorem flag_when_clear (s : State) (f : Fld) (h : f.lo ≤ f.hi ∧ f.hi ≤ 31) (i : Nat) (c : Bool) :
    (s.when c fun s => s.put f i 0).flag f i = (s.flag f i && !c) := by
  cases c
  · exact (Bool.and_true _).symm
  · exact (flag_put_zero s f h i).trans (Bool.and_false _).symm

theorem flag_when_set (s : State) (f : Fld) (h : f.lo ≤ f.hi ∧ f.hi ≤ 31) (i : Nat) (c : Bool) :
    (s.when c fun s => s.put f i 1).flag f i = (s.flag f i || c) := by
  cases c
  · exact (Bool.or_false _).symm
  · exact (flag_put_one s f h i).trans (Bool.or_true _).symm

theorem flag_when_other (s : State) (f g : Fld) (i j v : Nat) (c : Bool)
    (h : (¬(g.reg = f.reg ∧ j = i)) ∨ ((g.hi < f.lo ∨ f.hi < g.lo) ∧ g.lo ≤ g.hi)) :
    (s.when c fun s => s.put f i v).flag g j = s.flag g j := by
  cases c
  · rfl
  · exact flag_put_other s f g i j v h

/-- A field takes no more of a number than its width. -/
theorem put_mod (s : State) (f : Fld) (i v : Nat) : s.put f i (v % 2 ^ f.width) = s.put f i v := by
  simp only [State.put, Fld.into, Nat.mod_mod]

/-! Changes of one register. -/

/-- `u` is `s` but for one register. -/
structure OnlyReg (r : Reg) (i : Nat) (s u : State) : Prop where
  rest : u = { s with regs := u.regs }
  rd : ∀ r' k, ¬(r' = r ∧ k = i) → u.rd r' k = s.rd r' k

theorem OnlyReg.refl (r : Reg) (i : Nat) (s : State) : OnlyReg r i s s := ⟨rfl, fun _ _ _ => rfl⟩

theorem OnlyReg.put {r : Reg} {i : Nat} {s u : State} (h : OnlyReg r i s u) (f : Fld) (hf : f.reg = r) (v : Nat) :
    OnlyReg r i s (u.put f i v) := by
  obtain ⟨hrest, hrd⟩ := h
  subst hf
  refine ⟨?_, fun r' k hk => (rd_wr_other u _ hk).trans (hrd r' k hk)⟩
  rw [hrest]; rfl

theorem OnlyReg.when_put {r : Reg} {i : Nat} {s u : State} (h : OnlyReg r i s u) (f : Fld) (hf : f.reg = r) (v : Nat)
    (c : Bool) :
    OnlyReg r i s (u.when c fun u => u.put f i v) := by
  cases c
  · exact h
  · exact h.put f hf v

/-- Another register is none of the one that changes. -/
theorem OnlyReg.rd_ne {r : Reg} {i : Nat} {s u : State} (h : OnlyReg r i s u) {r' : Reg} (hr : r' ≠ r) (k : Nat) :
    u.rd r' k = s.rd r' k := h.rd r' k fun hk => hr hk.1

/-! Counters and records. -/

/-- An increment leaves what Belfry's bits, the counter's register and the flag that marks its saturation do not hold. -/
theorem add_keeps {β : Type} (g : State → β) {f : Fld} (hbel : ∀ s, g s.besideBel = g s) (hwr : ∀ s i w, g (s.wr f.reg i w) = g s)
    (hsat : ∀ h, satFlag (satSource f.reg) = some h → ∀ s v, g (s.put h 0 v) = g s) (s : State) (i n : Nat) :
    g (s.add f i n) = g s := by
  have hpulse (t : State) (k : Nat) : g (t.pulse k) = g t := by rw [← hbel, besideBel_pulse, hbel]
  unfold State.add
  dsimp only
  split
  · rw [hpulse, satMark_eq]
    split
    · exact (hsat _ ‹_› _ 1).trans (hwr s i _)
    · exact hwr s i _
  · exact hwr s i _

/-- A record leaves what Belfry's bits, the log's queue, the count of dropped records and LOG_STATUS do not hold. -/
theorem record_keeps {β : Type} (g : State → β) (hbel : ∀ s, g s.besideBel = g s) (hq : ∀ s l, g { s with logQ := l } = g s)
    (hwr : ∀ s r i w, r = .LOG_DROPPED ∨ r = .LOG_STATUS → g (s.wr r i w) = g s) (s : State) (kind flags : Nat) (body : List Word)
    (z : Bool) : g (s.record kind flags body z) = g s := by
  unfold State.record
  split
  · exact hq s _
  · refine add_keeps g hbel (fun s i w => hwr s _ i w (.inl rfl)) (fun h hh s v => ?_) s 0 1
    cases hh
    exact hwr s _ 0 _ (.inr rfl)

theorem rd_record (s : State) (kind flags : Nat) (body : List Word) (z : Bool) {r : Reg} (h1 : r ≠ .LOG_DROPPED) (h2 : r ≠ .LOG_STATUS)
    (i : Nat) : (s.record kind flags body z).rd r i = s.rd r i := by
  refine record_keeps (fun s => s.rd r i) (fun _ => rfl) (fun _ _ => rfl) (fun s r' j w hr => ?_) s kind flags body z
  refine rd_wr_other s w fun hk => ?_
  rcases hr with rfl | rfl
  · exact h1 hk.1
  · exact h2 hk.1

/-! The source bits. -/

theorem belSrc_setBel (s : State) (i k : Nat) (b : BelSrc) : (s.setBel i b).belSrc k = if k = i then b else s.belSrc k :=
  tget_tput _ _ _ _ _

@[simp] theorem belSrc_setBel_same (s : State) (i : Nat) (b : BelSrc) : (s.setBel i b).belSrc i = b := by simp [belSrc_setBel]

theorem belSrc_setBel_other (s : State) {i k : Nat} (b : BelSrc) (h : k ≠ i) : (s.setBel i b).belSrc k = s.belSrc k := by
  simp [belSrc_setBel, h]

/-- Presentation changes nothing but what is presented. -/
theorem presentAll_keeps {β : Type} (g : State → β) (hv : ∀ s l, g { s with vec := l } = g s) (s : State) : g s.presentAll = g s :=
  each_keeps g (List.range 8) State.present (fun s _ => hv s _) s

/-- The state in which the input of source `i` has taken a level, before Belfry looks at it. -/
def State.inputAt (s : State) (i : Nat) (l : Bool) : State :=
  { s with belLvl := tput false s.belLvl i (l != (1040 ≤ i && i ≤ 1295)) }

/-- What a change of an input comes to: nothing, or the new level with an edge event or a new presentation where Belfry can act. -/
theorem setInput_cases (s : State) (i : Nat) (l : Bool) :
    ((s.belInput i = l ∨ belReserved i = true) ∧ s.setInput i l = s) ∨
    (¬(s.belInput i = l ∨ belReserved i = true) ∧ (s.setInput i l = s.inputAt i l ∨ s.setInput i l = (s.inputAt i l).edgeEvent i ∨
      s.setInput i l = ((s.inputAt i l).noteWithdrawn i).presentAll)) := by
  unfold State.setInput
  split
  · exact .inl ⟨‹_›, rfl⟩
  · refine .inr ⟨‹_›, ?_⟩
    dsimp only [State.inBlock]
    split
    · split
      · cases l
        · exact .inl rfl
        · exact .inr (.inl rfl)
      · cases l
        · exact .inr (.inl rfl)
        · exact .inl rfl
      · exact .inr (.inl rfl)
      · exact .inr (.inr rfl)
    · exact .inl rfl

/-- What an edge event comes to: the source's own bits, and a new presentation where a batch ends. -/
theorem edgeEvent_keeps {β : Type} (g : State → β) (i : Nat) (hset : ∀ s p h, g (s.setBel i { s.belSrc i with pend := p, held := h }) = g s)
    (hv : ∀ s l, g { s with vec := l } = g s) (s : State) : g (s.edgeEvent i) = g s := by
  unfold State.edgeEvent
  dsimp only
  split
  · exact (presentAll_keeps g hv _).trans (hset s _ 0)
  · exact hset s (s.belSrc i).pend _

theorem noteWithdrawn_keeps {β : Type} (g : State → β) (hc : ∀ s l, g { s with belClaims := l } = g s) (s : State) (i : Nat) :
    g (s.noteWithdrawn i) = g s := by
  unfold State.noteWithdrawn
  split
  · rfl
  · exact hc s _

/-- An input's change leaves what its level, its source's pending and batched events, the vectors and the claims' marks do not hold. -/
theorem setInput_keeps {β : Type} (g : State → β) (i : Nat) (hl : ∀ s l, g { s with belLvl := l } = g s)
    (hset : ∀ s p h, g (s.setBel i { s.belSrc i with pend := p, held := h }) = g s) (hv : ∀ s l, g { s with vec := l } = g s)
    (hc : ∀ s l, g { s with belClaims := l } = g s) (s : State) (l : Bool) : g (s.setInput i l) = g s := by
  have hin : g (s.inputAt i l) = g s := hl s _
  rcases setInput_cases s i l with ⟨-, h⟩ | ⟨-, h | h | h⟩
  · rw [h]
  · rw [h, hin]
  · rw [h, edgeEvent_keeps g i hset hv, hin]
  · rw [h, presentAll_keeps g hv, noteWithdrawn_keeps g hc, hin]

/-- Of the sources' bits an event moves pending and batched ones, no claims. -/
theorem claimed_setInput (s : State) (i k : Nat) (l : Bool) : ((s.setInput i l).belSrc k).claimed = (s.belSrc k).claimed := by
  refine setInput_keeps (fun s => (s.belSrc k).claimed) i (fun _ _ => rfl) (fun s p h => ?_) (fun _ _ => rfl) (fun _ _ => rfl) s l
  rw [belSrc_setBel]
  split <;> simp_all

theorem claimed_pulse (s : State) (i k : Nat) : ((s.pulse i).belSrc k).claimed = (s.belSrc k).claimed := by
  unfold State.pulse
  split
  · rfl
  · rw [claimed_setInput, claimed_setInput]; rfl

/-- The input of a source that has one takes the level. -/
theorem belInput_setInput (s : State) {i : Nat} (h : belReserved i = false) (l : Bool) : (s.setInput i l).belInput i = l := by
  have hnew : (s.inputAt i l).belInput i = l := by
    simp only [State.belInput, State.inputAt, tget_tput_same]
    cases l <;> cases (decide (1040 ≤ i) && decide (i ≤ 1295)) <;> rfl
  have hedge : ((s.inputAt i l).edgeEvent i).belInput i = l :=
    (edgeEvent_keeps (fun s => s.belInput i) i (fun _ _ _ => rfl) (fun _ _ => rfl) _).trans hnew
  have hpres : (((s.inputAt i l).noteWithdrawn i).presentAll).belInput i = l :=
    (presentAll_keeps (fun s => s.belInput i) (fun _ _ => rfl) _).trans
      ((noteWithdrawn_keeps (fun s => s.belInput i) (fun _ _ => rfl) _ i).trans hnew)
  rcases setInput_cases s i l with ⟨hsame | hres, hs⟩ | ⟨-, hs | hs | hs⟩ <;> rw [hs]
  · exact hsame
  · rw [h] at hres; cases hres
  · exact hnew
  · exact hedge
  · exact hpres

/-- A source without a claim marks none. -/
theorem noteWithdrawn_unclaimed {s : State} {i : Nat} (h : ∀ x ∈ s.belClaims, x.src ≠ i) : s.noteWithdrawn i = s := by
  unfold State.noteWithdrawn
  split
  · rfl
  · have hmap : (s.belClaims.map fun x : Claim => if x.src = i ∧ s.now - x.at' < s.get .BEL_GLB_CFG_SPUR_WIN
        then { x with withdrawn := true } else x) = s.belClaims :=
      (List.map_congr_left fun x hx => if_neg fun hc => h x hx hc.1).trans (List.map_id s.belClaims)
    dsimp only
    rw [hmap]

theorem belClaims_setInput {s : State} {i : Nat} (h : ∀ x ∈ s.belClaims, x.src ≠ i) (l : Bool) :
    (s.setInput i l).belClaims = s.belClaims := by
  have hnone : (s.inputAt i l).noteWithdrawn i = s.inputAt i l := noteWithdrawn_unclaimed h
  rcases setInput_cases s i l with ⟨-, hs⟩ | ⟨-, hs | hs | hs⟩ <;> rw [hs]
  · rfl
  · exact edgeEvent_keeps State.belClaims i (fun _ _ _ => rfl) (fun _ _ => rfl) (s.inputAt i l)
  · rw [hnone]; exact presentAll_keeps State.belClaims (fun _ _ => rfl) (s.inputAt i l)

/-- Where no claim is marked, none is counted (R358). -/
theorem spurCount_calm {s : State} (h : ∀ x ∈ s.belClaims, x.withdrawn = false) : s.spurCount = s := by
  have hkept : s.belClaims.filter (fun x => !Claim.withdrawn x) = s.belClaims := List.filter_eq_self.2 fun x hx => by simp [h x hx]
  have hnone : s.belClaims.filter Claim.withdrawn = [] := List.filter_eq_nil_iff.2 fun x hx => by simp [h x hx]
  rw [State.spurCount, hkept, hnone]; rfl

end Sys2Proof.Machine
end

section
/-! Software's side of the collector, and the Lantern (R368 to R376). -/
namespace Sys2Proof.Machine

variable {s : State}

/-! Clears. -/

theorem exec_fltIrqClear {i : Nat} (hi : i < 512) (h : s.aonUp = true) : exec (.fltIrqClear i) s = s.become (s.irqClear i) :=
  runAonOn_up (fun s => s.irqClear i) hi h

/-- The interrupt reaction of a source has ended, before Belfry counts what its claims have seen (R368). -/
def State.irqLow (s : State) (i : Nat) : State := (s.put .FLT_SRC_STATUS_IRQ i 0).setInput (1536 + i) false

theorem irqClear_eq (s : State) (i : Nat) : s.irqClear i = (s.irqLow i).inBlock 15 State.spurCount := rfl

theorem flag_irqLow (s : State) (i : Nat) : (s.irqLow i).flag .FLT_SRC_STATUS_IRQ i = false := by
  rw [State.irqLow, State.flag, get_setInput]
  exact flag_put_zero s .FLT_SRC_STATUS_IRQ (by decide) i

/-- The collector's sources have inputs. -/
theorem belReserved_fault (i : Nat) : belReserved (1536 + i) = false := by
  rw [belReserved, Bool.and_eq_false_iff, decide_eq_false_iff_not, decide_eq_false_iff_not]; omega

theorem belInput_irqLow (s : State) (i : Nat) : (s.irqLow i).belInput (1536 + i) = false :=
  belInput_setInput _ (belReserved_fault i) false

theorem rd_irqLow (s : State) (i : Nat) {r : Reg} {k : Nat} (h : ¬(r = .FLT_SRC_STATUS ∧ k = i)) : (s.irqLow i).rd r k = s.rd r k :=
  (rd_setInput _ _ _ r k).trans (rd_wr_other s _ h)

theorem irqClear_calm {i : Nat} (h : ∀ x ∈ s.belClaims, x.src ≠ 1536 + i ∧ x.withdrawn = false) : s.irqClear i = s.irqLow i := by
  have hclaims : (s.irqLow i).belClaims = s.belClaims :=
    belClaims_setInput (s := s.put .FLT_SRC_STATUS_IRQ i 0) (fun x hx => (h x hx).1) false
  have hcalm : (s.irqLow i).spurCount = s.irqLow i := spurCount_calm fun x hx => (h x (hclaims ▸ hx)).2
  rw [irqClear_eq, State.inBlock, hcalm, ite_self]

theorem exec_nmtClear (h : s.aonUp = true) (mask : Nat) : exec (.nmtClear mask) s = s.become (s.nmtClear mask) :=
  runAon_up (fun s => s.nmtClear mask) h

theorem get_nmtClear (s : State) (mask : Nat) :
    (s.nmtClear mask).get .FLT_NMT_PEND = andNot (s.get .FLT_NMT_PEND) mask % 2 ^ Fld.FLT_NMT_PEND.width :=
  get_put_same s .FLT_NMT_PEND (by decide) 0 _

theorem testBit_nmtClear (s : State) (mask k : Nat) : ((s.nmtClear mask).get .FLT_NMT_PEND).testBit k =
    ((s.get .FLT_NMT_PEND).testBit k && !mask.testBit k) := by
  rw [get_nmtClear, Nat.testBit_mod_two_pow, testBit_andNot]
  by_cases hk : k < Fld.FLT_NMT_PEND.width
  · simp [hk]
  · have hhigh : (s.get .FLT_NMT_PEND).testBit k = false := Nat.testBit_lt_two_pow
      (Nat.lt_of_lt_of_le (of_lt _ _) (Nat.pow_le_pow_right (by decide) (Nat.not_lt.1 hk)))
    simp [hhigh]

theorem exec_firedClear {i : Nat} (hi : i < 512) (h : s.aonUp = true) : exec (.firedClear i) s = s.become (s.firedClear i) :=
  runAonOn_up (fun s => s.firedClear i) hi h

theorem onlyReg_firedClear (s : State) (i : Nat) : OnlyReg .FLT_SRC_STATUS i s (s.firedClear i) :=
  ((OnlyReg.refl _ i s).put .FLT_SRC_STATUS_FIRED rfl 0).put .FLT_SRC_STATUS_FIRE_CNT rfl 0

/-- A field of FLT_SRC_STATUS that is neither FIRED nor FIRE_CNT stays. -/
theorem get_firedClear_other (s : State) (i : Nat) {g : Fld} (h : g.hi < 16 ∨ 19 < g.lo ∧ g.hi < 31) (hg : g.lo ≤ g.hi) :
    (s.firedClear i).get g i = s.get g i := by
  have hcnt : g.hi < 16 ∨ 19 < g.lo := h.imp_right And.left
  have hfired : g.hi < 31 ∨ 31 < g.lo := .inl (h.elim (fun h => Nat.lt_trans h (by decide)) And.right)
  exact (get_put_other _ .FLT_SRC_STATUS_FIRE_CNT g i i 0 (.inr ⟨hcnt, hg⟩)).trans
    (get_put_other s .FLT_SRC_STATUS_FIRED g i i 0 (.inr ⟨hfired, hg⟩))

theorem exec_firstErrorClear (h : s.aonUp = true) : exec .firstErrorClear s = s.become s.firstClear := runAon_up State.firstClear h

/-- The first-error record armed again, but for the episode's mark (R365). -/
def State.firstArmed (s : State) : State :=
  ((s.put .FLT_FIRST_SRC_VALID 0 0).put .FLT_FIRST_SRC_OVERFLOW 0 0).put .FLT_FIRST_SRC_MERGED 0 0

theorem firstClear_eq (s : State) : s.firstClear = { s.firstArmed with episodeFirst := false } := rfl

theorem onlyReg_firstArmed (s : State) : OnlyReg .FLT_FIRST_SRC 0 s s.firstArmed :=
  (((OnlyReg.refl _ 0 s).put .FLT_FIRST_SRC_VALID rfl 0).put .FLT_FIRST_SRC_OVERFLOW rfl 0).put .FLT_FIRST_SRC_MERGED rfl 0

/-! Holds. -/

theorem exec_domeHoldClear (h : s.aonUp = true) (w : Word) : exec (.domeHoldClear w) s = s.become (s.fltStatusWrite w) :=
  runAon_up (fun s => s.fltStatusWrite w) h
theorem exec_pinHoldClear (h : s.aonUp = true) (w : Word) : exec (.pinHoldClear w) s = s.become (s.fltStatusWrite w) :=
  runAon_up (fun s => s.fltStatusWrite w) h

theorem onlyReg_fltStatusWrite (s : State) (w : Word) : OnlyReg .FLT_STATUS 0 s (s.fltStatusWrite w) :=
  ((((OnlyReg.refl _ 0 s).when_put .FLT_STATUS_PIN_HOLD rfl 0 _).when_put .FLT_STATUS_DOME_HOLD rfl 0 _).when_put
    .FLT_STATUS_INJ_REJ rfl 0 _).when_put .FLT_STATUS_LANTERN_REJ rfl 0 _

theorem domeHold_fltStatusWrite (s : State) (w : Word) :
    (s.fltStatusWrite w).flag .FLT_STATUS_DOME_HOLD = (s.flag .FLT_STATUS_DOME_HOLD && !wbit w 30) := by
  rw [State.fltStatusWrite, flag_when_other _ .FLT_STATUS_LANTERN_REJ _ 0 0 0 _ (.inr (by decide)),
    flag_when_other _ .FLT_STATUS_INJ_REJ _ 0 0 0 _ (.inr (by decide)), flag_when_clear _ _ (by decide),
    flag_when_other _ .FLT_STATUS_PIN_HOLD _ 0 0 0 _ (.inr (by decide))]

theorem pinHold_fltStatusWrite (s : State) (w : Word) : (s.fltStatusWrite w).flag .FLT_STATUS_PIN_HOLD =
    (s.flag .FLT_STATUS_PIN_HOLD && !(wbit w 31 && Fld.FLT_STATUS_KEY.of w == 0x5A)) := by
  rw [State.fltStatusWrite, flag_when_other _ .FLT_STATUS_LANTERN_REJ _ 0 0 0 _ (.inr (by decide)),
    flag_when_other _ .FLT_STATUS_INJ_REJ _ 0 0 0 _ (.inr (by decide)),
    flag_when_other _ .FLT_STATUS_DOME_HOLD _ 0 0 0 _ (.inr (by decide)), flag_when_clear _ _ (by decide)]

/-! The Lantern (R374). -/

theorem exec_lanternArm (h : s.aonUp = true) (key : Nat) : exec (.lanternArm key) s = s.become (s.lanternArm key) :=
  runAon_up (fun s => s.lanternArm key) h
theorem exec_lanternStop (h : s.aonUp = true) (key : Nat) : exec (.lanternStop key) s = s.become (s.lanternStop key) :=
  runAon_up (fun s => s.lanternStop key) h

theorem lanternArm_rejected {key : Nat} (h : key ≠ 0x5A ∨ s.flag .FLT_STATUS_PIN_HOLD = true) :
    s.lanternArm key = s.put .FLT_STATUS_LANTERN_REJ 0 1 := if_pos h

/-- The Lantern begins to run, before its record (R374). -/
def State.lanternLit (s : State) : State :=
  { s.put .FLT_LANTERN_STATE 0 1 with lantern := false, halfNow := s.get .FLT_LANTERN_HALF }

theorem lanternArm_keyed (h : s.flag .FLT_STATUS_PIN_HOLD = false) : s.lanternArm 0x5A = if s.get .FLT_LANTERN_STATE = 1 then s
    else s.lanternLit.when (s.get .FLT_LANTERN_STATE == 2) fun s => s.record 6 0 [1] := if_neg (by simp [h])

theorem lanternStop_rejected {key : Nat} (h : key ≠ 0x5A) : s.lanternStop key = s.put .FLT_STATUS_LANTERN_REJ 0 1 := if_pos h

theorem lanternStop_keyed (s : State) : s.lanternStop 0x5A = if s.get .FLT_LANTERN_STATE = 1 then s.lanternHold 3 else s :=
  (if_neg (by simp)).trans (if_congr beq_iff_eq rfl rfl)

/-- The Lantern's state, its level and its half period in force. -/
def State.lanternView (s : State) : Word × Bool × Nat := (s.rd .FLT_LANTERN, s.lantern, s.halfNow)

/-- A record moves nothing of the Lantern. -/
theorem lanternView_record (s : State) (kind flags : Nat) (body : List Word) : (s.record kind flags body).lanternView = s.lanternView := by
  refine record_keeps State.lanternView (fun _ => rfl) (fun _ _ => rfl) (fun s r i w hr => ?_) s kind flags body false
  have hother : (s.wr r i w).rd .FLT_LANTERN = s.rd .FLT_LANTERN := rd_wr_other s w fun hk => by
    rcases hr with rfl | rfl <;> cases hk.1
  rw [State.lanternView, hother]; rfl

theorem lanternView_when_record (s : State) (c : Bool) (body : List Word) :
    (s.when c fun s => s.record 6 0 body).lanternView = s.lanternView := by
  cases c
  · rfl
  · exact lanternView_record s 6 0 body

/-- What the Lantern's registers and level are, from its view. -/
theorem lantern_of_view {t u : State} (h : u.lanternView = t.lanternView) : u.get .FLT_LANTERN_STATE = t.get .FLT_LANTERN_STATE ∧
    u.lantern = t.lantern ∧ u.halfNow = t.halfNow := by
  simp only [State.lanternView, Prod.mk.injEq] at h
  obtain ⟨hreg, hlevel, hhalf⟩ := h
  exact ⟨congrArg Fld.FLT_LANTERN_STATE.of hreg, hlevel, hhalf⟩

theorem exec_lanternHalfPeriod (h : s.aonUp = true) : exec .lanternHalfPeriod s = s.become (if s.get .FLT_LANTERN_STATE = 1
    then { s with lantern := !s.lantern, halfNow := s.get .FLT_LANTERN_HALF } else s) := runAon_up State.lanternEdge h

/-! Injection into a data-class memory (R376). -/

theorem exec_fltInjArm (h : s.aonUp = true) (w : Word) : exec (.fltInjArm w) s = s.become (s.injDataWrite w) :=
  runAon_up (fun s => s.injDataWrite w) h

theorem onlyReg_injDataWrite (s : State) (w : Word) : OnlyReg .FLT_INJ_DATA 0 s (s.injDataWrite w) :=
  ((((OnlyReg.refl _ 0 s).put .FLT_INJ_DATA_ADDR_EN rfl _).when_put .FLT_INJ_DATA_BITS rfl _ _).when_put
    .FLT_INJ_DATA_MEM rfl _ _).when_put .FLT_INJ_DATA_ARM rfl 1 _

theorem arm_injDataWrite (s : State) (w : Word) :
    (s.injDataWrite w).flag .FLT_INJ_DATA_ARM = (s.flag .FLT_INJ_DATA_ARM || wbit w 31) := by
  rw [State.injDataWrite, flag_when_set _ _ (by decide), flag_when_other _ .FLT_INJ_DATA_MEM _ 0 0 _ _ (.inr (by decide)),
    flag_when_other _ .FLT_INJ_DATA_BITS _ 0 0 _ _ (.inr (by decide)), State.putFlag,
    flag_put_other _ .FLT_INJ_DATA_ADDR_EN _ 0 0 _ (.inr (by decide))]

theorem addrEn_injDataWrite (s : State) (w : Word) : (s.injDataWrite w).flag .FLT_INJ_DATA_ADDR_EN = wbit w 30 := by
  rw [State.injDataWrite, flag_when_other _ .FLT_INJ_DATA_ARM _ 0 0 _ _ (.inr (by decide)),
    flag_when_other _ .FLT_INJ_DATA_MEM _ 0 0 _ _ (.inr (by decide)), flag_when_other _ .FLT_INJ_DATA_BITS _ 0 0 _ _ (.inr (by decide)),
    flag_putFlag _ _ (by decide)]

/-- Settles O49: each clear by the register that it changes, the Lantern by its state and its key. -/
theorem clearsEndTheirReactionAndLanternFollowsItsKey : Obligations.ClearsEndTheirReactionAndLanternFollowsItsKey := by
  intro i mask key w s hi hup
  refine ⟨⟨flag_irqLow s i, belInput_irqLow s i, fun r k h => rd_irqLow s i h, exec_fltIrqClear hi hup, fun hcalm => ?_⟩,
    ⟨_, exec_nmtClear hup mask, ?_, testBit_nmtClear s mask⟩, ?_, ?_, ?_, fun hkey => ⟨?_, ?_⟩, fun hpin => ?_, fun hkey hpin => ?_,
    fun hkey => ?_, ?_, ?_⟩
  · rw [exec_fltIrqClear hi hup, irqClear_calm hcalm]; rfl
  · show s.nmtClear mask = s.put .FLT_NMT_PEND 0 ((s.nmtClear mask).get .FLT_NMT_PEND)
    rw [get_nmtClear, put_mod]; rfl
  · have honly := onlyReg_firedClear s i
    have hfired : (s.firedClear i).flag .FLT_SRC_STATUS_FIRED i = false :=
      (flag_put_other _ .FLT_SRC_STATUS_FIRE_CNT _ i i 0 (.inr (by decide))).trans (flag_put_zero s _ (by decide) i)
    exact ⟨_, exec_firedClear hi hup, hfired, get_put_same _ .FLT_SRC_STATUS_FIRE_CNT (by decide) i 0,
      get_firedClear_other s i (.inr (by decide)) (by decide), get_firedClear_other s i (.inr (by decide)) (by decide),
      honly.rest, honly.rd⟩
  · have honly := onlyReg_firstArmed s
    have hvalid : s.firstArmed.flag .FLT_FIRST_SRC_VALID = false :=
      (flag_put_other _ .FLT_FIRST_SRC_MERGED _ 0 0 0 (.inr (by decide))).trans
        ((flag_put_other _ .FLT_FIRST_SRC_OVERFLOW _ 0 0 0 (.inr (by decide))).trans (flag_put_zero s _ (by decide) 0))
    have hoverflow : s.firstArmed.flag .FLT_FIRST_SRC_OVERFLOW = false :=
      (flag_put_other _ .FLT_FIRST_SRC_MERGED _ 0 0 0 (.inr (by decide))).trans (flag_put_zero _ _ (by decide) 0)
    exact ⟨_, exec_firstErrorClear hup, hvalid, hoverflow, get_put_same _ .FLT_FIRST_SRC_MERGED (by decide) 0 0, rfl,
      fun r k hr => honly.rd_ne hr k⟩
  · have honly := onlyReg_fltStatusWrite s w
    have hrest : s.outside (s.fltStatusWrite w) = { s with regs := (s.fltStatusWrite w).regs } := congrArg s.outside honly.rest
    exact ⟨_, exec_domeHoldClear hup w, exec_pinHoldClear hup w, hrest, domeHold_fltStatusWrite s w, pinHold_fltStatusWrite s w,
      fun r k hr => honly.rd_ne hr k⟩
  · rw [exec_lanternArm hup, lanternArm_rejected (.inl hkey)]; rfl
  · rw [exec_lanternStop hup, lanternStop_rejected hkey]; rfl
  · rw [exec_lanternArm hup, lanternArm_rejected (.inr hpin)]; rfl
  · subst hkey
    rw [exec_lanternArm hup, lanternArm_keyed hpin]
    refine ⟨fun hrun => ?_, fun hidle => ?_⟩
    · rw [if_pos hrun]; rfl
    · rw [if_neg hidle]
      obtain ⟨hstate, hlevel, hhalf⟩ := lantern_of_view (lanternView_when_record s.lanternLit (s.get .FLT_LANTERN_STATE == 2) [1])
      exact ⟨_, rfl, hstate.trans (get_put_same s .FLT_LANTERN_STATE (by decide) 0 1), hlevel, hhalf⟩
  · subst hkey
    rw [exec_lanternStop hup, lanternStop_keyed]
    refine ⟨fun hidle => ?_, fun hrun => ?_⟩
    · rw [if_neg hidle]; rfl
    · rw [if_pos hrun]
      obtain ⟨hstate, hlevel, -⟩ := lantern_of_view (lanternView_record (s.put .FLT_LANTERN_STATE 0 2) 6 0 [word 3])
      exact ⟨_, rfl, hstate.trans (get_put_same s .FLT_LANTERN_STATE (by decide) 0 2), hlevel⟩
  · rw [exec_lanternHalfPeriod hup, become_ite]; rfl
  · have honly := onlyReg_injDataWrite s w
    have hrest : s.outside (s.injDataWrite w) = { s with regs := (s.injDataWrite w).regs } := congrArg s.outside honly.rest
    exact ⟨_, exec_fltInjArm hup w, arm_injDataWrite s w, addrEn_injDataWrite s w, hrest, fun r k hr => honly.rd_ne hr k⟩

end Sys2Proof.Machine
end

section
/-! Belfry's presentation: the source presented is the highest presentable one (R68, R354, R355). -/
namespace Sys2Proof.Machine

/-! The choice of the highest of a list. -/

/-- The better of the choice so far and one more candidate: the first stays among equals. -/
def pickHigher (P : Nat → Bool) (f : Nat → Nat) (best : Option Nat) (i : Nat) : Option Nat :=
  if P i then
    match best with
    | none => some i
    | some b => if f b < f i then some i else some b
  else best

/-- `v` is the highest candidate of the list, the first among equals. -/
structure Highest (P : Nat → Bool) (f : Nat → Nat) (l : List Nat) (v : Nat) : Prop where
  mem : v ∈ l
  candidate : P v = true
  highest : ∀ i ∈ l, P i = true → f i ≤ f v
  lowest : l.Pairwise (· < ·) → ∀ i ∈ l, P i = true → f i = f v → v ≤ i

theorem Highest.append {P : Nat → Bool} {f : Nat → Nat} {l : List Nat} {v a : Nat} (h : Highest P f l v) (ha : P a = true → f a ≤ f v) :
    Highest P f (l ++ [a]) v := by
  obtain ⟨hmem, hcand, hhigh, hlow⟩ := h
  refine ⟨List.mem_append_left _ hmem, hcand, fun i hi hp => ?_, fun hs i hi hp he => ?_⟩
  · rcases List.mem_append.1 hi with hi | hi
    · exact hhigh i hi hp
    · rw [List.mem_singleton.1 hi] at hp ⊢; exact ha hp
  · obtain ⟨hsl, -, hla⟩ := List.pairwise_append.1 hs
    rcases List.mem_append.1 hi with hi | hi
    · exact hlow hsl i hi hp he
    · exact Nat.le_of_lt (hla v hmem i hi)

theorem Highest.last {P : Nat → Bool} {f : Nat → Nat} {l : List Nat} {a : Nat} (hp : P a = true) (h : ∀ i ∈ l, P i = true → f i < f a) :
    Highest P f (l ++ [a]) a := by
  refine ⟨List.mem_append_right _ (List.mem_singleton_self a), hp, fun i hi hpi => ?_, fun _ i hi hpi he => ?_⟩
  · rcases List.mem_append.1 hi with hi | hi
    · exact Nat.le_of_lt (h i hi hpi)
    · rw [List.mem_singleton.1 hi]
  · rcases List.mem_append.1 hi with hi | hi
    · exact absurd he (Nat.ne_of_lt (h i hi hpi))
    · rw [List.mem_singleton.1 hi]

/-- What the choice over a list comes to. -/
theorem foldl_pickHigher (P : Nat → Bool) (f : Nat → Nat) (l : List Nat) :
    (l.foldl (pickHigher P f) none = none ∧ ∀ i ∈ l, P i = false) ∨ ∃ v, l.foldl (pickHigher P f) none = some v ∧ Highest P f l v := by
  induction l using List.reverseRecOn with
  | nil => exact .inl ⟨rfl, fun _ h => nomatch h⟩
  | append_singleton l a ih =>
    rw [List.foldl_append, List.foldl_cons, List.foldl_nil]
    cases hp : P a with
    | false =>
      have hskip (best : Option Nat) : pickHigher P f best a = best := if_neg (by simp [hp])
      rw [hskip]
      rcases ih with ⟨hnone, hno⟩ | ⟨v, hsome, hv⟩
      · refine .inl ⟨hnone, fun i hi => ?_⟩
        rcases List.mem_append.1 hi with hi | hi
        · exact hno i hi
        · rw [List.mem_singleton.1 hi, hp]
      · exact .inr ⟨v, hsome, hv.append fun h => absurd (hp.symm.trans h) (by decide)⟩
    | true =>
      rcases ih with ⟨hnone, hno⟩ | ⟨v, hsome, hv⟩
      · rw [hnone]
        exact .inr ⟨a, if_pos hp, Highest.last hp fun i hi hpi => absurd ((hno i hi).symm.trans hpi) (by decide)⟩
      · rw [hsome]
        have hpick : pickHigher P f (some v) a = if f v < f a then some a else some v := if_pos hp
        rw [hpick]
        by_cases hlt : f v < f a
        · exact .inr ⟨a, if_pos hlt, Highest.last hp fun i hi hpi => Nat.lt_of_le_of_lt (hv.highest i hi hpi) hlt⟩
        · exact .inr ⟨v, if_neg hlt, hv.append fun _ => Nat.not_lt.1 hlt⟩

/-! The presentable set. -/

variable {s : State} {t i : Nat}

theorem presentable_committed (h : s.presentable t i = true) : s.committed = true := by
  simp only [State.presentable, Bool.and_eq_true] at h
  obtain ⟨⟨⟨⟨⟨hcom, -⟩, -⟩, -⟩, -⟩, -⟩ := h
  exact hcom

theorem presentable_enabled (h : s.presentable t i = true) : s.flag .BEL_SRC_CFG_EN i = true := by
  simp only [State.presentable, Bool.and_eq_true] at h
  obtain ⟨⟨⟨⟨-, hen⟩, -⟩, -⟩, -⟩ := h
  exact hen

theorem presentable_unclaimed (h : s.presentable t i = true) : (s.belSrc i).claimed.testBit t = false := by
  simp only [State.presentable, Bool.and_eq_true, Bool.not_eq_true'] at h
  obtain ⟨⟨-, hclaim⟩, -⟩ := h
  exact hclaim

theorem mem_of_tfind {α : Type} {m : List (Nat × α)} {k : Nat} {v : α} (h : tfind m k = some v) : (k, v) ∈ m := by
  induction m with
  | nil => cases h
  | cons e m ih =>
    obtain ⟨j, w⟩ := e
    simp only [tfind] at h
    split at h
    · rename_i hj
      cases h
      rw [hj]
      exact List.mem_cons_self
    · exact List.mem_cons_of_mem _ (ih h)

/-- No source is enabled by reset. -/
theorem en_belReset (i : Nat) : Fld.BEL_SRC_CFG_EN.of (regReset .BEL_SRC_CFG i) = 0 := by
  show Fld.BEL_SRC_CFG_EN.of (word (resetSense i <<< 28)) = 0
  unfold resetSense
  split
  · decide
  · split <;> decide

/-- An enabled source has its configuration listed. -/
theorem mem_belConfigured (h : s.flag .BEL_SRC_CFG_EN i = true) : i ∈ s.belConfigured := by
  cases hf : tfind s.regs (regKey .BEL_SRC_CFG i) with
  | none =>
    have hrd : s.rd .BEL_SRC_CFG i = regReset .BEL_SRC_CFG i := by rw [State.rd, hf, Option.getD_none]
    have hen : s.get .BEL_SRC_CFG_EN i = 0 := (congrArg Fld.BEL_SRC_CFG_EN.of hrd).trans (en_belReset i)
    rw [State.flag, hen] at h; cases h
  | some w =>
    have hlt := ctorIdx_lt .BEL_SRC_CFG
    have hmod : regKey .BEL_SRC_CFG i % 512 = Reg.BEL_SRC_CFG.ctorIdx := by simp only [regKey]; omega
    have hdiv : regKey .BEL_SRC_CFG i / 512 = i := by simp only [regKey]; omega
    refine List.mem_filterMap.2 ⟨_, mem_of_tfind hf, ?_⟩
    rw [if_pos hmod, hdiv]

theorem bestSource_eq (s : State) (t : Nat) :
    s.bestSource t = s.belConfigured.foldl (pickHigher (s.presentable t) fun i => s.get .BEL_SRC_CFG_PRIO i) none := rfl

/-- `v` is a source to present to target `t`: of the presentable set's highest PRIO, the lowest where none is presented, and the one
that is presented where it keeps its place (R354, R355). -/
structure Presents (s : State) (t v : Nat) : Prop where
  presentable : s.presentable t v = true
  highest : ∀ i, s.presentable t i = true → s.get .BEL_SRC_CFG_PRIO i ≤ s.get .BEL_SRC_CFG_PRIO v
  lowest : s.presented t = none → s.belConfigured.Pairwise (· < ·) → ∀ i, s.presentable t i = true →
    s.get .BEL_SRC_CFG_PRIO i = s.get .BEL_SRC_CFG_PRIO v → v ≤ i
  stays : ∀ c, s.presented t = some c → s.presentable t c = true → s.get .BEL_SRC_CFG_PRIO c = s.get .BEL_SRC_CFG_PRIO v → v = c

/-- The best source of a presentable set that is not empty. -/
theorem bestSource_cases (s : State) (t : Nat) : (s.bestSource t = none ∧ ∀ i, s.presentable t i = false) ∨
    ∃ v, s.bestSource t = some v ∧ Highest (s.presentable t) (fun i => s.get .BEL_SRC_CFG_PRIO i) s.belConfigured v := by
  rw [bestSource_eq]
  refine (foldl_pickHigher _ _ s.belConfigured).imp_left fun ⟨hnone, hno⟩ => ⟨hnone, fun i => ?_⟩
  by_contra hp
  rw [Bool.not_eq_false] at hp
  exact absurd ((hno i (mem_belConfigured (presentable_enabled hp))).symm.trans hp) (by decide)

/-- What is presented next: nothing where the set is empty, else a source to present. -/
theorem nextVector_cases (s : State) (t : Nat) : (s.nextVector t = none ∧ ∀ i, s.presentable t i = false) ∨
    ∃ v, s.nextVector t = some v ∧ Presents s t v := by
  rcases bestSource_cases s t with ⟨hbest, hno⟩ | ⟨b, hbest, hmem, hcand, hhigh, hlow⟩
  · refine .inl ⟨?_, hno⟩
    unfold State.nextVector
    rw [hbest]
  · have hlisted (i : Nat) (hp : s.presentable t i = true) : i ∈ s.belConfigured := mem_belConfigured (presentable_enabled hp)
    have hmax (i : Nat) (hp : s.presentable t i = true) := hhigh i (hlisted i hp) hp
    cases hpres : s.presented t with
    | none =>
      refine .inr ⟨b, ?_, hcand, hmax, fun _ hs i hp he => hlow hs i (hlisted i hp) hp he, fun c hc => ?_⟩
      · simp only [State.nextVector, hbest, hpres]
      · rw [hpres] at hc; cases hc
    | some c =>
      have hnext : s.nextVector t = if (s.presentable t c && !decide (s.get .BEL_SRC_CFG_PRIO c < s.get .BEL_SRC_CFG_PRIO b)) = true
          then some c else some b := by simp only [State.nextVector, hbest, hpres]
      by_cases hkeep : s.presentable t c = true ∧ s.get .BEL_SRC_CFG_PRIO b ≤ s.get .BEL_SRC_CFG_PRIO c
      · obtain ⟨hpc, hle⟩ := hkeep
        refine .inr ⟨c, hnext.trans (if_pos (by simp [hpc, hle])), hpc, fun i hp => Nat.le_trans (hmax i hp) hle,
          fun hn => absurd (hpres.symm.trans hn) nofun, fun d hd _ _ => Option.some.inj (hpres.symm.trans hd)⟩
      · refine .inr ⟨b, hnext.trans (if_neg (by simpa using hkeep)), hcand, hmax, fun hn => absurd (hpres.symm.trans hn) nofun,
          fun d hd hpd he => ?_⟩
        have hdc : c = d := Option.some.inj (hpres.symm.trans hd)
        subst hdc
        exact absurd ⟨hpd, Nat.le_of_eq he.symm⟩ hkeep

/-! What a presentation drives. -/

theorem driven_present (s : State) (t k : Nat) :
    (s.present t).driven k = if k = t then (s.nextVector t).map s.vecOf else s.driven k := tget_tput _ _ _ _ _

theorem driven_present_same (s : State) (t : Nat) : (s.present t).driven t = (s.nextVector t).map s.vecOf := by
  rw [driven_present, if_pos rfl]

theorem driven_present_other (s : State) {t k : Nat} (h : k ≠ t) : (s.present t).driven k = s.driven k := by
  rw [driven_present, if_neg h]

theorem presented_present (s : State) (t : Nat) : (s.present t).presented t = s.nextVector t := by
  rw [State.presented, driven_present_same, Option.map_map]
  exact congrFun Option.map_id (s.nextVector t)

/-- What is presented has been presentable. -/
theorem presentable_of_presented {v : Nat} (h : (s.present t).presented t = some v) : s.presentable t v = true := by
  rw [presented_present] at h
  rcases nextVector_cases s t with ⟨hnone, -⟩ | ⟨w, hsome, hw⟩
  · rw [hnone] at h; cases h
  · rw [hsome] at h; cases h; exact hw.presentable

end Sys2Proof.Machine
end

section
/-! Takes and ends of interrupt (R50, R351, R356). -/
namespace Sys2Proof.Machine

variable {s : State} {t v : Nat} {x : Vec} {w : Word}

/-! Counters of Belfry. -/

/-- An increment moves no claim. -/
theorem claimed_add (s : State) (f : Fld) (i n k : Nat) : ((s.add f i n).belSrc k).claimed = (s.belSrc k).claimed := by
  have hmark (u : State) (c : Nat) : (u.satMark c).belSrc k = u.belSrc k := by rw [satMark_eq]; split <;> rfl
  unfold State.add
  dsimp only
  split
  · rw [claimed_pulse, hmark]; rfl
  · rfl

/-! A take. -/

theorem exec_vecTaken (ht : t < 8) (h : s.up 15 = true) : exec (.vecTaken t) s = s.become (s.vecTaken t) := runOn_up _ ht h

theorem vecTaken_none (h : s.driven t = none) : s.vecTaken t = s := by simp only [State.vecTaken, h]

/-- The vector `x` handed to the core of target `t`: the source is claimed and pushed, and nothing is driven (R50, R351). -/
def State.handOver (s : State) (t : Nat) (x : Vec) : State :=
  { ((s.setBel x.src { s.belSrc x.src with pend := clrBit (s.belSrc x.src).pend t
                                           claimed := orBit (s.belSrc x.src).claimed t }).emit (.vector t x.addr x.prio)) with
    belStack := tput [] s.belStack t ((x.src, x.prio) :: s.stackOf t), vec := tput none s.vec t none }

/-- The watch over a level source's claim (R358): a window opens, or the source that is withdrawn already is counted. -/
def State.watchClaim (s u : State) (t v : Nat) : State :=
  if !s.levelMode v || s.get .BEL_GLB_CFG_SPUR_WIN == 0 then u
  else if s.asserted v then { u with belClaims := ⟨t, v, s.now, false⟩ :: u.belClaims }
  else u.inc .BEL_SPURIOUS_AFTER_CLAIM_COUNT t

theorem vecTaken_some (h : s.driven t = some x) : s.vecTaken t = (s.watchClaim (s.handOver t x) t x.src).present t := by
  simp only [State.vecTaken, h]
  rfl

theorem belSrc_handOver (s : State) (t : Nat) (x : Vec) (k : Nat) : (s.handOver t x).belSrc k = if k = x.src then
    { s.belSrc x.src with pend := clrBit (s.belSrc x.src).pend t, claimed := orBit (s.belSrc x.src).claimed t } else s.belSrc k :=
  belSrc_setBel s x.src k _

theorem stackOf_handOver (s : State) (t : Nat) (x : Vec) (k : Nat) :
    (s.handOver t x).stackOf k = if k = t then (x.src, x.prio) :: s.stackOf t else s.stackOf k :=
  tget_tput [] s.belStack t k ((x.src, x.prio) :: s.stackOf t)

theorem driven_handOver (s : State) {t k : Nat} (x : Vec) (h : k ≠ t) : (s.handOver t x).driven k = s.driven k :=
  tget_tput_other none s.vec t k none h

/-- The watch leaves what neither the claims under watch nor a counter's increment moves. -/
theorem watchClaim_keeps {β : Type} (g : State → β) (hc : ∀ u l, g { u with belClaims := l } = g u)
    (hinc : ∀ u i, g (u.inc .BEL_SPURIOUS_AFTER_CLAIM_COUNT i) = g u) (s u : State) (t v : Nat) : g (s.watchClaim u t v) = g u := by
  unfold State.watchClaim
  split
  · rfl
  · split
    · exact hc u _
    · exact hinc u t

theorem claimed_watchClaim (s u : State) (t v k : Nat) : ((s.watchClaim u t v).belSrc k).claimed = (u.belSrc k).claimed :=
  watchClaim_keeps (fun u => (u.belSrc k).claimed) (fun _ _ => rfl) (fun u i => claimed_add u _ i 1 k) s u t v

/-- What the core has been handed, and the stacks. -/
def State.handed (s : State) : List Output × List (Nat × List (Nat × Nat)) := (s.out, s.belStack)

theorem handed_inc (f : Fld) (hs : satFlag (satSource f.reg) = none) (s : State) (i : Nat) : (s.inc f i).handed = s.handed :=
  add_keeps State.handed (fun _ => rfl) (fun _ _ _ => rfl) (fun h hh => by rw [hs] at hh; cases hh) s i 1

theorem handed_watchClaim (s u : State) (t v : Nat) : (s.watchClaim u t v).handed = u.handed :=
  watchClaim_keeps State.handed (fun _ _ => rfl) (handed_inc .BEL_SPURIOUS_AFTER_CLAIM_COUNT rfl) s u t v

/-- A watch that counts nothing changes at most the claims under watch. -/
theorem watchClaim_quiet (h : s.levelMode v = false ∨ s.get .BEL_GLB_CFG_SPUR_WIN = 0 ∨ s.asserted v = true) (u : State) (t : Nat) :
    ∃ l, s.watchClaim u t v = { u with belClaims := l } := by
  unfold State.watchClaim
  split
  · exact ⟨u.belClaims, rfl⟩
  · rename_i hwatch
    have hasserted : s.asserted v = true := by
      rcases h with h | h | h
      · simp [h] at hwatch
      · simp [h] at hwatch
      · exact h
    exact ⟨_, if_pos hasserted⟩

/-- What a take hands over, and what it pushes. -/
theorem handed_vecTaken (h : s.driven t = some x) : (s.vecTaken t).handed = (s.handOver t x).handed := by
  rw [vecTaken_some h]
  exact handed_watchClaim s (s.handOver t x) t x.src

theorem stackOf_vecTaken (h : s.driven t = some x) (k : Nat) :
    (s.vecTaken t).stackOf k = if k = t then (x.src, x.prio) :: s.stackOf t else s.stackOf k :=
  (congrArg (fun b : List Output × List (Nat × List (Nat × Nat)) => tget [] b.2 k) (handed_vecTaken h)).trans (stackOf_handOver s t x k)

theorem claimed_vecTaken (h : s.driven t = some x) :
    ((s.vecTaken t).belSrc x.src).claimed = orBit (s.belSrc x.src).claimed t := by
  rw [vecTaken_some h]
  refine (claimed_watchClaim s (s.handOver t x) t x.src x.src).trans ?_
  rw [belSrc_handOver, if_pos rfl]

/-- A take that counts nothing moves its source's bits, its target's vector and the stack alone. -/
theorem vecTaken_quiet (h : s.driven t = some x)
    (hquiet : s.levelMode x.src = false ∨ s.get .BEL_GLB_CFG_SPUR_WIN = 0 ∨ s.asserted x.src = true) :
    (s.vecTaken t).bel = (s.handOver t x).bel ∧ (∀ k, k ≠ t → (s.vecTaken t).driven k = s.driven k) ∧ (s.vecTaken t).regs = s.regs := by
  obtain ⟨l, hl⟩ := watchClaim_quiet hquiet (s.handOver t x) t
  rw [vecTaken_some h, hl]
  exact ⟨rfl, fun k hk => (driven_present_other _ hk).trans (driven_handOver s x hk), rfl⟩

/-- A take leaves its source claimed, so the source is not presented to the target again (R351). -/
theorem presented_vecTaken (h : s.driven t = some x) : (s.vecTaken t).presented t ≠ some x.src := by
  intro hp
  rw [vecTaken_some h] at hp
  have hfree := presentable_unclaimed (presentable_of_presented hp)
  rw [claimed_watchClaim, belSrc_handOver, if_pos rfl, testBit_orBit] at hfree
  simp at hfree

/-! An end of interrupt. -/

theorem exec_belEoi (ht : t < 8) (hs : s.soft = true) (h : s.up 15 = true) (w : Word) :
    exec (.belEoi t w) s = s.become (s.belEoi t w) := runSoftOn_up _ ht hs h

/-- The top of the stack of target `t` popped, before its claim ends (R351, R356). -/
def State.popped (s : State) (t v : Nat) (l : List (Nat × Nat)) : State :=
  let u := { s with belStack := tput [] s.belStack t l, belClaims := s.belClaims.filter fun x => !(x.target == t && x.src == v) }
  if s.levelMode v then u.present t else u

theorem popped_keeps {β : Type} (g : State → β) (hv : ∀ s l, g { s with vec := l } = g s) (s : State) (t v : Nat) (l : List (Nat × Nat)) :
    g (s.popped t v l) =
      g { s with belStack := tput [] s.belStack t l, belClaims := s.belClaims.filter fun x => !(x.target == t && x.src == v) } := by
  unfold State.popped
  split
  · exact hv _ _
  · rfl

theorem belEoi_top {p : Nat} {l : List (Nat × Nat)} (h : s.stackOf t = (v, p) :: l) (hw : wbits w 10 0 = v) : s.belEoi t w =
    ((s.popped t v l).setBel v { s.belSrc v with claimed := clrBit (s.belSrc v).claimed t }).present t := by
  simp only [State.belEoi, h]
  exact if_pos hw.symm

theorem belEoi_other (h : (s.stackOf t).head?.map (·.1) ≠ some (wbits w 10 0)) : s.belEoi t w = s.eoiError t (wbits w 10 0) := by
  cases hs : s.stackOf t with
  | nil => simp only [State.belEoi, hs]
  | cons e l =>
    obtain ⟨v, p⟩ := e
    simp only [State.belEoi, hs]
    refine if_neg fun hv => h ?_
    rw [hs, hv]; rfl

/-- The first end of interrupt out of order since ORDER_ERR was cleared is shown (R356). -/
def State.eoiShown (s : State) (t src : Nat) : State :=
  if s.flag .BEL_TGT_STATUS_ORDER_ERR t then s
  else
    (((s.put .BEL_TGT_STATUS_ORDER_ERR t 1).put .BEL_TGT_ORDER_EOI_SRC t src).putFlag .BEL_TGT_ORDER_EMPTY t
      (s.stackOf t).head?.isNone).put .BEL_TGT_ORDER_TOP_SRC t (((s.stackOf t).head?.map (·.1)).getD 0)

theorem eoiError_eq (s : State) (t src : Nat) : s.eoiError t src = ((s.eoiShown t src).inc .BEL_STACK_ORDER_COUNT t).raiseFree 11 := rfl

theorem eoiShown_keeps {β : Type} (g : State → β) (hput : ∀ s i v f, g (State.put s f i v) = g s) (s : State) (t src : Nat) :
    g (s.eoiShown t src) = g s := by
  unfold State.eoiShown
  split
  · rfl
  · rw [hput, State.putFlag, hput, hput, hput]

theorem orderErr_eoiShown (s : State) (t src : Nat) : (s.eoiShown t src).flag .BEL_TGT_STATUS_ORDER_ERR t = true := by
  unfold State.eoiShown
  split
  · assumption
  · rw [flag_put_other _ .BEL_TGT_ORDER_TOP_SRC .BEL_TGT_STATUS_ORDER_ERR _ _ _ (.inl fun h => nomatch h.1), State.putFlag,
      flag_put_other _ .BEL_TGT_ORDER_EMPTY .BEL_TGT_STATUS_ORDER_ERR _ _ _ (.inl fun h => nomatch h.1),
      flag_put_other _ .BEL_TGT_ORDER_EOI_SRC .BEL_TGT_STATUS_ORDER_ERR _ _ _ (.inl fun h => nomatch h.1)]
    exact flag_put_one s _ (by decide) t

/-- What an error shows where none is shown yet. -/
theorem order_eoiShown (h : s.flag .BEL_TGT_STATUS_ORDER_ERR t = false) (src : Nat) :
    (s.eoiShown t src).get .BEL_TGT_ORDER_EOI_SRC t = src % 2 ^ 11 ∧
    (s.eoiShown t src).flag .BEL_TGT_ORDER_EMPTY t = (s.stackOf t).head?.isNone := by
  unfold State.eoiShown
  rw [if_neg (by simp [h])]
  constructor
  · rw [get_put_other _ .BEL_TGT_ORDER_TOP_SRC _ _ _ _ (.inr (by decide)), State.putFlag,
      get_put_other _ .BEL_TGT_ORDER_EMPTY _ _ _ _ (.inr (by decide))]
    exact get_put_same _ .BEL_TGT_ORDER_EOI_SRC (by decide) t src
  · rw [flag_put_other _ .BEL_TGT_ORDER_TOP_SRC _ _ _ _ (.inr (by decide))]
    exact flag_putFlag _ _ (by decide) t _

theorem wbits_lt (w : Word) (hi lo : Nat) : wbits w hi lo < 2 ^ (hi + 1 - lo) := Nat.mod_lt _ (Nat.two_pow_pos _)

/-- Of the registers an error's count moves its own alone. -/
theorem rd_stackOrder (s : State) (t : Nat) {r : Reg} (h : r ≠ .BEL_STACK_ORDER) (k : Nat) :
    (s.inc .BEL_STACK_ORDER_COUNT t).rd r k = s.rd r k :=
  (rd_add s .BEL_STACK_ORDER_COUNT t 1 r k (fun g hg => by cases hg)).trans (rd_wr_other s _ fun hc => h hc.1)

theorem get_raiseFree (s : State) (k : Nat) (f : Fld) (i : Nat) : (s.raiseFree k).get f i = s.get f i := rfl
theorem belStack_raiseFree (s : State) (k : Nat) : (s.raiseFree k).belStack = s.belStack := rfl
theorem belSrc_raiseFree (s : State) (k i : Nat) : (s.raiseFree k).belSrc i = s.belSrc i := rfl

theorem get_eoiError (s : State) (t src : Nat) {f : Fld} (h : f.reg ≠ .BEL_STACK_ORDER) :
    (s.eoiError t src).get f t = (s.eoiShown t src).get f t := by
  rw [eoiError_eq, get_raiseFree]
  exact congrArg f.of (rd_stackOrder _ t h t)

theorem flag_eoiError (s : State) (t src : Nat) {f : Fld} (h : f.reg ≠ .BEL_STACK_ORDER) :
    (s.eoiError t src).flag f t = (s.eoiShown t src).flag f t := congrArg (· != 0) (get_eoiError s t src h)

theorem count_eoiError (s : State) (t src : Nat) :
    (s.eoiError t src).get .BEL_STACK_ORDER_COUNT t = min (2 ^ 32 - 1) (s.get .BEL_STACK_ORDER_COUNT t + 1) := by
  have hsame : (s.eoiShown t src).get .BEL_STACK_ORDER_COUNT t = s.get .BEL_STACK_ORDER_COUNT t := by
    unfold State.eoiShown
    split
    · rfl
    · rw [get_put_other _ .BEL_TGT_ORDER_TOP_SRC .BEL_STACK_ORDER_COUNT _ _ _ (.inl fun h => nomatch h.1), State.putFlag,
        get_put_other _ .BEL_TGT_ORDER_EMPTY .BEL_STACK_ORDER_COUNT _ _ _ (.inl fun h => nomatch h.1),
        get_put_other _ .BEL_TGT_ORDER_EOI_SRC .BEL_STACK_ORDER_COUNT _ _ _ (.inl fun h => nomatch h.1),
        get_put_other _ .BEL_TGT_STATUS_ORDER_ERR .BEL_STACK_ORDER_COUNT _ _ _ (.inl fun h => nomatch h.1)]
  rw [← hsame, eoiError_eq, get_raiseFree]
  exact get_add (s.eoiShown t src) .BEL_STACK_ORDER_COUNT (by decide) t 1

theorem belStack_eoiError (s : State) (t src : Nat) : (s.eoiError t src).belStack = s.belStack := by
  rw [eoiError_eq, belStack_raiseFree]
  exact (congrArg Prod.snd (handed_inc .BEL_STACK_ORDER_COUNT rfl (s.eoiShown t src) t)).trans
    (eoiShown_keeps State.belStack (fun _ _ _ _ => rfl) s t src)

theorem claimed_eoiError (s : State) (t src k : Nat) : ((s.eoiError t src).belSrc k).claimed = (s.belSrc k).claimed := by
  rw [eoiError_eq, belSrc_raiseFree, State.inc, claimed_add]
  exact eoiShown_keeps (fun s => (s.belSrc k).claimed) (fun _ _ _ _ => rfl) s t src

theorem stackOf_present (s : State) (t k : Nat) : (s.present t).stackOf k = s.stackOf k := rfl
theorem belSrc_present (s : State) (t i : Nat) : (s.present t).belSrc i = s.belSrc i := rfl
theorem stackOf_setBel (s : State) (i : Nat) (b : BelSrc) (k : Nat) : (s.setBel i b).stackOf k = s.stackOf k := rfl

/-- What an end of interrupt that names the top of the stack leaves. -/
theorem belEoi_pops {p : Nat} {l : List (Nat × Nat)} (h : s.stackOf t = (v, p) :: l) (hw : wbits w 10 0 = v) :
    (s.belEoi t w).stackOf t = l ∧ (s.belEoi t w).belSrc v = { s.belSrc v with claimed := clrBit (s.belSrc v).claimed t } ∧
    (∀ i, i ≠ v → (s.belEoi t w).belSrc i = s.belSrc i) ∧ ∀ r i, (s.belEoi t w).rd r i = s.rd r i := by
  have hbits (i : Nat) : (s.popped t v l).belSrc i = s.belSrc i := popped_keeps (fun s => s.belSrc i) (fun _ _ => rfl) s t v l
  have hstack : (s.popped t v l).stackOf t = l :=
    (popped_keeps (fun s => s.stackOf t) (fun _ _ => rfl) s t v l).trans (tget_tput_same [] s.belStack t l)
  rw [belEoi_top h hw]
  refine ⟨?_, ?_, fun i hi => ?_, fun r i => ?_⟩
  · rw [stackOf_present, stackOf_setBel, hstack]
  · rw [belSrc_present, belSrc_setBel_same]
  · rw [belSrc_present, belSrc_setBel_other _ _ hi, hbits]
  · rw [rd_present, rd_setBel]
    exact popped_keeps (fun s => s.rd r i) (fun _ _ => rfl) s t v l

/-- What any other leaves (R356). -/
theorem belEoi_fails (h : (s.stackOf t).head?.map (·.1) ≠ some (wbits w 10 0)) :
    (s.belEoi t w).belStack = s.belStack ∧ (∀ i, ((s.belEoi t w).belSrc i).claimed = (s.belSrc i).claimed) ∧
    (s.belEoi t w).flag .BEL_TGT_STATUS_ORDER_ERR t = true ∧
    (s.belEoi t w).get .BEL_STACK_ORDER_COUNT t = min (2 ^ 32 - 1) (s.get .BEL_STACK_ORDER_COUNT t + 1) ∧
    (s.flag .BEL_TGT_STATUS_ORDER_ERR t = false → (s.belEoi t w).get .BEL_TGT_ORDER_EOI_SRC t = wbits w 10 0 ∧
      (s.belEoi t w).flag .BEL_TGT_ORDER_EMPTY t = (s.stackOf t).isEmpty) := by
  rw [belEoi_other h]
  refine ⟨belStack_eoiError s t _, claimed_eoiError s t _, (flag_eoiError s t _ (f := .BEL_TGT_STATUS_ORDER_ERR) nofun).trans
    (orderErr_eoiShown s t _), count_eoiError s t _, fun hfirst => ?_⟩
  obtain ⟨hsrc, hempty⟩ := order_eoiShown hfirst (wbits w 10 0)
  refine ⟨((get_eoiError s t _ (f := .BEL_TGT_ORDER_EOI_SRC) nofun).trans hsrc).trans (Nat.mod_eq_of_lt (wbits_lt w 10 0)),
    ((flag_eoiError s t _ (f := .BEL_TGT_ORDER_EMPTY) nofun).trans hempty).trans ?_⟩
  cases s.stackOf t <;> rfl

/-- Settles O45: a presentation drives what it presents; a take hands it over and claims it; an end of interrupt pops the top that it
names, or is an error. -/
theorem presentedSourceIsTheHighestPresentable : Obligations.PresentedSourceIsTheHighestPresentable := by
  refine ⟨fun t v s => ⟨fun hcom i => ?_, ?_, fun hv => ?_, fun k hk => driven_present_other s hk⟩,
    fun t v w x s ht hup => ⟨fun hnone => ?_, fun hx hv => ?_, fun hsoft => ⟨fun p l htop hw => ?_, fun hbad => ?_⟩⟩⟩
  · by_contra hp
    have hc := presentable_committed (Bool.not_eq_false _ ▸ hp)
    rw [hcom] at hc; cases hc
  · rw [presented_present]
    rcases nextVector_cases s t with ⟨hnone, hno⟩ | ⟨b, hsome, hb⟩
    · exact iff_of_true hnone hno
    · refine iff_of_false (by rw [hsome]; exact nofun) fun hno => ?_
      exact absurd ((hno b).symm.trans hb.presentable) (by decide)
  · have hnext : s.nextVector t = some v := (presented_present s t).symm.trans hv
    rcases nextVector_cases s t with ⟨hnone, -⟩ | ⟨b, hsome, hb⟩
    · rw [hnone] at hnext; cases hnext
    · rw [hsome] at hnext
      cases hnext
      refine ⟨hb.presentable, hb.highest, hb.lowest, hb.stays, ?_⟩
      rw [driven_present_same, hsome]; rfl
  · rw [exec_vecTaken ht hup, vecTaken_none hnone]; rfl
  · subst hv
    have hout : (s.vecTaken t).out = .vector t x.addr x.prio :: s.out := congrArg Prod.fst (handed_vecTaken hx)
    refine ⟨_, exec_vecTaken ht hup, claimed_vecTaken hx, hout, (stackOf_vecTaken hx t).trans (if_pos rfl),
      fun k hk => (stackOf_vecTaken hx k).trans (if_neg hk), presented_vecTaken hx, fun hquiet => ?_⟩
    obtain ⟨hbel, hdriven, hregs⟩ := vecTaken_quiet hx hquiet
    have hbits (i : Nat) : (s.vecTaken t).belSrc i = (s.handOver t x).belSrc i := congrArg (tget _ · i) hbel
    refine ⟨(hbits x.src).trans ((belSrc_handOver s t x x.src).trans (if_pos rfl)),
      fun i hi => (hbits i).trans ((belSrc_handOver s t x i).trans (if_neg hi)), hdriven, fun r i => ?_⟩
    exact congrArg (fun m => (tfind m (regKey r i)).getD (regReset r i)) hregs
  · have hpops := belEoi_pops htop hw
    refine ⟨s.outside (s.belEoi t w), exec_belEoi ht hsoft hup w, ?_⟩
    generalize s.belEoi t w = u at hpops
    exact hpops
  · have hfails := belEoi_fails hbad
    refine ⟨s.outside (s.belEoi t w), exec_belEoi ht hsoft hup w, ?_⟩
    generalize s.belEoi t w = u at hfails
    exact hfails

end Sys2Proof.Machine
end

section
/-! Bus errors of the DMA engine: what a halt, an abort and the end of a halt leave of the registers (R329, R330). -/
namespace Sys2Proof.Machine

variable {s : State}

/-! Registers beside the ones that change. -/

theorem get_put_reg (s : State) {f g : Fld} (h : g.reg ≠ f.reg) (i j v : Nat) : (s.put f i v).get g j = s.get g j :=
  get_put_other s f g i j v (.inl fun hc => h hc.1)

theorem rd_put_reg (s : State) {f : Fld} {r : Reg} (h : r ≠ f.reg) (i j v : Nat) : (s.put f i v).rd r j = s.rd r j :=
  rd_wr_other s _ fun hc => h hc.1

theorem rd_inc_reg (s : State) {f : Fld} {r : Reg} (hs : satFlag (satSource f.reg) = none) (h : r ≠ f.reg) (i j : Nat) :
    (s.inc f i).rd r j = s.rd r j :=
  (rd_add s f i 1 r j fun g hg => by rw [hs] at hg; cases hg).trans (rd_wr_other s _ fun hc => h hc.1)

theorem rd_add64 (s : State) {lo hi r : Reg} (hlo : r ≠ lo) (hhi : r ≠ hi) (i n j : Nat) : (s.add64 lo hi i n).rd r j = s.rd r j :=
  (rd_wr_other _ _ fun hc => hhi hc.1).trans (rd_wr_other s _ fun hc => hlo hc.1)

/-- Steps over several indices, each of which moves the field at its own index by one function. -/
theorem get_each {g : Fld} {φ : Nat → Nat} {f : State → Nat → State} (hsame : ∀ s c, (f s c).get g c = φ (s.get g c))
    (hother : ∀ s c k, k ≠ c → (f s c).get g k = s.get g k) (l : List Nat) (hl : l.Nodup) (s : State) (k : Nat) :
    (s.each l f).get g k = if k ∈ l then φ (s.get g k) else s.get g k := by
  induction l generalizing s with
  | nil => rfl
  | cons c l ih =>
    obtain ⟨hc, hnd⟩ := List.nodup_cons.1 hl
    rw [each_cons, ih hnd]
    by_cases hk : k = c
    · subst hk
      rw [if_neg hc, if_pos List.mem_cons_self, hsame]
    · rw [hother s c k hk]
      exact if_congr (by simp [hk]) rfl rfl

/-! A halt. -/

/-- STATE of a channel that a bus error meets in a state (R329). -/
def haltState (st : Nat) : Nat := if st = chOff then chOff else chHalted

/-- A channel that lets go of what it has gathered, before it is halted (R329). -/
def State.letGo (s : State) (c : Nat) : State :=
  let s1 := s.ringDrop c
  let x := s1.chan c
  s1.setChan c { x with rdBuf := [], fifo := [], waits := 0, desc := if x.waits = 1 then none else x.desc, cells := 0, head := none
                        out := if x.fifo.isEmpty then x.out else x.out.filter fun e => e.1 != x.serial }

theorem chHalt_eq (s : State) (c : Nat) :
    s.chHalt c = if s.chState c = chOff then s else (s.letGo c).put .DMA_CH_STATUS_STATE c chHalted := rfl

theorem regs_letGo (s : State) (c : Nat) : (s.letGo c).regs = s.regs := rfl

/-- A halt moves STATE of its channel, and no other register. -/
theorem chHalt_cases (s : State) (c : Nat) : (s.chState c = chOff ∧ s.chHalt c = s) ∨
    (s.chState c ≠ chOff ∧ s.chHalt c = (s.letGo c).put .DMA_CH_STATUS_STATE c chHalted) := by
  by_cases h : s.chState c = chOff
  · exact .inl ⟨h, (chHalt_eq s c).trans (if_pos h)⟩
  · exact .inr ⟨h, (chHalt_eq s c).trans (if_neg h)⟩

theorem get_of_regs {u : State} (h : u.regs = s.regs) (f : Fld) (i : Nat) : u.get f i = s.get f i :=
  congrArg (fun m => f.of ((tfind m (regKey f.reg i)).getD (regReset f.reg i))) h

theorem get_chHalt (s : State) (c : Nat) {f : Fld} (h : f.reg ≠ .DMA_CH_STATUS) (k : Nat) : (s.chHalt c).get f k = s.get f k := by
  rcases chHalt_cases s c with ⟨-, hs⟩ | ⟨-, hs⟩
  · rw [hs]
  · rw [hs, get_put_reg _ h, get_of_regs (regs_letGo s c)]

theorem chState_chHalt_same (s : State) (c : Nat) : (s.chHalt c).chState c = haltState (s.chState c) := by
  rcases chHalt_cases s c with ⟨hoff, hs⟩ | ⟨hon, hs⟩
  · rw [hs, haltState, if_pos hoff, hoff]
  · rw [hs, haltState, if_neg hon]
    exact get_put_same _ .DMA_CH_STATUS_STATE (by decide) c chHalted

theorem chState_chHalt_other (s : State) (c k : Nat) (h : k ≠ c) : (s.chHalt c).chState k = s.chState k := by
  rcases chHalt_cases s c with ⟨-, hs⟩ | ⟨-, hs⟩
  · rw [hs]
  · rw [hs]
    exact (get_put_other _ _ .DMA_CH_STATUS_STATE c k chHalted (.inl fun hc => h hc.2)).trans (get_of_regs (regs_letGo s c) _ k)

/-! A bus error. -/

/-- What the first bus error shows (R329). -/
def State.errShown (s : State) (t : Txn) (timeout : Bool) : State :=
  (((((s.put .DMA_GLB_STATUS_BUS_ERR 0 1).put .DMA_GLB_STATUS_KIND 0 t.kind).put .DMA_GLB_STATUS_PORT 0 t.m).putFlag
    .DMA_GLB_STATUS_TIMEOUT 0 timeout).put .DMA_ERR_ADDR_LO_ADDR 0 t.addr).put .DMA_ERR_ADDR_HI_ADDR 0 (t.addr >>> 32)

theorem get_errShown (s : State) (t : Txn) (timeout : Bool) {f : Fld} (h : f.reg ≠ .DMA_GLB_STATUS ∧ f.reg ≠ .DMA_ERR_ADDR_LO ∧
    f.reg ≠ .DMA_ERR_ADDR_HI) (i : Nat) : (s.errShown t timeout).get f i = s.get f i := by
  obtain ⟨hglb, hlo, hhi⟩ := h
  rw [State.errShown, get_put_reg _ hhi, get_put_reg _ hlo, State.putFlag, get_put_reg _ hglb, get_put_reg _ hglb, get_put_reg _ hglb,
    get_put_reg _ hglb]

/-- Of DMA_GLB_STATUS, what the last two writes of an error's display leave. -/
theorem get_errShown_glb (s : State) (t : Txn) (timeout : Bool) {f : Fld} (h : f.reg = .DMA_GLB_STATUS) (i : Nat) :
    (s.errShown t timeout).get f i = ((((s.put .DMA_GLB_STATUS_BUS_ERR 0 1).put .DMA_GLB_STATUS_KIND 0 t.kind).put
      .DMA_GLB_STATUS_PORT 0 t.m).putFlag .DMA_GLB_STATUS_TIMEOUT 0 timeout).get f i := by
  have hlo : f.reg ≠ Fld.DMA_ERR_ADDR_LO_ADDR.reg := by rw [h]; decide
  have hhi : f.reg ≠ Fld.DMA_ERR_ADDR_HI_ADDR.reg := by rw [h]; decide
  rw [State.errShown, get_put_reg _ hhi, get_put_reg _ hlo]

theorem errShown_busErr (s : State) (t : Txn) (timeout : Bool) : (s.errShown t timeout).get .DMA_GLB_STATUS_BUS_ERR = 1 := by
  rw [get_errShown_glb s t timeout rfl, State.putFlag, get_put_other _ .DMA_GLB_STATUS_TIMEOUT _ _ _ _ (.inr (by decide)),
    get_put_other _ .DMA_GLB_STATUS_PORT _ _ _ _ (.inr (by decide)), get_put_other _ .DMA_GLB_STATUS_KIND _ _ _ _ (.inr (by decide))]
  exact get_put_same s .DMA_GLB_STATUS_BUS_ERR (by decide) 0 1

theorem errShown_port (s : State) (t : Txn) (timeout : Bool) : (s.errShown t timeout).get .DMA_GLB_STATUS_PORT = t.m % 2 := by
  rw [get_errShown_glb s t timeout rfl, State.putFlag, get_put_other _ .DMA_GLB_STATUS_TIMEOUT _ _ _ _ (.inr (by decide))]
  exact get_put_same _ .DMA_GLB_STATUS_PORT (by decide) 0 t.m

theorem errShown_timeout (s : State) (t : Txn) (timeout : Bool) : (s.errShown t timeout).get .DMA_GLB_STATUS_TIMEOUT = b2n timeout := by
  rw [get_errShown_glb s t timeout rfl]
  refine (get_put_same _ .DMA_GLB_STATUS_TIMEOUT (by decide) 0 _).trans ?_
  cases timeout <;> rfl

theorem errShown_addr (s : State) (t : Txn) (timeout : Bool) : (s.errShown t timeout).get .DMA_ERR_ADDR_LO_ADDR = t.addr % 2 ^ 32 :=
  (get_put_reg _ (by decide) 0 0 _).trans (get_put_same _ .DMA_ERR_ADDR_LO_ADDR (by decide) 0 t.addr)

/-- What follows the halts moves no register. -/
theorem get_busErrorEnd (s : State) (l : List Txn) (w : Word) (f : Fld) (i : Nat) :
    ((({ s with dma := { s.dma with txns := l } } : State).raise 10 w).used.pulse 1449).get f i = s.get f i := get_pulse _ 1449 f i

/-- The count, and what the first error does: it is shown, and every channel is halted. -/
theorem busError_regs (s : State) (t : Txn) (timeout : Bool) (f : Fld) (i : Nat) : (s.busError t timeout).get f i =
    if s.busErr then (s.inc .DMA_BUS_ERRORS_COUNT).get f i
    else (((s.inc .DMA_BUS_ERRORS_COUNT).errShown t timeout).each (List.range 64) State.chHalt).get f i := by
  have hsame : (s.inc .DMA_BUS_ERRORS_COUNT).flag .DMA_GLB_STATUS_BUS_ERR = s.busErr :=
    congrArg (fun w => Fld.DMA_GLB_STATUS_BUS_ERR.of w != 0) (rd_inc_reg s (by rfl) (by decide) 0 0)
  unfold State.busError
  dsimp only
  rw [hsame]
  cases s.busErr
  · exact get_busErrorEnd _ _ _ f i
  · rfl

theorem get_busErrors (s : State) {f : Fld} (h : f.reg ≠ .DMA_BUS_ERRORS) (i : Nat) :
    (s.inc .DMA_BUS_ERRORS_COUNT).get f i = s.get f i := congrArg f.of (rd_inc_reg s (by rfl) h 0 i)

theorem count_busError (s : State) (t : Txn) (timeout : Bool) :
    (s.busError t timeout).get .DMA_BUS_ERRORS_COUNT = min (2 ^ 32 - 1) (s.get .DMA_BUS_ERRORS_COUNT + 1) := by
  have hcount : (s.inc .DMA_BUS_ERRORS_COUNT).get .DMA_BUS_ERRORS_COUNT = min (2 ^ 32 - 1) (s.get .DMA_BUS_ERRORS_COUNT + 1) :=
    get_add s .DMA_BUS_ERRORS_COUNT (by decide) 0 1
  rw [busError_regs]
  split
  · exact hcount
  · rw [each_keeps (fun s => s.get .DMA_BUS_ERRORS_COUNT) _ State.chHalt (fun s c => get_chHalt s c (by decide) 0),
      get_errShown _ t timeout (by decide), hcount]

/-- What the first error shows stands after the halts. -/
theorem busError_shows (h : s.busErr = false) (t : Txn) (timeout : Bool) {f : Fld} (hf : f.reg ≠ .DMA_CH_STATUS) :
    (s.busError t timeout).get f = ((s.inc .DMA_BUS_ERRORS_COUNT).errShown t timeout).get f := by
  rw [busError_regs, if_neg (by simp [h])]
  exact each_keeps (fun s => s.get f) _ State.chHalt (fun s c => get_chHalt s c hf 0) _

theorem busErr_busError (s : State) (t : Txn) (timeout : Bool) : (s.busError t timeout).flag .DMA_GLB_STATUS_BUS_ERR = true := by
  by_cases h : s.busErr = true
  · rw [State.flag, busError_regs, if_pos h, get_busErrors s (by decide)]
    exact h
  · rw [State.flag, busError_shows (Bool.eq_false_iff.2 h) t timeout (by decide), errShown_busErr]
    rfl

theorem chState_busError_again (h : s.busErr = true) (t : Txn) (timeout : Bool) (c : Nat) :
    (s.busError t timeout).chState c = s.chState c := by
  rw [State.chState, busError_regs, if_pos h, get_busErrors s (by decide), State.chState]

theorem chState_busError_first (h : s.busErr = false) (t : Txn) (timeout : Bool) {c : Nat} (hc : c < 64) :
    (s.busError t timeout).chState c = haltState (s.chState c) := by
  rw [State.chState, busError_regs, if_neg (by simp [h]), get_each chState_chHalt_same chState_chHalt_other _ List.nodup_range,
    if_pos (List.mem_range.2 hc), get_errShown _ t timeout (by decide), get_busErrors s (by decide), State.chState]

/-! The end of a transaction by an error. -/

theorem txnFailed_regs (s : State) (t : Txn) : (s.txnFailed t).regs = s.regs := by
  unfold State.txnFailed
  dsimp only
  split <;> rfl

/-- The transaction of an error, with what it leaves of it (R47). -/
def State.failed (s : State) (t : Txn) (timeout : Bool) : State :=
  let u := { t with dead := true, err := true, lost := t.lost || timeout, data := if timeout then t.data else t.data ++ List.replicate t.w 0 }
  s.setTxn t (if timeout || u.short then some u else none)

theorem failTxn_later {t : Txn} (h : t.err = true) (timeout : Bool) : s.failTxn t timeout = s.failed t timeout := if_pos h

theorem failTxn_first {t : Txn} (h : t.err = false) (timeout : Bool) :
    s.failTxn t timeout = ((s.failed t timeout).txnFailed t).busError t timeout := if_neg (by simp [h])

theorem get_failed (s : State) (t : Txn) (timeout : Bool) (f : Fld) (i : Nat) :
    ((s.failed t timeout).txnFailed t).get f i = s.get f i := get_of_regs ((txnFailed_regs _ t).trans rfl) f i

theorem busErr_failed (s : State) (t : Txn) (timeout : Bool) : ((s.failed t timeout).txnFailed t).busErr = s.busErr :=
  congrArg (· != 0) (get_failed s t timeout .DMA_GLB_STATUS_BUS_ERR 0)

/-- A timeout of an outstanding transaction. -/
theorem fabricTimeout_own {m tag : Nat} {t : Txn} (hm : m < 2) (hfab : s.up 20 = true)
    (hown : (s.dma.txns.find? fun t => t.m == m && t.tag == tag) = some t) (hdma : s.up 13 = true) :
    exec (.fabricTimeout m tag) s = s.become (s.failTxn t true) := by
  refine (runOn_up _ hm hfab).trans ?_
  rw [hown]
  exact congrArg s.become (if_pos hdma)

/-! CLEAR. -/

theorem rd_unclaim (s : State) (c : Nat) {r : Reg} (h : r ≠ .CHK_CFG) (k : Nat) : (s.unclaim c).rd r k = s.rd r k := by
  unfold State.unclaim
  split
  · exact rd_put_reg s h _ k 0
  · rfl

/-- The end of a descriptor moves no channel's status. -/
theorem rd_retire (s : State) (c : Nat) (d : List Word) (k : Nat) : (s.retire c d).rd .DMA_CH_STATUS k = s.rd .DMA_CH_STATUS k := by
  have hsource (u : State) (b : Bool) : (if b then u.chanSource c else u).rd .DMA_CH_STATUS k = u.rd .DMA_CH_STATUS k := by
    split
    · exact rd_pulse u _ _ k
    · rfl
  unfold State.retire
  dsimp only
  rw [hsource, rd_put_reg _ (by decide), rd_add64 _ (by decide) (by decide), rd_inc_reg _ (by rfl) (by decide), rd_put_reg _ (by decide),
    rd_setChan, rd_unclaim s c (by decide)]

theorem chState_chAbort (s : State) (c k : Nat) : (s.chAbort c).chState k = s.chState k := by
  refine congrArg Fld.DMA_CH_STATUS_STATE.of (?_ : (s.chAbort c).rd .DMA_CH_STATUS k = s.rd .DMA_CH_STATUS k)
  unfold State.chAbort
  dsimp only
  split
  · rfl
  · split
    · exact rd_retire s c _ k
    · rfl

/-- STATE of a channel that leaves the halt (R330). -/
def leaveState (st : Nat) : Nat := if st = chHalted then chStopped else st

/-- Leaving the halt moves STATE and REASON of its channel, and what it shows of the stop. -/
theorem chLeave_cases (s : State) (c : Nat) : (s.chState c ≠ chHalted ∧ s.chLeave c = s) ∨
    (s.chState c = chHalted ∧ ∀ k, (s.chLeave c).chState k = if k = c then chStopped else s.chState k) := by
  unfold State.chLeave
  split
  · exact .inl ⟨‹_›, rfl⟩
  · refine .inr ⟨not_not.1 ‹_›, fun k => ?_⟩
    rw [State.chState, State.stopStatus, get_put_reg _ (by decide), State.putFlag, get_put_reg _ (by decide), get_put_reg _ (by decide),
      State.chEnter, get_put_other _ .DMA_CH_STATUS_REASON _ _ _ _ (.inr (by decide))]
    split
    · rename_i hk
      rw [hk]
      exact get_put_same _ .DMA_CH_STATUS_STATE (by decide) c chStopped
    · exact get_put_other _ .DMA_CH_STATUS_STATE _ c k _ (.inl fun hc => ‹k ≠ c› hc.2)

theorem chState_chLeave_same (s : State) (c : Nat) : (s.chLeave c).chState c = leaveState (s.chState c) := by
  rcases chLeave_cases s c with ⟨hst, hs⟩ | ⟨hst, hs⟩
  · rw [hs, leaveState, if_neg hst]
  · rw [hs, leaveState, if_pos rfl, if_pos hst]

theorem chState_chLeave_other (s : State) (c k : Nat) (h : k ≠ c) : (s.chLeave c).chState k = s.chState k := by
  rcases chLeave_cases s c with ⟨-, hs⟩ | ⟨-, hs⟩
  · rw [hs]
  · rw [hs, if_neg h]

/-- The end of a halt, with whatever the engine holds. -/
theorem chState_leave (s : State) (d : Dma) {c : Nat} (hc : c < 64) :
    (({ s with dma := d } : State).each (List.range 64) State.chLeave).chState c = leaveState (s.chState c) := by
  rw [State.chState, get_each chState_chLeave_same chState_chLeave_other _ List.nodup_range, if_pos (List.mem_range.2 hc)]
  rfl

theorem chState_abort (s : State) (c : Nat) : (s.each (List.range 64) State.chAbort).chState c = s.chState c :=
  each_keeps (fun s => s.chState c) _ State.chAbort (fun s k => chState_chAbort s k c) s

theorem dmaClear_ignored (h : s.flag .DMA_GLB_STATUS_QUIESCED = false ∨ s.dma.clearing = true) : s.dmaClear = s := by
  unfold State.dmaClear
  refine if_pos ?_
  rcases h with h | h <;> simp [h]

theorem dmaClear_taken (hq : s.flag .DMA_GLB_STATUS_QUIESCED = true) (hc : s.dma.clearing = false) : s.dmaClear =
    let a := s.each (List.range 64) State.chAbort
    ({ a with dma := { a.dma with clearing := true } } : State).clearDone.dmaPump := by
  unfold State.dmaClear
  exact if_neg (by simp [hq, hc])

/-- A clear in progress ends once no descriptor is aborted any more (R330). -/
theorem clearDone_clearing (a : State) : ({ a with dma := { a.dma with clearing := true } } : State).clearDone =
    if a.dma.chans.any (fun e => e.2.abort) = true then { a with dma := { a.dma with clearing := true } }
    else ((({ a with dma := { a.dma with clearing := false } } : State).each (List.range 64) State.chLeave).put
      .DMA_GLB_STATUS_BUS_ERR 0 0).put .DMA_GLB_STATUS_QUIESCED 0 0 := rfl

/-- Settles O42: the first error of a transaction is a bus error, which is counted and, where none stands, shown with every channel
halted; CLEAR aborts what is halted and ends the halt. -/
theorem busErrorHaltsEveryChannel : Obligations.BusErrorHaltsEveryChannel := by
  intro m tag wd err d s hm hfab
  dsimp only
  refine ⟨?_, fun hown => ⟨?_, ?_⟩, fun t hown hdma => ⟨?_, fun herr => ?_, fun herr timeout => ?_⟩,
    fun hdma => ⟨?_, fun hsoft => ⟨fun hno => ?_, fun hq hc => ?_, fun c hc => ?_⟩⟩⟩
  · exact runOn_up _ hm hfab
  · refine (runOn_up _ hm hfab).trans ?_
    rw [State.fabricCompletion, hown]; rfl
  · refine (runOn_up _ hm hfab).trans ?_
    rw [hown]; rfl
  · refine (runOn_up _ hm hfab).trans ?_
    rw [State.fabricCompletion, hown]
    exact congrArg s.become (if_pos hdma)
  · refine ⟨s.outside (s.failed t true), (fabricTimeout_own hm hfab hown hdma).trans ?_, rfl⟩
    rw [failTxn_later herr]; rfl
  · have hport : t.m = m := by
      have hfound := List.find?_some hown
      rw [Bool.and_eq_true, beq_iff_eq] at hfound
      exact hfound.1
    rw [failTxn_first herr]
    refine ⟨_, rfl, fun htime => ?_, ?_, busErr_busError _ t timeout, fun hbus c => ?_, fun hbus => ⟨?_, ?_, ?_, fun c hc => ?_⟩⟩
    · rw [fabricTimeout_own hm hfab hown hdma, ← htime, failTxn_first herr]; rfl
    · refine (count_busError _ t timeout).trans ?_
      rw [get_failed]
    · exact (chState_busError_again ((busErr_failed s t timeout).trans hbus) t timeout c).trans (get_failed s t timeout _ c)
    · refine (congrArg (· != 0) ((busError_shows ((busErr_failed s t timeout).trans hbus) t timeout (by decide)).trans
        (errShown_timeout _ t timeout))).trans ?_
      cases timeout <;> rfl
    · refine ((busError_shows ((busErr_failed s t timeout).trans hbus) t timeout (by decide)).trans (errShown_port _ t timeout)).trans ?_
      rw [hport, Nat.mod_eq_of_lt hm]
    · exact (busError_shows ((busErr_failed s t timeout).trans hbus) t timeout (by decide)).trans (errShown_addr _ t timeout)
    · exact (chState_busError_first ((busErr_failed s t timeout).trans hbus) t timeout hc).trans
        (congrArg haltState (get_failed s t timeout _ c))
  · refine (run_up _ hdma).trans ?_
    simp only [State.busErr, Dma.quiet, Bool.and_eq_true]
    exact become_ite s _ _
  · refine (runSoft_up _ hsoft hdma).trans ?_
    rw [dmaClear_ignored hno]; rfl
  · refine (runSoft_up _ hsoft hdma).trans ?_
    rw [dmaClear_taken hq hc]
    dsimp only
    rw [clearDone_clearing]; rfl
  · exact (chState_leave _ _ hc).trans (congrArg leaveState (chState_abort s c))

end Sys2Proof.Machine
end

section
/-! What the PoDL arbiter reckons with, and what leaves it alone: the grants, the charges that settle, the classes' charges, BUDGET and
the arbiter's configuration (R394 to R397). -/
namespace Sys2Proof.Machine

/-! The arbiter's side of the state. -/

/-- The registers that the arbiter reckons with. -/
def podlReg : Reg → Bool
  | .PWR_PODL_CLASS | .PWR_PODL_BUDGET | .PWR_PODL_CFG => true
  | _ => false

/-- What the arbiter reckons with. -/
structure PodlSide where
  podl : List (Nat × Podl)
  settling : List Settling
  classes : Nat → Word
  budget : Word
  cfg : Word

def State.podlSide (s : State) : PodlSide :=
  ⟨s.podl, s.settling, fun c => s.rd .PWR_PODL_CLASS c, s.rd .PWR_PODL_BUDGET, s.rd .PWR_PODL_CFG⟩

variable {s u : State}

theorem podl_of_side (h : u.podlSide = s.podlSide) : u.podl = s.podl := congrArg PodlSide.podl h

theorem podlOf_of_side (h : u.podlSide = s.podlSide) (n : Nat) : u.podlOf n = s.podlOf n := by
  rw [State.podlOf, podl_of_side h, State.podlOf]

theorem podlCharge_of_side (h : u.podlSide = s.podlSide) : u.podlCharge = s.podlCharge :=
  funext fun c => congrArg Fld.PWR_PODL_CLASS_MW.of (congrFun (congrArg PodlSide.classes h) c)

theorem podlUsed_of_side (h : u.podlSide = s.podlSide) : u.podlUsed = s.podlUsed := by
  have hsettling : u.settling = s.settling := congrArg PodlSide.settling h
  simp only [State.podlUsed, State.podlGranted, podl_of_side h, podlCharge_of_side h, hsettling]

theorem podlBudget_of_side (h : u.podlSide = s.podlSide) : u.get .PWR_PODL_BUDGET_BUDGET = s.get .PWR_PODL_BUDGET_BUDGET :=
  congrArg Fld.PWR_PODL_BUDGET_BUDGET.of (congrArg PodlSide.budget h)

theorem podlEn_of_side (h : u.podlSide = s.podlSide) : u.flag .PWR_PODL_CFG_EN = s.flag .PWR_PODL_CFG_EN :=
  congrArg (fun w => Fld.PWR_PODL_CFG_EN.of w != 0) (congrArg PodlSide.cfg h)

/-! What leaves it alone. -/

theorem podlSide_wr (s : State) {r : Reg} (h : podlReg r = false) (i : Nat) (w : Word) : (s.wr r i w).podlSide = s.podlSide := by
  have hne (r' : Reg) (hr : podlReg r' = true) (j : Nat) : (s.wr r i w).rd r' j = s.rd r' j :=
    rd_wr_other s w fun hc => by rw [hc.1, h] at hr; cases hr
  simp only [State.podlSide, hne _ (rfl : podlReg .PWR_PODL_CLASS = true), hne _ (rfl : podlReg .PWR_PODL_BUDGET = true),
    hne _ (rfl : podlReg .PWR_PODL_CFG = true)]
  rfl

@[simp] theorem podlSide_put (s : State) (f : Fld) (i v : Nat) (h : podlReg f.reg = false) : (s.put f i v).podlSide = s.podlSide :=
  podlSide_wr s h i _

@[simp] theorem podlSide_putFlag (s : State) (f : Fld) (i : Nat) (b : Bool) (h : podlReg f.reg = false) :
    (s.putFlag f i b).podlSide = s.podlSide := podlSide_put s f i _ h

@[simp] theorem podlSide_pulse (s : State) (i : Nat) : (s.pulse i).podlSide = s.podlSide := by
  show (s.pulse i).besideBel.podlSide = s.besideBel.podlSide
  rw [besideBel_pulse]

theorem podlReg_satFlag {k : Nat} {f : Fld} (h : satFlag k = some f) : podlReg f.reg = false := by
  unfold satFlag at h
  split at h <;> cases h <;> rfl

@[simp] theorem podlSide_add (s : State) (f : Fld) (i n : Nat) (h : podlReg f.reg = false) : (s.add f i n).podlSide = s.podlSide :=
  add_keeps State.podlSide (fun _ => rfl) (fun s i w => podlSide_wr s h i w) (fun _ hf s v => podlSide_put s _ 0 v (podlReg_satFlag hf)) s i n

@[simp] theorem podlSide_inc (s : State) (f : Fld) (i : Nat) (h : podlReg f.reg = false) : (s.inc f i).podlSide = s.podlSide :=
  podlSide_add s f i 1 h

@[simp] theorem podlSide_record (s : State) (kind flags : Nat) (body : List Word) (z : Bool) :
    (s.record kind flags body z).podlSide = s.podlSide := by
  refine record_keeps State.podlSide (fun _ => rfl) (fun _ _ => rfl) (fun s r i w hr => ?_) s kind flags body z
  rcases hr with rfl | rfl <;> exact podlSide_wr s rfl i w

@[simp] theorem podlSide_emit (s : State) (o : Output) : (s.emit o).podlSide = s.podlSide := rfl
@[simp] theorem podlSide_setMac (s : State) (p : Nat) (x : Mac) : (s.setMac p x).podlSide = s.podlSide := rfl
@[simp] theorem podlSide_setTx (s : State) (p : Nat) (x : Option Tx) : (s.setTx p x).podlSide = s.podlSide := rfl
@[simp] theorem podlSide_setSeg (s : State) (p : Nat) (x : Seg) : (s.setSeg p x).podlSide = s.podlSide := rfl
@[simp] theorem podlSide_setFrame (s : State) (h : Nat) (f : DFrame) : (s.setFrame h f).podlSide = s.podlSide := rfl
@[simp] theorem podlSide_setExt (s : State) (e : Nat) (x : Ext) : (s.setExt e x).podlSide = s.podlSide := rfl
@[simp] theorem podlSide_setExtPort (s : State) (n : Nat) (x : ExtPort) : (s.setExtPort n x).podlSide = s.podlSide := rfl
@[simp] theorem podlSide_dropRef (s : State) (h : Nat) : (s.dropRef h).podlSide = s.podlSide := rfl
@[simp] theorem podlSide_memFault (s : State) (m a : Nat) : (s.memFault m a).podlSide = s.podlSide := rfl

theorem podlSide_each {α : Type} {f : State → α → State} (h : ∀ s a, (f s a).podlSide = s.podlSide) (l : List α) (s : State) :
    (s.each l f).podlSide = s.podlSide := each_keeps State.podlSide l f h s

/-! The Dome's references and frames. -/

@[simp] theorem podlSide_memWrite (s : State) (m a : Nat) : (s.memWrite m a).podlSide = s.podlSide := by
  unfold State.memWrite
  split
  · exact podlSide_put _ .FLT_INJ_DATA_ARM 0 0 rfl
  · rfl

@[simp] theorem podlSide_egtError (s : State) (cause : Nat) (rel : Bool) (dst : Nat) : (s.egtError cause rel dst).podlSide = s.podlSide := by
  unfold State.egtError
  dsimp only
  split <;> simp (disch := decide)

@[simp] theorem podlSide_flowControl (s : State) (p : Nat) : (s.flowControl p).podlSide = s.podlSide := by
  have hpause : (s.fcPause p).podlSide = s.podlSide := by
    unfold State.fcPause
    dsimp only
    split
    · simp (disch := decide)
    · split <;> simp (disch := decide)
  have hpfc (s : State) : (s.fcPfc p).podlSide = s.podlSide := by
    unfold State.fcPfc
    dsimp only
    split <;> simp (disch := decide)
  unfold State.flowControl
  split
  · rw [hpfc, hpause]
  · rfl

@[simp] theorem podlSide_freeFrame (s : State) (h : Nat) : (s.freeFrame h).podlSide = s.podlSide := by
  unfold State.freeFrame
  split
  · rfl
  · dsimp only
    split
    · exact podlSide_flowControl _ _
    · rfl

theorem podlSide_drrRest (s : State) (p k : Nat) : (s.drrRest p k).podlSide = s.podlSide := by
  unfold State.drrRest
  split
  · rfl
  · rw [podlSide_put _ _ _ _ rfl, podlSide_put _ _ _ _ rfl]

@[simp] theorem podlSide_setQueue (s : State) (q : Nat) (l : List Copy) : (s.setQueue q l).podlSide = s.podlSide :=
  podlSide_drrRest _ _ _

@[simp] theorem podlSide_setCand (s : State) (p : Nat) (c : Option Copy) : (s.setCand p c).podlSide = s.podlSide :=
  podlSide_putFlag _ .SEG_STATUS_CAND p _ rfl

@[simp] theorem podlSide_injEnded (s : State) (f : DFrame) (sent : Option Nat) : (s.injEnded f sent).podlSide = s.podlSide := by
  unfold State.injEnded
  split
  · split <;> rfl
  · rfl

theorem podlSide_lost (s : State) (f : List (Nat × DFrame)) (t : List (Nat × Nat)) (n : Nat) (d : Dma) (q : List (Nat × List HostItem)) :
    ({ s with frames := f, taken := t, lost := n, dma := d, hostQ := q } : State).podlSide = s.podlSide := rfl

/-- A frame that an error loses (R380): what held copies of it lets them go. -/
theorem podlSide_loseFrame (s : State) (h : Nat) : (s.loseFrame h).podlSide = s.podlSide := by
  unfold State.loseFrame
  split
  · rfl
  · dsimp only
    split
    on_goal 1 => rw [podlSide_flowControl]
    all_goals
      rw [podlSide_memFault, podlSide_add _ _ _ _ rfl, podlSide_lost, podlSide_injEnded]
      refine (podlSide_each (fun s p => ?_) _ _).trans ((podlSide_each (fun s p => ?_) _ _).trans
        (podlSide_each (fun s q => podlSide_setQueue s q _) _ s.used))
      · split
        · split <;> simp
        · rfl
      · split <;> simp

@[simp] theorem podlSide_descRead (s : State) (h : Nat) : (s.descRead h).podlSide = s.podlSide := by
  unfold State.descRead
  split
  · rfl
  · split
    · rfl
    · exact podlSide_inc s _ _ rfl
    · exact podlSide_loseFrame s h

@[simp] theorem podlSide_takeRefs (s : State) (h k : Nat) : (s.takeRefs h k).podlSide = s.podlSide := by
  unfold State.takeRefs
  dsimp only
  split
  · exact podlSide_descRead s h
  · split
    · simp
    · split <;> simp

@[simp] theorem podlSide_cycleEnd (s : State) : s.cycleEnd.podlSide = s.podlSide :=
  podlSide_each (f := fun s (x : Nat × Nat) => s.takeRefs x.1 x.2) (fun s x => podlSide_takeRefs s x.1 x.2) s.taken { s with taken := [] }

@[simp] theorem podlSide_deref (s : State) (h : Nat) : (s.deref h).podlSide = s.podlSide := by
  unfold State.deref
  split <;> simp

@[simp] theorem podlSide_endCopy (s : State) (c : Copy) (sent : Option Nat) : (s.endCopy c sent).podlSide = s.podlSide := by
  unfold State.endCopy
  split <;> simp

/-! Ports. -/

@[simp] theorem podlSide_begin (s : State) (m : Nat) (t : Tx) : (s.begin m t).podlSide = s.podlSide := by
  unfold State.begin State.startGap
  dsimp only
  split <;> rfl

@[simp] theorem podlSide_lpiWake (s : State) (p : Nat) : (s.lpiWake p).podlSide = s.podlSide := by
  unfold State.lpiWake
  split
  · simp (disch := decide)
  · rfl

@[simp] theorem podlSide_ownTx (s : State) (m : Nat) : (s.ownTx m).podlSide = s.podlSide := by
  unfold State.ownTx
  dsimp only
  split
  · rfl
  · split
    · rfl
    · split
      · exact podlSide_lpiWake s m
      · split <;> simp

@[simp] theorem podlSide_burstEnd (s : State) (p : Nat) : (s.burstEnd p).podlSide = s.podlSide := by
  unfold State.burstEnd State.commitEnd State.setCommit
  split <;> simp

@[simp] theorem podlSide_plcaStop (s : State) (p : Nat) (line : Bool) : (s.plcaStop p line).podlSide = s.podlSide := by
  unfold State.plcaStop
  simp (disch := decide)

@[simp] theorem podlSide_noCand (s : State) (p : Nat) : (s.noCand p).podlSide = s.podlSide := by
  unfold State.noCand State.showTries
  split <;> simp (disch := decide)

@[simp] theorem podlSide_downDrop (s : State) (p : Nat) : (s.downDrop p).podlSide = s.podlSide := by
  have hcopy (s : State) (c : Copy) : ((s.endCopy c none).inc .MAC_TX_LINK_DOWN_COUNT p).podlSide = s.podlSide := by
    rw [podlSide_inc _ _ _ rfl, podlSide_endCopy]
  unfold State.downDrop
  split
  · dsimp only
    rw [podlSide_each hcopy, podlSide_each fun s q => podlSide_setQueue s q []]
    split
    · exact podlSide_noCand s p
    · rfl
  · rfl

/-- A link that goes down. -/
@[simp] theorem podlSide_setLink_down (s : State) (p : Nat) : (s.setLink p false).podlSide = s.podlSide := by
  unfold State.setLink
  split
  · rfl
  · dsimp only
    rw [if_neg Bool.false_ne_true, podlSide_downDrop]
    split <;> simp (disch := decide)

/-! The extender manager. -/

@[simp] theorem podlSide_sendFrame (s : State) (m : Nat) (d : List Byte) : (s.sendFrame m d).podlSide = s.podlSide := by
  unfold State.sendFrame
  split <;> simp

@[simp] theorem podlSide_sendAuth (s : State) (e msg : Nat) (body : List Byte) : (s.sendAuth e msg body).podlSide = s.podlSide :=
  podlSide_sendFrame s _ _

@[simp] theorem podlSide_extLose (s : State) (e cause : Nat) : (s.extLose e cause).podlSide = s.podlSide := by
  unfold State.extLose
  simp (disch := decide) only [podlSide_record, State.extSource, podlSide_pulse, podlSide_inc, podlSide_put, podlSide_setExt]
  exact podlSide_each (fun s n => by simp (disch := decide)) _ s

@[simp] theorem podlSide_extLeaveJoined (s : State) (e st cause : Nat) (leave : Bool) :
    (s.extLeaveJoined e st cause leave).podlSide = s.podlSide := by
  unfold State.extLeaveJoined State.extEnter
  split <;> simp (disch := decide)

@[simp] theorem podlSide_extSeqCheck (s : State) (e : Nat) : (s.extSeqCheck e).podlSide = s.podlSide := by
  unfold State.extSeqCheck
  dsimp only
  split <;> simp

@[simp] theorem podlSide_sendGrant (s : State) (n : Nat) (on : Bool) : (s.sendGrant n on).podlSide = s.podlSide := by
  unfold State.sendGrant
  dsimp only
  split <;> simp

@[simp] theorem podlSide_pwrEvent (s : State) (f : Fld) (h : podlReg f.reg = false) : (s.pwrEvent f).podlSide = s.podlSide := by
  rw [State.pwrEvent, podlSide_pulse, podlSide_put s f 0 1 h]

end Sys2Proof.Machine
end

section
/-! The PoDL arbiter: requests, what a tick takes away, and the grants that it gives (R394 to R397). -/
namespace Sys2Proof.Machine

/-! Tables. -/

theorem sum_tins_le {α : Type} (f : α → Nat) (m : List (Nat × α)) (k : Nat) (v : α) :
    ((tins m k v).map fun e => f e.2).sum ≤ (m.map fun e => f e.2).sum + f v := by
  induction m with
  | nil => simp [tins]
  | cons e m ih =>
    simp only [tins]
    split
    · simp only [List.map_cons, List.sum_cons]; omega
    · split
      · simp only [List.map_cons, List.sum_cons]; omega
      · simp only [List.map_cons, List.sum_cons]; omega

theorem sum_tdel_le {α : Type} (f : α → Nat) (m : List (Nat × α)) (k : Nat) :
    ((tdel m k).map fun e => f e.2).sum ≤ (m.map fun e => f e.2).sum := by
  induction m with
  | nil => simp [tdel]
  | cons e m ih =>
    simp only [tdel]
    split
    · simp only [List.map_cons, List.sum_cons]; omega
    · simp only [List.map_cons, List.sum_cons]; omega

/-- The sum over a table after an entry has been set is at most the sum before and the entry. -/
theorem sum_tput_le {α : Type} [DecidableEq α] (d : α) (f : α → Nat) (m : List (Nat × α)) (k : Nat) (v : α) :
    ((tput d m k v).map fun e => f e.2).sum ≤ (m.map fun e => f e.2).sum + f v := by
  by_cases h : v = d
  · rw [tput, if_pos h]
    exact Nat.le_add_right_of_le (sum_tdel_le f m k)
  · rw [tput, if_neg h]
    exact sum_tins_le f m k v

/-! Requests. -/

variable {s u v : State} {n : Nat}

/-- The segment with the request made or withdrawn. -/
def State.asked (s : State) (n : Nat) (req : Option Nat) : Podl :=
  match req with
  | some c => { s.podlOf n with req := some c, age := s.podlSeq }
  | none => { s.podlOf n with req := none }

theorem req_asked (s : State) (n : Nat) (req : Option Nat) : (s.asked n req).req = req := by cases req <;> rfl

theorem grant_asked (s : State) (n : Nat) (req : Option Nat) : (s.asked n req).grant = (s.podlOf n).grant := by cases req <;> rfl

/-- A request leaves the segment asked, and moves its register alone. -/
structure Requests (s u : State) (n : Nat) (req : Option Nat) : Prop where
  req : (u.podlOf n).req = req
  grant : (u.podlOf n).grant = (s.podlOf n).grant
  other : ∀ k, k ≠ n → u.podlOf k = s.podlOf k
  rest : u = { s with regs := u.regs, podl := u.podl, podlSeq := u.podlSeq }
  rd : ∀ r i, r ≠ .PWR_PODL_SEG → u.rd r i = s.rd r i

theorem podlRequest_requests (s : State) (n : Nat) (req : Option Nat) : Requests s (s.podlRequest n req) n req := by
  by_cases h : (s.podlOf n).req = req
  · have hsame : s.podlRequest n req = s := if_pos h
    rw [hsame]
    exact ⟨h, rfl, fun _ _ => rfl, rfl, fun _ _ _ => rfl⟩
  · have hreq : s.podlRequest n req = ((({ s with podl := tput {} s.podl n (s.asked n req), podlSeq := s.podlSeq + 1 } : State).putFlag
        .PWR_PODL_SEG_WAIT n ((s.asked n req).req.isSome && (s.asked n req).grant.isNone)).put .PWR_PODL_SEG_CLASS n
        (((s.asked n req).grant.or (s.asked n req).req).getD 0)) := (if_neg h).trans (by cases req <;> rfl)
    have hof (k : Nat) : (s.podlRequest n req).podlOf k = if k = n then s.asked n req else s.podlOf k := by
      rw [hreq]
      exact tget_tput ({} : Podl) s.podl n k (s.asked n req)
    refine ⟨?_, ?_, fun k hk => (hof k).trans (if_neg hk), ?_, fun r i hr => ?_⟩
    · rw [hof, if_pos rfl, req_asked]
    · rw [hof, if_pos rfl, grant_asked]
    · rw [hreq]; rfl
    · rw [hreq, rd_put_reg _ hr, State.putFlag, rd_put_reg _ hr]; rfl

/-! What a tick takes away. -/

/-- Of the grants of `s`, `u` holds some, and the arbiter is set as before. -/
structure Lessened (s u : State) : Prop where
  budget : u.get .PWR_PODL_BUDGET_BUDGET = s.get .PWR_PODL_BUDGET_BUDGET
  en : u.flag .PWR_PODL_CFG_EN = s.flag .PWR_PODL_CFG_EN
  grant : ∀ k, (u.podlOf k).grant = none ∨ (u.podlOf k).grant = (s.podlOf k).grant

theorem Lessened.of_side (h : u.podlSide = s.podlSide) : Lessened s u :=
  ⟨podlBudget_of_side h, podlEn_of_side h, fun k => .inr (by rw [podlOf_of_side h])⟩

theorem Lessened.refl (s : State) : Lessened s s := .of_side rfl

theorem Lessened.trans (h : Lessened s u) (h' : Lessened u v) : Lessened s v := by
  refine ⟨h'.budget.trans h.budget, h'.en.trans h.en, fun k => ?_⟩
  rcases h'.grant k with hk | hk
  · exact .inl hk
  · rw [hk]; exact h.grant k

/-- A segment without a grant gets none. -/
theorem Lessened.none (h : Lessened s u) {k : Nat} (hk : (s.podlOf k).grant = none) : (u.podlOf k).grant = none := by
  rcases h.grant k with hu | hu
  · exact hu
  · exact hu.trans hk

theorem Lessened.each {α : Type} {f : State → α → State} (h : ∀ s a, Lessened s (f s a)) (l : List α) (s : State) :
    Lessened s (s.each l f) := by
  induction l generalizing s with
  | nil => exact .refl s
  | cons a l ih => exact (h s a).trans (ih (f s a))

theorem podlOf_setPodl (s : State) (n : Nat) (x : Podl) (k : Nat) : (s.setPodl n x).podlOf k = if k = n then x else s.podlOf k :=
  tget_tput ({} : Podl) s.podl n k x

/-- Of the arbiter's side a segment set moves the segments alone. -/
theorem podlSide_setPodl (s : State) (n : Nat) (x : Podl) :
    (s.setPodl n x).podlSide = { s.podlSide with podl := tput {} s.podl n x } := by
  rw [State.setPodl, podlSide_put _ _ _ _ rfl, podlSide_putFlag _ _ _ _ rfl, podlSide_putFlag _ _ _ _ rfl]
  rfl

theorem lessened_setPodl {x : Podl} (h : x.grant = none ∨ x.grant = (s.podlOf n).grant) : Lessened s (s.setPodl n x) := by
  have hside := podlSide_setPodl s n x
  refine ⟨congrArg Fld.PWR_PODL_BUDGET_BUDGET.of (congrArg PodlSide.budget hside),
    congrArg (fun w => Fld.PWR_PODL_CFG_EN.of w != 0) (congrArg PodlSide.cfg hside), fun k => ?_⟩
  rw [podlOf_setPodl]
  split
  · rename_i hk
    rw [hk]; exact h
  · exact .inr rfl

theorem lessened_podlDrop (s : State) (n : Nat) (x : Podl) : Lessened s (s.podlDrop n x) :=
  (lessened_setPodl (.inl rfl)).trans (.of_side (podlSide_sendGrant _ n false))

/-- A dropped grant is gone. -/
theorem podlDrop_grant (s : State) (n : Nat) (x : Podl) : ((s.podlDrop n x).podlOf n).grant = none := by
  rw [State.podlDrop, podlOf_of_side (podlSide_sendGrant _ n false), podlOf_setPodl, if_pos rfl]

theorem lessened_settling (s : State) (l : List Settling) : Lessened s { s with settling := l } := ⟨rfl, rfl, fun _ => .inr rfl⟩

theorem lessened_podlRevoke (s : State) (n cause : Nat) (dest : Option Nat) : Lessened s (s.podlRevoke n cause dest) := by
  have hsettle (t : State) (c : Prop) [Decidable c] (l : List Settling) : Lessened t (if c then t else { t with settling := l }) := by
    split
    · exact .refl t
    · exact lessened_settling t l
  have hshow (t : State) (body : List Word) :
      Lessened t (((t.inc .PWR_PODL_REVOKES_COUNT).record 0x1C 0 body).pwrEvent .PWR_STATUS_PODL_EVT) :=
    .of_side (by rw [podlSide_pwrEvent _ _ rfl, podlSide_record, podlSide_inc _ _ _ rfl])
  unfold State.podlRevoke
  dsimp only
  split
  · exact .refl s
  · exact ((lessened_podlDrop s n _).trans (hsettle _ _ _)).trans (hshow _ _)

theorem lessened_podlChanged (s : State) (n : Nat) : Lessened s (s.podlChanged n) :=
  ((Lessened.of_side rfl : Lessened s s.used).trans (lessened_podlRevoke s.used n _ none)).trans (lessened_setPodl (.inr rfl))

/-- What a tick does of its releases for one segment (R395). -/
def State.podlReleaseOne (s : State) (n : Nat) : State :=
  if (s.podlOf n).grant.isNone then s
  else if !s.flag .PWR_PODL_CFG_EN ∨ (s.podlOf n).req.isNone then s.podlDrop n (s.podlOf n)
  else if (s.podlOf n).req ≠ (s.podlOf n).grant then s.podlChanged n
  else s

theorem podlRelease_eq (s : State) : s.podlRelease = s.each (s.podl.map (·.1)) State.podlReleaseOne := rfl

theorem lessened_podlReleaseOne (s : State) (n : Nat) : Lessened s (s.podlReleaseOne n) := by
  unfold State.podlReleaseOne
  split
  · exact .refl s
  · split
    · exact lessened_podlDrop s n _
    · split
      · exact lessened_podlChanged s n
      · exact .refl s

theorem lessened_podlRelease (s : State) : Lessened s s.podlRelease := Lessened.each lessened_podlReleaseOne _ s

theorem podlReleaseOne_off (h : s.flag .PWR_PODL_CFG_EN = false) (n : Nat) : ((s.podlReleaseOne n).podlOf n).grant = none := by
  unfold State.podlReleaseOne
  split
  · exact Option.isNone_iff_eq_none.1 ‹_›
  · rw [if_pos (.inl (by rw [h]; rfl))]
    exact podlDrop_grant s n _

/-- With EN 0 the releases of a list's segments leave none of them a grant. -/
theorem each_podlReleaseOne_off (l : List Nat) (h : s.flag .PWR_PODL_CFG_EN = false) (hn : n ∈ l) :
    ((s.each l State.podlReleaseOne).podlOf n).grant = none := by
  induction l generalizing s with
  | nil => cases hn
  | cons a l ih =>
    have hone := lessened_podlReleaseOne s a
    rcases List.mem_cons.1 hn with rfl | hn
    · exact (Lessened.each lessened_podlReleaseOne l _).none (podlReleaseOne_off h n)
    · exact ih (hone.en.trans h) hn

theorem podlOf_unlisted (h : n ∉ s.podl.map (·.1)) : s.podlOf n = {} := by
  unfold State.podlOf tget
  cases hf : tfind s.podl n with
  | none => rfl
  | some x => exact absurd (List.mem_map.2 ⟨_, mem_of_tfind hf, rfl⟩) h

theorem podlRelease_off (h : s.flag .PWR_PODL_CFG_EN = false) (n : Nat) : (s.podlRelease.podlOf n).grant = none := by
  by_cases hn : n ∈ s.podl.map (·.1)
  · exact each_podlReleaseOne_off _ h hn
  · exact (lessened_podlRelease s).none (by rw [podlOf_unlisted hn])

theorem lessened_podlBudget (l : List Nat) (s : State) : Lessened s (s.podlBudget l) := by
  induction l generalizing s with
  | nil => exact .refl s
  | cons n l ih =>
    unfold State.podlBudget
    split
    · exact .refl s
    · exact (lessened_podlRevoke s n 1 Option.none).trans (ih _)

theorem lessened_podlPreempt (s : State) : Lessened s s.podlPreempt := by
  unfold State.podlPreempt
  split
  · exact .refl s
  · dsimp only
    split
    · exact .refl s
    · split
      · exact .refl s
      · exact Lessened.each (fun s m => lessened_podlRevoke s m 2 _) _ s

theorem lessened_podlRevocations (s : State) : Lessened s s.podlRevocations := by
  have hforce (s : State) (n : Nat) : Lessened s (if s.flag .PWR_PODL_SEG_FORCE_OFF n then s.podlRevoke n 3 Option.none else s) := by
    split
    · exact lessened_podlRevoke s n 3 Option.none
    · exact .refl s
  have hpolicy (s : State) (c : Prop) [Decidable c] : Lessened s (if c then s else s.podlBudget s.podlVictims) := by
    split
    · exact .refl s
    · exact lessened_podlBudget _ s
  unfold State.podlRevocations
  dsimp only
  split
  · exact ((Lessened.each hforce _ s).trans (hpolicy _ _)).trans (lessened_podlPreempt _)
  · exact (Lessened.each hforce _ s).trans (hpolicy _ _)

/-- The state in which a tick gives its grants. -/
def State.podlLeft (s : State) : State := s.podlSettle.podlRelease.podlRevocations

theorem lessened_podlLeft (s : State) : Lessened s s.podlLeft :=
  ((lessened_settling s _).trans (lessened_podlRelease _)).trans (lessened_podlRevocations _)

theorem podlLeft_off (h : s.flag .PWR_PODL_CFG_EN = false) (n : Nat) : (s.podlLeft.podlOf n).grant = none :=
  (lessened_podlRevocations _).none (podlRelease_off ((lessened_settling s _).en.trans h) n)

/-! Grants. -/

/-- A segment set adds at most the charge of its grant to USED. -/
theorem podlUsed_setPodl_le (s : State) (n : Nat) (x : Podl) :
    (s.setPodl n x).podlUsed ≤ s.podlUsed + (x.grant.map s.podlCharge).getD 0 := by
  have hside := podlSide_setPodl s n x
  have hcharge : (s.setPodl n x).podlCharge = s.podlCharge :=
    funext fun c => congrArg Fld.PWR_PODL_CLASS_MW.of (congrFun (congrArg PodlSide.classes hside) c)
  have hpodl : (s.setPodl n x).podl = tput {} s.podl n x := rfl
  have hsettling : (s.setPodl n x).settling = s.settling := rfl
  have hsum := sum_tput_le {} (fun y : Podl => (y.grant.map s.podlCharge).getD 0) s.podl n x
  simp only [State.podlUsed, State.podlGranted, hpodl, hcharge, hsettling]
  omega

/-- A grant given to segment `n`, and told. -/
def State.podlGive (s : State) (n : Nat) : State :=
  ((s.setPodl n { s.podlOf n with grant := (s.podlOf n).req, since := s.podlSeq }).sendGrant n true).pwrEvent .PWR_STATUS_PODL_EVT

theorem podlGrant_cons (s : State) (n : Nat) (l : List Nat) : s.podlGrant (n :: l) =
    if s.podlUsed + s.podlCharge ((s.podlOf n).req.getD 0) ≤ s.get .PWR_PODL_BUDGET_BUDGET then (s.podlGive n).podlGrant l else s := rfl

theorem podlSide_podlGive (s : State) (n : Nat) : (s.podlGive n).podlSide =
    (s.setPodl n { s.podlOf n with grant := (s.podlOf n).req, since := s.podlSeq }).podlSide := by
  rw [State.podlGive, podlSide_pwrEvent _ _ rfl, podlSide_sendGrant]

theorem podlBudget_podlGive (s : State) (n : Nat) :
    (s.podlGive n).get .PWR_PODL_BUDGET_BUDGET = s.get .PWR_PODL_BUDGET_BUDGET := by
  rw [podlBudget_of_side (podlSide_podlGive s n)]
  exact congrArg Fld.PWR_PODL_BUDGET_BUDGET.of (congrArg PodlSide.budget (podlSide_setPodl s n _))

/-- A grant that fits leaves USED within BUDGET. -/
theorem podlUsed_podlGive_le (h : s.podlUsed + s.podlCharge ((s.podlOf n).req.getD 0) ≤ s.get .PWR_PODL_BUDGET_BUDGET) :
    (s.podlGive n).podlUsed ≤ (s.podlGive n).get .PWR_PODL_BUDGET_BUDGET := by
  have hcharge : ((s.podlOf n).req.map s.podlCharge).getD 0 ≤ s.podlCharge ((s.podlOf n).req.getD 0) := by
    cases (s.podlOf n).req
    · exact Nat.zero_le _
    · exact Nat.le_refl _
  rw [podlBudget_podlGive, podlUsed_of_side (podlSide_podlGive s n)]
  exact (podlUsed_setPodl_le s n _).trans ((Nat.add_le_add_left hcharge _).trans h)

theorem podlBudget_podlGrant (l : List Nat) (s : State) :
    (s.podlGrant l).get .PWR_PODL_BUDGET_BUDGET = s.get .PWR_PODL_BUDGET_BUDGET := by
  induction l generalizing s with
  | nil => rfl
  | cons n l ih =>
    rw [podlGrant_cons]
    split
    · rw [ih, podlBudget_podlGive]
    · rfl

/-- The grants in order give nothing, or leave USED within BUDGET (R395). -/
theorem podlGrant_cases (l : List Nat) (s : State) :
    s.podlGrant l = s ∨ (s.podlGrant l).podlUsed ≤ (s.podlGrant l).get .PWR_PODL_BUDGET_BUDGET := by
  induction l generalizing s with
  | nil => exact .inl rfl
  | cons n l ih =>
    rw [podlGrant_cons]
    split
    · rename_i hfit
      rcases ih (s.podlGive n) with hsame | hwithin
      · rw [hsame]; exact .inr (podlUsed_podlGive_le hfit)
      · exact .inr hwithin
    · exact .inl rfl

/-! The tick. -/

/-- The state after a tick's grants, which with EN 0 are none. -/
def State.podlGiven (s : State) : State := if s.flag .PWR_PODL_CFG_EN then s.podlGrant s.podlWaiting else s

theorem podlGiven_cases (s : State) :
    s.podlGiven = s ∨ s.podlGiven.podlUsed ≤ s.podlGiven.get .PWR_PODL_BUDGET_BUDGET := by
  unfold State.podlGiven
  split
  · exact podlGrant_cases _ s
  · exact .inl rfl

theorem podlBudget_podlGiven (s : State) : s.podlGiven.get .PWR_PODL_BUDGET_BUDGET = s.get .PWR_PODL_BUDGET_BUDGET := by
  unfold State.podlGiven
  split
  · exact podlBudget_podlGrant _ s
  · rfl

/-- USED and OVER shown at the end of a tick; `was` is OVER before it (R395). -/
def State.podlShown (s : State) (was : Bool) : State :=
  let t := s.put .PWR_PODL_USED_USED 0 s.podlUsed
  let isOver := decide (t.get .PWR_PODL_BUDGET_BUDGET < t.podlUsed)
  (t.putFlag .PWR_STATUS_OVER 0 isOver).when (isOver && !was) fun s => s.pulse 1466

theorem podlTick_eq (s : State) : s.podlTick = s.podlLeft.podlGiven.podlShown (s.flag .PWR_STATUS_OVER) := rfl

theorem get_when_pulse (s : State) (c : Bool) (i : Nat) (f : Fld) (k : Nat) : (s.when c fun s => s.pulse i).get f k = s.get f k := by
  cases c
  · rfl
  · exact get_pulse s i f k

theorem podlSide_podlShown (s : State) (was : Bool) : (s.podlShown was).podlSide = s.podlSide := by
  have hwhen (t : State) (c : Bool) : (t.when c fun s => s.pulse 1466).podlSide = t.podlSide := by
    cases c
    · rfl
    · exact podlSide_pulse t 1466
  rw [State.podlShown, hwhen, podlSide_putFlag _ _ _ _ rfl, podlSide_put _ _ _ _ rfl]

theorem used_podlShown (s : State) (was : Bool) : (s.podlShown was).get .PWR_PODL_USED_USED = s.podlUsed % 2 ^ 24 := by
  rw [State.podlShown, get_when_pulse, State.putFlag, get_put_reg _ (by decide)]
  exact get_put_same s .PWR_PODL_USED_USED (by decide) 0 _

theorem over_podlShown (s : State) (was : Bool) :
    (s.podlShown was).flag .PWR_STATUS_OVER = decide (s.get .PWR_PODL_BUDGET_BUDGET < s.podlUsed) := by
  have hside : (s.put .PWR_PODL_USED_USED 0 s.podlUsed).podlSide = s.podlSide := podlSide_put s _ 0 _ rfl
  rw [State.podlShown, podlBudget_of_side hside, podlUsed_of_side hside, State.flag, get_when_pulse]
  exact flag_putFlag _ .PWR_STATUS_OVER (by decide) 0 _

/-- What a tick shows and gives (R395). -/
theorem podlTick_grants (s : State) : s.podlTick.get .PWR_PODL_USED_USED = s.podlTick.podlUsed % 2 ^ 24 ∧
    s.podlTick.flag .PWR_STATUS_OVER = decide (s.podlTick.get .PWR_PODL_BUDGET_BUDGET < s.podlTick.podlUsed) ∧
    s.podlTick.get .PWR_PODL_BUDGET_BUDGET = s.get .PWR_PODL_BUDGET_BUDGET ∧
    (s.flag .PWR_PODL_CFG_EN = false → ∀ n, (s.podlTick.podlOf n).grant = none) ∧
    (∀ n c, (s.podlTick.podlOf n).grant = some c → (s.podlOf n).grant ≠ some c →
      s.podlTick.podlUsed ≤ s.podlTick.get .PWR_PODL_BUDGET_BUDGET) := by
  have hleft := lessened_podlLeft s
  have hside : s.podlTick.podlSide = s.podlLeft.podlGiven.podlSide := podlSide_podlShown _ _
  have hused := podlUsed_of_side hside
  have hbudget := podlBudget_of_side hside
  refine ⟨?_, ?_, ?_, fun hoff n => ?_, fun n c hu hs => ?_⟩
  · rw [hused, podlTick_eq, used_podlShown]
  · rw [hused, hbudget, podlTick_eq, over_podlShown]
  · rw [hbudget, podlBudget_podlGiven, hleft.budget]
  · have hgiven : s.podlLeft.podlGiven = s.podlLeft := if_neg (by rw [hleft.en, hoff]; exact Bool.false_ne_true)
    rw [podlOf_of_side hside, hgiven]
    exact podlLeft_off hoff n
  · rcases podlGiven_cases s.podlLeft with hsame | hwithin
    · have hgrant : (s.podlLeft.podlOf n).grant = some c := by
        rw [← hsame, ← podlOf_of_side hside n]; exact hu
      rcases hleft.grant n with hnone | hkept
      · rw [hnone] at hgrant; cases hgrant
      · exact absurd (hkept.symm.trans hgrant) hs
    · rw [hused, hbudget]; exact hwithin

/-- Settles O53: the arbiter only takes grants away before it gives, and gives what fits. -/
theorem podlTickGrantsWithinItsBudget : Obligations.PodlTickGrantsWithinItsBudget := by
  refine ⟨fun lane cls valid s hl hup => ?_, fun s hup => ?_⟩
  · have hexec : exec (.podlReqStable lane valid cls) s = s.become (s.podlStable lane valid cls) := runOn_up _ hl hup
    refine ⟨fun hnone => ?_, fun n hn => ?_⟩
    · rw [hexec, State.podlStable, hnone]; rfl
    · obtain ⟨hreq, hgrant, hother, hrest, hrd⟩ := podlRequest_requests s n (if valid && decide (cls < 10) then some cls else none)
      refine ⟨s.outside (s.podlRequest n (if valid && decide (cls < 10) then some cls else none)), ?_, hreq.trans ?_, hgrant, hother, ?_, hrd⟩
      · rw [hexec, State.podlStable, hn]; rfl
      · simp only [Bool.and_eq_true, decide_eq_true_eq]
      · rw [hrest]; rfl
  · have htick := podlTick_grants s
    refine ⟨s.outside s.podlTick, run_up _ hup, ?_⟩
    generalize s.podlTick = u at htick
    exact htick

end Sys2Proof.Machine
end

section
/-! What leaves the image in service and the path's status alone, of the operations that follow the switch (R87, R90). -/
namespace Sys2Proof.Machine

/-- The place of STI_STATUS in the register window. -/
def stiKey : Nat := regKey .STI_STATUS 0

/-- `t` has the image of `s` in service, and its path shows the same status (R87). -/
@[reducible, simp] def SameStructure (s t : State) : Prop := t.img = s.img ∧ tfind t.regs stiKey = tfind s.regs stiKey

variable (s : State)

theorem get_of_sameStructure {s t : State} (h : SameStructure s t) {f : Fld} (hf : f.reg = .STI_STATUS) : t.get f = s.get f := by
  simp only [State.get, State.rd, hf]
  exact congrArg (fun x => f.of (x.getD (regReset .STI_STATUS 0))) h.2

theorem SameStructure.trans {s t u : State} (h : SameStructure s t) (h' : SameStructure t u) : SameStructure s u :=
  ⟨h'.1.trans h.1, h'.2.trans h.2⟩

/-! Registers, counters and records. -/

@[simp] theorem sameStructure_wr {r : Reg} (h : r ≠ .STI_STATUS) (i : Nat) (w : Word) : SameStructure s (s.wr r i w) :=
  ⟨rfl, tfind_tset_other _ _ _ _ fun e => h (regKey_inj.1 e).1.symm⟩

@[simp] theorem sameStructure_put {f : Fld} (h : f.reg ≠ .STI_STATUS) (i v : Nat) : SameStructure s (s.put f i v) :=
  sameStructure_wr s h i _

@[simp] theorem sameStructure_putFlag {f : Fld} (h : f.reg ≠ .STI_STATUS) (i : Nat) (b : Bool) : SameStructure s (s.putFlag f i b) :=
  sameStructure_put s h i _

@[simp] theorem img_ite {c : Prop} [Decidable c] (s t : State) : (if c then s else t).img = if c then s.img else t.img :=
  apply_ite State.img c s t

@[simp] theorem tfind_regs_ite {c : Prop} [Decidable c] (s t : State) (k : Nat) :
    tfind (if c then s else t).regs k = if c then tfind s.regs k else tfind t.regs k :=
  apply_ite (fun s : State => tfind s.regs k) c s t

@[simp] theorem sameStructure_each {α : Type} {f : State → α → State} (h : ∀ s a, SameStructure s (f s a)) (l : List α) :
    SameStructure s (s.each l f) :=
  ⟨each_keeps State.img l f (fun s a => (h s a).1) s, each_keeps (fun s => tfind s.regs stiKey) l f (fun s a => (h s a).2) s⟩

@[simp] theorem sameStructure_pulse (i : Nat) : SameStructure s (s.pulse i) :=
  have h := besideBel_pulse s i
  ⟨show (s.pulse i).besideBel.img = s.besideBel.img by rw [h],
   show tfind (s.pulse i).besideBel.regs stiKey = tfind s.besideBel.regs stiKey by rw [h]⟩

@[simp] theorem sameStructure_presentAll : SameStructure s s.presentAll :=
  sameStructure_each s (f := State.present) (fun _ _ => ⟨rfl, rfl⟩) _

theorem sameStructure_satMark (k : Nat) : SameStructure s (s.satMark k) := by
  unfold State.satMark
  split <;> simp +decide

@[simp] theorem sameStructure_add {f : Fld} (h : f.reg ≠ .STI_STATUS) (i n : Nat) : SameStructure s (s.add f i n) := by
  simp [State.add, h, sameStructure_satMark]

@[simp] theorem sameStructure_inc {f : Fld} (h : f.reg ≠ .STI_STATUS) (i : Nat) : SameStructure s (s.inc f i) :=
  sameStructure_add s h i 1

@[simp] theorem sameStructure_add64 {lo hi : Reg} (hlo : lo ≠ .STI_STATUS) (hhi : hi ≠ .STI_STATUS) (i n : Nat) :
    SameStructure s (s.add64 lo hi i n) :=
  (sameStructure_wr s hlo i _).trans (sameStructure_wr _ hhi i _)

@[simp] theorem sameStructure_record (kind flags : Nat) (body : List Word) (z : Bool) : SameStructure s (s.record kind flags body z) := by
  simp +decide [State.record]

@[simp] theorem sameStructure_memFault (m a : Nat) : SameStructure s (s.memFault m a) := ⟨rfl, rfl⟩
@[simp] theorem sameStructure_setExt (e : Nat) (x : Ext) : SameStructure s (s.setExt e x) := ⟨rfl, rfl⟩
@[simp] theorem sameStructure_setExtPort (n : Nat) (x : ExtPort) : SameStructure s (s.setExtPort n x) := ⟨rfl, rfl⟩
@[simp] theorem sameStructure_setFrame (h : Nat) (f : DFrame) : SameStructure s (s.setFrame h f) := ⟨rfl, rfl⟩
@[simp] theorem sameStructure_dropRef (h : Nat) : SameStructure s (s.dropRef h) := ⟨rfl, rfl⟩

/-! The Dome's frames and references. -/

@[simp] theorem sameStructure_memWrite (m a : Nat) : SameStructure s (s.memWrite m a) := by
  simp +decide [State.memWrite]

@[simp] theorem sameStructure_egtError (cause : Nat) (rel : Bool) (dst : Nat) : SameStructure s (s.egtError cause rel dst) := by
  simp +decide [State.egtError]

@[simp] theorem sameStructure_flowControl (p : Nat) : SameStructure s (s.flowControl p) := by
  have hpause (s : State) : SameStructure s (s.fcPause p) := by simp +decide [State.fcPause]
  have hpfc (s : State) : SameStructure s (s.fcPfc p) := by simp +decide [State.fcPfc]
  simp [State.flowControl, hpause, hpfc]

@[simp] theorem sameStructure_freeFrame (h : Nat) : SameStructure s (s.freeFrame h) := by
  unfold State.freeFrame
  split
  · simp
  · dsimp only
    split <;> simp

@[simp] theorem sameStructure_setQueue (q : Nat) (l : List Copy) : SameStructure s (s.setQueue q l) := by
  simp +decide [State.setQueue, State.drrRest]

@[simp] theorem sameStructure_setCand (p : Nat) (c : Option Copy) : SameStructure s (s.setCand p c) := by
  simp +decide [State.setCand]

@[simp] theorem sameStructure_injEnded (f : DFrame) (sent : Option Nat) : SameStructure s (s.injEnded f sent) := by
  unfold State.injEnded
  split <;> simp

theorem sameStructure_loseFrame (h : Nat) : SameStructure s (s.loseFrame h) := by
  unfold State.loseFrame
  split
  · simp
  · dsimp only
    generalize hu : State.each (State.each (State.each _ _ _) _ _) _ _ = u
    have hspoilt : SameStructure s u := by
      subst hu
      refine SameStructure.trans ?_ (sameStructure_each _ (fun s p => ?_) _)
      · simp
      · split <;> simp
    split <;> simp +decide [hspoilt]

@[simp] theorem sameStructure_takeRefs (h k : Nat) : SameStructure s (s.takeRefs h k) := by
  have hread : SameStructure s (s.descRead h) := by
    unfold State.descRead
    split
    · simp
    · split <;> simp +decide [sameStructure_loseFrame]
  unfold State.takeRefs
  dsimp only
  split <;> simp [hread]

@[simp] theorem sameStructure_cycleEnd : SameStructure s s.cycleEnd := by simp [State.cycleEnd]

@[simp] theorem sameStructure_deref (h : Nat) : SameStructure s (s.deref h) := by simp [State.deref]

@[simp] theorem sameStructure_endCopy (c : Copy) (sent : Option Nat) : SameStructure s (s.endCopy c sent) := by
  unfold State.endCopy
  split <;> simp

/-! Ports and segments. -/

@[simp] theorem sameStructure_begin (m : Nat) (t : Tx) : SameStructure s (s.begin m t) := by
  simp [State.begin, State.startGap]

@[simp] theorem sameStructure_lpiWake (p : Nat) : SameStructure s (s.lpiWake p) := by simp +decide [State.lpiWake]

@[simp] theorem sameStructure_lpiLeave (p : Nat) : SameStructure s (s.lpiLeave p) := by simp [State.lpiLeave]

@[simp] theorem sameStructure_ownTx (m : Nat) : SameStructure s (s.ownTx m) := by
  unfold State.ownTx
  dsimp only
  split <;> simp

@[simp] theorem sameStructure_burstEnd (p : Nat) : SameStructure s (s.burstEnd p) := by
  simp [State.burstEnd, State.commitEnd, State.setCommit]

@[simp] theorem sameStructure_plcaStop (p : Nat) (line : Bool) : SameStructure s (s.plcaStop p line) := by
  simp +decide [State.plcaStop]

@[simp] theorem sameStructure_noCand (p : Nat) : SameStructure s (s.noCand p) := by
  simp +decide [State.noCand, State.showTries]

@[simp] theorem sameStructure_returnCand (p : Nat) : SameStructure s (s.returnCand p) := by
  unfold State.returnCand
  split <;> simp

@[simp] theorem sameStructure_serviceCand (p : Nat) : SameStructure s (s.serviceCand p) := by
  unfold State.serviceCand
  split <;> simp

/-- Each rewriting is a proof step of its own here: a comparison of whole states would evaluate the cycle counter. -/
@[simp] theorem sameStructure_beacon (p : Nat) : SameStructure s (s.beacon p) := by
  simp +decide -implicitDefEqProofs [State.beacon]

@[simp] theorem sameStructure_settleV (p : Nat) : SameStructure s (s.settleV p) := by
  refine sameStructure_each s (fun s k => ?_) _
  split
  · dsimp only
    split <;> simp +decide
  · simp

@[simp] theorem sameStructure_enterSeg (p new : Nat) : SameStructure s (s.enterSeg p new) := by simp +decide [State.enterSeg]

@[simp] theorem sameStructure_segEval (p : Nat) : SameStructure s (s.segEval p) := by
  unfold State.segEval
  split <;> simp +decide [State.toNormalEnd]

@[simp] theorem sameStructure_downDrop (p : Nat) : SameStructure s (s.downDrop p) := by simp +decide [State.downDrop]

@[simp] theorem sameStructure_setLink (p : Nat) (up : Bool) : SameStructure s (s.setLink p up) := by simp +decide [State.setLink]

theorem sameStructure_relink (p : Nat) : SameStructure s (s.relink p) := by simp [State.relink, State.fieldLink]

/-! The extender manager. -/

@[simp] theorem sameStructure_sendFrame (m : Nat) (d : List Byte) : SameStructure s (s.sendFrame m d) := by simp [State.sendFrame]

@[simp] theorem sameStructure_sendAuth (e msg : Nat) (body : List Byte) : SameStructure s (s.sendAuth e msg body) := by
  simp [State.sendAuth]

@[simp] theorem sameStructure_extEnter (e st : Nat) : SameStructure s (s.extEnter e st) := by simp +decide [State.extEnter]

@[simp] theorem sameStructure_extLose (e cause : Nat) : SameStructure s (s.extLose e cause) := by
  simp +decide [State.extLose, State.extSource]

@[simp] theorem sameStructure_extLeaveJoined (e st cause : Nat) (leave : Bool) : SameStructure s (s.extLeaveJoined e st cause leave) := by
  simp [State.extLeaveJoined]

@[simp] theorem sameStructure_extEval (e : Nat) : SameStructure s (s.extEval e) := by
  simp +decide [State.extEval, State.sendDiscover, State.sendPlain]

end Sys2Proof.Machine
end

section
/-! The image in service under a register write, first part: plain writes, Belfry, the check units and the DMA engine (R90). -/
namespace Sys2Proof.Machine

variable (s : State)

theorem img_putFlag (f : Fld) (i : Nat) (b : Bool) : (s.putFlag f i b).img = s.img := rfl
@[simp] theorem img_store (r : Reg) (i : Nat) (w : Word) : (s.store r i w).img = s.img := rfl

@[simp] theorem img_add (f : Fld) (i n : Nat) : (s.add f i n).img = s.img := by
  simp [State.add, sameStructure_satMark]

@[simp] theorem img_inc (f : Fld) (i : Nat) : (s.inc f i).img = s.img := img_add s f i 1
@[simp] theorem img_add64 (lo hi : Reg) (i n : Nat) : (s.add64 lo hi i n).img = s.img := by rw [State.add64, wr_img, wr_img]

@[simp] theorem img_each {α : Type} {f : State → α → State} (h : ∀ s a, (f s a).img = s.img) (l : List α) :
    (s.each l f).img = s.img :=
  each_keeps State.img l f h s

@[simp] theorem img_plainWrite (r : Reg) (i : Nat) (w : Word) (locked : Bool) : (s.plainWrite r i w locked).img = s.img := by
  have hclear : (s.clearCounter r i).img = s.img := by
    unfold State.clearCounter
    split
    · rfl
    · split <;> rfl
  simp [State.plainWrite, State.fieldsWrite, hclear]

/-! Belfry (R347 to R358). -/

@[simp] theorem img_spurCount : s.spurCount.img = s.img := by simp [State.spurCount]

@[simp] theorem img_noteWithdrawn (i : Nat) : (s.noteWithdrawn i).img = s.img := noteWithdrawn_keeps State.img (fun _ _ => rfl) s i

@[simp] theorem img_levelChange (i : Nat) (l : Bool) : (s.levelChange i l).img = s.img := by
  have hset : (s.setInput i l).img = s.img :=
    setInput_keeps State.img i (fun _ _ => rfl) (fun _ _ _ => rfl) (fun _ _ => rfl) (fun _ _ => rfl) s l
  simp [State.levelChange, State.inBlock, hset]

@[simp] theorem img_belEoi (t : Nat) (w : Word) : (s.belEoi t w).img = s.img := by
  have herror (src : Nat) : (s.eoiError t src).img = s.img := by simp [State.eoiError, State.raiseFree, State.raise, img_putFlag]
  unfold State.belEoi
  split
  · simp [herror, State.present]
  · exact herror _

@[simp] theorem img_srcCfg (i : Nat) (w : Word) : (s.srcCfg i w).img = s.img := by simp [State.srcCfg, img_putFlag]

@[simp] theorem img_pendClear (i : Nat) (w : Word) : (s.pendClear i w).img = s.img := by simp [State.pendClear]

/-! The check units and the DMA engine (R302 to R345). -/

@[simp] theorem img_chanEnd (c code : Nat) : (s.chanEnd c code).img = s.img := by rw [State.chanEnd, setChan_img]

@[simp] theorem img_chkFeed (u : Nat) (l : List Byte) : (s.chkFeed u l).img = s.img := by rw [State.chkFeed, State.setRun, wr_img, wr_img]
@[simp] theorem img_chkDone (u : Nat) : (s.chkDone u).img = s.img := img_add64 s _ _ u 1
@[simp] theorem img_chkMiss (u : Nat) : (s.chkMiss u).img = s.img := by simp [State.chkMiss]

@[simp] theorem img_bufPut (c : Nat) (x : Chan) : (s.bufPut c x).img = s.img := by simp [State.bufPut]

@[simp] theorem img_feedMem (c n : Nat) (l : List Byte) : (s.feedMem c n l).img = s.img := by
  unfold State.feedMem
  dsimp only
  split <;> simp

@[simp] theorem img_endMem (c n : Nat) : (s.endMem c n).img = s.img := by
  unfold State.endMem
  dsimp only
  split <;> simp

@[simp] theorem img_feedInject (c : Nat) (l : List Byte) : (s.feedInject c l).img = s.img := by
  unfold State.feedInject
  dsimp only
  split <;> simp

theorem img_addRef (h : Nat) (f : DFrame) : (s.addRef h f).img = s.img := by simp [State.addRef]

theorem img_offerHost (c h : Nat) (f : DFrame) (l : List Word) : (s.offerHost c h f l).2.img = s.img := by
  unfold State.offerHost
  split
  · exact img_inc s _ _
  · exact img_addRef _ h f

theorem img_chooseQueue (dst qsel cls : Nat) : (s.chooseQueue dst qsel cls).2.img = s.img := by
  unfold State.chooseQueue
  split
  · rfl
  · dsimp only
    split
    · exact img_inc s _ _
    · split
      · exact img_inc s _ _
      · rfl

theorem img_offer (h : Nat) (f : DFrame) (q col edit handle cls : Nat) : (s.offer h f q col edit handle cls).2.img = s.img := by
  by_cases ho : s.threshold (s.queueClass q) col < s.queueCells q + f.cells
  · rw [offer_over ho]
    unfold State.countDrop
    split <;> simp
  · cases ht : s.offerTag f q edit with
    | none => rw [offer_untagged ho ht, img_inc]
    | some t =>
      obtain ⟨c, l, -, htaken⟩ := offer_tagged (h := h) (handle := handle) (cls := cls) ho ht
      rw [htaken]
      exact (img_addRef _ h f).trans (sameStructure_setQueue s q _).1

theorem img_enqueueTicket (h dst qsel col cls edit handle : Nat) (tk : List Word) :
    (s.enqueueTicket h dst qsel col cls edit handle tk).2.img = s.img := by
  unfold State.enqueueTicket
  split
  · rfl
  · split
    · exact img_offerHost s qsel h _ _
    · exact (img_offer _ h _ _ col edit handle cls).trans (img_chooseQueue s dst qsel cls)

@[simp] theorem img_injTicket (c : Nat) (d : List Word) : (s.injTicket c d).img = s.img := by
  unfold State.injTicket
  dsimp only
  split <;>
  · simp [img_enqueueTicket]
    split <;> simp

@[simp] theorem img_takeSource (c : Nat) (d : List Word) : (s.takeSource c d).img = s.img := by
  unfold State.takeSource
  dsimp only
  split
  · rfl
  · split <;> simp

@[simp] theorem img_takeRecords (c : Nat) (d : List Word) : (s.takeRecords c d).img = s.img := by simp [State.takeRecords]

@[simp] theorem img_takeKeep (c : Nat) (d : List Word) : (s.takeKeep c d).img = s.img := by simp [State.takeKeep]

theorem img_sweepNodes (c : Nat) (d : List Word) (k : Nat) : (s.sweepNodes c d k).img = s.img := by
  induction k generalizing s with
  | zero => rfl
  | succ k ih => simp [State.sweepNodes, ih, State.clearNode]

@[simp] theorem img_gather (c : Nat) (d : List Word) : (s.gather c d).img = s.img := by
  have hread : (s.bufRead c).img = s.img := by simp [State.bufRead]
  have hpost (s : State) : (s.postStatus c d).img = s.img := by
    unfold State.postStatus
    dsimp only
    split <;> simp
  unfold State.gather
  dsimp only
  rw [hpost]
  split <;> simp [hread, img_sweepNodes]

theorem img_advance (c : Nat) : (s.advance c).img = s.img := by
  have hinj : (s.injDone c).img = s.img := by
    unfold State.injDone
    split <;> simp
  have hhost (s : State) : (s.hostDone c).img = s.img := by simp [State.hostDone]
  unfold State.advance
  dsimp only
  split <;> simp [hhost, hinj]

theorem img_sendBeats (m k : Nat) : (s.sendBeats m k).img = s.img := by
  induction k generalizing s with
  | zero => rfl
  | succ k ih =>
    unfold State.sendBeats
    split
    · rfl
    · exact ih _

theorem img_issueOne {m : Nat} {wr : Bool} {t : State} (h : s.issueOne m wr = some t) : t.img = s.img := by
  have hissue (s : State) (r : Request) (snoop : Bool) : (s.issue m r snoop).img = s.img := by
    unfold State.issue
    split <;> rfl
  unfold State.issueOne at h
  split at h
  · cases h
  · split at h
    · cases h
    · split at h <;> cases h
      rw [hissue, setChan_img]

theorem img_issueAll (m k : Nat) : (s.issueAll m k).img = s.img := by
  induction k generalizing s with
  | zero => rfl
  | succ k ih =>
    unfold State.issueAll
    split
    · rw [ih, img_issueOne s ‹_›]
    · split
      · rw [ih, img_issueOne s ‹_›]
      · rfl

theorem img_dmaRounds (k : Nat) : (s.dmaRounds k).img = s.img := by
  induction k generalizing s with
  | zero => rfl
  | succ k ih =>
    have hport (s : State) (m : Nat) : ((s.issueAll m 96).sendBeats m 32).img = s.img :=
      (img_sendBeats _ m 32).trans (img_issueAll s m 96)
    exact (ih _).trans ((img_each _ hport _).trans (img_each s (fun s c => img_advance s c) _))

@[simp] theorem img_dmaPump : s.dmaPump.img = s.img := by
  simp [State.dmaPump, State.engine, State.spend, img_dmaRounds]

/-- As in `sameStructure_beacon`, a step for each rewriting: the byte counter is not to be evaluated. -/
theorem img_retire (c : Nat) (d : List Word) : (s.retire c d).img = s.img := by
  have hunclaim : (s.unclaim c).img = s.img := by
    unfold State.unclaim
    split <;> rfl
  simp -implicitDefEqProofs [State.retire, State.chanSource, hunclaim]

theorem img_chAbort (c : Nat) : (s.chAbort c).img = s.img := by
  unfold State.chAbort
  dsimp only
  split
  · rfl
  · simp [img_retire]

@[simp] theorem img_dmaClear : s.dmaClear.img = s.img := by
  have hleave (s : State) (c : Nat) : (s.chLeave c).img = s.img := by
    simp [State.chLeave, State.stopStatus, State.chEnter, img_putFlag]
  simp [State.dmaClear, State.clearDone, img_chAbort, hleave]

@[simp] theorem img_chCfgWrite (c : Nat) (w : Word) : (s.chCfgWrite c w).img = s.img := by
  simp [State.chCfgWrite, State.chEnable, State.chDisable, img_putFlag]

@[simp] theorem img_doorbell (c : Nat) : (s.doorbell c).img = s.img := by simp [State.doorbell]

@[simp] theorem img_dmaStop (c : Nat) : (s.dmaStop c).img = s.img := by simp [State.dmaStop]

end Sys2Proof.Machine
end

section
/-! The image in service under a register write, second part: the other regions, then every register (R90). -/
namespace Sys2Proof.Machine

variable (s : State)

/-! The event log, maintenance and the fault collector (R60 to R64, R368 to R382). -/

@[simp] theorem img_logFreeze (sw : Bool) : (s.logFreeze sw).img = s.img := by
  simp [State.logFreeze, State.logSource, img_putFlag]

@[simp] theorem img_logThresh (old : Nat) : (s.logThresh old).img = s.img := by simp [State.logThresh, State.logSource]

@[simp] theorem img_mntReqWrite (w : Word) : (s.mntReqWrite w).img = s.img := by
  have hchip (s : State) (key : Nat) : (s.mntChip key).img = s.img := by simp [State.mntChip, State.chipRequest]
  have hblock (key b : Nat) : (s.mntBlock key b).img = s.img := by simp [State.mntBlock, State.blockReset]
  simp [State.mntReqWrite, hchip, hblock]

@[simp] theorem img_lanternWrite (w : Word) : (s.lanternWrite w).img = s.img := by
  have harm (s : State) (key : Nat) : (s.lanternArm key).img = s.img := by simp [State.lanternArm, State.when]
  have hstop (s : State) (key : Nat) : (s.lanternStop key).img = s.img := by simp [State.lanternStop, State.lanternHold, State.when]
  simp [State.lanternWrite, State.when, harm, hstop]

/-! Keep, mirror, keys and sessions (R402 to R424). -/

@[simp] theorem img_keepEvent (f : Fld) : (s.keepEvent f).img = s.img := by simp [State.keepEvent]

@[simp] theorem img_keepFail (code : Nat) : (s.keepFail code).img = s.img := by simp [State.keepFail, State.keepRecord]

@[simp] theorem img_keepCtrl (w : Word) : (s.keepCtrl w).img = s.img := by
  have hgo (s : State) : s.keepGo.img = s.img := by simp [State.keepGo, State.keepStart, State.stagingWrite]
  have hload (s : State) : s.keepLoad.img = s.img := by simp [State.keepLoad, State.loadRefused, State.keepRecord]
  have hstop (s : State) : s.keepStop.img = s.img := by simp [State.keepStop]
  simp [State.keepCtrl, State.when, hgo, hload, hstop]

@[simp] theorem img_mirCfg (w : Word) : (s.mirCfg w).img = s.img := by
  have henter (s : State) (st : Nat) : (s.mirEnter st).img = s.img := by simp [State.mirEnter]
  have hhello (s : State) : s.mirHello.img = s.img := by
    unfold State.mirHello State.mirSend
    split <;> simp
  unfold State.mirCfg
  dsimp only
  split <;> simp [State.mirStart, State.mirStop, State.when, henter, hhello, img_putFlag]

@[simp] theorem img_stiDone : s.stiDone.img = s.img := by simp [State.stiDone]

@[simp] theorem img_stiStop (who : Option Nat) : (s.stiStop who).img = s.img := by
  simp [State.stiStop, State.stiAct, State.stiSeqErr, State.stiDiscard, State.stiEnter]

@[simp] theorem img_stiWord (who : Option Nat) (w : Word) : (s.stiWord who w).img = s.img := by
  simp [State.stiWord, State.stiAct, State.stiSeqErr]

@[simp] theorem img_stiCtrl (who : Option Nat) (w : Word) : (s.stiCtrl who w).img = s.img := by
  unfold State.stiCtrl
  split <;> simp [State.stiAct, State.stiGo, State.stiCheck, State.stiStart, State.stiEnter, State.stiSeqErr, img_putFlag]

@[simp] theorem img_sesEvent (f : Fld) : (s.sesEvent f).img = s.img := by simp [State.sesEvent]

@[simp] theorem img_sesClose (i cause : Nat) : (s.sesClose i cause).img = s.img := by
  simp [State.sesClose, State.sesEnd, State.sesRecord, State.when]

@[simp] theorem img_keyCtrl (w : Word) : (s.keyCtrl w).img = s.img := by
  have hclose (s : State) (slot : Nat) : (s.closeSlot slot).img = s.img := by simp [State.closeSlot]
  unfold State.keyCtrl
  dsimp only
  split <;> simp [State.keyWrite, State.keyErase, State.keyLock, State.keyRefuse, hclose]

/-! MAC ports and segments (R94 to R147). -/

@[simp] theorem img_txenEdge (t : State) (p : Nat) : (s.txenEdge t p).img = t.img := by simp [State.txenEdge]

@[simp] theorem img_loopWrite (p v : Nat) : (s.loopWrite p v).img = s.img := by
  have hcut (s : State) : (s.cutMedium p).img = s.img := by
    unfold State.cutMedium
    split <;> simp
  simp [State.loopWrite, hcut]

theorem img_cutEnd (x : SpiRx) (d : List Byte) (good : Bool) : (s.cutEnd x d good).img = s.img := by
  simp [State.cutEnd, State.onWire, State.countSent]

theorem img_dropRx (p : Nat) : (s.dropRx p).img = s.img := by
  unfold State.dropRx
  split
  · rfl
  · dsimp only
    split <;> simp [img_cutEnd]

@[simp] theorem img_trunkEn (m : Nat) (on : Bool) : (s.trunkEn m on).img = s.img := by
  simp [State.trunkEn, State.trunkOn, State.trunkOff, State.extTrunk, img_dropRx]

@[simp] theorem img_macCfg (p : Nat) (w : Word) : (s.macCfg p w).img = s.img := by simp [State.macCfg]

@[simp] theorem img_fcForce (p : Nat) (w : Word) : (s.fcForce p w).img = s.img := by
  have hctrl (s : State) : (s.ctrlTx p).img = s.img := by
    unfold State.ctrlTx
    dsimp only
    split
    · rfl
    · split <;> simp
  simp [State.fcForce, hctrl]

@[simp] theorem img_segCfg (p : Nat) (w : Word) : (s.segCfg p w).img = s.img := by simp [State.segCfg]

@[simp] theorem img_babbleClear (p : Nat) : (s.babbleClear p).img = s.img := by simp [State.babbleClear]

@[simp] theorem img_pushGo (e : Nat) : (s.pushGo e).img = s.img := by
  simp [State.pushGo, State.pushStart, State.sendConfig, State.extSeqCheck]

/-! Policers and shapers (R226 to R240, R259). -/

@[simp] theorem img_polPortCfgWrite (n : Nat) (w : Word) : (s.polPortCfgWrite n w).img = s.img := by
  have hread (s : State) (v i : Nat) : (s.readProf v i []).2.img = s.img := by
    simp [State.readProf, apply_ite Prod.snd]
  simp [State.polPortCfgWrite, State.resetPol, State.setPol, hread]

@[simp] theorem img_shaperWrite (r : Reg) (i : Nat) (w : Word) : (s.shaperWrite r i w).img = s.img := by
  simp [State.shaperWrite, State.shaperApply, State.applyShaper]

/-! Time, phase and gates (R271 to R299). -/

@[simp] theorem img_setGates (n g : Nat) : (s.setGates n g).img = s.img := by simp [State.setGates]

@[simp] theorem img_setGcl (n : Nat) (g : Gcl) : (s.setGcl n g).img = s.img := rfl
@[simp] theorem img_setPh (a : Nat) (x : Phase) : (s.setPh a x).img = s.img := rfl
@[simp] theorem img_setGclState (n v : Nat) : (s.setGclState n v).img = s.img := rfl

@[simp] theorem img_takeEntry (n : Nat) (x : GclSeg) (bad : List Nat) : (s.takeEntry n x bad).img = s.img := by
  simp [State.takeEntry, State.gclHalt, State.applyEntry]

@[simp] theorem img_gclDone (n : Nat) : (s.gclDone n).img = s.img := by simp [State.gclDone]

theorem img_stepTime (t : Nat) (bad : List Nat) : (s.stepTime t bad).img = s.img := by
  have hfollow (s : State) (n : Nat) : (s.gclFollow n bad).img = s.img := by simp [State.gclFollow]
  unfold State.stepTime
  dsimp only
  refine (img_each _ (fun s n => ?_) _).trans ((img_each _ (fun s n => ?_) _).trans (img_each _ (fun s a => ?_) _))
  · split <;> simp [hfollow]
  · simp
  · rfl

@[simp] theorem img_phCfgWrite (a : Nat) (w : Word) : (s.phCfgWrite a w).img = s.img := by
  have hfallback (s : State) : (s.fallbackAll a).img = s.img := by simp [State.fallbackAll, State.enterFallback]
  simp [State.phCfgWrite, State.phEnable, State.phDisable, State.setPhState, State.showFreq, hfallback]

@[simp] theorem img_gclCfgWrite (n : Nat) (w : Word) : (s.gclCfgWrite n w).img = s.img := by
  have hrefuse (s : State) (c : Nat) : (s.gclRefuse n c).img = s.img := by simp [State.gclRefuse]
  have hschedule (s : State) (g : GclPlan) : (s.gclSchedule n g).img = s.img := by simp [State.gclSchedule]
  have hlist (s : State) : (s.gclListStart n []).img = s.img := by
    unfold State.gclListStart
    split <;> simp [State.setOper, img_putFlag]
  have hstart (s : State) : (s.gclStart n []).img = s.img := by
    unfold State.gclStart
    dsimp only
    split
    · rfl
    · split
      · simp [hrefuse]
      · split <;> simp [hlist, hschedule]
  have hstop (s : State) : (s.gclStop n).img = s.img := by simp [State.gclStop]
  have hchange (s : State) : (s.gclChange n).img = s.img := by simp [State.gclChange, hrefuse, hschedule]
  simp [State.gclCfgWrite, hstart, hstop, hchange]

/-! The table access engines and the classifier's commits (R196 to R212). -/

theorem img_taeWrite (k : Nat) (r : Reg) (i : Nat) (w : Word) (session : Option Nat) : (s.taeWrite k r i w session).img = s.img := by
  simp [State.taeWrite, State.taeGo]

@[simp] theorem img_clsCommit : s.clsCommit.img = s.img := by simp [State.clsCommit, State.commitDone]

/-! Every register. -/

theorem img_writeLow (r : Reg) (i : Nat) (w : Word) (locked : Bool) : (s.writeLow r i w locked).img = s.img := by
  unfold State.writeLow
  split <;> simp [State.when, State.pairWrite, State.incrHi, State.timeSet, State.timeAdj, State.clkcmp, img_stepTime]

theorem img_writeMid (r : Reg) (i : Nat) (w : Word) (locked : Bool) : (s.writeMid r i w locked).img = s.img := by
  unfold State.writeMid
  split <;> simp [State.when, State.logCtrlWrite, State.logUnfreeze, State.logRdWrite, State.logAccWrite, State.macEee, State.ageWrite,
    State.limitWrite, State.ocuCtrl, State.ocuWatch, State.maxClear, State.poolWrite, State.engWrite, State.avsCfgWrite,
    State.avsThrWrite, State.plcaWrite, img_putFlag, img_writeLow]

theorem img_writeHigh (r : Reg) (i : Nat) (w : Word) (locked : Bool) : (s.writeHigh r i w locked).img = s.img := by
  unfold State.writeHigh
  split <;> simp [State.when, State.belSwi, State.clsAbort, State.ringWrite, State.paceWrite, State.alphaWrite, State.fltStatusWrite,
    State.firedClear, State.irqClear, State.nmtClear, State.firstClear, State.injDataWrite, img_putFlag, img_writeMid]

/-- A register write leaves the image in service. -/
theorem img_regWrite (r : Reg) (i : Nat) (w : Word) (locked : Bool) : (s.regWrite r i w locked).img = s.img := by
  have heffect : (s.writeEffect r i w locked).img = s.img := by
    unfold State.writeEffect
    split
    · exact img_taeWrite s _ r i w none
    · exact img_writeHigh s r i w locked
  simp [State.regWrite, heffect]

end Sys2Proof.Machine
end

section
/-! The structure image path: its states, its issuer and its switch (R85, R87 to R90). -/
namespace Sys2Proof.Machine

variable {s : State}

/-! Fields of the path under its operations. -/

theorem stiState_stiEnter (s : State) {st : Nat} (h : st < 8) : (s.stiEnter st).stiState = st :=
  (get_put_same s .STI_STATUS_STATE (by decide) 0 st).trans (Nat.mod_eq_of_lt h)

theorem get_stiEnter (s : State) (st : Nat) {f : Fld} (h : f.reg ≠ .STI_STATUS ∨ f.hi < 29 ∧ f.lo ≤ f.hi) :
    (s.stiEnter st).get f = s.get f :=
  get_put_other s _ f 0 0 st (h.imp (fun hr hc => hr hc.1) fun hb => ⟨.inl hb.1, hb.2⟩)

theorem flag_stiDone (s : State) : s.stiDone.flag .STI_STATUS_DONE = true := by
  unfold State.stiDone
  split
  · assumption
  · rw [State.flag, get_pulse]
    exact flag_put_one s .STI_STATUS_DONE (by decide) 0

theorem get_stiDone (s : State) {f : Fld} (h : 0 < f.lo ∧ f.lo ≤ f.hi) : s.stiDone.get f = s.get f := by
  unfold State.stiDone
  split
  · rfl
  · rw [get_pulse]
    exact get_put_other s _ f 0 0 1 (.inr ⟨.inr h.1, h.2⟩)

theorem sti_stiDone (s : State) : s.stiDone.sti = s.sti := by
  unfold State.stiDone
  split
  · rfl
  · show ((s.put .STI_STATUS_DONE 0 1).pulse 1443).besideBel.sti = s.sti
    rw [besideBel_pulse]; rfl

theorem stiState_stiDone (s : State) : s.stiDone.stiState = s.stiState := get_stiDone s (by decide)

theorem stiState_stiDiscard (s : State) : s.stiDiscard.stiState = stiIdle := stiState_stiEnter s (by decide)

theorem get_stiDiscard (s : State) {f : Fld} (h : f.reg ≠ .STI_STATUS ∨ f.hi < 29 ∧ f.lo ≤ f.hi) : s.stiDiscard.get f = s.get f :=
  get_stiEnter s stiIdle h

theorem img_stiDiscard (s : State) : s.stiDiscard.img = s.img := rfl

/-! The issuer and the states of a command (R87, R88). -/

/-- The register slave port may write the path. -/
def State.stiMine (s : State) : Prop := s.stiState = stiIdle ∨ s.sti.owner = none

theorem stiOther_none : s.stiOther none = true ↔ ¬s.stiMine := by
  simp [State.stiOther, State.stiMine]

theorem stiAct_acts (h : s.stiMine) {l : List Nat} (hl : s.stiState ∈ l) (f : State → State) : s.stiAct none l f = f s := by
  have hother : s.stiOther none = false := Bool.eq_false_iff.2 fun ho => stiOther_none.1 ho h
  simp [State.stiAct, hother, hl]

theorem stiAct_seqErr {l : List Nat} (h : ¬s.stiMine ∨ s.stiState ∉ l) (f : State → State) :
    s.stiAct none l f = s.put .STI_STATUS_SEQ_ERR 0 1 := by
  refine if_pos ?_
  rcases h with h | h
  · simp [stiOther_none.2 h]
  · simp [h]

theorem exec_stiLoadStart (hs : s.soft = true) (h : s.up 19 = true) : exec .stiLoadStart s = s.become (s.stiStart none) :=
  runSoft_up _ hs h

theorem exec_stiLoadData (hs : s.soft = true) (h : s.up 19 = true) (w : Word) : exec (.stiLoadData w) s = s.become (s.stiWord none w) :=
  runSoft_up _ hs h

theorem exec_stiValidate (hs : s.soft = true) (h : s.up 19 = true) : exec .stiValidate s = s.become (s.stiCheck none) :=
  runSoft_up _ hs h

theorem exec_stiCommit (hs : s.soft = true) (h : s.up 19 = true) : exec .stiCommit s = s.become (s.stiGo none) :=
  runSoft_up _ hs h

theorem exec_stiAbort (hs : s.soft = true) (h : s.up 19 = true) : exec .stiAbort s = s.become (s.stiStop none) :=
  runSoft_up _ hs h

theorem exec_stiValidationEnd (h : s.up 19 = true) (e : Ecc) : exec (.stiValidationEnd e) s = s.become (s.stiResult e) := run_up _ h

theorem exec_stiCommitSwitch (h : s.up 19 = true) : exec .stiCommitSwitch s = s.become s.stiSwitch := run_up _ h

theorem exec_stiCommitEcc (h : s.up 19 = true) : exec .stiCommitEcc s = s.become s.stiEcc := run_up _ h

/-! Loading (R87). -/

/-- The path that LOAD_START opens. -/
theorem stiStart_opens (h : s.stiMine) (hst : s.stiState = stiIdle ∨ s.stiState = stiLoading ∨ s.stiState = stiValid) :
    (s.stiStart none).stiState = stiLoading ∧ (s.stiStart none).get .STI_LOAD_COUNT_COUNT = 0 ∧ (s.stiStart none).sti = {} ∧
    (s.stiStart none).flag .STI_STATUS_OVERRUN = false ∧ (s.stiStart none).get .STI_STATUS_VAL_ERR = 0 ∧
    (s.stiStart none).flag .STI_STATUS_OWNER = false := by
  rw [State.stiStart, stiAct_acts h (by simpa using hst)]
  refine ⟨?_, ?_, rfl, ?_, ?_, ?_⟩ <;>
    simp +decide [State.flag, State.stiState, State.putFlag, get_put_other, get_put_same, b2n]
  exact stiState_stiEnter s (by decide)

/-- An image word is taken up to 524,288 bytes. -/
theorem stiWord_loading (h : s.stiMine) (hst : s.stiState = stiLoading) (w : Word) : s.stiWord none w =
    (if 4 * s.sti.words.length < 524288
    then { s.put .STI_LOAD_COUNT_COUNT 0 (4 * s.sti.words.length + 4) with sti := { s.sti with words := s.sti.words ++ [w] } }
    else s.put .STI_STATUS_OVERRUN 0 1) := stiAct_acts h (by simp [hst]) _

/-! Validation (R85, R403). -/

/-- The state in which validation has begun: the key of the image's slot is kept (R403). -/
theorem stiCheck_begins (h : s.stiMine) (hst : s.stiState = stiLoading) :
    (s.stiCheck none).stiState = stiValidating ∧ (s.stiCheck none).sti.words = s.sti.words ∧
    (s.stiCheck none).sti.key = (let k := wbits (nth s.sti.words 1 0) 26 24
      if (s.get .SES_KEY_STATUS_WRITTEN).testBit k = true then some (s.key k) else none) := by
  rw [State.stiCheck, stiAct_acts h (by simp [hst])]
  exact ⟨stiState_stiEnter s (by decide), rfl, rfl⟩

/-- The state in which a failing check leaves the path. -/
def State.stiFailed (s : State) (code off : Nat) : State :=
  (((s.put .STI_STATUS_VAL_ERR 0 code).put .STI_ERR_OFFSET_OFFSET 0 off).stiDiscard).stiDone

theorem stiFailed_shows (s : State) (code off : Nat) : (s.stiFailed code off).flag .STI_STATUS_DONE = true ∧
    (s.stiFailed code off).img = s.img ∧ (s.stiFailed code off).stiState = stiIdle ∧ (s.stiFailed code off).sti = {} ∧
    (s.stiFailed code off).get .STI_STATUS_VAL_ERR = code % 2 ^ 8 := by
  refine ⟨flag_stiDone _, img_stiDone _, (stiState_stiDone _).trans (stiState_stiDiscard _), sti_stiDone _, ?_⟩
  rw [State.stiFailed, get_stiDone _ (by decide), get_stiDiscard _ (by decide), get_put_reg _ (by decide)]
  exact get_put_same s .STI_STATUS_VAL_ERR (by decide) 0 code

theorem stiResult_passes (hst : s.stiState = stiValidating) {e : Ecc} (he : e ≠ .uncorr) (h : s.imageFail = none) :
    s.stiResult e = (s.stiEnter stiValid).stiDone := by
  simp only [State.stiResult, hst, he, h, ne_eq, not_true, if_false]

theorem stiResult_fails (hst : s.stiState = stiValidating) {e : Ecc} (he : e ≠ .uncorr) {code off : Nat}
    (h : s.imageFail = some (code, off)) : s.stiResult e = s.stiFailed code off := by
  simp only [State.stiResult, hst, he, h, ne_eq, not_true, if_false, State.stiFailed]

/-- An uncorrectable error's code stands before that of another check (log 44). -/
theorem stiResult_uncorr (hst : s.stiState = stiValidating) :
    s.stiResult .uncorr = (s.used.memFault 0xB (s.free % 2 ^ 17)).stiFailed 0x14 (s.free % 2 ^ 17 * 4) := by
  simp only [State.stiResult, hst, ne_eq, not_true, if_false, if_true, State.stiFailed]

/-! The commit (R89). -/

theorem liveFail_lt (s : State) (new : Image) : s.liveFail new < 2 ^ 4 := by
  unfold State.liveFail
  dsimp only
  split
  · decide
  · split
    · decide
    · split <;> decide

/-- The code of the live-commit checks, 0 for none: a first commit makes none (R89). -/
def State.commitCode (s : State) : Nat := if s.committed = true then s.liveFail (decodeImage s.sti.words) else 0

theorem commitCode_lt (s : State) : s.commitCode < 2 ^ 4 := by
  unfold State.commitCode
  split
  · exact liveFail_lt s _
  · decide

theorem stiGo_valid (h : s.stiMine) (hst : s.stiState = stiValid) : s.stiGo none = (if s.commitCode = 0
    then (s.put .STI_STATUS_COMMIT_ERR 0 s.commitCode).stiEnter stiCommitting
    else (s.put .STI_STATUS_COMMIT_ERR 0 s.commitCode).stiDone) := stiAct_acts h (by simp [hst]) _

theorem get_commitErr (s : State) {v : Nat} (h : v < 2 ^ 4) : (s.put .STI_STATUS_COMMIT_ERR 0 v).get .STI_STATUS_COMMIT_ERR = v :=
  (get_put_same s .STI_STATUS_COMMIT_ERR (by decide) 0 v).trans (Nat.mod_eq_of_lt h)

theorem stiGo_shows (h : s.stiMine) (hst : s.stiState = stiValid) : (s.stiGo none).get .STI_STATUS_COMMIT_ERR = s.commitCode ∧
    (s.stiGo none).stiState = (if s.commitCode = 0 then stiCommitting else stiValid) ∧
    (s.commitCode ≠ 0 → (s.stiGo none).flag .STI_STATUS_DONE = true) := by
  have hcode := get_commitErr s (commitCode_lt s)
  rw [stiGo_valid h hst]
  split
  · exact ⟨(get_stiEnter _ _ (by decide)).trans hcode, stiState_stiEnter _ (by decide), fun hc => absurd ‹_› hc⟩
  · refine ⟨(get_stiDone _ (by decide)).trans hcode, (stiState_stiDone _).trans ?_, fun _ => flag_stiDone _⟩
    exact (get_put_other s _ _ 0 0 _ (.inr (by decide))).trans hst

theorem stiEcc_committing (h : s.stiState = stiCommitting) :
    s.stiEcc = (((s.put .STI_STATUS_COMMIT_ERR 0 4).stiDiscard).stiDone.memFault 0xB s.free).used := if_pos h

theorem stiEcc_shows (h : s.stiState = stiCommitting) : s.stiEcc.stiState = stiIdle ∧ s.stiEcc.get .STI_STATUS_COMMIT_ERR = 4 ∧
    s.stiEcc.img = s.img ∧ s.stiEcc.flag .STI_STATUS_DONE = true := by
  rw [stiEcc_committing h]
  generalize hv : (s.put .STI_STATUS_COMMIT_ERR 0 4).stiDiscard = v
  refine ⟨?_, ?_, ?_, flag_stiDone v⟩
  · refine (stiState_stiDone v).trans ?_
    rw [← hv, stiState_stiDiscard]
  · refine (get_stiDone v (by decide)).trans ?_
    rw [← hv, get_stiDiscard _ (by decide), get_commitErr s (by decide)]
  · refine (img_stiDone v).trans ?_
    rw [← hv, img_stiDiscard, put_img]

/-! The abort (R87). -/

theorem stiStop_discards (h : s.stiMine) (hst : s.stiState = stiLoading ∨ s.stiState = stiValidating ∨ s.stiState = stiValid) :
    s.stiStop none = s.stiDiscard := by
  rw [State.stiStop, stiAct_acts h (by rcases hst with hst | hst | hst <;> simp [hst])]
  refine if_neg ?_
  rcases hst with hst | hst | hst <;> rw [hst] <;> decide

theorem stiStop_committing (h : s.stiMine) (hst : s.stiState = stiCommitting) : s.stiStop none = s := by
  rw [State.stiStop, stiAct_acts h (by simp [hst])]
  exact if_pos hst

/-! The switch (R90). -/

theorem img_writeSeverities (s : State) : s.writeSeverities.img = s.img := by
  unfold State.writeSeverities
  exact img_each s (fun s i => by rw [put_img, put_img]) _

theorem img_writePresets (s : State) (first : Bool) : (s.writePresets first).img = s.img := by
  refine img_each s (fun s x => ?_) _
  split
  · exact img_regWrite s _ _ _ false
  · rfl

theorem sameStructure_showStructure (s : State) : SameStructure s s.showStructure := by
  simp +decide [State.showStructure]

theorem sameStructure_sweeperStart (s : State) (first : Bool) : SameStructure s (s.when first State.sweeperStart) := by
  cases first <;> exact ⟨rfl, rfl⟩

/-- What follows the new image's entry into service leaves it there. -/
theorem sameStructure_followSwitch (s : State) (first : Bool) (ports slots : List Nat) :
    SameStructure s ((((s.showStructure.when first State.sweeperStart).each ports State.relink).each slots State.extEval).each
      ((List.range 16).map (1024 + ·)) State.lpiLeave) :=
  (sameStructure_showStructure s).trans ((sameStructure_sweeperStart _ first).trans
    ((sameStructure_each _ sameStructure_relink ports).trans ((sameStructure_each _ sameStructure_extEval slots).trans
      (sameStructure_each _ sameStructure_lpiLeave _))))

/-- What stands at the end of the switch cycle, before the path returns to IDLE: the new image in service, committed. -/
theorem stiSwitch_committing (h : s.stiState = stiCommitting) : ∃ t : State, t.img = decodeImage s.sti.words ∧ t.committed = true ∧
    s.stiSwitch = (t.stiDiscard.stiDone).when (!s.committed) State.presentAll := by
  unfold State.stiSwitch
  rw [if_neg (not_not_intro h)]
  dsimp only
  generalize hpresets : State.writePresets _ (!s.committed) = v
  have hnew : v.img = decodeImage s.sti.words := by rw [← hpresets, img_writePresets, img_writeSeverities]
  have hsame := sameStructure_followSwitch (v.put .STI_STATUS_COMMITTED 0 1) (!s.committed) (lanesChanged s.img (decodeImage s.sti.words))
    (slotsChanged s.img (decodeImage s.sti.words))
  refine ⟨_, hsame.1.trans hnew, ?_, rfl⟩
  rw [State.committed, State.flag, get_of_sameStructure hsame rfl]
  exact flag_put_one v .STI_STATUS_COMMITTED (by decide) 0

theorem stiSwitch_shows (h : s.stiState = stiCommitting) : s.stiSwitch.stiState = stiIdle ∧ s.stiSwitch.img = decodeImage s.sti.words ∧
    s.stiSwitch.committed = true ∧ s.stiSwitch.sti = {} ∧ s.stiSwitch.flag .STI_STATUS_DONE = true := by
  obtain ⟨t, himg, hcommitted, ht⟩ := stiSwitch_committing h
  have hpresent {β : Type} (g : State → β) (hv : ∀ s l, g { s with vec := l } = g s) : g s.stiSwitch = g t.stiDiscard.stiDone := by
    rw [ht, State.when]
    split
    · exact presentAll_keeps g hv _
    · rfl
  refine ⟨?_, ?_, ?_, ?_, ?_⟩
  · rw [hpresent State.stiState fun _ _ => rfl, stiState_stiDone, stiState_stiDiscard]
  · rw [hpresent State.img fun _ _ => rfl, img_stiDone, img_stiDiscard, himg]
  · rw [hpresent State.committed fun _ _ => rfl, ← hcommitted]
    exact congrArg (· != 0) ((get_stiDone _ (by decide)).trans (get_stiDiscard t (by decide)))
  · exact (hpresent State.sti fun _ _ => rfl).trans (sti_stiDone _)
  · exact (hpresent (fun s => s.flag .STI_STATUS_DONE) fun _ _ => rfl).trans (flag_stiDone _)

/-- A command that the path does not take sets SEQ_ERR and nothing else (R87). -/
theorem become_seqErr {l : List Nat} (h : ¬s.stiMine ∨ s.stiState ∉ l) (f : State → State) :
    s.become (s.stiAct none l f) = .next (s.put .STI_STATUS_SEQ_ERR 0 1) := by
  rw [stiAct_seqErr h]; rfl

/-- Settles O60: each command by its state and its issuer, the switch by what the cycle leaves in service. -/
theorem structureImagePathFollowsItsStates : Obligations.StructureImagePathFollowsItsStates := by
  intro w e s hup
  refine ⟨fun hs => ⟨fun hmine hst => ?_, fun h => ?_, fun hmine hst => ?_, fun h => ⟨?_, ?_⟩, fun hmine hst => ?_, fun h => ?_,
      fun hmine hst => ?_, fun hmine hst => ?_, fun hmine hst => ?_⟩,
    fun hst => ?_, fun hst he => ?_, fun hst => ?_, fun hst => ⟨?_, ?_⟩, fun hst => ?_, fun hst => ?_⟩
  · exact ⟨_, exec_stiLoadStart hs hup, stiStart_opens hmine hst⟩
  · rw [exec_stiLoadStart hs hup]
    exact become_seqErr (h.imp_right (by rintro (hst | hst) <;> rw [hst] <;> decide)) _
  · rw [exec_stiLoadData hs hup, stiWord_loading hmine hst]
    split <;> rfl
  · rw [exec_stiLoadData hs hup]
    exact become_seqErr (h.imp_right fun hst => by simpa using hst) _
  · rw [exec_stiValidate hs hup]
    exact become_seqErr (h.imp_right fun hst => by simpa using hst) _
  · exact ⟨_, exec_stiValidate hs hup, stiCheck_begins hmine hst⟩
  · rw [exec_stiCommit hs hup]
    exact become_seqErr (h.imp_right fun hst => by simpa using hst) _
  · exact ⟨_, exec_stiCommit hs hup, stiGo_shows hmine hst⟩
  · rw [exec_stiAbort hs hup, stiStop_discards hmine hst]
    exact ⟨_, rfl, stiState_stiDiscard s, rfl, rfl⟩
  · rw [exec_stiAbort hs hup, stiStop_committing hmine hst]; rfl
  · rw [exec_stiValidationEnd hup]
    exact congrArg s.become (if_pos hst)
  · refine ⟨_, exec_stiValidationEnd hup e, ?_⟩
    cases hf : s.imageFail with
    | none =>
      rw [stiResult_passes hst he hf]
      exact ⟨flag_stiDone _, img_stiDone _, (stiState_stiDone _).trans (stiState_stiEnter s (by decide)), sti_stiDone _, nofun⟩
    | some x =>
      rw [stiResult_fails hst he hf]
      obtain ⟨hdone, himg, hstate, hsti, herr⟩ := stiFailed_shows s x.1 x.2
      exact ⟨hdone, himg, hstate, hsti, fun v o hx => by cases hx; exact herr⟩
  · refine ⟨_, exec_stiValidationEnd hup .uncorr, ?_⟩
    rw [stiResult_uncorr hst]
    exact stiFailed_shows _ 0x14 _
  · rw [exec_stiCommitSwitch hup]
    exact congrArg s.become (if_pos hst)
  · rw [exec_stiCommitEcc hup]
    exact congrArg s.become (if_neg hst)
  · exact ⟨_, exec_stiCommitSwitch hup, stiSwitch_shows hst⟩
  · exact ⟨_, exec_stiCommitEcc hup, stiEcc_shows hst⟩

end Sys2Proof.Machine
end

section
/-! A trunk's enable, its link, its loopback and its FEC counters (R94, R107 to R111). -/
namespace Sys2Proof.Machine

variable {s : State} {t p : Nat}

/-! Ports that are trunks, and conditional changes. -/

theorem isTrunk_trunk (t : Nat) : isTrunk (1024 + t) = true := decide_eq_true (Nat.le_add_right 1024 t)

theorem isTrunk_field (h : p < 1024) : isTrunk p = false := decide_eq_false (Nat.not_le.2 h)

theorem not_isTrunk_iff (p : Nat) : (!isTrunk p) = true ↔ p < 1024 := by simp [isTrunk]

theorem outside_ite (s t u : State) (c : Prop) [Decidable c] :
    s.outside (if c then t else u) = if c then s.outside t else s.outside u := apply_ite s.outside c t u

/-! The transmit enable of a trunk (R109, R111). -/

theorem txenEdge_trunk (s u : State) (t : Nat) : s.txenEdge u (1024 + t) =
    if s.txen (1024 + t) = u.txen (1024 + t) then u else u.emit (.txen (1024 + t) (u.txen (1024 + t))) := by
  by_cases h : s.txen (1024 + t) = u.txen (1024 + t) <;> simp [State.txenEdge, isTrunk_trunk, h]

theorem txen_iff (u : State) (m : Nat) :
    u.txen m = true ↔ (u.enabled m = true ∨ (u.txOf m).isSome = true) ∧ u.get .MAC_CFG_LOOP m ≠ 1 := by
  simp [State.txen]

/-! EN of a trunk (R94, R109). -/

theorem trunkEn_rises (s : State) (m : Nat) :
    s.trunkEn m true = if s.flag .MAC_CFG_EN m then s else s.txenEdge (s.trunkOn m) m := by
  cases h : s.flag .MAC_CFG_EN m <;> simp [State.trunkEn, h]

theorem trunkEn_falls (s : State) (m : Nat) :
    s.trunkEn m false = if s.flag .MAC_CFG_EN m then s.txenEdge (s.trunkOff m) m else s := by
  cases h : s.flag .MAC_CFG_EN m <;> simp [State.trunkEn, h]

theorem exec_trunkEnable (ht : t < 16) (hs : s.soft = true) (hup : s.up 1 = true) :
    exec (.trunkEnable t) s = s.become (s.trunkEn (1024 + t) true) := runSoftOn_up _ ht hs hup

theorem exec_trunkDisable (ht : t < 16) (hs : s.soft = true) (hup : s.up 1 = true) :
    exec (.trunkDisable t) s = s.become (s.trunkEn (1024 + t) false) := runSoftOn_up _ ht hs hup

/-! LINK of a trunk (R108, R110). -/

theorem exec_trunkLinkChange (ht : t < 16) (hup : s.up 1 = true) (up : Bool) :
    exec (.trunkLinkChange t up) s = s.become (s.trunkLink (1024 + t) up) := runOn_up _ ht hup

theorem trunkLink_rises (s : State) (m : Nat) :
    s.trunkLink m true = if s.enabled m then (s.setLink m true).extTrunk m else s := by
  cases h : s.enabled m <;> simp [State.trunkLink, h]

theorem trunkLink_falls (s : State) (m : Nat) :
    s.trunkLink m false = ((s.setLink m false).extTrunk m).put .MAC_STATUS_RX_LPI m 0 := rfl

theorem setLink_trunk (s : State) (t : Nat) (up : Bool) :
    let x := (s.putFlag .MAC_STATUS_LINK (1024 + t) up).pulse (1024 + t)
    s.setLink (1024 + t) up = if s.link (1024 + t) = up then s else if up then x else x.downDrop (1024 + t) := by
  simp only [State.setLink, isTrunk_trunk, Bool.true_or, if_true]

/-! LOOP (R111). -/

theorem exec_loopbackChange (hp : p < 1040) (hs : s.soft = true) (hup : s.up (macBlock p) = true) (v : Nat) :
    exec (.loopbackChange p v) s = s.become (s.loopWrite p (v % 4)) := runSoftOn_up _ hp hs hup

theorem loopWrite_discarded {v : Nat} (hv : v = 2) (hp : p < 1024) : s.loopWrite p v = s :=
  if_pos ⟨hv, (not_isTrunk_iff p).2 hp⟩

/-- A value that LOOP takes: a loopback that begins or ends cuts what is in reception or on its way back. -/
theorem loopWrite_taken {v : Nat} (h : ¬(v = 2 ∧ p < 1024)) :
    let new := s.put .MAC_CFG_LOOP p v
    let cut := (s.txenEdge new p).cutMedium p
    s.loopWrite p v = if s.get .MAC_CFG_LOOP p % 3 = v % 3 then new
      else (cut.setMac p { cut.macOf p with back := [] }).lpiLeave p :=
  if_neg fun hc => h ⟨hc.1, (not_isTrunk_iff p).1 hc.2⟩

theorem cutMedium_idle {u : State} (h : u.rxOf p = none) : u.cutMedium p = u := by simp only [State.cutMedium, h]

theorem cutMedium_receiving {u : State} {r : Rx} (h : u.rxOf p = some r) :
    u.cutMedium p = u.setRx p (some { r with symbol := true }) := by simp only [State.cutMedium, h]

/-! RS-FEC (R106, R107). -/

theorem exec_fecCodeword (ht : t < 16) (hup : s.up 1 = true) (ok : Bool) :
    exec (.fecCodeword t ok) s = s.become (s.fecCodeword (1024 + t) ok) := runOn_up _ ht hup

theorem fecCodeword_uncounted {m : Nat} (h : s.rateCode m ≠ 4 ∨ s.enabled m = false) (ok : Bool) : s.fecCodeword m ok = s :=
  if_pos (h.imp_right fun he => by rw [he]; rfl)

theorem fecCodeword_counted {m : Nat} (hrate : s.rateCode m = 4) (hen : s.enabled m = true) (ok : Bool) :
    s.fecCodeword m ok = if ok then s.inc .MAC_FEC_CORR_COUNT m else (s.inc .MAC_FEC_UNCORR_COUNT m).cutMedium m :=
  if_neg (by simp [hrate, hen])

/-- Settles O14, by the write of EN, the level of the PCS, the value of LOOP and the codeword. -/
theorem trunkLinkFollowsEnableAndPcs : Obligations.TrunkLinkFollowsEnableAndPcs := by
  refine ⟨fun t s ht hup hs => ⟨?_, ?_, fun u => ⟨txenEdge_trunk s u t, txen_iff u _⟩⟩,
    fun t s ht hup => ⟨?_, ?_, setLink_trunk s t⟩,
    fun p v t ok s hp ht => ⟨fun hup hs => ⟨fun hv hfield => ?_, fun hv hsame => ?_, fun hv hmoves => ?_⟩,
      fun hup => ⟨fun hoff => ?_, fun hrate hen => ⟨?_, ?_⟩⟩, fun u => ⟨cutMedium_idle, fun r => cutMedium_receiving⟩⟩⟩
  · rw [exec_trunkEnable ht hs hup, trunkEn_rises, State.become, outside_ite]; rfl
  · rw [exec_trunkDisable ht hs hup, trunkEn_falls, become_ite]; rfl
  · rw [exec_trunkLinkChange ht hup, trunkLink_rises, become_ite]
  · rw [exec_trunkLinkChange ht hup, trunkLink_falls]; rfl
  · rw [exec_loopbackChange hp hs hup, loopWrite_discarded hv hfield]; rfl
  · rw [exec_loopbackChange hp hs hup, loopWrite_taken hv, if_pos hsame]; rfl
  · rw [exec_loopbackChange hp hs hup, loopWrite_taken hv, if_neg hmoves]; rfl
  · rw [exec_fecCodeword ht hup, fecCodeword_uncounted hoff]; rfl
  · rw [exec_fecCodeword ht hup, fecCodeword_counted hrate hen]; rfl
  · rw [exec_fecCodeword ht hup, fecCodeword_counted hrate hen]; rfl

end Sys2Proof.Machine
end

section
/-! Held MAC control frames, forced and automatic, and the ends of pauses (R114 to R120). -/
namespace Sys2Proof.Machine

variable {s : State} {p t : Nat}

/-! The frame that a write of MAC_FC_FORCE asks for (R120). -/

/-- The state that has taken QUANTA and CLASS_VEC of a write of MAC_FC_FORCE. -/
def State.fcTaken (s : State) (p : Nat) (w : Word) : State :=
  (s.put .MAC_FC_FORCE_CLASS_VEC p (wbits w 23 16)).put .MAC_FC_FORCE_QUANTA p (wbits w 15 0)

theorem quanta_fcTaken (s : State) (p : Nat) (w : Word) : (s.fcTaken p w).get .MAC_FC_FORCE_QUANTA p = wbits w 15 0 :=
  (get_put_same _ _ (by decide) _ _).trans (Nat.mod_eq_of_lt (wbits_lt w 15 0))

theorem classVec_fcTaken (s : State) (p : Nat) (w : Word) : (s.fcTaken p w).get .MAC_FC_FORCE_CLASS_VEC p = wbits w 23 16 := by
  rw [State.fcTaken, get_put_other _ _ _ _ _ _ (.inr (by decide)), get_put_same _ _ (by decide)]
  exact Nat.mod_eq_of_lt (wbits_lt w 23 16)

theorem fcMode_fcTaken (s : State) (p : Nat) (w : Word) : (s.fcTaken p w).get .MAC_CFG_FC_MODE p = s.get .MAC_CFG_FC_MODE p := by
  have hreg (f : Fld) (hf : f.reg = .MAC_FC_FORCE) : ¬(Fld.MAC_CFG_FC_MODE.reg = f.reg ∧ p = p) := fun h => by
    rw [hf] at h; exact nomatch h.1
  rw [State.fcTaken, get_put_other _ _ _ _ _ _ (.inl (hreg _ rfl)), get_put_other _ _ _ _ _ _ (.inl (hreg _ rfl))]

theorem forced_fcTaken (s : State) (p : Nat) (w : Word) : (s.fcTaken p w).forced p =
    if p < 1024 ∨ s.get .MAC_CFG_FC_MODE p < 2 then ⟨false, 0, [wbits w 15 0]⟩
    else ⟨true, wbits w 23 16, (List.range 8).map fun k => if (wbits w 23 16).testBit k then wbits w 15 0 else 0⟩ := by
  simp only [State.forced, quanta_fcTaken, classVec_fcTaken, fcMode_fcTaken, not_isTrunk_iff]

/-- GO holds the frame in place of one that is held, and it goes out where the port can send (R120). -/
theorem fcForce_eq (s : State) (p : Nat) (w : Word) : s.fcForce p w = if wbit w 31 = true ∧ s.halfDuplex p = false
    then ((s.fcTaken p w).setMac p { (s.fcTaken p w).macOf p with forcedHeld := some ((s.fcTaken p w).forced p) }).ctrlTx p
    else s.fcTaken p w := by
  by_cases hgo : wbit w 31 = true ∧ s.halfDuplex p = false
  · rw [if_pos hgo]; exact if_neg (by simp [hgo])
  · rw [if_neg hgo]; exact if_pos (by simpa [imp_iff_not_or] using hgo)

theorem exec_fcForce (hp : p < 1040) (hs : s.soft = true) (hup : s.up (macBlock p) = true) (w : Word) :
    exec (.fcForce p w) s = s.become (s.fcForce p w) := runSoftOn_up _ hp hs hup

/-! A held frame is sent (R117, R120, R122, R146). -/

/-- The port may send a MAC control frame: it and the MAC that carries it are enabled and have LINK, and it neither shares a
half-duplex segment nor returns from service mode. -/
def State.ctrlMay (s : State) (p : Nat) : Prop :=
  s.enabled p = true ∧ s.link p = true ∧ s.enabled (s.macPort p) = true ∧ s.link (s.macPort p) = true ∧ s.halfDuplex p = false ∧
    s.draining p = false

/-- The frame that a port sends next of those it holds: the automatic one first. -/
def State.ctrlHeld (s : State) (p : Nat) : Option Ctrl := (s.macOf p).autoHeld.or (s.macOf p).forcedHeld

/-- The MAC of a port whose next held frame has left. -/
def Mac.ctrlGone (x : Mac) : Mac := if x.autoHeld.isSome then { x with autoHeld := none } else { x with forcedHeld := none }

/-- The transmission of a generated frame. -/
def State.ctrlTransmission (s : State) (p : Nat) (c : Ctrl) : Tx :=
  { copy := none, bytes := s.ctrlWire p c ++ fcsBytes (s.ctrlWire p c), good := true, cls := 0, octets := 64
    ctrl := if s.extended p then 0 else if c.pfc then 2 else 1, owner := p }

theorem ctrlTx_barred (h : ¬s.ctrlMay p) : s.ctrlTx p = s := by
  refine if_pos ?_
  by_contra hc
  exact h (by simpa [State.ctrlMay, and_assoc] using hc)

theorem ctrlTx_may (h : s.ctrlMay p) : s.ctrlTx p = (s.ctrlHeld p).elim s fun c =>
    if s.flag .MAC_STATUS_TX_LPI (s.macPort p) then s.lpiWake (s.macPort p)
    else if (s.macOf (s.macPort p)).waking || (s.txOf (s.macPort p)).isSome then s
    else (s.setMac p (s.macOf p).ctrlGone).begin (s.macPort p) (s.ctrlTransmission p c) := by
  obtain ⟨hen, hlink, hmen, hmlink, hhalf, hdrain⟩ := h
  refine (if_neg (by simp [hen, hlink, hmen, hmlink, hhalf, hdrain])).trans ?_
  show _ = ((s.macOf p).autoHeld.or (s.macOf p).forcedHeld).elim s _
  cases (s.macOf p).autoHeld.or (s.macOf p).forcedHeld <;> rfl

theorem ctrlTx_none (h : s.ctrlHeld p = none) : s.ctrlTx p = s := by
  by_cases hmay : s.ctrlMay p
  · rw [ctrlTx_may hmay, h]; rfl
  · exact ctrlTx_barred hmay

theorem lpiWake_asleep {m : Nat} (h : s.flag .MAC_STATUS_TX_LPI m = true) :
    s.lpiWake m = (s.put .MAC_STATUS_TX_LPI m 0).setMac m { s.macOf m with waking := true } := if_pos h

theorem lpiWake_awake {m : Nat} (h : s.flag .MAC_STATUS_TX_LPI m = false) : s.lpiWake m = s := if_neg (by simp [h])

/-- A MAC in low-power idle wakes first (R122). -/
theorem ctrlTx_asleep (h : s.ctrlMay p) (hheld : (s.ctrlHeld p).isSome = true) (hl : s.flag .MAC_STATUS_TX_LPI (s.macPort p) = true) :
    s.ctrlTx p = s.lpiWake (s.macPort p) := by
  obtain ⟨c, hc⟩ := Option.isSome_iff_exists.1 hheld
  rw [ctrlTx_may h, hc, Option.elim_some, if_pos hl]

theorem ctrlTx_busy (hl : s.flag .MAC_STATUS_TX_LPI (s.macPort p) = false)
    (hbusy : (s.macOf (s.macPort p)).waking = true ∨ (s.txOf (s.macPort p)).isSome = true) : s.ctrlTx p = s := by
  by_cases hmay : s.ctrlMay p
  · rw [ctrlTx_may hmay]
    cases s.ctrlHeld p with
    | none => rfl
    | some c => rw [Option.elim_some, if_neg (by simp [hl]), if_pos (by simpa using hbusy)]
  · exact ctrlTx_barred hmay

theorem ctrlTx_sends {c : Ctrl} (h : s.ctrlMay p) (hc : s.ctrlHeld p = some c) (hl : s.flag .MAC_STATUS_TX_LPI (s.macPort p) = false)
    (hw : (s.macOf (s.macPort p)).waking = false) (htx : s.txOf (s.macPort p) = none) :
    s.ctrlTx p = (s.setMac p (s.macOf p).ctrlGone).begin (s.macPort p) (s.ctrlTransmission p c) := by
  rw [ctrlTx_may h, hc, Option.elim_some, if_neg (by simp [hl]), if_neg (by simp [hw, htx])]

theorem exec_macControlTx (hp : p < 1040) (hup : s.up (macBlock p) = true) : exec (.macControlTx p) s = s.become (s.ctrlTx p) :=
  runOn_up _ hp hup

theorem exec_pauseRefresh (ht : t < 16) (hup : s.up 1 = true) (mask : Nat) :
    exec (.pauseRefresh t mask) s = s.become ((s.pauseRefresh (1024 + t) mask).ctrlTx (1024 + t)) := runOn_up _ ht hup

/-! The ends of pauses (R114, R115). -/

theorem exec_pauseTimerExpire (hp : p < 1040) (hup : s.up (macBlock p) = true) :
    exec (.pauseTimerExpire p) s = s.become (s.pauseLoad p 0) := runOn_up _ hp hup

theorem exec_pfcTimerExpire {c : Nat} (ht : t < 16) (hc : c < 8) (hup : s.up 1 = true) :
    exec (.pfcTimerExpire t c) s = s.become (s.pfcLoad (1024 + t) c 0) := by
  have hunit : (s.onUnit 8 c fun u => u.pfcLoad (1024 + t) c 0) = s.pfcLoad (1024 + t) c 0 := onUnit_in _ hc
  exact (runOn_up _ ht hup).trans (congrArg s.become hunit)

/-- Setting a field once more to what it reads changes nothing. -/
theorem put_get_put (s : State) (f : Fld) (h : f.lo ≤ f.hi ∧ f.hi ≤ 31) (i v : Nat) :
    s.put f i ((s.put f i v).get f i) = s.put f i v := by rw [get_put_same s f h, put_mod]

/-- A class timer that takes a value moves the timer and RX_PFC_PAUSED alone. -/
theorem pfcLoad_reads (s : State) (m c q : Nat) :
    s.pfcLoad m c q = (s.setMac m { s.macOf m with pfc := tput 0 (s.macOf m).pfc c q }).put .MAC_STATUS_RX_PFC_PAUSED m
      ((s.pfcLoad m c q).get .MAC_STATUS_RX_PFC_PAUSED m) :=
  (put_get_put _ .MAC_STATUS_RX_PFC_PAUSED (by decide) _ _).symm

/-- The class's bit of RX_PFC_PAUSED falls, and the other classes' bits stay. -/
theorem pfcPaused_pfcLoad_zero (s : State) (m c k : Nat) : ((s.pfcLoad m c 0).get .MAC_STATUS_RX_PFC_PAUSED m).testBit k =
    ((s.get .MAC_STATUS_RX_PFC_PAUSED m).testBit k && !decide (k = c)) := by
  have hget : (s.pfcLoad m c 0).get .MAC_STATUS_RX_PFC_PAUSED m = clrBit (s.get .MAC_STATUS_RX_PFC_PAUSED m) c % 2 ^ 8 :=
    get_put_same _ _ (by decide) _ _
  rw [hget, Nat.testBit_mod_two_pow, testBit_clrBit]
  by_cases hk : k < 8
  · simp [hk]
  · have hlt : s.get .MAC_STATUS_RX_PFC_PAUSED m < 2 ^ k :=
      Nat.lt_of_lt_of_le (of_lt .MAC_STATUS_RX_PFC_PAUSED _) (Nat.pow_le_pow_right (by decide) (Nat.not_lt.1 hk))
    simp [hk, Nat.testBit_lt_two_pow hlt]

/-- Settles O15: the write by GO, a held frame by what the port and its MAC can do, the refresh and the timers by what they load. -/
theorem heldControlFrameGoesFirst : Obligations.HeldControlFrameGoesFirst := by
  refine ⟨⟨fun p w s hp hup hs => ?_, fun p t mask s hp ht => ⟨fun hup => ?_, fun hup => ?_⟩⟩,
    fun p t c s hp ht hc => ⟨fun hup => ?_, fun hup => ?_⟩⟩
  · rw [exec_fcForce hp hs hup, fcForce_eq, forced_fcTaken, State.become, outside_ite]; rfl
  · rw [exec_macControlTx hp hup]
    refine ⟨fun h => ?_, fun hmay hl hheld => ?_, fun hmay hl hbusy => ?_, fun c hmay hl hw htx hheld => ?_⟩
    · rw [h.elim ctrlTx_barred ctrlTx_none]; rfl
    · rw [ctrlTx_asleep hmay hheld hl, lpiWake_asleep hl]; rfl
    · rw [ctrlTx_busy hl hbusy]; rfl
    · rw [ctrlTx_sends hmay hheld hl hw htx]; rfl
  · exact exec_pauseRefresh ht hup mask
  · exact ⟨_, exec_pauseTimerExpire hp hup, rfl, flag_put_zero _ .MAC_STATUS_RX_PAUSED (by decide) p⟩
  · exact ⟨_, exec_pfcTimerExpire ht hc hup, pfcLoad_reads s (1024 + t) c 0, pfcPaused_pfcLoad_zero s (1024 + t) c⟩

end Sys2Proof.Machine
end

section
/-! Low-power idle (R111, R121 to R124). -/
namespace Sys2Proof.Machine

variable {s : State} {p : Nat}

/-- Low-power idle may begin: EEE is on, the port is awake and sends nothing, and nothing waits or bars it (R122, R123). -/
def State.lpiMay (s : State) (p : Nat) : Prop :=
  s.flag .MAC_EEE_EN p = true ∧ s.enabled p = true ∧ s.link p = true ∧ s.extended p = false ∧ s.flag .MAC_STATUS_TX_LPI p = false ∧
    (s.macOf p).waking = false ∧ s.txOf p = none ∧ s.lpiNeeded p = false ∧ s.lpiBarred p = false

theorem lpiEnter_enters (h : s.lpiMay p) : s.lpiEnter p = (s.put .MAC_STATUS_TX_LPI p 1).inc .MAC_TX_LPI_COUNT p := by
  obtain ⟨heee, hen, hlink, hext, hlpi, hwake, htx, hneed, hbar⟩ := h
  exact if_pos (by simp [heee, hen, hlink, hext, hlpi, hwake, htx, hneed, hbar])

theorem lpiEnter_stays (h : ¬s.lpiMay p) : s.lpiEnter p = s :=
  if_neg fun hc => h (by simpa [State.lpiMay, and_assoc] using hc)

theorem lpiExit_eq (s : State) (p : Nat) : s.lpiExit p =
    if s.lpiNeeded p = true ∨ s.lpiBarred p = true ∨ s.flag .MAC_EEE_EN p = false then s.lpiWake p else s := by
  simp only [State.lpiExit, Bool.or_eq_true, Bool.not_eq_true', or_assoc]

theorem lpiExit_awake (h : s.flag .MAC_STATUS_TX_LPI p = false) : s.lpiExit p = s := by
  rw [lpiExit_eq, lpiWake_awake h, ite_self]

theorem rxLpi_eq (s : State) (p : Nat) : s.rxLpi p = if s.enabled p = true ∧ s.extended p = false ∧ s.get .MAC_CFG_LOOP p ≠ 1
    then (s.put .MAC_STATUS_RX_LPI p 1).inc .MAC_RX_LPI_COUNT p else s := by
  by_cases h : s.enabled p = true ∧ s.extended p = false ∧ s.get .MAC_CFG_LOOP p ≠ 1
  · obtain ⟨hen, hext, hloop⟩ := h
    rw [if_pos ⟨hen, hext, hloop⟩]
    exact if_neg (by simp [hen, hext, hloop])
  · rw [if_neg h]
    refine if_pos ?_
    by_contra hc
    exact h (by simpa [and_assoc, and_comm, and_left_comm] using hc)

theorem exec_lpiEnter (hp : p < 1040) (hup : s.up (macBlock p) = true) : exec (.lpiEnter p) s = s.become (s.lpiEnter p) :=
  runOn_up _ hp hup

theorem exec_lpiExit (hp : p < 1040) (hup : s.up (macBlock p) = true) : exec (.lpiExit p) s = s.become (s.lpiExit p) :=
  runOn_up _ hp hup

theorem exec_lpiWakeEnd (hp : p < 1040) (hup : s.up (macBlock p) = true) :
    exec (.lpiWakeEnd p) s = s.become (s.setMac p { s.macOf p with waking := false }) := runOn_up _ hp hup

theorem exec_rxLpiEnter (hp : p < 1040) (hup : s.up (macBlock p) = true) : exec (.rxLpiEnter p) s = s.become (s.rxLpi p) :=
  runOn_up _ hp hup

/-- Settles O16: idle begins where it may, and ends where TX_LPI is set and there is a cause to leave it. -/
theorem lowPowerIdleIsEnteredAndLeft : Obligations.LowPowerIdleIsEnteredAndLeft := by
  refine fun p s hp hup => ⟨fun h => ?_, fun h => ?_, fun ⟨hlpi, hcause⟩ => ?_, fun h => ?_, exec_lpiWakeEnd hp hup, ?_⟩
  · rw [exec_lpiEnter hp hup, lpiEnter_enters h]; rfl
  · rw [exec_lpiEnter hp hup, lpiEnter_stays h]; rfl
  · rw [exec_lpiExit hp hup, lpiExit_eq, if_pos hcause, lpiWake_asleep hlpi]; rfl
  · rw [exec_lpiExit hp hup]
    cases hlpi : s.flag .MAC_STATUS_TX_LPI p with
    | false => rw [lpiExit_awake hlpi]; rfl
    | true => rw [lpiExit_eq, if_neg fun hcause => h ⟨hlpi, hcause⟩]; rfl
  · rw [exec_rxLpiEnter hp hup, rxLpi_eq, become_ite]

end Sys2Proof.Machine
end

section
/-! The end of a reception from the medium: the discards of R97, and a good MAC control frame (R112 to R115, R126). -/
namespace Sys2Proof.Machine

variable {s : State} {p : Nat} {d : List Byte} {r : Rx} {fcs : Word} {err : Bool}

/-! An end that R97 alone judges. -/

/-- The reception `r` that data `d` end on port `p`: it came from the medium, the Spire has no part in it, and it is neither in
quarantine, nor a collision fragment, nor cut by a block reset, nor in Ocora's own opportunity. -/
structure EndsPlainly (s : State) (p : Nat) (d : List Byte) (r : Rx) : Prop where
  started : ∃ r0, s.rxOf p = some r0 ∧ r0.express = false ∧ r0.back = none
  grown : (s.rxGrow p d).rxOf p = some r
  back : r.back = none
  cut : r.cut = false
  spi : r.spi = none
  quar : r.quar = false
  segment : p < 1024 → (s.rxGrow p d).segState p ≠ segQuarantine
  fragment : (s.rxGrow p d).isFragment p r (((s.rxGrow p d).stored p d).length + 4) false = false
  opportunity : ownOpp r = false

/-- The length that R97 judges: of the frame as it is stored, with its FCS. -/
def State.rxLength (s : State) (p : Nat) (d : List Byte) : Nat := ((s.rxGrow p d).stored p d).length + 4

/-- The discard of R97 that the frame meets, if any. -/
def State.rxVerdict (s : State) (p : Nat) (d : List Byte) (r : Rx) (fcs : Word) (err : Bool) : Option Fld :=
  rxDiscard r (s.rxLength p d) (crc32 d == fcs.toNat) (err || r.symbol)

theorem cutDone_uncut (h : r.spi = none) (u : State) (b : List Byte) (good : Bool) : u.cutDone r b good = u := by
  simp only [State.cutDone, h, Option.filter_none]

/-- Data from the medium have grown the reception, and no decision of the Spire is due. -/
theorem EndsPlainly.arrived (h : EndsPlainly s p d r) (l : List Nat) :
    s.rxWire p d fcs = (d, fcs.toNat) ∧
      (s.rxGrow p d).when (((s.rxOf p).map (·.express)).getD false) (fun u => u.spiDecide p l) = s.rxGrow p d := by
  obtain ⟨r0, hr0, hexpress, hback⟩ := h.started
  refine ⟨rxWire_medium (fun x hx => ?_) d fcs, by rw [hr0, Option.map_some, Option.getD_some, hexpress]; rfl⟩
  rw [hr0] at hx; cases hx; exact hback

theorem EndsPlainly.noQuarantine (h : EndsPlainly s p d r) :
    ¬(r.quar || (!isTrunk p && (s.rxGrow p d).segState p == segQuarantine)) = true := by
  rw [h.quar, Bool.false_or, Bool.and_eq_true, not_isTrunk_iff, beq_iff_eq]
  exact fun ⟨hp, hq⟩ => h.segment hp hq

/-- A frame that R97 discards: its reception ends, and the counter of the verdict is raised. -/
theorem rxEnd_discarded (h : EndsPlainly s p d r) {f : Fld} (hv : s.rxVerdict p d r fcs err = some f)
    (consume : State → Nat → List Byte → State) (bad : List (Nat × Nat)) :
    s.rxEnd consume p d fcs err false bad = (((s.rxGrow p d).setRx p none).inc f (discardPort p r f)).flowControl p := by
  obtain ⟨hwire, hdecide⟩ := h.arrived (fcs := fcs) (badIn 0xC bad)
  simp only [State.rxVerdict, State.rxLength] at hv
  simp only [State.rxEnd, hwire, hdecide, h.grown, if_neg h.noQuarantine, h.fragment, h.cut, h.opportunity, h.back, Option.isNone_none,
    Bool.and_true, hv, cutDone_uncut h.spi, Bool.false_eq_true, if_false]

/-- A MAC control frame that passes R97 is counted, and acts (R112). -/
theorem rxEnd_control (h : EndsPlainly s p d r) (hv : s.rxVerdict p d r fcs err = none) (hctrl : isCtrl d = true)
    (consume : State → Nat → List Byte → State) (bad : List (Nat × Nat)) :
    s.rxEnd consume p d fcs err false bad = (((s.rxGrow p d).setRx p none).countGood p r (s.rxLength p d)).ctrlFrame p d := by
  obtain ⟨hwire, hdecide⟩ := h.arrived (fcs := fcs) (badIn 0xC bad)
  simp only [State.rxVerdict, State.rxLength] at hv
  simp only [State.rxEnd, hwire, hdecide, h.grown, if_neg h.noQuarantine, h.fragment, h.cut, h.opportunity, h.back, Option.isNone_none,
    Bool.and_true, hv, cutDone_uncut h.spi, Bool.false_eq_true, if_false, hctrl, if_true, State.rxLength]

/-! The verdict of R97. -/

/-- The first cause of R97 that applies, of a frame that one applies to. -/
theorem rxDiscard_first {len : Nat} {fcsOk e : Bool}
    (h : r.badStart = true ∨ e = true ∨ len < 64 ∨ r.maxFrame < len ∨ fcsOk = false) : rxDiscard r len fcsOk e =
    some (if r.badStart then .MAC_RX_PREAMBLE_COUNT else if e then .MAC_RX_SYMBOL_COUNT else if len < 64 then .MAC_RX_RUNT_COUNT
      else if r.maxFrame < len then .MAC_RX_OVERSIZE_COUNT else .MAC_RX_FCS_ERR_COUNT) := by
  unfold rxDiscard
  by_cases hstart : r.badStart = true
  · simp [hstart]
  by_cases hsymbol : e = true
  · simp [hstart, hsymbol]
  by_cases hrunt : len < 64
  · simp [hstart, hsymbol, hrunt]
  by_cases hlong : r.maxFrame < len
  · simp [hstart, hsymbol, hrunt, hlong]
  · have hfcs : fcsOk = false := by simpa [hstart, hsymbol, hrunt, hlong] using h
    simp [hstart, hsymbol, hrunt, hlong, hfcs]

/-- Settles O18: the first cause of R97 that applies names the counter, and the frame's end raises it. -/
theorem discardedFrameCountsOnce : Obligations.DiscardedFrameCountsOnce := by
  intro p d fcs err words r r0 s g len err' bad f hp hup hfactory hr0 hexpress hback0 hgrown hback hcut hspi hquar hseg hfrag hown hbad
  have hplain : EndsPlainly s p d r := ⟨⟨r0, hr0, hexpress, hback0⟩, hgrown, hback, hcut, hspi, hquar, hseg, hfrag, hown⟩
  have hverdict : s.rxVerdict p d r fcs err = some f := by
    refine (rxDiscard_first ?_).trans ?_
    · rw [Bool.or_eq_true, beq_eq_false_iff_ne]; exact hbad
    · simp only [Bool.or_eq_true]; rfl
  rw [exec_rxFrameEnd hp hup hfactory, rxEnd_discarded hplain hverdict]; rfl

/-! MAC control frames (R112 to R115). -/

theorem ctrlFrame_other {u : State} (h : beAt d 0 6 ≠ 0x0180C2000001 ∨ (beAt d 14 2 ≠ 1 ∧ beAt d 14 2 ≠ 0x101)) :
    u.ctrlFrame p d = u.inc .MAC_RX_CTRL_OTHER_COUNT p := if_pos h

theorem ctrlFrame_pause {u : State} (ha : beAt d 0 6 = 0x0180C2000001) (ho : beAt d 14 2 = 1) : u.ctrlFrame p d =
    if u.get .MAC_CFG_FC_MODE p = 1 ∧ u.halfDuplex p = false then (u.inc .MAC_RX_PAUSE_COUNT p).pauseLoad p (beAt d 16 2)
    else u.inc .MAC_RX_PAUSE_COUNT p := by
  simp [State.ctrlFrame, ha, ho]

theorem ctrlFrame_pfc {u : State} (ha : beAt d 0 6 = 0x0180C2000001) (ho : beAt d 14 2 = 0x101) : u.ctrlFrame p d =
    if u.get .MAC_CFG_FC_MODE p = 2 then
      (u.inc .MAC_RX_PFC_COUNT p).each (bitList 8 (beAt d 17 1)) fun s c => s.pfcLoad p c (beAt d (18 + 2 * c) 2)
    else u.inc .MAC_RX_PFC_COUNT p := by
  simp [State.ctrlFrame, ha, ho]

/-- A frame that no cause of R97 applies to. -/
theorem rxDiscard_passes {len : Nat} (hstart : r.badStart = false) (hrunt : 64 ≤ len) (hlong : len ≤ r.maxFrame) :
    rxDiscard r len true false = none := by
  simp [rxDiscard, hstart, Nat.not_lt.2 hrunt, Nat.not_lt.2 hlong]

/-- A frame is stored as it came where no E-TAG is taken off it (R19). -/
theorem stored_untagged {u : State} (h : u.extTrunkRole p = false) (d : List Byte) : u.stored p d = d := by
  simp [State.stored, h]

/-- Settles O19: the frame passes R97, and acts by its address, its opcode and FC_MODE. -/
theorem goodControlFrameActsAtItsEnd : Obligations.GoodControlFrameActsAtItsEnd := by
  intro p d fcs r r0 s g u hp hup hr0 hexpress hback0 hgrown hback hcut hspi hsymbol hquar hseg hown hfrag hrole hctrl hstart hrunt hlong hfcs
  have hlength : s.rxLength p d = d.length + 4 := by rw [State.rxLength, stored_untagged hrole]
  have hplain : EndsPlainly s p d r :=
    ⟨⟨r0, hr0, hexpress, hback0⟩, hgrown, hback, hcut, hspi, hquar, hseg, by rw [stored_untagged hrole]; exact hfrag, hown⟩
  have hverdict : s.rxVerdict p d r fcs false = none := by
    rw [State.rxVerdict, hlength, hsymbol, beq_iff_eq.2 hfcs]
    exact rxDiscard_passes hstart hrunt hlong
  have hend : exec (.macControlFrame p d fcs false) s = .next (s.outside (u.ctrlFrame p d)) := by
    rw [exec_macControlFrame hp hup, (hplain.arrived (fcs := fcs) []).1, if_pos hctrl, rxEnd_control hplain hverdict hctrl, hlength]; rfl
  refine ⟨fun hother => ?_, fun haddr hop => ?_, fun haddr hop => ?_⟩
  · rw [hend, ctrlFrame_other hother]
  · rw [hend, ctrlFrame_pause haddr hop]; rfl
  · rw [hend, ctrlFrame_pfc haddr hop]

end Sys2Proof.Machine
end

section
/-! What a port's scheduler does with its choice: the frame that goes first, the copy that starts, the candidate that fills the slot
or gives way (R103, R110, R117, R141, R255, R262; log 45). -/
namespace Sys2Proof.Machine

variable {s : State} {p : Nat}

/-! Frames of Ocora's own (log 45). -/

/-- The oldest of them begins where the port can send it now. -/
theorem ownTx_begins {d : List Byte} {l : List (List Byte)} (hown : (s.macOf p).own = d :: l) (hen : s.enabled p = true)
    (hlink : s.link p = true) (hpause : s.flag .MAC_STATUS_RX_PAUSED p = false) (hlpi : s.flag .MAC_STATUS_TX_LPI p = false)
    (hwake : (s.macOf p).waking = false) (htx : s.txOf p = none) (hauto : (s.macOf p).autoHeld = none)
    (hforced : (s.macOf p).forcedHeld = none) :
    s.ownTx p = (s.setMac p { s.macOf p with own := l }).begin p
      { copy := none, bytes := d ++ fcsBytes d, good := true, cls := 0, octets := d.length + 4, owner := p } := by
  simp [State.ownTx, hown, hen, hlink, hpause, hlpi, hwake, htx, hauto, hforced]

theorem own_of_txFree (h : s.txFree p = true) : (s.macOf p).own = [] := by
  simp only [State.txFree, Bool.and_eq_true, List.isEmpty_iff] at h
  exact h.2

/-! SCHED_CHOOSE, by what the port is and does (R255). -/

theorem exec_schedChoose (hp : p < 1040) (hup : s.up 9 = true) : exec (.schedChoose p) s = s.become (s.schedChoose p) :=
  runOn_up _ hp hup

/-- A port whose link is up, that is disabled, or that lets its copies wait drops none (R110). -/
theorem downDrop_waits (h : s.enabled p = false ∨ s.link p = true ∨ s.flag .MAC_CFG_DOWN_DROP p = false) : s.downDrop p = s :=
  if_neg (by rcases h with h | h | h <;> simp [h])

theorem schedChoose_own (h : ((s.downDrop p).macOf p).own ≠ []) : s.schedChoose p = (s.downDrop p).ownTx p :=
  if_pos (by simpa using h)

/-- Where no frame of Ocora's own waits, the port is free or not, and then goes by its kind. -/
theorem schedChoose_copies (h : ((s.downDrop p).macOf p).own = []) : s.schedChoose p =
    let u := s.downDrop p
    if !u.txFree p || u.extended p then u
    else if isTrunk p then (if u.role p = 1 then u else u.chooseAndStart p)
    else if !u.segSends p then u
    else if !u.halfDuplex p then u.fieldStart p
    else if u.plcaPort p then u.burstStart p else u := if_neg (by simp [h])

theorem schedChoose_idle (h : ((s.downDrop p).macOf p).own = [])
    (hidle : (s.downDrop p).txFree p = false ∨ (s.downDrop p).extended p = true ∨ (1024 ≤ p ∧ (s.downDrop p).role p = 1) ∨
      (p < 1024 ∧ (s.downDrop p).segSends p = false)) : s.schedChoose p = s.downDrop p := by
  rw [schedChoose_copies h]
  dsimp only
  split
  · rfl
  · rename_i hfree
    rcases hidle with hno | hno | ⟨hp, hno⟩ | ⟨hp, hno⟩
    · exact absurd (by rw [hno]; rfl) hfree
    · exact absurd (by rw [hno, Bool.or_true]) hfree
    · rw [if_pos (show isTrunk p = true from decide_eq_true hp), if_pos hno]
    · rw [isTrunk_field hp, if_neg Bool.false_ne_true, hno]; rfl

theorem schedChoose_trunk (hp : 1024 ≤ p) (hfree : (s.downDrop p).txFree p = true) (hrole : (s.downDrop p).role p ≠ 1) :
    s.schedChoose p = (s.downDrop p).chooseAndStart p := by
  have htrunk : isTrunk p = true := decide_eq_true hp
  have hext : (s.downDrop p).extended p = false := by rw [State.extended, htrunk]; rfl
  rw [schedChoose_copies (own_of_txFree hfree)]
  simp [htrunk, hext, hfree, hrole]

theorem schedChoose_field (hp : p < 1024) (hfree : (s.downDrop p).txFree p = true) (hext : (s.downDrop p).extended p = false)
    (hsends : (s.downDrop p).segSends p = true) (hfull : (s.downDrop p).halfDuplex p = false) :
    s.schedChoose p = (s.downDrop p).fieldStart p := by
  rw [schedChoose_copies (own_of_txFree hfree)]
  simp [isTrunk_field hp, hfree, hext, hsends, hfull]

/-! What a chosen copy comes to (R103, R141). -/

theorem chooseAndStart_none (h : (s.choose true p).1 = none) : s.chooseAndStart p = (s.choose true p).2 := by
  simp only [State.chooseAndStart, h]

theorem chooseAndStart_some {x : Copy} (h : (s.choose true p).1 = some x) : s.chooseAndStart p = if s.oversizeCopy p x = true
    then ((s.choose true p).2.endCopy x none).inc .MAC_TX_OVERSIZE_COUNT p else (s.choose true p).2.startCopy p p x := by
  simp only [State.chooseAndStart, h]; rfl

theorem fieldStart_cand {x : Copy} (h : s.candOf p = some x) :
    s.fieldStart p = if s.candReady p x = true then s.startCand p x else s.candNoFit p x := by
  simp only [State.fieldStart, h, Option.isSome_some, if_true]

/-! The candidate slot (R141, R262). -/

/-- The slot is filled: it is open and empty, and no copy of the port contends. -/
def State.slotFills (s : State) (p : Nat) : Prop := s.slotOpen p = true ∧ s.candOf p = none ∧ s.csmaBusy p = false

theorem exec_candidateFill (hp : p < 1024) (hup : s.up 9 = true) : exec (.candidateFill p) s = s.become (s.fillCand p) :=
  runOn_up _ hp hup

theorem fillCand_stays (h : ¬s.slotFills p) : s.fillCand p = s := by
  refine if_pos ?_
  by_contra hc
  exact h (by simpa [State.slotFills, and_assoc] using hc)

/-- A filling slot is past the tests of `fillCand`. -/
theorem fills_test (h : s.slotFills p) : (!s.slotOpen p || (s.candOf p).isSome || s.csmaBusy p) = false := by
  obtain ⟨hopen, hempty, hfree⟩ := h
  rw [hopen, hempty, hfree]; rfl

theorem fillCand_none (h : s.slotFills p) (hc : (s.choose (!s.extended p) p).1 = none) :
    s.fillCand p = (s.choose (!s.extended p) p).2 := by
  simp only [State.fillCand, fills_test h, Bool.false_eq_true, if_false, hc]

theorem fillCand_some {x : Copy} (h : s.slotFills p) (hc : (s.choose (!s.extended p) p).1 = some x) :
    s.fillCand p = if s.oversizeCopy p x = true
      then ((s.choose (!s.extended p) p).2.endCopy x none).inc .MAC_TX_OVERSIZE_COUNT p
      else (s.choose (!s.extended p) p).2.newCand p x := by
  simp only [State.fillCand, fills_test h, Bool.false_eq_true, if_false, hc]; rfl

/-- A copy of a class above the candidate's, which is strict, is eligible. -/
def State.betterCopy (s : State) (p : Nat) (x : Copy) : Prop :=
  ∃ k < 8, s.strictMin p ≤ k ∧ x.cls < k ∧ (s.eligible (!s.extended p) p k).isSome = true

/-- The candidate gives way (R262). -/
def State.candYields (s : State) (p : Nat) (x : Copy) : Prop :=
  s.flag .SCH_PORT_CFG_CAND_REPL p = true ∧ s.betterCopy p x ∧ ¬(s.csmaKind p = true ∧ s.get .SEG_TXSTATE_ATTEMPTS p ≠ 0) ∧
    s.burstOpen p = false ∧ s.slotOpen p = true

theorem exec_candidateReplace (hp : p < 1024) (hup : s.up 9 = true) : exec (.candidateReplace p) s = s.become (s.replaceCand p) :=
  runOn_up _ hp hup

theorem betterCopy_iff (s : State) (p : Nat) (x : Copy) : ((List.range 8).any fun k =>
    decide (s.strictMin p ≤ k) && decide (x.cls < k) && (s.eligible (!s.extended p) p k).isSome) = true ↔ s.betterCopy p x := by
  simp only [State.betterCopy, List.any_eq_true, List.mem_range, Bool.and_eq_true, decide_eq_true_eq, and_assoc]

theorem replaceCand_empty (h : s.candOf p = none) : s.replaceCand p = s := by simp only [State.replaceCand, h]

theorem returnCand_cand {x : Copy} (h : s.candOf p = some x) :
    s.returnCand p = (s.setQueue x.q ({ x with tries := 0 } :: s.queue x.q)).noCand p := by simp only [State.returnCand, h]

theorem replaceCand_yields {x : Copy} (h : s.candOf p = some x) (hy : s.candYields p x) :
    s.replaceCand p = ((s.returnCand p).fillCand p).inc .SCH_CAND_REPL_COUNT p := by
  obtain ⟨hrepl, hbetter, hfirst, hburst, hopen⟩ := hy
  simp only [State.replaceCand, h]
  refine if_neg ?_
  rw [(betterCopy_iff s p x).2 hbetter]
  simpa [hrepl, hburst, hopen] using hfirst

theorem replaceCand_stays {x : Copy} (h : s.candOf p = some x) (hy : ¬s.candYields p x) : s.replaceCand p = s := by
  simp only [State.replaceCand, h]
  refine if_pos ?_
  by_contra hc
  simp only [Bool.or_eq_true, not_or, Bool.not_eq_true', Bool.not_eq_false, betterCopy_iff, Bool.and_eq_true, bne_iff_ne,
    Bool.not_eq_true] at hc
  obtain ⟨⟨⟨⟨hrepl, hbetter⟩, hfirst⟩, hburst⟩, hopen⟩ := hc
  exact hy ⟨hrepl, hbetter, hfirst, hburst, hopen⟩

end Sys2Proof.Machine
end

section
/-! The round robin of an extender trunk, and the link of a field lane (R108, R168, R263). -/
namespace Sys2Proof.Machine

variable {s : State} {t : Nat}

/-! The round robin (R168, R263). -/

/-- The frame boundary of an extender trunk at which a source is served. -/
def State.rrSends (s : State) (m : Nat) : Prop :=
  s.role m = 1 ∧ s.txFree m = true ∧ s.enabled m = true ∧ s.link m = true ∧ s.flag .MAC_STATUS_RX_PAUSED m = false

theorem exec_extTrunkRoundRobin (ht : t < 16) (hup : s.up 9 = true) :
    exec (.extTrunkRoundRobin t) s = s.become (s.roundRobin t) := runOn_up _ ht hup

theorem roundRobin_own (hrole : s.role (1024 + t) = 1) (hown : (s.macOf (1024 + t)).own ≠ []) : s.roundRobin t = s.ownTx (1024 + t) := by
  simp [State.roundRobin, hrole, hown]

theorem roundRobin_serves (h : s.rrSends (1024 + t)) : s.roundRobin t =
    let l := s.extPortsOn t ++ [1024 + t]
    s.rrTry t (l.filter (fun n => tget 0 s.rrNext t ≤ n) ++ l.filter fun n => n < tget 0 s.rrNext t) := by
  obtain ⟨hrole, hfree, hen, hlink, hpause⟩ := h
  simp [State.roundRobin, hrole, own_of_txFree hfree, hfree, hen, hlink, hpause]

theorem roundRobin_waits (h : ¬s.rrSends (1024 + t)) (hown : s.role (1024 + t) ≠ 1 ∨ (s.macOf (1024 + t)).own = []) :
    s.roundRobin t = s := by
  by_cases hrole : s.role (1024 + t) = 1
  · have hempty := hown.resolve_left fun hne => hne hrole
    have hshut : (!s.txFree (1024 + t) || !s.enabled (1024 + t) || !s.link (1024 + t) ||
        s.flag .MAC_STATUS_RX_PAUSED (1024 + t)) = true := by
      by_contra hc
      exact h ⟨hrole, by simpa [and_assoc] using hc⟩
    simp only [State.roundRobin, hrole, hempty, hshut]; rfl
  · exact if_pos hrole

/-- An extended port with a copy in its slot is served where the copy may start. -/
theorem rrServe_ready {n : Nat} {c : Copy} (hc : s.candOf n = some c) (hn : n ≠ 1024 + t) : (s.rrServe t n).1 = s.extReady n c := by
  simp only [State.rrServe, if_neg hn, hc]
  cases s.extReady n c <;> rfl

/-! The link of a field lane (R108). -/

theorem exec_fldLinkChange {lane : Nat} (hl : lane < 256) (up : Bool) :
    exec (.fldLinkChange lane up) s = s.become (s.fldLinkChange lane up) := congrArg s.become (onUnit_in _ hl)

theorem fldLinkChange_unbound {lane : Nat} (h : s.up 2 = false ∨ s.portOfLane lane = none) (up : Bool) :
    s.fldLinkChange lane up = s.linkLevel lane up := by
  rcases h with hoff | hnone
  · exact inBlock_off _ hoff
  · have hlane : (s.linkLevel lane up).portOfLane lane = none := hnone
    simp only [State.fldLinkChange, State.inBlock, hlane, ite_self]

theorem fldLinkChange_bound {lane p : Nat} (hup : s.up 2 = true) (h : s.portOfLane lane = some p) (up : Bool) :
    s.fldLinkChange lane up = (s.linkLevel lane up).fieldLink p := by
  have hlane : (s.linkLevel lane up).portOfLane lane = some p := h
  have hacts : (s.linkLevel lane up).up 2 = true := hup
  simp only [State.fldLinkChange, inBlock_up _ hacts, hlane]

/-- Settles O24: the choice by what the port may send, the slot by whether it fills or gives way, the round robin by whether the trunk
sends, and the lane by the port that is bound to it. -/
theorem chosenCopyStartsAndTrunkServesInTurn : Obligations.ChosenCopyStartsAndTrunkServesInTurn := by
  refine ⟨⟨fun p s hp hup => ?_, fun p s hp hup => ?_⟩, fun t lane up s ht hl => ⟨fun hup => ?_, fun h => ?_, fun p hup h => ?_, rfl⟩⟩
  · rw [exec_schedChoose hp hup]
    refine ⟨fun d l hown => ⟨?_, ownTx_begins hown⟩, fun hown hidle => ?_, fun htrunk hfree hrole => ⟨fun hc => ?_, fun x hc => ?_⟩,
      fun x hfield hfree hext hsends hfull hc => ?_, downDrop_waits⟩
    · rw [schedChoose_own (hown ▸ List.cons_ne_nil d l)]; rfl
    · rw [schedChoose_idle hown hidle]; rfl
    · rw [schedChoose_trunk htrunk hfree hrole, chooseAndStart_none hc]; rfl
    · rw [schedChoose_trunk htrunk hfree hrole, chooseAndStart_some hc]; rfl
    · rw [schedChoose_field hfield hfree hext hsends hfull, fieldStart_cand hc]; rfl
  · rw [exec_candidateFill hp hup, exec_candidateReplace hp hup]
    refine ⟨fun h => ?_, fun h => ⟨fun hc => ?_, fun x hc => ?_⟩, fun h => ?_, fun x hx => ⟨fun hno => ?_, fun hyes => ?_⟩⟩
    · rw [fillCand_stays h]; rfl
    · rw [fillCand_none h hc]; rfl
    · rw [fillCand_some h hc]; rfl
    · rw [replaceCand_empty h]; rfl
    · rw [replaceCand_stays hx hno]; rfl
    · rw [replaceCand_yields hx hyes, returnCand_cand hx]; rfl
  · rw [exec_extTrunkRoundRobin ht hup]
    refine ⟨fun h hown => ?_, fun h => ?_, fun hrole hown => ?_, fun n c hc hn => rrServe_ready hc hn⟩
    · rw [roundRobin_waits h hown]; rfl
    · rw [roundRobin_serves h]; rfl
    · rw [roundRobin_own hrole hown]; rfl
  · rw [exec_fldLinkChange hl, fldLinkChange_unbound h]; rfl
  · rw [exec_fldLinkChange hl, fldLinkChange_bound hup h]; rfl

end Sys2Proof.Machine
end

section
/-! What a lost frame leaves of the transmissions: the one that sends its copy goes on without it, with a bad FCS (R247). -/
namespace Sys2Proof.Machine

variable {s : State} {p : Nat}

/-! What leaves every transmission alone. -/

@[simp] theorem tx_add (s : State) (f : Fld) (i n : Nat) : (s.add f i n).tx = s.tx :=
  add_keeps State.tx (fun _ => rfl) (fun _ _ _ => rfl) (fun _ _ _ _ => rfl) s i n

@[simp] theorem tx_flowControl (s : State) (p : Nat) : (s.flowControl p).tx = s.tx := by
  have hpause : (s.fcPause p).tx = s.tx := by
    unfold State.fcPause
    dsimp only
    split
    · rfl
    · split <;> rfl
  have hpfc (u : State) : (u.fcPfc p).tx = u.tx := by
    unfold State.fcPfc
    dsimp only
    split <;> rfl
  unfold State.flowControl
  split
  · rw [hpfc, hpause]
  · rfl

theorem tx_drrRest (s : State) (p k : Nat) : (s.drrRest p k).tx = s.tx := by
  unfold State.drrRest
  split <;> rfl

@[simp] theorem tx_setQueue (s : State) (q : Nat) (l : List Copy) : (s.setQueue q l).tx = s.tx := tx_drrRest _ _ _

@[simp] theorem tx_setCand (s : State) (p : Nat) (c : Option Copy) : (s.setCand p c).tx = s.tx := rfl

@[simp] theorem tx_injEnded (s : State) (f : DFrame) (sent : Option Nat) : (s.injEnded f sent).tx = s.tx := by
  unfold State.injEnded
  split
  · split <;> rfl
  · rfl

theorem txOf_of_tx {u : State} (h : u.tx = s.tx) (p : Nat) : u.txOf p = s.txOf p := by rw [State.txOf, h, State.txOf]

/-! One transmission among those of a frame. -/

/-- A fold that meets `a` on its way brings about what `a` brings about and every step keeps. -/
theorem each_reaches {α : Type} {P Q : State → Prop} {f : State → α → State} {a : α} (hwait : ∀ s b, b ≠ a → P s → P (f s b))
    (hhit : ∀ s, P s → Q (f s a)) (hstay : ∀ s b, Q s → Q (f s b)) (l : List α) (s : State) (h : Q s ∨ P s ∧ a ∈ l) : Q (s.each l f) := by
  induction l generalizing s with
  | nil => exact h.resolve_right fun hp => List.not_mem_nil hp.2
  | cons b l ih =>
    refine ih (f s b) ?_
    rcases h with hq | ⟨hp, hmem⟩
    · exact .inl (hstay s b hq)
    · by_cases hb : b = a
      · exact .inl (hb ▸ hhit s hp)
      · exact .inr ⟨hwait s b hb hp, (List.mem_cons.1 hmem).resolve_left (Ne.symm hb)⟩

theorem txOf_setTx (s : State) (p q : Nat) (x : Option Tx) : (s.setTx p x).txOf q = if q = p then x else s.txOf q := tget_tput _ _ _ _ _

theorem mem_keys_of_tfind {α : Type} {m : List (Nat × α)} {k : Nat} {v : α} (h : tfind m k = some v) : k ∈ m.map (·.1) := by
  induction m with
  | nil => cases h
  | cons e m ih =>
    obtain ⟨j, w⟩ := e
    by_cases hj : j = k
    · exact hj ▸ List.mem_cons_self
    · exact List.mem_cons_of_mem _ (ih (by simpa [tfind, hj] using h))

/-- A port that transmits has its place in the table. -/
theorem mem_txKeys {t : Tx} (h : s.txOf p = some t) : p ∈ s.tx.map (·.1) := by
  cases hf : tfind s.tx p with
  | none => rw [State.txOf, tget, hf] at h; cases h
  | some x => exact mem_keys_of_tfind hf

/-- A transmission that has lost its copy ends with an inverted FCS (R247). -/
def Tx.spoilt (t : Tx) : Tx := { t with copy := none, good := false }

/-- The transmission of port `p` loses its copy where that is of frame `h`. -/
def State.spoilTx (h : Nat) (s : State) (p : Nat) : State :=
  match s.txOf p with
  | some t => if t.copy.any (·.head == h) then s.setTx p (some t.spoilt) else s
  | none => s

theorem spoilTx_other {h q : Nat} (hq : q ≠ p) (s : State) : (s.spoilTx h q).txOf p = s.txOf p := by
  unfold State.spoilTx
  split
  · split
    · rw [txOf_setTx, if_neg (Ne.symm hq)]
    · rfl
  · rfl

theorem spoilTx_holder {h : Nat} {t : Tx} (ht : s.txOf p = some t) (hc : t.copy.any (·.head == h) = true) :
    (s.spoilTx h p).txOf p = some t.spoilt := by
  simp only [State.spoilTx, ht, hc, if_true, txOf_setTx]

theorem spoilTx_spoilt {h : Nat} {t : Tx} (ht : s.txOf p = some t.spoilt) : (s.spoilTx h p).txOf p = some t.spoilt := by
  simp only [State.spoilTx, ht, Tx.spoilt, Option.any_none, Bool.false_eq_true, if_false]

/-- Every transmission's turn leaves a spoilt one, whichever it is of. -/
theorem spoilTx_each {h : Nat} {t : Tx} (ht : s.txOf p = some t) (hc : t.copy.any (·.head == h) = true) :
    (s.each (s.tx.map (·.1)) (State.spoilTx h)).txOf p = some t.spoilt := by
  refine each_reaches (P := fun u => u.txOf p = some t) (Q := fun u => u.txOf p = some t.spoilt) (a := p)
    (fun u q hq hu => (spoilTx_other hq u).trans hu) (fun u hu => spoilTx_holder hu hc) (fun u q hu => ?_) _ s (.inr ⟨ht, mem_txKeys ht⟩)
  by_cases hq : q = p
  · subst hq; exact spoilTx_spoilt hu
  · exact (spoilTx_other hq u).trans hu

/-- What loses a frame: its copies leave the queues, the slots and the transmissions, and then its cells are gone. -/
theorem tx_loseFrame {h : Nat} {f : DFrame} (hf : s.frame h = some f) : ∃ u : State, u.tx = s.tx ∧
    (s.loseFrame h).tx = (u.each (u.tx.map (·.1)) (State.spoilTx h)).tx := by
  unfold State.loseFrame
  simp only [hf]
  generalize hu : State.each (State.each s.used _ _) _ _ = u
  refine ⟨u, ?_, ?_⟩
  · subst hu
    refine (each_keeps State.tx _ _ (fun v q => ?_) _).trans (each_keeps State.tx _ _ (fun v q => tx_setQueue v q _) s.used)
    split <;> rfl
  · split
    · rw [tx_flowControl]; exact (tx_add _ _ _ _).trans (tx_injEnded _ _ _)
    · exact (tx_add _ _ _ _).trans (tx_injEnded _ _ _)

theorem txOf_loseFrame {t : Tx} {c : Copy} (hf : (s.frame c.head).isSome = true) (ht : s.txOf p = some t) (hc : t.copy = some c) :
    (s.loseFrame c.head).txOf p = some t.spoilt := by
  obtain ⟨f, hf⟩ := Option.isSome_iff_exists.1 hf
  obtain ⟨u, hu, hlose⟩ := tx_loseFrame hf
  have hholds : t.copy.any (·.head == c.head) = true := by rw [hc, Option.any_some, beq_self_eq_true]
  exact (txOf_of_tx hlose p).trans (spoilTx_each ((txOf_of_tx hu p).trans ht) hholds)

end Sys2Proof.Machine
end

section
/-! Frame ends, frame boundaries and the class move of node queues (R31, R139, R146, R247, R260, R261). -/
namespace Sys2Proof.Machine

variable {s : State} {p : Nat}

/-! The end of a frame (R31, R247). -/

/-- What a frame's end brings on a segment: the slot's candidate shows its attempts, a burst holds the medium, TO_NORMAL may end. -/
def State.segmentSent (u : State) (p : Nat) : State :=
  if 1024 ≤ p then u else ((u.showTries p (((u.candOf p).map (·.tries)).getD 0)).commitHold p).toNormalEnd p

theorem exec_copyEnd (hp : p < 1040) (hup : s.up 9 = true) (e : Ecc) : exec (.copyEnd p e) s = s.become (s.copyEnd p e) :=
  runOn_up _ hp hup

theorem copyEnd_idle {t : Tx} (h : s.txOf p = none ∨ s.txOf p = some t ∧ t.cut = true) (e : Ecc) : s.copyEnd p e = s := by
  have hnone : (s.txOf p).filter (!·.cut) = none := by
    rcases h with h | ⟨h, hcut⟩
    · rw [h]; rfl
    · rw [h, Option.filter_some, hcut]; rfl
  simp only [State.copyEnd, hnone]

theorem filter_uncut {t : Tx} (ht : s.txOf p = some t) (hcut : t.cut = false) : (s.txOf p).filter (!·.cut) = some t := by
  rw [ht, Option.filter_some, hcut]; rfl

theorem segmentSent_eq (u : State) (p : Nat) : (if isTrunk p then u
    else ((u.showTries p (((u.candOf p).map (·.tries)).getD 0)).commitHold p).toNormalEnd p) = u.segmentSent p := by
  simp only [State.segmentSent, isTrunk, decide_eq_true_eq]

/-- A frame of Ocora's own, or a MAC control frame, has no descriptor. -/
theorem copyEnd_own {t : Tx} (ht : s.txOf p = some t) (hcut : t.cut = false) (hc : t.copy = none) (e : Ecc) :
    s.copyEnd p e = (s.sendDone p t e).segmentSent p := by
  simp only [State.copyEnd, filter_uncut ht hcut, hc, segmentSent_eq]
  rw [ht, Option.getD_some]

/-- A copy's descriptor is read, and what that leaves of the transmission is sent. -/
theorem copyEnd_copy {t t' : Tx} {c : Copy} (ht : s.txOf p = some t) (hcut : t.cut = false) (hc : t.copy = some c)
    (hread : (s.descRead c.head).txOf p = some t') (e : Ecc) :
    s.copyEnd p e = ((s.descRead c.head).sendDone p t' e).segmentSent p := by
  simp only [State.copyEnd, filter_uncut ht hcut, hc, hread, Option.getD_some, segmentSent_eq]

theorem descRead_gone {h : Nat} (hf : s.frame h = none) : s.descRead h = s := if_pos (by rw [hf]; rfl)

theorem descRead_live {h : Nat} (hf : (s.frame h).isSome = true) :
    (s.eccOf 2 h .ok = .corr → s.descRead h = s.inc .DOME_ECC_CORR_COUNT) ∧ (s.eccOf 2 h .ok = .uncorr → s.descRead h = s.loseFrame h) := by
  have hlive : ¬(s.frame h).isNone = true := by rw [Option.isNone_iff_eq_none]; exact fun hn => by rw [hn] at hf; cases hf
  constructor <;> intro he <;> simp only [State.descRead, if_neg hlive, he]

/-! The shapers' writes (R260). -/

theorem exec_shaperConfigApply (hp : p < 1040) (hup : s.up 9 = true) :
    exec (.shaperConfigApply p) s = s.become (s.shaperApply p) := runOn_up _ hp hup

theorem shaperApply_sending (h : (s.sending p).isSome = true) : s.shaperApply p = s := if_pos h

theorem shaperApply_idle (h : s.sending p = none) :
    s.shaperApply p = s.each (List.range 8) fun s k => s.applyShaper p k := if_neg (by simp [h])

theorem shaper_applyShaper (s : State) (p k : Nat) : (s.applyShaper p k).shaper =
    shaperRegs.foldl (fun m r => tput none m (regKey r (8 * p + k)) none) s.shaper := by
  unfold State.applyShaper
  dsimp only
  split <;> rfl

/-- The state without the words and credits of its shapers. -/
def State.besideShapers (s : State) : State := { s with shaper := [], credit := [] }

theorem besideShapers_applyShaper (s : State) (p k : Nat) : (s.applyShaper p k).besideShapers = s.besideShapers := by
  unfold State.applyShaper
  dsimp only
  split <;> rfl

theorem besideShapers_each (s : State) (p : Nat) (l : List Nat) :
    (s.each l fun s k => s.applyShaper p k).besideShapers = s.besideShapers :=
  each_keeps State.besideShapers l _ (fun s k => besideShapers_applyShaper s p k) s

theorem eq_of_besideShapers {u : State} (h : u.besideShapers = s.besideShapers) : u = { s with shaper := u.shaper, credit := u.credit } :=
  congrArg (fun v : State => { v with shaper := u.shaper, credit := u.credit }) h

/-- A frame boundary moves nothing but the shapers. -/
theorem besideShapers_shaperApply (s : State) (p : Nat) : (s.shaperApply p).besideShapers = s.besideShapers := by
  unfold State.shaperApply
  split
  · rfl
  · exact besideShapers_each s p (List.range 8)

/-- A register of which no old word is kept has its written word in force. -/
theorem inForce_written {r : Reg} {i : Nat} (h : tget none s.shaper (regKey r i) = none) : s.inForce r i = s.rd r i := by
  rw [State.inForce, h, Option.getD_none]

/-- No class's turn brings back an old word. -/
theorem shaper_stays_written {x k : Nat} (h : tget none s.shaper x = none) : tget none (s.applyShaper p k).shaper x = none := by
  simp [shaper_applyShaper, shaperRegs, tget_tput, h]

theorem shaper_written {r : Reg} {k : Nat} (hr : r ∈ shaperRegs) (s : State) :
    tget none (s.applyShaper p k).shaper (regKey r (8 * p + k)) = none := by
  rw [shaper_applyShaper]
  simp only [shaperRegs, List.mem_cons, List.not_mem_nil, or_false] at hr
  rcases hr with rfl | rfl | rfl <;> simp [shaperRegs, tget_tput]

theorem inForce_each {k : Nat} (hk : k < 8) {r : Reg} (hr : r ∈ shaperRegs) (s : State) :
    (s.each (List.range 8) fun s k => s.applyShaper p k).inForce r (8 * p + k) = s.rd r (8 * p + k) := by
  have hwritten := each_reaches (P := fun _ => True) (Q := fun u => tget none u.shaper (regKey r (8 * p + k)) = none) (a := k)
    (f := fun s k => s.applyShaper p k) (fun _ _ _ _ => trivial) (fun u _ => shaper_written hr u) (fun u j hu => shaper_stays_written hu)
    (List.range 8) s (.inr ⟨trivial, List.mem_range.2 hk⟩)
  rw [inForce_written hwritten]
  show State.rd (State.besideShapers _) r (8 * p + k) = s.besideShapers.rd r (8 * p + k)
  rw [besideShapers_each]

/-! The class move (R261). -/

theorem exec_nodeQueueClassMove {i : Nat} (hi : i < 262144) (hup : s.up 9 = true) :
    exec (.nodeQueueClassMove i) s = s.become (s.classMove i) := runOn_up _ hi hup

theorem classMove_eq (s : State) (i : Nat) : s.classMove i =
    if (s.queue i).isEmpty = true ∧ (s.candOf (i / 256)).any (·.q == i) = false
      then { s with oldClass := tput none s.oldClass i none } else s := by
  simp only [State.classMove, Bool.not_eq_true']

/-- Settles O25: the end by what its descriptor reads, the boundary by each class's turn, the move by what the queue still holds. -/
theorem frameEndsAndBoundariesAct : Obligations.FrameEndsAndBoundariesAct := by
  intro p i e t s hp hi hup rest
  rw [exec_copyEnd hp hup, exec_shaperConfigApply hp hup, exec_nodeQueueClassMove hi hup]
  refine ⟨fun h => ?_, fun ht hcut hc => ?_, fun c ht hcut hc => ⟨fun h => ?_, fun hlive he => ?_, fun hlive he => ?_⟩, fun h => ?_,
    fun h => ⟨s.outside (s.shaperApply p), rfl, ?_, fun k hk r hr => ?_⟩, ?_⟩
  · rw [copyEnd_idle h]; rfl
  · rw [copyEnd_own ht hcut hc]; rfl
  · have hread : s.descRead c.head = s := h.elim descRead_gone descRead_ok
    rw [copyEnd_copy ht hcut hc (hread ▸ ht), hread]; rfl
  · have hread := (descRead_live hlive).1 he
    have hkept : (s.descRead c.head).txOf p = some t := by rw [hread]; exact (txOf_of_tx (tx_add s _ 0 1) p).trans ht
    rw [copyEnd_copy ht hcut hc hkept, hread]; rfl
  · have hread := (descRead_live hlive).2 he
    have hspoilt : (s.descRead c.head).txOf p = some t.spoilt := by rw [hread]; exact txOf_loseFrame hlive ht hc
    rw [copyEnd_copy ht hcut hc hspoilt, hread]; rfl
  · rw [shaperApply_sending h]; rfl
  · exact eq_of_besideShapers (congrArg s.outside (besideShapers_shaperApply s p))
  · rw [shaperApply_idle h]
    exact inForce_each hk hr s
  · rw [classMove_eq, become_ite]; rfl

end Sys2Proof.Machine
end

section
/-! What serving a segment moves: its candidate, its medium and a few registers; the operating state and BABBLE stay (R134 to R147). -/
namespace Sys2Proof.Machine

variable {s u v : State} {p : Nat}

/-! The medium (R139). -/

@[simp] theorem segOf_setSeg (s : State) (p : Nat) (g : Seg) : (s.setSeg p g).segOf p = g := tget_tput_same _ _ _ _

theorem segOf_setSeg_other (s : State) {p j : Nat} (g : Seg) (h : j ≠ p) : (s.setSeg p g).segOf j = s.segOf j :=
  tget_tput_other _ _ _ _ _ h

@[simp] theorem segOf_emit (s : State) (o : Output) (j : Nat) : (s.emit o).segOf j = s.segOf j := rfl

/-- What the outputs carry when COMMIT of a port is dropped. -/
def State.commitDrop (s : State) (p : Nat) : List Output := if (s.segOf p).commit = true then [.commit p false] else []

theorem commitEnd_held (h : (s.segOf p).commit = true) :
    s.commitEnd p = (s.setSeg p { s.segOf p with commit := false }).emit (.commit p false) :=
  if_neg (by rw [h]; exact Bool.noConfusion)

theorem commitEnd_free (h : (s.segOf p).commit = false) : s.commitEnd p = s := if_pos h

theorem segOf_commitEnd (s : State) (p : Nat) : (s.commitEnd p).segOf p = { s.segOf p with commit := false } := by
  cases h : (s.segOf p).commit
  · rw [commitEnd_free h, ← h]
  · rw [commitEnd_held h, segOf_emit, segOf_setSeg]

theorem segOf_commitEnd_other {j : Nat} (h : j ≠ p) : (s.commitEnd p).segOf j = s.segOf j := by
  cases hc : (s.segOf p).commit
  · rw [commitEnd_free hc]
  · rw [commitEnd_held hc, segOf_emit, segOf_setSeg_other s _ h]

/-- Dropping COMMIT moves the segment side and the outputs alone. -/
theorem commitEnd_rest (s : State) (p : Nat) :
    s.commitEnd p = { s with seg := (s.commitEnd p).seg, out := s.commitDrop p ++ s.out } := by
  cases h : (s.segOf p).commit
  · rw [commitEnd_free h, State.commitDrop, h]; rfl
  · rw [commitEnd_held h, State.commitDrop, h]; rfl

theorem segOf_burstEnd (s : State) (p : Nat) : (s.burstEnd p).segOf p = { s.segOf p with mine := false, commit := false } := by
  rw [State.burstEnd, segOf_setSeg, segOf_commitEnd]

theorem segOf_burstEnd_other {j : Nat} (h : j ≠ p) : (s.burstEnd p).segOf j = s.segOf j :=
  (segOf_setSeg_other _ _ h).trans (segOf_commitEnd_other h)

/-- The end of a burst moves the segment side and the outputs alone. -/
theorem burstEnd_rest (s : State) (p : Nat) :
    s.burstEnd p = { s with seg := (s.burstEnd p).seg, out := s.commitDrop p ++ s.out } := by
  unfold State.burstEnd
  dsimp only
  rw [commitEnd_rest]; rfl

/-! The candidate slot (R141). -/

@[simp] theorem candOf_setCand (s : State) (p : Nat) (c : Option Copy) : (s.setCand p c).candOf p = c := tget_tput_same _ _ _ _

theorem candOf_showTries (s : State) (p n j : Nat) : (s.showTries p n).candOf j = s.candOf j := by
  unfold State.showTries
  split <;> rfl

theorem candOf_newCand (s : State) (p : Nat) (c : Copy) : (s.newCand p c).candOf p = some c := by
  rw [State.newCand, candOf_showTries, candOf_setCand]

theorem candOf_noCand (s : State) (p : Nat) : (s.noCand p).candOf p = none := by
  rw [State.noCand, candOf_showTries, candOf_setCand]

theorem candOf_returnCand (s : State) (p : Nat) : (s.returnCand p).candOf p = none := by
  cases h : s.candOf p with
  | none => simp only [State.returnCand, h]
  | some c => rw [returnCand_cand h, candOf_noCand]

/-! Changes on the segment side. -/

/-- The state without its registers, queues, candidates, segment sides, parameters in force and outputs. -/
def State.besideSegment (s : State) : State :=
  { s with regs := [], queues := [], qUsed := [], cand := [], seg := [], shaper := [], out := [] }

/-- The registers that move while a segment is served, SEG_CFG apart. -/
def segmentRegs : List Reg := [.SEG_STATUS, .SEG_TXSTATE, .SEG_CYCLES_LO, .SEG_CYCLES_HI, .SCH_VTIME, .SCH_DEFICIT]

/-- `t` is `s` after changes on the segment side that leave BABBLE. -/
structure OnSegment (s t : State) : Prop where
  beside : t.besideSegment = s.besideSegment
  words : ∀ r i, r ∉ segmentRegs → t.rd r i = s.rd r i
  babble : ∀ i, t.get .SEG_STATUS_BABBLE i = s.get .SEG_STATUS_BABBLE i

/-- `t` is `s` after changes on the segment side that leave the operating state too. -/
structure SegmentServes (s t : State) : Prop extends OnSegment s t where
  state : ∀ i, t.segState i = s.segState i

theorem OnSegment.refl (s : State) : OnSegment s s := ⟨rfl, fun _ _ _ => rfl, fun _ => rfl⟩

theorem SegmentServes.refl (s : State) : SegmentServes s s := ⟨.refl s, fun _ => rfl⟩

theorem OnSegment.trans (h : OnSegment s u) (h' : OnSegment u v) : OnSegment s v :=
  ⟨h'.beside.trans h.beside, fun r i hr => (h'.words r i hr).trans (h.words r i hr), fun i => (h'.babble i).trans (h.babble i)⟩

/-! What such changes leave. -/

theorem OnSegment.get (h : OnSegment s u) {f : Fld} (hf : f.reg ∉ segmentRegs) (i : Nat) : u.get f i = s.get f i := by
  rw [State.get, h.words _ _ hf, State.get]

theorem OnSegment.flag (h : OnSegment s u) {f : Fld} (hf : f.reg ∉ segmentRegs) (i : Nat) : u.flag f i = s.flag f i := by
  rw [State.flag, h.get hf, State.flag]

/-- What lies beside the segment side stays. -/
theorem OnSegment.keeps {β : Type} (h : OnSegment s u) (g : State → β) (hg : ∀ x, g x.besideSegment = g x) : g u = g s := by
  rw [← hg u, h.beside, hg]

theorem OnSegment.onLane (h : OnSegment s u) (p : Nat) : u.onLane p = s.onLane p := h.keeps (State.onLane · p) fun _ => rfl
theorem OnSegment.extended (h : OnSegment s u) (p : Nat) : u.extended p = s.extended p := h.keeps (State.extended · p) fun _ => rfl
theorem OnSegment.kind (h : OnSegment s u) (p : Nat) : u.kind p = s.kind p := h.keeps (State.kind · p) fun _ => rfl
theorem OnSegment.txOf (h : OnSegment s u) (p : Nat) : u.txOf p = s.txOf p := h.keeps (State.txOf · p) fun _ => rfl

/-- They move nothing that is driven from outside. -/
theorem OnSegment.outside (h : OnSegment s u) : s.outside u = u :=
  outside_eq (h.keeps State.pending fun _ => rfl) (h.keeps State.porstLow fun _ => rfl) (h.keeps State.blkLow fun _ => rfl)
    (h.keeps State.coreClk fun _ => rfl) (h.keeps State.refClk fun _ => rfl) (h.keeps State.pulsed fun _ => rfl)

theorem OnSegment.rest (h : OnSegment s u) : u = { s with regs := u.regs, queues := u.queues, qUsed := u.qUsed, cand := u.cand,
                                                          seg := u.seg, shaper := u.shaper, out := u.out } :=
  congrArg (fun x : State => { x with regs := u.regs, queues := u.queues, qUsed := u.qUsed, cand := u.cand, seg := u.seg,
                                      shaper := u.shaper, out := u.out }) h.beside

/-! The operations, one after another. -/

/-- An update of the segment side beside the registers. -/
theorem SegmentServes.update (h : SegmentServes s u) (hb : v.besideSegment = u.besideSegment) (hr : v.regs = u.regs) :
    SegmentServes s v := by
  have hrd (r : Reg) (i : Nat) : v.rd r i = u.rd r i := by rw [State.rd, hr, State.rd]
  refine ⟨⟨hb.trans h.beside, fun r i hi => (hrd r i).trans (h.words r i hi), fun i => ?_⟩, fun i => ?_⟩
  · rw [State.get, hrd]; exact h.babble i
  · rw [State.segState, State.get, hrd]; exact h.state i

theorem SegmentServes.wr (h : SegmentServes s u) {r : Reg} (hr : r ∈ segmentRegs ∧ r ≠ .SEG_STATUS) (i : Nat) (w : Word) :
    SegmentServes s (u.wr r i w) := by
  obtain ⟨hmem, hstatus⟩ := hr
  have hrd {r' : Reg} (hne : r' ≠ r) (k : Nat) : (u.wr r i w).rd r' k = u.rd r' k := rd_wr_other u w fun hk => hne hk.1
  refine ⟨⟨h.beside, fun r' k hk => (hrd (fun hc : r' = r => hk (hc ▸ hmem)) k).trans (h.words r' k hk), fun k => ?_⟩, fun k => ?_⟩
  · exact (congrArg _ (hrd hstatus.symm k)).trans (h.babble k)
  · exact (congrArg _ (hrd hstatus.symm k)).trans (h.state k)

/-- A field of these registers apart from the operating state and BABBLE. -/
theorem SegmentServes.put (h : SegmentServes s u) {f : Fld} (hf : f.reg ∈ segmentRegs ∧ (f.reg = .SEG_STATUS →
    ∀ g ∈ [Fld.SEG_STATUS_STATE, .SEG_STATUS_BABBLE], g.hi < f.lo ∨ f.hi < g.lo)) (i v : Nat) : SegmentServes s (u.put f i v) := by
  obtain ⟨hmem, hapart⟩ := hf
  have hget {g : Fld} (hg : g ∈ [Fld.SEG_STATUS_STATE, .SEG_STATUS_BABBLE]) (hfield : g.reg = .SEG_STATUS ∧ g.lo ≤ g.hi) (k : Nat) :
      (u.put f i v).get g k = u.get g k := by
    refine get_put_other u f g i k v ?_
    by_cases hs : f.reg = .SEG_STATUS
    · exact .inr ⟨hapart hs g hg, hfield.2⟩
    · exact .inl fun hc => hs (hc.1.symm.trans hfield.1)
  refine ⟨⟨h.beside, fun r k hk => ?_, fun k => (hget (by decide) (by decide) k).trans (h.babble k)⟩,
    fun k => (hget (g := .SEG_STATUS_STATE) (by decide) (by decide) k).trans (h.state k)⟩
  exact (rd_wr_other u _ fun hc : r = f.reg ∧ k = i => hk (hc.1 ▸ hmem)).trans (h.words r k hk)

theorem SegmentServes.each {α : Type} (h : SegmentServes s u) (l : List α) (f : State → α → State)
    (hf : ∀ u a, SegmentServes s u → SegmentServes s (f u a)) : SegmentServes s (u.each l f) := by
  induction l generalizing u with
  | nil => exact h
  | cons a l ih => exact ih (hf u a h)

theorem SegmentServes.setSeg (h : SegmentServes s u) (p : Nat) (g : Seg) : SegmentServes s (u.setSeg p g) := h.update rfl rfl

theorem SegmentServes.commitEnd (h : SegmentServes s u) (p : Nat) : SegmentServes s (u.commitEnd p) :=
  h.update (by rw [commitEnd_rest]; rfl) (by rw [commitEnd_rest])

theorem SegmentServes.burstEnd (h : SegmentServes s u) (p : Nat) : SegmentServes s (u.burstEnd p) := (h.commitEnd p).setSeg p _

theorem SegmentServes.plcaStop (h : SegmentServes s u) (p : Nat) (line : Bool) : SegmentServes s (u.plcaStop p line) :=
  (((h.put (by decide) p _).put (by decide) p _).burstEnd p).setSeg p _

theorem SegmentServes.showTries (h : SegmentServes s u) (p n : Nat) : SegmentServes s (u.showTries p n) := by
  unfold State.showTries
  split
  · exact (h.put (by decide) p _).put (by decide) p _
  · exact h

theorem SegmentServes.setCand (h : SegmentServes s u) (p : Nat) (c : Option Copy) : SegmentServes s (u.setCand p c) :=
  SegmentServes.put (u := { u with cand := tput none u.cand p c }) (h.update rfl rfl) (by decide) p _

theorem SegmentServes.drrRest (h : SegmentServes s u) (p k : Nat) : SegmentServes s (u.drrRest p k) := by
  unfold State.drrRest
  split
  · exact h
  · exact (h.put (by decide) _ _).put (by decide) _ _

theorem SegmentServes.setQueue (h : SegmentServes s u) (q : Nat) (l : List Copy) : SegmentServes s (u.setQueue q l) :=
  SegmentServes.drrRest (u := { u with queues := tput [] u.queues q l, qUsed := if l.isEmpty then u.qUsed else tput false u.qUsed q true })
    (h.update rfl rfl) _ _

theorem SegmentServes.returnCand (h : SegmentServes s u) (p : Nat) : SegmentServes s (u.returnCand p) := by
  cases hc : u.candOf p with
  | none => simpa only [State.returnCand, hc] using h
  | some c => rw [returnCand_cand hc]; exact ((h.setQueue _ _).setCand p none).showTries p 0

theorem SegmentServes.serviceCand (h : SegmentServes s u) (p : Nat) : SegmentServes s (u.serviceCand p) := by
  unfold State.serviceCand
  split
  · split
    · exact h.returnCand p
    · exact h
  · exact h

theorem SegmentServes.add64 (h : SegmentServes s u) {lo hi : Reg} (hlo : lo ∈ segmentRegs ∧ lo ≠ .SEG_STATUS)
    (hhi : hi ∈ segmentRegs ∧ hi ≠ .SEG_STATUS) (i n : Nat) : SegmentServes s (u.add64 lo hi i n) := (h.wr hlo i _).wr hhi i _

theorem SegmentServes.beacon (h : SegmentServes s u) (p : Nat) : SegmentServes s (u.beacon p) := by
  have hbegun : SegmentServes s (let u1 := { u with shaper := tput none u.shaper (regKey .SEG_PLCA p) none }
      if u1.get .MAC_CFG_LOOP p = 1 then u1 else u1.emit (.beacon p)) := by
    dsimp only
    split <;> exact h.update rfl rfl
  exact (((((hbegun.add64 (by decide) (by decide) p 1).put (by decide) p _).put (by decide) p _).burstEnd p).setSeg p _)

theorem SegmentServes.settleV (h : SegmentServes s u) (p : Nat) : SegmentServes s (u.settleV p) := by
  refine h.each _ _ fun u k hu => ?_
  dsimp only
  split
  · split
    · exact hu.put (by decide) _ _
    · exact hu
  · exact hu

end Sys2Proof.Machine
end

section
/-! CSMA/CD: the attempt, the collision and the backoff's end (R134, R143; log 42). -/
namespace Sys2Proof.Machine

variable {s : State} {p : Nat} {c : Copy}

/-! An attempt (R134, R262). -/

/-- An attempt is made: the port contends, no backoff runs, and its MAC is free. -/
def State.csmaTries (s : State) (p : Nat) : Prop := s.csmaPort p = true ∧ s.get .SEG_TXSTATE_BACKOFF p = 0 ∧ s.txFree p = true

theorem exec_csmaAttempt (hp : p < 1024) (hup : s.up 2 = true) (w : Bool) :
    exec (.csmaAttempt p w) s = s.become (s.csmaAttempt p w) := runOn_up _ hp hup

theorem csmaAttempt_waits (h : ¬s.csmaTries p ∨ s.candOf p = none) (w : Bool) : s.csmaAttempt p w = s := by
  unfold State.csmaAttempt
  split
  · rfl
  · next htest =>
    have htries : s.csmaTries p := by simpa [State.csmaTries, and_assoc] using htest
    rw [h.resolve_left fun hn => hn htries]

theorem csmaAttempt_cand (h : s.csmaTries p) (hc : s.candOf p = some c) (w : Bool) : s.csmaAttempt p w =
    if s.candReady p c = true then (if w = true ∧ s.get .SEG_TXSTATE_ATTEMPTS p = 0 then s.inc .SEG_DEFERRED_COUNT p else s).startCand p c
    else s.candNoFit p c := by
  obtain ⟨hport, hback, hfree⟩ := h
  cases hr : s.candReady p c <;> simp [State.csmaAttempt, hport, hback, hfree, hc, hr]

/-! A collision (R134, R139, R143). -/

/-- The port hears a collision. -/
def State.csmaHears (s : State) (p : Nat) : Prop := s.halfDuplex p = true ∧ s.get .MAC_CFG_LOOP p ≠ 1

/-- The transmission has ended in a jam. -/
def State.jammed (s : State) (p : Nat) : State := ((s.setTx p none).emit (.jam p)).burstEnd p

/-- The copy that collided is the candidate again. -/
def State.contends (s : State) (p : Nat) (c : Copy) : State := (s.returnCand p).newCand p { c with tries := c.tries + 1 }

/-- The copy ends after its collision, counted in `f`. -/
def State.abandons (s : State) (p : Nat) (c : Copy) (f : Fld) : State :=
  ((s.inc f p).endCopy c none).put .SEG_TXSTATE_ATTEMPTS p 0

theorem exec_csmaCollision (hp : p < 1024) (hup : s.up 2 = true) (late : Bool) :
    exec (.csmaCollision p late) s = s.become (s.collide p late) := runOn_up _ hp hup

theorem collide_unheard (h : ¬s.csmaHears p ∨ (s.txOf p).bind (·.copy) = none) (late : Bool) : s.collide p late = s := by
  unfold State.collide
  split
  · rfl
  · next htest =>
    have hhears : s.csmaHears p := by simpa [State.csmaHears] using htest
    rw [h.resolve_left fun hn => hn hhears]

theorem plcaPort_jammed (s : State) (p : Nat) : (s.jammed p).plcaPort p = s.plcaPort p := by
  rw [State.jammed, burstEnd_rest]; rfl

/-- A late collision ends the copy. -/
theorem collide_late (h : s.csmaHears p) (hc : (s.txOf p).bind (·.copy) = some c) (hplca : s.plcaPort p = false) :
    s.collide p true = ((s.jammed p).abandons p c .SEG_LATE_COLL_COUNT).toNormalEnd p := by
  obtain ⟨hhalf, hloop⟩ := h
  have hplca' : (((s.setTx p none).emit (.jam p)).burstEnd p).plcaPort p = false := (plcaPort_jammed s p).trans hplca
  simp only [State.collide, hhalf, beq_false_of_ne hloop, hc, hplca', Bool.not_true, Bool.not_false, Bool.or_self, Bool.and_self,
    Bool.false_eq_true, if_false, if_true]
  rfl

theorem recand_eq (s : State) (p : Nat) (c : Copy) : s.recand p { c with tries := c.tries + 1 } =
    if (s.contends p c).slotOpen p = true then s.contends p c else (s.contends p c).returnCand p := rfl

/-- A backoff runs for the copy that contends again, and none where the closed slot sent it back to its queue. -/
theorem backoff_recand (s : State) (p : Nat) (c : Copy) :
    (let x := s.recand p { c with tries := c.tries + 1 }
     if (x.candOf p).isNone = true then x else (x.put .SEG_TXSTATE_BACKOFF p (x.free % 2 ^ min (c.tries + 1) 10)).used) =
    if (s.contends p c).slotOpen p = true
    then ((s.contends p c).put .SEG_TXSTATE_BACKOFF p ((s.contends p c).free % 2 ^ min (c.tries + 1) 10)).used
    else (s.contends p c).returnCand p := by
  rw [recand_eq]
  cases h : (s.contends p c).slotOpen p
  · rw [if_neg Bool.false_ne_true]; exact if_pos (by rw [candOf_returnCand]; rfl)
  · rw [if_pos rfl]; exact if_neg (by rw [State.contends, candOf_newCand]; exact Bool.false_ne_true)

/-- Any other collision is counted; the 16th attempt ends the copy, and after an earlier one it contends again (R134). -/
theorem collide_csma (h : s.csmaHears p) (hc : (s.txOf p).bind (·.copy) = some c) (hplca : s.plcaPort p = false) :
    s.collide p false =
    let u := (s.jammed p).inc .SEG_COLLISIONS_COUNT p
    let again := u.contends p c
    if c.tries + 1 = 16 then u.abandons p c .SEG_EXCESS_COLL_COUNT
    else if again.slotOpen p = true then (again.put .SEG_TXSTATE_BACKOFF p (again.free % 2 ^ min (c.tries + 1) 10)).used
    else again.returnCand p := by
  obtain ⟨hhalf, hloop⟩ := h
  have hplca' : (((s.setTx p none).emit (.jam p)).burstEnd p).plcaPort p = false := (plcaPort_jammed s p).trans hplca
  simp only [State.collide, hhalf, beq_false_of_ne hloop, hc, hplca', backoff_recand, Bool.not_true, Bool.or_self, Bool.false_and,
    Bool.false_or, Bool.false_eq_true, if_false]
  rfl

/-- Under PLCA a collision is never late, and is a violation of opportunity 0 (R139, R143). -/
theorem collide_plca (h : s.csmaHears p) (hc : (s.txOf p).bind (·.copy) = some c) (hplca : s.plcaPort p = true) (late : Bool) :
    s.collide p late =
    let u := (s.jammed p).inc .SEG_COLLISIONS_COUNT p
    let again := u.contends p c
    (if c.tries + 1 = 16 then u.abandons p c .SEG_EXCESS_COLL_COUNT
     else if again.slotOpen p = true then again else again.returnCand p).violation p 0 := by
  obtain ⟨hhalf, hloop⟩ := h
  have hplca' : (((s.setTx p none).emit (.jam p)).burstEnd p).plcaPort p = true := (plcaPort_jammed s p).trans hplca
  simp only [State.collide, hhalf, beq_false_of_ne hloop, hc, hplca', Bool.not_true, Bool.or_self, Bool.and_false, Bool.true_or,
    Bool.false_eq_true, if_false, if_true]
  rfl

theorem exec_backoffExpire (hp : p < 1024) (hup : s.up 2 = true) :
    exec (.backoffExpire p) s = s.become (if s.onLane p then s.put .SEG_TXSTATE_BACKOFF p 0 else s) :=
  runOn_up (fun s => if s.onLane p then s.put .SEG_TXSTATE_BACKOFF p 0 else s) hp hup

/-- Settles O29: the attempt by the candidate, the collision by its place, the count of attempts and the slot. -/
theorem collisionBacksOffOrEnds : Obligations.CollisionBacksOffOrEnds := by
  intro p w late x c s hp hup tries hears s0 s1 a again gone excess
  rw [exec_csmaAttempt hp hup, exec_csmaCollision hp hup, exec_backoffExpire hp hup]
  refine ⟨fun h => ?_, fun h hc => ⟨fun hr => ?_, fun hr => ?_⟩, fun h => ?_, fun h hx hcopy => ?_, ?_⟩
  · rw [csmaAttempt_waits h]; rfl
  · rw [csmaAttempt_cand h hc, if_pos hr]; rfl
  · rw [csmaAttempt_cand h hc, if_neg (by rw [hr]; exact Bool.false_ne_true)]; rfl
  · rw [collide_unheard h]; rfl
  · have hc : (s.txOf p).bind (·.copy) = some c := by rw [hx]; exact hcopy
    refine ⟨fun hplca => ⟨fun hlate => ?_, fun hlate h16 => ?_, fun hlate h16 hopen => ?_, fun hlate h16 hshut => ?_⟩, fun hplca => ?_⟩
    · rw [hlate, collide_late h hc hplca]; rfl
    · rw [hlate]
      exact congrArg s.become ((collide_csma h hc hplca).trans (if_pos h16))
    · rw [hlate]
      exact ⟨again.free % 2 ^ min a 10, Nat.mod_lt _ (Nat.two_pow_pos _),
        congrArg s.become ((collide_csma h hc hplca).trans ((if_neg h16).trans (if_pos hopen)))⟩
    · rw [hlate]
      have hclosed : ¬again.slotOpen p = true := by rw [hshut]; exact Bool.false_ne_true
      exact congrArg s.become ((collide_csma h hc hplca).trans ((if_neg h16).trans (if_neg hclosed)))
    · exact congrArg s.become (collide_plca h hc hplca late)
  · rw [become_ite]; rfl

end Sys2Proof.Machine
end

section
/-! PLCA cycles: the BEACON, the opportunities, carrier and the burst (R136 to R143, R151; log 24). -/
namespace Sys2Proof.Machine

variable {s : State} {p : Nat} {c : Copy}

/-! The BEACON (R136, R137). -/

/-- A 64-bit counter after an increment (R15, R16). -/
theorem count64_add64 (s : State) {lo hi : Reg} (h : lo ≠ hi) (i n : Nat) :
    (s.add64 lo hi i n).count64 lo hi i = (s.count64 lo hi i + n) % 2 ^ 64 := by
  have hlow : (s.add64 lo hi i n).rd lo i = word (s.count64 lo hi i + n) :=
    (rd_wr_other _ _ fun hc => h hc.1).trans (rd_wr_same _ _ _ _)
  have hhigh : (s.add64 lo hi i n).rd hi i = word ((s.count64 lo hi i + n) >>> 32) := rd_wr_same _ _ _ _
  rw [State.count64, hlow, hhigh]
  simp only [word, BitVec.toNat_ofNat, Nat.shiftRight_eq_div_pow]
  omega

/-- A BEACON goes out with the written parameters in force. -/
def State.beaconOut (s : State) (p : Nat) : State :=
  let s1 := { s with shaper := tput none s.shaper (regKey .SEG_PLCA p) none }
  if s1.get .MAC_CFG_LOOP p = 1 then s1 else s1.emit (.beacon p)

theorem beaconOut_rest (s : State) (p : Nat) : s.beaconOut p =
    { s with shaper := tput none s.shaper (regKey .SEG_PLCA p) none
             out := (if s.get .MAC_CFG_LOOP p = 1 then [] else [.beacon p]) ++ s.out } := by
  unfold State.beaconOut
  show (if s.get .MAC_CFG_LOOP p = 1 then _ else _) = _
  split <;> rfl

/-- The new cycle is counted and runs, and no opportunity has begun. -/
def State.cycleShown (u : State) (p : Nat) : State :=
  ((u.add64 .SEG_CYCLES_LO .SEG_CYCLES_HI p 1).put .SEG_STATUS_CUR_ID p 0xFF).put .SEG_STATUS_PLCA_ACTIVE p 1

theorem out_cycleShown (u : State) (p : Nat) : (u.cycleShown p).out = u.out := by
  rw [State.cycleShown, put_out, put_out, State.add64, wr_out, wr_out]

theorem seg_cycleShown (u : State) (p : Nat) : (u.cycleShown p).seg = u.seg := by
  rw [State.cycleShown, put_seg, put_seg, State.add64, wr_seg, wr_seg]

theorem shaper_cycleShown (u : State) (p : Nat) : (u.cycleShown p).shaper = u.shaper := by
  rw [State.cycleShown, put_shaper, put_shaper, State.add64, wr_shaper, wr_shaper]

/-- A cycle has begun with a BEACON. -/
def State.cycleBegun (s : State) (p : Nat) : State := (s.beaconOut p).cycleShown p

theorem beacon_eq (s : State) (p : Nat) : s.beacon p =
    ((s.cycleBegun p).burstEnd p).setSeg p { ((s.cycleBegun p).burstEnd p).segOf p with burst := 0, carrier := none, plcaEn := true } := rfl

theorem exec_plcaBeacon (hp : p < 1024) (hup : s.up 2 = true) : exec (.plcaBeacon p) s = s.become (s.plcaBeacon p) := runOn_up _ hp hup

theorem commitDrop_cycleBegun (s : State) (p : Nat) : (s.cycleBegun p).commitDrop p = s.commitDrop p := by
  have hseg : (s.cycleBegun p).seg = s.seg := by rw [State.cycleBegun, seg_cycleShown, beaconOut_rest]
  rw [State.commitDrop, State.segOf, hseg, State.commitDrop, State.segOf]

theorem out_beacon (s : State) (p : Nat) :
    (s.beacon p).out = s.commitDrop p ++ (if s.get .MAC_CFG_LOOP p = 1 then [] else [.beacon p]) ++ s.out := by
  have hout : (s.cycleBegun p).out = (if s.get .MAC_CFG_LOOP p = 1 then [] else [.beacon p]) ++ s.out := by
    rw [State.cycleBegun, out_cycleShown, beaconOut_rest]
  rw [beacon_eq, setSeg_out, burstEnd_rest]
  dsimp only
  rw [commitDrop_cycleBegun, hout, List.append_assoc]

/-- The end of the burst and the medium's side move no register. -/
theorem rd_beacon (s : State) (p : Nat) (r : Reg) (i : Nat) : (s.beacon p).rd r i = (s.cycleBegun p).rd r i := by
  rw [beacon_eq, burstEnd_rest, rd_setSeg, State.rd, State.rd]

theorem curId_beacon (s : State) (p : Nat) : (s.beacon p).get .SEG_STATUS_CUR_ID p = 0xFF := by
  rw [State.get, rd_beacon]
  exact (get_put_other _ .SEG_STATUS_PLCA_ACTIVE .SEG_STATUS_CUR_ID _ _ _ (.inr (by decide))).trans
    (get_put_same _ .SEG_STATUS_CUR_ID (by decide) _ _)

theorem plcaActive_beacon (s : State) (p : Nat) : (s.beacon p).flag .SEG_STATUS_PLCA_ACTIVE p = true := by
  rw [State.flag, State.get, rd_beacon]
  exact flag_put_one _ .SEG_STATUS_PLCA_ACTIVE (by decide) p

theorem cycles_beacon (s : State) (p : Nat) : (s.beacon p).count64 .SEG_CYCLES_LO .SEG_CYCLES_HI p =
    (s.count64 .SEG_CYCLES_LO .SEG_CYCLES_HI p + 1) % 2 ^ 64 := by
  have hput {r : Reg} (hr : r ≠ .SEG_STATUS) : (s.beacon p).rd r p = ((s.beaconOut p).add64 .SEG_CYCLES_LO .SEG_CYCLES_HI p 1).rd r p := by
    rw [rd_beacon]
    exact (rd_wr_other _ _ fun hc => hr hc.1).trans (rd_wr_other _ _ fun hc => hr hc.1)
  have hout : (s.beaconOut p).count64 .SEG_CYCLES_LO .SEG_CYCLES_HI p = s.count64 .SEG_CYCLES_LO .SEG_CYCLES_HI p := by
    rw [beaconOut_rest]; rfl
  rw [State.count64, hput (by decide), hput (by decide), ← hout, ← count64_add64 _ (by decide), State.count64]

/-- Written parameters take effect with the cycle (R136). -/
theorem inForce_beacon (s : State) (p : Nat) : (s.beacon p).inForce .SEG_PLCA p = s.rd .SEG_PLCA p := by
  have hwritten : tget none (s.beacon p).shaper (regKey .SEG_PLCA p) = none := by
    rw [beacon_eq, setSeg_shaper, burstEnd_rest]
    dsimp only
    rw [State.cycleBegun, shaper_cycleShown, beaconOut_rest]
    exact tget_tput_same none s.shaper _ none
  rw [inForce_written hwritten]
  exact ((SegmentServes.refl s).beacon p).words _ _ (by decide)

/-! The opportunities (R137, R146). -/

/-- An opportunity ends: a cycle runs, one has begun, and Ocora sends nothing. -/
def State.oppEnds (s : State) (p : Nat) : Prop := s.cycleRuns p = true ∧ s.get .SEG_STATUS_CUR_ID p ≠ 0xFF ∧ s.txOf p = none

/-- The opportunity is over, with its burst and its carrier. -/
def State.oppOver (s : State) (p : Nat) : State :=
  (s.burstEnd p).setSeg p { s.segOf p with burst := 0, mine := false, commit := false, carrier := none, deaf := false }

/-- What follows an opportunity: the next one, a BEACON, or in TO_SERVICE the end of the cycles. -/
def State.oppNext (s : State) (p : Nat) : State :=
  if s.get .SEG_STATUS_CUR_ID p + 1 < Fld.SEG_PLCA_NODE_COUNT.of (s.inForce .SEG_PLCA p)
  then (s.oppOver p).put .SEG_STATUS_CUR_ID p (s.get .SEG_STATUS_CUR_ID p + 1)
  else if s.segState p = segToService then (s.oppOver p).plcaStop p true else s.oppOver p

theorem exec_plcaOppEnd (hp : p < 1024) (hup : s.up 2 = true) : exec (.plcaOppEnd p) s = s.become (s.nextOpportunity p) :=
  runOn_up _ hp hup

theorem exec_plcaToTimerExpire (hp : p < 1024) (hup : s.up 2 = true) : exec (.plcaToTimerExpire p) s =
    s.become (if (s.segOf p).carrier.isSome then s else s.nextOpportunity p) :=
  runOn_up (fun s => if (s.segOf p).carrier.isSome then s else s.nextOpportunity p) hp hup

theorem oppOver_rest (s : State) (p : Nat) : s.oppOver p = { s with seg := (s.oppOver p).seg, out := (s.oppOver p).out } := by
  rw [State.oppOver, burstEnd_rest]; rfl

theorem nextOpportunity_stays (h : ¬s.oppEnds p) : s.nextOpportunity p = s := by
  refine if_pos ?_
  by_contra hc
  exact h (by simpa [State.oppEnds, and_assoc] using hc)

theorem nextOpportunity_ends (h : s.oppEnds p) : s.nextOpportunity p = s.oppNext p := by
  obtain ⟨hruns, hid, hfree⟩ := h
  have hover : (s.burstEnd p).setSeg p { (s.burstEnd p).segOf p with burst := 0, carrier := none, deaf := false } = s.oppOver p := by
    rw [segOf_burstEnd]; rfl
  have hforce : (s.oppOver p).inForce .SEG_PLCA p = s.inForce .SEG_PLCA p := by rw [oppOver_rest]; rfl
  have hstate : (s.oppOver p).segState p = s.segState p := by rw [oppOver_rest]; rfl
  simp only [State.nextOpportunity, hruns, beq_false_of_ne hid, hfree, Bool.not_true, Option.isSome_none, Bool.or_self,
    Bool.false_eq_true, if_false, hover, hforce, hstate]
  rfl

theorem SegmentServes.oppNext (s : State) (p : Nat) : SegmentServes s (s.oppNext p) := by
  have hover : SegmentServes s (s.oppOver p) := ((SegmentServes.refl s).burstEnd p).setSeg p _
  unfold State.oppNext
  split
  · exact hover.put (by decide) p _
  · split
    · exact hover.plcaStop p true
    · exact hover

theorem outside_nextOpportunity (s : State) (p : Nat) : s.outside (s.nextOpportunity p) = s.nextOpportunity p := by
  by_cases h : s.oppEnds p
  · rw [nextOpportunity_ends h]; exact (SegmentServes.oppNext s p).outside
  · rw [nextOpportunity_stays h]; rfl

/-! Carrier, the burst and the BEACON of another station (R132, R139, R140, R143). -/

theorem exec_plcaCarrierRise (hp : p < 1024) (hup : s.up 2 = true) : exec (.plcaCarrierRise p) s = s.become (s.carrierRise p) :=
  runOn_up _ hp hup

theorem carrierRise_eq (s : State) (p : Nat) : s.carrierRise p =
    if s.plcaPort p = true ∧ s.onLane p = true ∧ s.get .MAC_CFG_LOOP p ≠ 1 then s.setSeg p (if s.enabled p = true
      then { s.segOf p with carrier := some (s.get .SEG_STATUS_CUR_ID p), deaf := false }
      else { s.segOf p with carrier := none, deaf := true }) else s := by
  by_cases h : s.plcaPort p = true ∧ s.onLane p = true ∧ s.get .MAC_CFG_LOOP p ≠ 1
  · obtain ⟨hplca, hlane, hloop⟩ := h
    cases hen : s.enabled p <;> simp [State.carrierRise, hplca, hlane, hloop, hen]
  · rw [if_neg h]
    exact if_pos (by simpa [imp_iff_not_or, or_assoc] using h)

theorem exec_burstTimerExpire (hp : p < 1024) (hup : s.up 2 = true) : exec (.burstTimerExpire p) s = s.become (s.burstEnd p) :=
  runOn_up _ hp hup

theorem exec_foreignBeacon (hp : p < 1024) (hup : s.up 2 = true) : exec (.foreignBeacon p) s = s.become (s.foreignBeacon p) :=
  runOn_up _ hp hup

theorem foreignBeacon_eq (s : State) (p : Nat) : s.foreignBeacon p =
    if s.plcaPort p = true ∧ s.onLane p = true ∧ s.halfDuplex p = true ∧ s.segState p ≠ segDisabled ∧ s.get .MAC_CFG_LOOP p ≠ 1
    then (s.inc .SEG_PLCA_ERR_COUNT p).violation p (s.get .SEG_STATUS_CUR_ID p) else s := by
  by_cases h : s.plcaPort p = true ∧ s.onLane p = true ∧ s.halfDuplex p = true ∧ s.segState p ≠ segDisabled ∧ s.get .MAC_CFG_LOOP p ≠ 1
  · rw [if_pos h]
    exact if_neg (by simp [h])
  · rw [if_neg h]
    exact if_pos (by simpa [imp_iff_not_or, or_assoc] using h)

/-! Ocora's own opportunity (R139, R141). -/

/-- Opportunity 0 comes: cycles run. -/
def State.ownRuns (s : State) (p : Nat) : Prop := s.plcaRuns p = true ∧ s.flag .SEG_STATUS_PLCA_ACTIVE p = true

/-- Opportunity 0 has begun, and a first frame may start. -/
def State.ownBegun (s : State) (p : Nat) : State :=
  let s1 := (s.put .SEG_STATUS_CUR_ID p 0).commitEnd p
  s1.setSeg p { s1.segOf p with burst := 0, mine := true, carrier := none }

/-- No frame of Ocora's starts in its opportunity any more. -/
def State.ownReleased (u : State) (p : Nat) : State := u.setSeg p { u.segOf p with mine := false }

theorem exec_plcaOwnOpportunity (hp : p < 1024) (hup : s.up 2 = true) :
    exec (.plcaOwnOpportunity p) s = s.become (s.ownOpportunity p) := runOn_up _ hp hup

theorem ownOpportunity_passes (h : ¬s.ownRuns p) : s.ownOpportunity p = s := by
  refine if_pos ?_
  by_contra hc
  exact h (by simpa [State.ownRuns] using hc)

/-- The opportunity's begin leaves the candidate and the queues. -/
theorem copies_ownBegun (s : State) (p : Nat) :
    (s.ownBegun p).candOf p = s.candOf p ∧ (s.ownBegun p).portCopies p = s.portCopies p := by
  unfold State.ownBegun
  dsimp only
  rw [commitEnd_rest]
  exact ⟨rfl, rfl⟩

/-- The copy that may start in the opportunity. -/
def State.ownCand (s : State) (p : Nat) : Option Copy := if (s.ownBegun p).txFree p then (s.ownBegun p).candOf p else none

theorem ownOpportunity_runs (h : s.ownRuns p) : s.ownOpportunity p = (s.ownCand p).elim
    (if ((s.ownBegun p).portCopies p).isEmpty && ((s.ownBegun p).candOf p).isNone then (s.ownBegun p).ownReleased p
      else ((s.ownBegun p).ownReleased p).inc .SEG_OWN_OPP_IDLE_COUNT p)
    fun c => if (s.ownBegun p).candReady p c = true then (s.ownBegun p).startCand p c
      else ((((s.ownBegun p).candNoFit p c).returnCand p).ownReleased p).inc .SEG_OWN_OPP_IDLE_COUNT p := by
  obtain ⟨hruns, hactive⟩ := h
  refine (if_neg (by rw [hruns, hactive]; exact Bool.false_ne_true)).trans ?_
  dsimp only
  split
  · next c hsel =>
    rw [show s.ownCand p = some c from hsel]; rfl
  · next hsel =>
    rw [show s.ownCand p = none from hsel]; rfl

theorem ownOpportunity_cand (h : s.ownRuns p) (hfree : (s.ownBegun p).txFree p = true) (hc : s.candOf p = some c) :
    s.ownOpportunity p = if (s.ownBegun p).candReady p c = true then (s.ownBegun p).startCand p c
      else ((((s.ownBegun p).candNoFit p c).returnCand p).ownReleased p).inc .SEG_OWN_OPP_IDLE_COUNT p := by
  have hcand : s.ownCand p = some c := by rw [State.ownCand, if_pos hfree, (copies_ownBegun s p).1, hc]
  rw [ownOpportunity_runs h, hcand, Option.elim_some]

theorem ownOpportunity_empty (h : s.ownRuns p) (hnone : (s.ownBegun p).txFree p = false ∨ s.candOf p = none) :
    s.ownOpportunity p = if (s.portCopies p).isEmpty = true ∧ s.candOf p = none then (s.ownBegun p).ownReleased p
      else ((s.ownBegun p).ownReleased p).inc .SEG_OWN_OPP_IDLE_COUNT p := by
  obtain ⟨hslot, hcopies⟩ := copies_ownBegun s p
  have hcand : s.ownCand p = none := by
    rw [State.ownCand, hslot]
    rcases hnone with hbusy | hempty
    · rw [hbusy]; rfl
    · rw [hempty, ite_self]
  rw [ownOpportunity_runs h, hcand, Option.elim_none, hslot, hcopies]
  simp only [Bool.and_eq_true, Option.isNone_iff_eq_none]

/-- Settles O30: the BEACON by what it begins, the opportunities by their order, Ocora's own by its candidate. -/
theorem plcaCycleRunsItsOpportunities : Obligations.PlcaCycleRunsItsOpportunities := by
  constructor
  · intro p s hp hup k ends g dropped u after
    rw [exec_plcaBeacon hp hup, exec_plcaOppEnd hp hup, exec_plcaToTimerExpire hp hup, exec_plcaCarrierRise hp hup,
      exec_burstTimerExpire hp hup]
    have hafter : s.nextOpportunity p = after := by
      by_cases h : s.oppEnds p
      · exact (nextOpportunity_ends h).trans (if_pos h).symm
      · exact (nextOpportunity_stays h).trans (if_neg h).symm
    have hout : s.outside after = after := hafter ▸ outside_nextOpportunity s p
    refine ⟨fun h => ?_, fun h => ⟨s.beacon p, ?_, rfl, out_beacon s p, curId_beacon s p, plcaActive_beacon s p, inForce_beacon s p,
      cycles_beacon s p⟩, ?_, ?_, ?_, s.burstEnd p, ?_, burstEnd_rest s p, segOf_burstEnd s p, fun j hj => segOf_burstEnd_other hj⟩
    · rw [State.plcaBeacon, h]; rfl
    · rw [State.plcaBeacon, if_pos h]
      exact congrArg Host.Outcome.next ((SegmentServes.refl s).beacon p).outside
    · rw [hafter, State.become, hout]
    · rw [hafter, State.become, outside_ite, hout]; rfl
    · rw [carrierRise_eq, become_ite]; rfl
    · exact congrArg Host.Outcome.next ((SegmentServes.refl s).burstEnd p).outside
  · intro p c s hp hup runs s1 mine released
    rw [exec_plcaOwnOpportunity hp hup, exec_foreignBeacon hp hup]
    refine ⟨fun h => ?_, fun h hfree hc => ⟨fun hr => ?_, fun hr => ?_⟩, fun h hnone => ?_, ?_⟩
    · rw [ownOpportunity_passes h]; rfl
    · rw [ownOpportunity_cand h hfree hc]
      exact congrArg s.become (if_pos hr)
    · rw [ownOpportunity_cand h hfree hc]
      exact congrArg s.become (if_neg (Bool.eq_false_iff.1 hr))
    · rw [ownOpportunity_empty h hnone]; rfl
    · rw [foreignBeacon_eq, become_ite]

end Sys2Proof.Machine
end

section
/-! The operating state of a field port follows its levels (R131 to R133, R144 to R147, R257). -/
namespace Sys2Proof.Machine

variable {s u v : State} {p : Nat}

/-! Entering a state (R137, R146). -/

/-- Entering a state moves the state itself and what serving the segment moves. -/
theorem enterSeg_serves (s : State) (p new : Nat) : SegmentServes (s.put .SEG_STATUS_STATE p new) (s.enterSeg p new) := by
  have h := SegmentServes.refl (s.put .SEG_STATUS_STATE p new)
  have hstop : SegmentServes (s.put .SEG_STATUS_STATE p new) (if new = segToService then (s.put .SEG_STATUS_STATE p new).burstEnd p
      else (s.put .SEG_STATUS_STATE p new).plcaStop p false) := by
    split
    · exact h.burstEnd p
    · exact h.plcaStop p false
  unfold State.enterSeg
  dsimp only
  generalize (if new = segToService then _ else _) = x at hstop ⊢
  have hcand : SegmentServes (s.put .SEG_STATUS_STATE p new) (if new = segToService ∨ new = segDisabled then x.returnCand p
      else x.serviceCand p) := by
    split
    · exact hstop.returnCand p
    · exact hstop.serviceCand p
  generalize (if new = segToService ∨ new = segDisabled then _ else _) = y at hcand ⊢
  split
  · exact hcand.beacon p
  · exact hcand

theorem OnSegment.enterSeg (h : OnSegment s u) (p new : Nat) : OnSegment s (u.enterSeg p new) := by
  have hstate : OnSegment u (u.put .SEG_STATUS_STATE p new) :=
    ⟨rfl, fun r i hr => rd_wr_other u _ fun hc => hr (hc.1 ▸ by decide), fun i => get_put_other u _ _ p i new (.inr (by decide))⟩
  exact (h.trans hstate).trans (enterSeg_serves u p new).toOnSegment

theorem segState_enterSeg (s : State) (p : Nat) {new : Nat} (h : new < 8) : (s.enterSeg p new).segState p = new :=
  ((enterSeg_serves s p new).state p).trans ((get_put_same s .SEG_STATUS_STATE (by decide) p new).trans (Nat.mod_eq_of_lt h))

/-- No candidate is held in TO_SERVICE or DISABLED. -/
theorem candOf_enterSeg (s : State) (p : Nat) {new : Nat} (h : new = segToService ∨ new = segDisabled) :
    (s.enterSeg p new).candOf p = none := by
  have hnormal : ¬(new = segNormal) := by rcases h with rfl | rfl <;> decide
  simp only [State.enterSeg, if_pos h, hnormal, false_and, if_false, candOf_returnCand]

/-! The end of TO_NORMAL (R146). -/

/-- TO_NORMAL ends here: it is the state of a local field port that sends nothing. -/
def State.normalEnds (s : State) (p : Nat) : Prop :=
  isTrunk p = false ∧ s.onLane p = true ∧ s.segState p = segToNormal ∧ s.txOf p = none

/-- The port is NORMAL again. -/
def State.normalAgain (s : State) (p : Nat) : State :=
  (((s.put .SEG_STATUS_FORCED p 0).settleV p).enterSeg p segNormal).put .SEG_TXSTATE_ATTEMPTS p 0

theorem toNormalEnd_stays (h : ¬s.normalEnds p) : s.toNormalEnd p = s := by
  refine if_neg fun hc => h ?_
  simpa [State.normalEnds] using hc

theorem toNormalEnd_ends (h : s.normalEnds p) : s.toNormalEnd p =
    if (s.normalAgain p).flag .SEG_CFG_SERVICE p then (s.normalAgain p).enterSeg p segToService else s.normalAgain p := by
  refine if_pos ?_
  simpa [State.normalEnds] using h

theorem OnSegment.normalAgain (s : State) (p : Nat) : OnSegment s (s.normalAgain p) := by
  have hsettled : SegmentServes s ((s.put .SEG_STATUS_FORCED p 0).settleV p) := ((SegmentServes.refl s).put (by decide) p 0).settleV p
  have hshown := (SegmentServes.refl (((s.put .SEG_STATUS_FORCED p 0).settleV p).enterSeg p segNormal)).put
    (f := .SEG_TXSTATE_ATTEMPTS) (by decide) p 0
  exact (hsettled.enterSeg p segNormal).trans hshown.toOnSegment

theorem segState_normalAgain (s : State) (p : Nat) : (s.normalAgain p).segState p = segNormal :=
  (get_put_other _ .SEG_TXSTATE_ATTEMPTS .SEG_STATUS_STATE p p 0 (.inl fun hc => absurd hc.1 (by decide))).trans
    (segState_enterSeg _ p (by decide))

theorem OnSegment.toNormalEnd (h : OnSegment s u) (p : Nat) : OnSegment s (u.toNormalEnd p) := by
  by_cases hend : u.normalEnds p
  · have hagain := h.trans (OnSegment.normalAgain u p)
    rw [toNormalEnd_ends hend]
    split
    · exact hagain.enterSeg p segToService
    · exact hagain
  · rwa [toNormalEnd_stays hend]

/-! The next state (R146). -/

theorem segEval_stays (h : s.segNext p = none) : s.segEval p = s := by simp only [State.segEval, h]

theorem segEval_moves {st : Nat} (h : s.segNext p = some st) : s.segEval p = (s.enterSeg p st).toNormalEnd p := by
  simp only [State.segEval, h]

/-- Only TO_NORMAL may end at once. -/
theorem segEval_enters {st : Nat} (h : s.segNext p = some st) (hst : st < 8) (hne : st ≠ segToNormal) : s.segEval p = s.enterSeg p st := by
  rw [segEval_moves h, toNormalEnd_stays]
  rintro ⟨-, -, hstate, -⟩
  exact hne ((segState_enterSeg s p hst).symm.trans hstate)

theorem OnSegment.segEval (h : OnSegment s u) (p : Nat) : OnSegment s (u.segEval p) := by
  cases hnext : u.segNext p with
  | none => rwa [segEval_stays hnext]
  | some st => rw [segEval_moves hnext]; exact (h.enterSeg p st).toNormalEnd p

theorem segNext_off (h : s.flag .SEG_CFG_EN p = false) : s.segNext p = if s.segState p = segDisabled then none else some segDisabled := by
  simp [State.segNext, h]

theorem segNext_disabled (hen : s.flag .SEG_CFG_EN p = true) (hlane : s.onLane p = true) (hst : s.segState p = segDisabled) :
    s.segNext p = if s.link p = false then none
      else some (if s.kind p = 0 ∧ s.flag .SEG_CFG_SERVICE p = true then segService else segNormal) := by
  cases hlink : s.link p <;> simp [State.segNext, hen, hlane, hst, hlink, and_comm]

theorem segNext_normal (hen : s.flag .SEG_CFG_EN p = true) (hlane : s.onLane p = true) (hkind : s.kind p = 0)
    (hst : s.segState p = segNormal) (hsvc : s.flag .SEG_CFG_SERVICE p = true) : s.segNext p = some segToService := by
  simp [State.segNext, hen, hlane, hkind, hst, hsvc, segNormal, segDisabled]

theorem segNext_toService (hen : s.flag .SEG_CFG_EN p = true) (hlane : s.onLane p = true) (hkind : s.kind p = 0)
    (hst : s.segState p = segToService) (hsvc : s.flag .SEG_CFG_SERVICE p = false) : s.segNext p = some segNormal := by
  simp [State.segNext, hen, hlane, hkind, hst, hsvc, segNormal, segDisabled, segToService]

theorem segNext_service (hen : s.flag .SEG_CFG_EN p = true) (hlane : s.onLane p = true) (hkind : s.kind p = 0)
    (hst : s.segState p = segService) (hsvc : s.flag .SEG_CFG_SERVICE p = false) : s.segNext p = some segToNormal := by
  simp [State.segNext, hen, hlane, hkind, hst, hsvc, segNormal, segDisabled, segToService, segService]

/-! A written SEG_CFG (R131, R146, R147). -/

/-- SEG_CFG as it is stored: ACCESS keeps its value while EN reads 1, and SERVICE_NODE takes neither 0 nor 255. -/
def State.cfgWord (s : State) (p : Nat) (w : Word) : Word :=
  let old := s.rd .SEG_CFG p
  let w1 := if wbit old 31 then Fld.SEG_CFG_ACCESS.into w (Fld.SEG_CFG_ACCESS.of old) else w
  let n := Fld.SEG_CFG_SERVICE_NODE.of w1
  if n = 0 ∨ n = 255 then Fld.SEG_CFG_SERVICE_NODE.into w1 (Fld.SEG_CFG_SERVICE_NODE.of old) else w1

/-- SEG_CFG has its new word, and the candidate that it bars is back in its queue. -/
def State.cfgTaken (s : State) (p : Nat) (w : Word) : State :=
  let s1 := s.wr .SEG_CFG p (s.cfgWord p w &&& 0xFEFF0000#32)
  if !wbit (s.cfgWord p w) 31 then s1.returnCand p else s1.serviceCand p

/-- LAST_VIOL_ID of a port enabled without PLCA is 0xFF (R143). -/
def State.cfgShown (s : State) (p : Nat) (w : Word) : State :=
  if wbit (s.cfgWord p w) 31 && !(s.cfgTaken p w).plcaPort p then (s.cfgTaken p w).put .SEG_STATUS_LAST_VIOL_ID p 0xFF else s.cfgTaken p w

theorem cfgTaken_serves (s : State) (p : Nat) (w : Word) :
    SegmentServes (s.wr .SEG_CFG p (s.cfgWord p w &&& 0xFEFF0000#32)) (s.cfgTaken p w) := by
  unfold State.cfgTaken
  dsimp only
  split
  · exact (SegmentServes.refl _).returnCand p
  · exact (SegmentServes.refl _).serviceCand p

theorem cfgShown_serves (s : State) (p : Nat) (w : Word) :
    SegmentServes (s.wr .SEG_CFG p (s.cfgWord p w &&& 0xFEFF0000#32)) (s.cfgShown p w) := by
  unfold State.cfgShown
  split
  · exact (cfgTaken_serves s p w).put (by decide) p _
  · exact cfgTaken_serves s p w

/-- Of a local port, the state follows what is written. -/
theorem segCfg_local (h : s.extended p = false) (w : Word) : s.segCfg p w = (s.cfgShown p w).segEval p := by
  have hext : (s.cfgTaken p w).extended p = false := ((cfgTaken_serves s p w).extended p).trans h
  exact if_neg (Bool.eq_false_iff.1 hext)

/-- A stored word keeps a field that its mask leaves whole. -/
theorem of_and_ones (f : Fld) (w m : Word) (h : m.extractLsb' f.lo f.width = BitVec.allOnes f.width) : f.of (w &&& m) = f.of w := by
  rw [Fld.of, BitVec.extractLsb'_and, h, BitVec.and_allOnes, Fld.of]

/-- The bits of SEG_CFG that are levels of the operating state. -/
def levelBits : List Fld := [.SEG_CFG_EN, .SEG_CFG_SERVICE]

/-- EN and SERVICE are stored as they are written. -/
theorem of_cfgWord {f : Fld} (hf : f ∈ levelBits) (s : State) (p : Nat) (w : Word) :
    f.of (s.cfgWord p w) = f.of w := by
  have hinto {g : Fld} (hg : g ∈ [Fld.SEG_CFG_ACCESS, .SEG_CFG_SERVICE_NODE]) (w : Word) (v : Nat) : f.of (g.into w v) = f.of w := by
    have hall : ∀ f ∈ levelBits, ∀ g ∈ [Fld.SEG_CFG_ACCESS, .SEG_CFG_SERVICE_NODE],
      (f.hi < g.lo ∨ g.hi < f.lo) ∧ f.lo ≤ f.hi := by decide
    exact of_into_other g f (hall f hf g hg).1 (hall f hf g hg).2 w v
  unfold State.cfgWord
  dsimp only
  split <;> split <;> simp only [hinto (g := .SEG_CFG_ACCESS) (by decide), hinto (g := .SEG_CFG_SERVICE_NODE) (by decide)]

theorem flag_cfgShown {f : Fld} (hf : f ∈ levelBits) (s : State) (p : Nat) (w : Word) :
    (s.cfgShown p w).flag f p = (f.of w != 0) := by
  have hall : ∀ f ∈ levelBits, f.reg = .SEG_CFG ∧
    (0xFEFF0000#32 : Word).extractLsb' f.lo f.width = BitVec.allOnes f.width := by decide
  obtain ⟨hreg, hmask⟩ := hall f hf
  rw [(cfgShown_serves s p w).flag (by rw [hreg]; decide), State.flag, State.get, hreg, rd_wr_same, of_and_ones f _ _ hmask, of_cfgWord hf]

theorem wbit_en (w : Word) : wbit w 31 = (Fld.SEG_CFG_EN.of w != 0) := by
  simp only [wbit, Nat.testBit, Fld.of, Fld.width, Fld.SEG_CFG_EN, BitVec.extractLsb'_toNat, Nat.one_and_eq_mod_two]

theorem candOf_cfgShown {w : Word} (h : Fld.SEG_CFG_EN.of w = 0) : (s.cfgShown p w).candOf p = none := by
  have hen : wbit (s.cfgWord p w) 31 = false := by rw [wbit_en, of_cfgWord (by decide), h]; rfl
  rw [State.cfgShown, hen, Bool.false_and, if_neg Bool.false_ne_true, State.cfgTaken, hen]
  exact candOf_returnCand _ p

/-! One bit of SEG_CFG written (R131, R146). -/

/-- The state with one bit of SEG_CFG written, before the operating state follows. -/
def State.bitShown (s : State) (p : Nat) (f : Fld) (b : Bool) : State := s.cfgShown p (f.into (s.rd .SEG_CFG p) (b2n b))

theorem extended_of_lane (h : s.onLane p = true) : s.extended p = false := by
  obtain ⟨htrunk, hlane⟩ : isTrunk p = false ∧ wbits (s.lane p) 31 30 = 1 := by simpa [State.onLane] using h
  rw [State.extended, htrunk, hlane]; rfl

theorem isTrunk_of_lane (h : s.onLane p = true) : isTrunk p = false := by
  rw [State.onLane, Bool.and_eq_true, Bool.not_eq_true'] at h
  exact h.1

theorem segBit_local (h : s.onLane p = true) (f : Fld) (b : Bool) : s.segBit p f b = (s.bitShown p f b).segEval p :=
  segCfg_local (extended_of_lane h) _

theorem bitShown_serves (s : State) (p : Nat) (f : Fld) (b : Bool) : ∃ w, SegmentServes (s.wr .SEG_CFG p w) (s.bitShown p f b) :=
  ⟨_, cfgShown_serves s p _⟩

/-- The bit reads as written. -/
theorem flag_bitShown {f : Fld} (hf : f ∈ levelBits) (s : State) (p : Nat) (b : Bool) :
    (s.bitShown p f b).flag f p = b := by
  have hall : ∀ f ∈ levelBits, (f.lo ≤ f.hi ∧ f.hi ≤ 31) ∧ f.width = 1 := by decide
  obtain ⟨hfield, hwidth⟩ := hall f hf
  rw [State.bitShown, flag_cfgShown hf, of_into_same f hfield, hwidth]
  cases b <;> rfl

/-- The other of the two bits stays. -/
theorem flag_bitShown_other {f g : Fld} (hf : f ∈ levelBits) (hg : g ∈ levelBits)
    (hne : g ≠ f) (s : State) (p : Nat) (b : Bool) : (s.bitShown p f b).flag g p = s.flag g p := by
  have hall : ∀ f ∈ levelBits, ∀ g ∈ levelBits, g ≠ f →
    (g.hi < f.lo ∨ f.hi < g.lo) ∧ g.lo ≤ g.hi ∧ g.reg = .SEG_CFG := by decide
  obtain ⟨hapart, hfield, hreg⟩ := hall f hf g hg hne
  rw [State.bitShown, flag_cfgShown hg, of_into_other f g hapart hfield, State.flag, State.get, hreg]

/-- What the operating state is judged by beside the two bits stays. -/
theorem bitShown_keeps (s : State) (p : Nat) (f : Fld) (b : Bool) :
    (s.bitShown p f b).segState p = s.segState p ∧ (s.bitShown p f b).onLane p = s.onLane p ∧
      (s.bitShown p f b).kind p = s.kind p ∧ (s.bitShown p f b).link p = s.link p ∧ (s.bitShown p f b).txOf p = s.txOf p := by
  obtain ⟨w, h⟩ := bitShown_serves s p f b
  have hrd {r : Reg} (hr : r ≠ .SEG_CFG) : (s.wr .SEG_CFG p w).rd r p = s.rd r p := rd_wr_other s w fun hc => hr hc.1
  refine ⟨(h.state p).trans ?_, h.onLane p, h.kind p, (h.flag (by decide) p).trans ?_, h.txOf p⟩
  · rw [State.segState, State.get, hrd (by decide)]; rfl
  · rw [State.flag, State.get, hrd (by decide)]; rfl

/-- The state that follows a bit is on the segment side of the state with SEG_CFG written. -/
theorem OnSegment.segBit (h : s.onLane p = true) (f : Fld) (b : Bool) : ∃ w, OnSegment (s.wr .SEG_CFG p w) (s.segBit p f b) := by
  obtain ⟨w, hw⟩ := bitShown_serves s p f b
  exact ⟨w, segBit_local h f b ▸ hw.toOnSegment.segEval p⟩

/-- Beside SEG_CFG, the port's other segment registers, its virtual times, its candidate and its queues, nothing changes. -/
theorem segBit_rest (h : s.onLane p = true) (f : Fld) (b : Bool) :
    s.segBit p f b = { s with regs := (s.segBit p f b).regs, queues := (s.segBit p f b).queues, qUsed := (s.segBit p f b).qUsed
                              cand := (s.segBit p f b).cand, seg := (s.segBit p f b).seg, shaper := (s.segBit p f b).shaper
                              out := (s.segBit p f b).out } ∧
      ∀ r i, r ∉ .SEG_CFG :: segmentRegs → (s.segBit p f b).rd r i = s.rd r i := by
  obtain ⟨w, hw⟩ := OnSegment.segBit h f b
  refine ⟨hw.rest, fun r i hr => (hw.words r i fun hc => hr (List.mem_cons_of_mem _ hc)).trans ?_⟩
  exact rd_wr_other s w fun hc => hr (hc.1 ▸ List.mem_cons_self)

theorem outside_segBit (h : s.onLane p = true) (f : Fld) (b : Bool) : s.outside (s.segBit p f b) = s.segBit p f b := by
  obtain ⟨w, hw⟩ := OnSegment.segBit h f b
  exact hw.outside

theorem flag_segBit {f : Fld} (hf : f ∈ levelBits) (h : s.onLane p = true) (b : Bool) :
    (s.segBit p f b).flag f p = b := by
  have hreg : f.reg ∉ segmentRegs := by
    have hall : ∀ f ∈ levelBits, f.reg ∉ segmentRegs := by decide
    exact hall f hf
  rw [segBit_local h, ((OnSegment.refl (s.bitShown p f b)).segEval p).flag hreg, flag_bitShown hf]

/-- EN leads out of DISABLED where LINK is 1. -/
theorem segState_enable (h : s.onLane p = true) (hst : s.segState p = segDisabled) : (s.segBit p .SEG_CFG_EN true).segState p =
    if s.link p = false then segDisabled else if s.kind p = 0 ∧ s.flag .SEG_CFG_SERVICE p = true then segService else segNormal := by
  obtain ⟨hstate, hlane, hkind, hlink, -⟩ := bitShown_keeps s p .SEG_CFG_EN true
  have hsvc : (s.bitShown p .SEG_CFG_EN true).flag .SEG_CFG_SERVICE p = s.flag .SEG_CFG_SERVICE p :=
    flag_bitShown_other (by decide) (by decide) (by decide) s p true
  have hnext := segNext_disabled (flag_bitShown (by decide) s p true) (hlane.trans h) (hstate.trans hst)
  rw [hlink, hkind, hsvc] at hnext
  rw [segBit_local h]
  by_cases hdown : s.link p = false
  · rw [if_pos hdown] at hnext ⊢
    rw [segEval_stays hnext, hstate, hst]
  · rw [if_neg hdown] at hnext ⊢
    split at hnext
    · rw [segEval_enters hnext (by decide) (by decide), segState_enterSeg _ p (by decide), if_pos ‹_›]
    · rw [segEval_enters hnext (by decide) (by decide), segState_enterSeg _ p (by decide), if_neg ‹_›]

/-- Without EN the port is DISABLED, and holds no candidate. -/
theorem disabled_segBit (h : s.onLane p = true) :
    (s.segBit p .SEG_CFG_EN false).segState p = segDisabled ∧ (s.segBit p .SEG_CFG_EN false).candOf p = none := by
  have hcand : (s.bitShown p .SEG_CFG_EN false).candOf p = none := candOf_cfgShown (of_into_same _ (by decide) _ _)
  have hnext := segNext_off (flag_bitShown (f := .SEG_CFG_EN) (by decide) s p false)
  rw [segBit_local h]
  split at hnext
  · rw [segEval_stays hnext]; exact ⟨‹_›, hcand⟩
  · rw [segEval_enters hnext (by decide) (by decide)]
    exact ⟨segState_enterSeg _ p (by decide), candOf_enterSeg _ p (.inr rfl)⟩

/-- SERVICE leads from NORMAL to TO_SERVICE, where no candidate is held. -/
theorem toService_segBit (h : s.onLane p = true) (hen : s.flag .SEG_CFG_EN p = true) (hkind : s.kind p = 0)
    (hst : s.segState p = segNormal) :
    (s.segBit p .SEG_CFG_SERVICE true).segState p = segToService ∧ (s.segBit p .SEG_CFG_SERVICE true).candOf p = none := by
  obtain ⟨hstate, hlane, hkind', -, -⟩ := bitShown_keeps s p .SEG_CFG_SERVICE true
  have hen' : (s.bitShown p .SEG_CFG_SERVICE true).flag .SEG_CFG_EN p = true :=
    (flag_bitShown_other (by decide) (by decide) (by decide) s p true).trans hen
  have hnext := segNext_normal hen' (hlane.trans h) (hkind'.trans hkind) (hstate.trans hst) (flag_bitShown (by decide) s p true)
  rw [segBit_local h, segEval_enters hnext (by decide) (by decide)]
  exact ⟨segState_enterSeg _ p (by decide), candOf_enterSeg _ p (.inl rfl)⟩

/-- Without SERVICE, TO_SERVICE leads back to NORMAL. -/
theorem normal_segBit (h : s.onLane p = true) (hen : s.flag .SEG_CFG_EN p = true) (hkind : s.kind p = 0)
    (hst : s.segState p = segToService) : (s.segBit p .SEG_CFG_SERVICE false).segState p = segNormal := by
  obtain ⟨hstate, hlane, hkind', -, -⟩ := bitShown_keeps s p .SEG_CFG_SERVICE false
  have hen' : (s.bitShown p .SEG_CFG_SERVICE false).flag .SEG_CFG_EN p = true :=
    (flag_bitShown_other (by decide) (by decide) (by decide) s p false).trans hen
  have hnext := segNext_toService hen' (hlane.trans h) (hkind'.trans hkind) (hstate.trans hst) (flag_bitShown (by decide) s p false)
  rw [segBit_local h, segEval_enters hnext (by decide) (by decide), segState_enterSeg _ p (by decide)]

/-- Without SERVICE, SERVICE leads to TO_NORMAL, which ends at once where no frame is sent. -/
theorem toNormal_segBit (h : s.onLane p = true) (hen : s.flag .SEG_CFG_EN p = true) (hkind : s.kind p = 0)
    (hst : s.segState p = segService) :
    (s.segBit p .SEG_CFG_SERVICE false).segState p = if (s.txOf p).isSome = true then segToNormal else segNormal := by
  obtain ⟨hstate, hlane, hkind', -, htx⟩ := bitShown_keeps s p .SEG_CFG_SERVICE false
  have hen' : (s.bitShown p .SEG_CFG_SERVICE false).flag .SEG_CFG_EN p = true :=
    (flag_bitShown_other (by decide) (by decide) (by decide) s p false).trans hen
  have hsvc : (s.bitShown p .SEG_CFG_SERVICE false).flag .SEG_CFG_SERVICE p = false := flag_bitShown (by decide) s p false
  have hnext := segNext_service hen' (hlane.trans h) (hkind'.trans hkind) (hstate.trans hst) hsvc
  have hentered := (OnSegment.refl (s.bitShown p .SEG_CFG_SERVICE false)).enterSeg p segToNormal
  have htoNormal : ((s.bitShown p .SEG_CFG_SERVICE false).enterSeg p segToNormal).segState p = segToNormal :=
    segState_enterSeg _ p (by decide)
  rw [segBit_local h, segEval_moves hnext]
  cases hsend : s.txOf p with
  | none =>
    have hends : ((s.bitShown p .SEG_CFG_SERVICE false).enterSeg p segToNormal).normalEnds p :=
      ⟨isTrunk_of_lane h, (hentered.onLane p).trans (hlane.trans h), htoNormal, (hentered.txOf p).trans (htx.trans hsend)⟩
    have hquit := ((hentered.trans (OnSegment.normalAgain _ p)).flag (f := .SEG_CFG_SERVICE) (by decide) p).trans hsvc
    rw [toNormalEnd_ends hends, hquit, if_neg Bool.false_ne_true]
    exact segState_normalAgain _ p
  | some x =>
    rw [toNormalEnd_stays fun hc => ?_]
    · exact htoNormal
    · obtain ⟨-, -, -, hidle⟩ := hc
      rw [hentered.txOf, htx, hsend] at hidle
      cases hidle

/-! The commands (R131, R144 to R147). -/

/-- A command that writes one bit answers the state that follows. -/
theorem outcome_segBit (hlane : s.onLane p = true) {f : Fld} {b : Bool} {o : Host.Outcome State Fault Refusal}
    (ho : o = s.become (s.segBit p f b)) : o = .next (s.segBit p f b) :=
  ho.trans (congrArg Host.Outcome.next (outside_segBit hlane f b))

theorem exec_fieldPortEnable (hp : p < 1024) (hs : s.soft = true) (hup : s.up 2 = true) :
    exec (.fieldPortEnable p) s = s.become (s.segBit p .SEG_CFG_EN true) := runSoftOn_up _ hp hs hup

theorem exec_fieldPortDisable (hp : p < 1024) (hs : s.soft = true) (hup : s.up 2 = true) :
    exec (.fieldPortDisable p) s = s.become (s.segBit p .SEG_CFG_EN false) := runSoftOn_up _ hp hs hup

theorem exec_serviceRequest (hp : p < 1024) (hs : s.soft = true) (hup : s.up 2 = true) :
    exec (.serviceRequest p) s = s.become (s.segBit p .SEG_CFG_SERVICE true) := runSoftOn_up _ hp hs hup

theorem exec_serviceRelease (hp : p < 1024) (hs : s.soft = true) (hup : s.up 2 = true) :
    exec (.serviceRelease p) s = s.become (s.segBit p .SEG_CFG_SERVICE false) := runSoftOn_up _ hp hs hup

theorem exec_serviceQuiet (hp : p < 1024) (hup : s.up 2 = true) : exec (.serviceQuiet p) s = s.become (s.serviceEnter p false) :=
  runOn_up _ hp hup

theorem exec_serviceForced (hp : p < 1024) (hup : s.up 2 = true) : exec (.serviceForced p) s = s.become (s.serviceEnter p true) :=
  runOn_up _ hp hup

theorem exec_babbleClear (hp : p < 1024) (hs : s.soft = true) (hup : s.up 2 = true) :
    exec (.babbleClear p) s = s.become (s.babbleClear p) := runSoftOn_up _ hp hs hup

theorem exec_babbleWindowExpire (hp : p < 1024) (hup : s.up 2 = true) :
    exec (.babbleWindowExpire p) s = s.become (s.setSeg p { s.segOf p with babble := 0 }) :=
  runOn_up (fun s => s.setSeg p { s.segOf p with babble := 0 }) hp hup

/-- TO_SERVICE waits for the medium, or for the end of its wait (R146). -/
def State.serviceWaits (s : State) (p : Nat) : Prop := s.segState p = segToService ∧ s.onLane p = true

/-- The wait is over: the state is SERVICE, and FORCED says how it came. -/
def State.serviceEntered (s : State) (p : Nat) (forced : Bool) : State :=
  (s.enterSeg p segService).putFlag .SEG_STATUS_FORCED p forced

theorem serviceEnter_enters {forced : Bool} (h : s.serviceWaits p) (hquiet : forced = true ∨ s.txOf p = none) :
    s.serviceEnter p forced = s.serviceEntered p forced := by
  obtain ⟨hstate, hlane⟩ := h
  exact if_pos ⟨hstate, hlane, hquiet.imp_right fun hn => by rw [hn]; rfl⟩

theorem serviceEnter_stays {forced : Bool} (h : ¬s.serviceWaits p ∨ forced = false ∧ (s.txOf p).isSome = true) :
    s.serviceEnter p forced = s := by
  refine if_neg fun ⟨hstate, hlane, hquiet⟩ => ?_
  rcases h with hno | ⟨hforced, hsend⟩
  · exact hno ⟨hstate, hlane⟩
  · rcases hquiet with hf | hidle
    · rw [hforced] at hf; cases hf
    · rw [Option.isNone_iff_eq_none] at hidle; rw [hidle] at hsend; cases hsend

theorem OnSegment.serviceEntered (s : State) (p : Nat) (forced : Bool) : OnSegment s (s.serviceEntered p forced) :=
  ((OnSegment.refl s).enterSeg p segService).trans ((SegmentServes.refl _).put (f := .SEG_STATUS_FORCED) (by decide) p _).toOnSegment

theorem segState_serviceEntered (s : State) (p : Nat) (forced : Bool) : (s.serviceEntered p forced).segState p = segService :=
  (get_put_other _ .SEG_STATUS_FORCED .SEG_STATUS_STATE p p _ (.inr (by decide))).trans (segState_enterSeg s p (by decide))

theorem forced_serviceEntered (s : State) (p : Nat) (forced : Bool) :
    (s.serviceEntered p forced).flag .SEG_STATUS_FORCED p = forced := flag_putFlag _ _ (by decide) p forced

/-- A wait's end is the command's own outcome. -/
theorem outcome_serviceEntered (s : State) (p : Nat) (forced : Bool) :
    s.become (s.serviceEntered p forced) = .next (s.serviceEntered p forced) :=
  congrArg Host.Outcome.next (OnSegment.serviceEntered s p forced).outside

/-- BABBLE is clear, whatever state follows. -/
theorem babble_babbleClear (s : State) (p : Nat) : (s.babbleClear p).flag .SEG_STATUS_BABBLE p = false := by
  have hclear : (s.put .SEG_STATUS_BABBLE p 0).flag .SEG_STATUS_BABBLE p = false := flag_put_zero s _ (by decide) p
  unfold State.babbleClear
  dsimp only
  split
  · exact hclear
  · rw [State.flag, ((OnSegment.refl (s.put .SEG_STATUS_BABBLE p 0)).segEval p).babble, ← State.flag, hclear]

/-- Settles O28: the state by the levels that SEG_CFG's bits set, TO_SERVICE by its two ends, BABBLE by its clear. -/
theorem segmentStateFollowsItsLevels : Obligations.SegmentStateFollowsItsLevels := by
  constructor
  · intro p s hp hup hs hlane same multi svc
    have hsame (f : Fld) (b : Bool) : same (s.segBit p f b) := segBit_rest hlane f b
    refine ⟨⟨_, outcome_segBit hlane (exec_fieldPortEnable hp hs hup), hsame _ _, flag_segBit (by decide) hlane true,
        segState_enable hlane⟩,
      ⟨_, outcome_segBit hlane (exec_fieldPortDisable hp hs hup), hsame _ _, flag_segBit (by decide) hlane false, disabled_segBit hlane⟩,
      ⟨_, outcome_segBit hlane (exec_serviceRequest hp hs hup), hsame _ _, flag_segBit (by decide) hlane true, toService_segBit hlane⟩,
      ⟨_, outcome_segBit hlane (exec_serviceRelease hp hs hup), hsame _ _, flag_segBit (by decide) hlane false, fun hen hmulti =>
        ⟨normal_segBit hlane hen hmulti, toNormal_segBit hlane hen hmulti⟩⟩⟩
  · intro p s hp hup enters u x
    rw [exec_serviceQuiet hp hup, exec_serviceForced hp hup, exec_babbleWindowExpire hp hup]
    refine ⟨fun h hidle => ?_, fun h => ?_, fun h => ?_, fun h => ?_, fun hs => ?_, rfl⟩
    · rw [serviceEnter_enters h (.inr hidle)]
      exact ⟨_, outcome_serviceEntered s p false, segState_serviceEntered s p false, forced_serviceEntered s p false, rfl⟩
    · rw [serviceEnter_stays (h.imp_right fun hsend => ⟨rfl, hsend⟩)]; rfl
    · rw [serviceEnter_enters h (.inl rfl)]
      exact ⟨_, outcome_serviceEntered s p true, segState_serviceEntered s p true, forced_serviceEntered s p true, rfl⟩
    · rw [serviceEnter_stays (.inl h)]; rfl
    · exact ⟨_, exec_babbleClear hp hs hup, babble_babbleClear s p, rfl⟩

end Sys2Proof.Machine
end

section
/-! The extender manager: how a management frame reaches its message, and what an extender's states are read from (R156, R159, R162). -/
namespace Sys2Proof.Machine

variable {s : State} {t e : Nat} {d : List Byte}

/-! A frame that arrives (R156, R166). -/

/-- The state in which extender trunk `t` has counted the frame `d`. -/
def State.mgmtCounted (s : State) (t : Nat) (d : List Byte) : State :=
  (s.add64 .MAC_RX_FRAMES_LO .MAC_RX_FRAMES_HI (1024 + t) 1).add64 .MAC_RX_OCTETS_LO .MAC_RX_OCTETS_HI (1024 + t) (max 60 d.length + 4)

/-- The frame `d` with message `msg` arrives on extender trunk `t`: the trunk takes frames, and the frame is of the manager's. -/
def State.mgmtArrives (s : State) (t msg : Nat) (d : List Byte) : Prop :=
  s.role (1024 + t) = 1 ∧ s.enabled (1024 + t) = true ∧ s.link (1024 + t) = true ∧ beAt d 12 2 = s.get .EXT_GLB_CFG_ETYPE ∧
    beAt d 14 1 = 0x45 ∧ beAt d 16 1 = msg

theorem message_of_arrives {msg : Nat} (h : s.mgmtArrives t msg d) : beAt d 16 1 = msg := by
  obtain ⟨-, -, -, -, -, hmsg⟩ := h
  exact hmsg

/-- Counting moves the trunk's reception counters alone. -/
theorem get_mgmtCounted (s : State) (t : Nat) (d : List Byte) {f : Fld}
    (hf : f.reg ∉ [Reg.MAC_RX_FRAMES_LO, .MAC_RX_FRAMES_HI, .MAC_RX_OCTETS_LO, .MAC_RX_OCTETS_HI]) (i : Nat) :
    (s.mgmtCounted t d).get f i = s.get f i := by
  simp only [List.mem_cons, List.not_mem_nil, or_false, not_or] at hf
  obtain ⟨hframesLo, hframesHi, hoctetsLo, hoctetsHi⟩ := hf
  exact congrArg f.of ((rd_add64 _ hoctetsLo hoctetsHi _ _ _).trans (rd_add64 s hframesLo hframesHi _ _ _))

theorem extState_mgmtCounted (s : State) (t : Nat) (d : List Byte) (e : Nat) : (s.mgmtCounted t d).extState e = s.extState e :=
  get_mgmtCounted s t d (by decide) e

/-- What is no register is as it was. -/
theorem beside_mgmtCounted {β : Type} (g : State → β) (h : ∀ s r i w, g (State.wr s r i w) = g s) (s : State) (t : Nat)
    (d : List Byte) : g (s.mgmtCounted t d) = g s := by
  simp only [State.mgmtCounted, State.add64, h]

theorem extHold_mgmtCounted (s : State) (t : Nat) (d : List Byte) : (s.mgmtCounted t d).extHold = s.extHold :=
  beside_mgmtCounted State.extHold (fun _ _ _ _ => rfl) s t d

theorem slotWords_mgmtCounted (s : State) (t : Nat) (d : List Byte) (e : Nat) : (s.mgmtCounted t d).slotWords e = s.slotWords e :=
  beside_mgmtCounted (fun s => s.slotWords e) (fun _ _ _ _ => rfl) s t d

theorem extData_mgmtCounted (s : State) (t : Nat) (d : List Byte) (e : Nat) : (s.mgmtCounted t d).extData e = s.extData e :=
  beside_mgmtCounted (fun s => s.extData e) (fun _ _ _ _ => rfl) s t d

theorem mgmtRx_arrives {msg : Nat} (h : s.mgmtArrives t msg d) : s.mgmtRx t msg d = (s.mgmtCounted t d).mgmtFrame t d := by
  obtain ⟨hrole, hen, hlink, htype, hid, hmsg⟩ := h
  exact if_pos (by simp [State.isMgmt, hrole, hen, hlink, htype, hid, hmsg])

/-- A frame that has been counted is still one of the manager's. -/
theorem isMgmt_mgmtCounted {msg : Nat} (h : s.mgmtArrives t msg d) : (s.mgmtCounted t d).isMgmt d = true := by
  obtain ⟨-, -, -, htype, hid, -⟩ := h
  simp [State.isMgmt, get_mgmtCounted s t d (f := .EXT_GLB_CFG_ETYPE) (by decide), htype, hid]

/-! Its message (R162). -/

theorem mgmtFrame_hello (h : s.isMgmt d = true) (hmsg : beAt d 16 1 = 0x02) (hlen : beAt d 18 2 = 4) (hver : beAt d 15 1 = 0)
    (hfit : 30 ≤ d.length) : s.mgmtFrame t d = s.hello t (beAt d 6 6) (slice d 26 4) := by
  simp [State.mgmtFrame, h, hmsg, hlen, hver, mgmtLen, hfit]

theorem mgmtFrame_response (h : s.isMgmt d = true) (hmsg : beAt d 16 1 = 0x04) (hlen : beAt d 18 2 = 48) (hver : beAt d 15 1 = 0)
    (hfit : 74 ≤ d.length) : s.mgmtFrame t d = s.response t (beAt d 6 6) (slice d 26 48) := by
  simp [State.mgmtFrame, h, hmsg, hlen, hver, mgmtLen, hfit]

/-- Every other message is one that the session key proves. -/
theorem mgmtFrame_auth {msg : Nat} (h : s.isMgmt d = true) (hmsg : beAt d 16 1 = msg) (hhello : msg ≠ 0x02) (hresponse : msg ≠ 0x04)
    (hlen : mgmtLen msg = some (beAt d 18 2)) (hfit : 42 + beAt d 18 2 ≤ d.length) :
    s.mgmtFrame t d = s.mgmtAuth t (beAt d 6 6) (beAt d 15 1) msg (beAt d 22 4) (beAt d 18 2) d := by
  have hroom : ¬d.length < 26 + beAt d 18 2 + 16 := by omega
  simp [State.mgmtFrame, h, hmsg, hhello, hresponse, hlen, hroom]

/-! What Ocora sends leaves every register but MAC_STATUS (R122). -/

theorem rd_lpiWake (s : State) (m : Nat) {r : Reg} (hr : r ≠ .MAC_STATUS) (i : Nat) : (s.lpiWake m).rd r i = s.rd r i := by
  unfold State.lpiWake
  split
  · exact rd_put_reg s (f := .MAC_STATUS_TX_LPI) hr m i 0
  · rfl

theorem rd_begin (s : State) (m : Nat) (x : Tx) (r : Reg) (i : Nat) : (s.begin m x).rd r i = s.rd r i := by
  unfold State.begin State.startGap
  dsimp only
  split <;> rfl

theorem rd_ownTx (s : State) (m : Nat) {r : Reg} (hr : r ≠ .MAC_STATUS) (i : Nat) : (s.ownTx m).rd r i = s.rd r i := by
  unfold State.ownTx
  dsimp only
  split
  · rfl
  · split
    · rfl
    · split
      · exact rd_lpiWake s m hr i
      · split
        · rfl
        · exact rd_begin _ m _ r i

theorem get_sendPlain (s : State) (e da msg : Nat) (body : List Byte) {f : Fld} (hf : f.reg ≠ .MAC_STATUS) (i : Nat) :
    (s.sendPlain e da msg body).get f i = s.get f i := by
  unfold State.sendPlain State.sendFrame
  split
  · rfl
  · exact congrArg f.of (rd_ownTx _ _ hf i)

/-! A slot's state and levels (R159). -/

@[simp] theorem extState_outside (s u : State) (e : Nat) : (s.outside u).extState e = u.extState e := rfl

/-- A trunk's EN and LINK stand in three registers. -/
theorem extTrunkUp_put (s : State) {f : Fld} (hf : f.reg ∉ [Reg.MAC_CFG, .SEG_CFG, .MAC_STATUS]) (i v e : Nat) :
    (s.put f i v).extTrunkUp e = s.extTrunkUp e := by
  simp only [List.mem_cons, List.not_mem_nil, or_false, not_or] at hf
  obtain ⟨hmac, hseg, hstatus⟩ := hf
  have hen (p : Nat) : (s.put f i v).enabled p = s.enabled p := by
    simp only [State.enabled, State.flag, get_put_reg s (g := .MAC_CFG_EN) (Ne.symm hmac), get_put_reg s (g := .SEG_CFG_EN) (Ne.symm hseg)]
    rfl
  have hlink (p : Nat) : (s.put f i v).link p = s.link p := by
    simp only [State.link, State.flag, get_put_reg s (g := .MAC_STATUS_LINK) (Ne.symm hstatus)]
  simp only [State.extTrunkUp, hen, hlink]
  rfl

/-- An idle slot goes by JOIN_EN and its trunk. -/
theorem extEval_idle (h : s.extState e = extIdle) : s.extEval e =
    if s.flag .EXT_CFG_JOIN_EN e = true ∧ s.extTrunkUp e = true then (s.extEnter e extDiscovering).sendDiscover e else s := by
  simp [State.extEval, h, extIdle, extChallenging, extJoined]

/-- A slot that refuses is idle again without JOIN_EN. -/
theorem extEval_refused_quits (h : s.extState e = extRefused) (hjoin : s.flag .EXT_CFG_JOIN_EN e = false) :
    s.extEval e = (s.extEnter e extIdle).put .EXT_STATUS_REFUSE e 0 := by
  simp [State.extEval, h, hjoin, extRefused, extIdle, extChallenging, extJoined]

/-- A joined slot loses its extender without JOIN_EN, with a LEAVE where its trunk is up. -/
theorem extEval_joined_quits (h : s.extState e = extJoined) (hjoin : s.flag .EXT_CFG_JOIN_EN e = false) :
    s.extEval e = if s.extTrunkUp e = true then s.extLeaveJoined e extIdle 5 true else s.extLeaveJoined e extIdle 4 false := by
  cases hup : s.extTrunkUp e <;> simp [State.extEval, h, hjoin, hup, extIdle, extJoined]

end Sys2Proof.Machine
end

section
/-! Joining: JOIN_EN, DISCOVER and HELLO (R158, R159, R161). -/
namespace Sys2Proof.Machine

variable {s : State} {t e unit : Nat} {d : List Byte}

/-! The commands. -/

theorem exec_extJoinEnable (he : e < 48) (hs : s.soft = true) (hup : s.up 3 = true) :
    exec (.extJoinEnable e) s = s.become ((s.put .EXT_CFG_JOIN_EN e 1).extEval e) :=
  runSoftOn_up (fun s => (s.put .EXT_CFG_JOIN_EN e 1).extEval e) he hs hup

theorem exec_extJoinDisable (he : e < 48) (hs : s.soft = true) (hup : s.up 3 = true) :
    exec (.extJoinDisable e) s = s.become ((s.put .EXT_CFG_JOIN_EN e 0).extEval e) :=
  runSoftOn_up (fun s => (s.put .EXT_CFG_JOIN_EN e 0).extEval e) he hs hup

theorem exec_extDiscover (he : e < 48) (hup : s.up 3 = true) : exec (.extDiscover e) s =
    s.become (if s.extState e = extDiscovering ∧ s.extTrunkUp e = true then s.sendDiscover e else s) :=
  runOn_up (fun s => if s.extState e = extDiscovering ∧ s.extTrunkUp e then s.sendDiscover e else s) he hup

theorem exec_extChallengeTimeout (he : e < 48) (hup : s.up 3 = true) : exec (.extChallengeTimeout e) s =
    s.become (if s.extState e = extChallenging then s.extEnter e extDiscovering else s) :=
  runOn_up (fun s => if s.extState e = extChallenging then s.extEnter e extDiscovering else s) he hup

theorem exec_extHelloHoldoffExpire (unit : Nat) (hup : s.up 3 = true) :
    exec (.extHelloHoldoffExpire unit) s = .next { s with extHold := s.extHold.filter fun x => x != unit } :=
  run_up (fun s => { s with extHold := s.extHold.filter (· != unit) }) hup

theorem exec_extHello (ht : t < 16) (hup : s.up 3 = true) (d : List Byte) : exec (.extHello t d) s = s.become (s.mgmtRx t 0x02 d) :=
  runOn_up _ ht hup

/-! JOIN_EN (R159). -/

/-- What a write of JOIN_EN shows to the slot's levels. -/
theorem joinEn_put (s : State) (e : Nat) (b : Bool) : (s.putFlag .EXT_CFG_JOIN_EN e b).flag .EXT_CFG_JOIN_EN e = b ∧
    (s.putFlag .EXT_CFG_JOIN_EN e b).extState e = s.extState e ∧ (s.putFlag .EXT_CFG_JOIN_EN e b).extTrunkUp e = s.extTrunkUp e :=
  ⟨flag_putFlag s _ (by decide) e b, get_put_reg s (by decide) e e _, extTrunkUp_put s (by decide) e _ e⟩

theorem joinEnable_idle (h : s.extState e = extIdle) :
    (s.put .EXT_CFG_JOIN_EN e 1).extEval e =
      if s.extTrunkUp e = true then ((s.put .EXT_CFG_JOIN_EN e 1).extEnter e extDiscovering).sendDiscover e
      else s.put .EXT_CFG_JOIN_EN e 1 := by
  obtain ⟨hjoin, hstate, htrunk⟩ := joinEn_put s e true
  have heval := extEval_idle (hstate.trans h)
  rw [hjoin, htrunk] at heval
  simpa [State.putFlag, b2n] using heval

theorem joinDisable_refused (h : s.extState e = extRefused) : (s.put .EXT_CFG_JOIN_EN e 0).extEval e =
    ((s.put .EXT_CFG_JOIN_EN e 0).extEnter e extIdle).put .EXT_STATUS_REFUSE e 0 := by
  obtain ⟨hjoin, hstate, -⟩ := joinEn_put s e false
  exact extEval_refused_quits (hstate.trans h) hjoin

theorem joinDisable_joined (h : s.extState e = extJoined) : (s.put .EXT_CFG_JOIN_EN e 0).extEval e =
    if s.extTrunkUp e = true then (s.put .EXT_CFG_JOIN_EN e 0).extLeaveJoined e extIdle 5 true
    else (s.put .EXT_CFG_JOIN_EN e 0).extLeaveJoined e extIdle 4 false := by
  obtain ⟨hjoin, hstate, htrunk⟩ := joinEn_put s e false
  rw [← htrunk]
  exact extEval_joined_quits (hstate.trans h) hjoin

/-! HELLO (R158, R161). -/

/-- The slot is bound to the unit and shows what the HELLO with this body says of it. -/
def State.helloBound (s : State) (e unit : Nat) (body : List Byte) : State :=
  ((((s.put .EXT_UNIT_HI_SA_HI e (unit / 2 ^ 32)).put .EXT_UNIT_LO_SA_LO e (unit % 2 ^ 32)).put .EXT_INFO_VERSIONS e
    (beAt body 0 1)).put .EXT_INFO_PORTS e (beAt body 1 1)).put .EXT_INFO_BUF_BYTES e (beAt body 2 2)

/-- The slot challenges the unit at version `v`. -/
def State.challenge (s : State) (e unit v : Nat) : State :=
  (((s.used.put .EXT_STATUS_STATE e extChallenging).put .EXT_STATUS_VERSION e v).setExt e { nonceM := s.freeBytes 16 }).sendPlain e unit
    0x03 (s.freeBytes 16 ++ [byte v, byte e])

theorem hello_held (h : unit ∈ s.extHold) (body : List Byte) : s.hello t unit body = s :=
  if_pos (List.contains_iff_mem.2 h)

theorem hello_unaccepted (h : unit ∉ s.extHold) (hslot : s.helloSlot t unit = none) (body : List Byte) :
    s.hello t unit body = s.inc .EXT_TRK_UNKNOWN_COUNT t := by
  simp [State.hello, h, hslot]

/-- What an accepted HELLO comes to: the versions first, then the key, then a challenge. -/
theorem hello_accepted (h : unit ∉ s.extHold) (hslot : s.helloSlot t unit = some e) (body : List Byte) : s.hello t unit body =
    if commonVersion (beAt body 0 1) = 0 ∨ commonVersion (beAt body 0 1) < wbits (s.slotWords e).1 17 16
      then (s.helloBound e unit body).extRefuse e 1
    else if (s.get .SES_KEY_STATUS_WRITTEN).testBit (wbits (s.slotWords e).1 2 0) = false
      then (s.helloBound e unit body).extRefuse e 2
    else (s.helloBound e unit body).challenge e unit (commonVersion (beAt body 0 1)) := by
  simp only [State.hello, List.contains_iff_mem, h, if_false, hslot, Bool.not_eq_true']
  rfl

theorem commonVersion_lt (v : Nat) : commonVersion v < 4 := by
  unfold commonVersion
  split_ifs <;> decide

theorem extRefuse_shows (s : State) (e : Nat) {cause : Nat} (h : cause < 16) :
    (s.extRefuse e cause).extState e = extRefused ∧ (s.extRefuse e cause).get .EXT_STATUS_REFUSE e = cause := by
  simp only [State.extState, State.extRefuse, State.extSource, get_pulse]
  constructor
  · rw [get_put_other _ _ _ _ _ _ (.inr (by decide)), get_put_same _ _ (by decide)]; rfl
  · rw [get_put_same _ _ (by decide)]; exact Nat.mod_eq_of_lt h

theorem challenge_shows (s : State) (e unit : Nat) {v : Nat} (h : v < 4) :
    (s.challenge e unit v).extState e = extChallenging ∧ (s.challenge e unit v).get .EXT_STATUS_VERSION e = v := by
  simp only [State.extState, State.challenge, get_sendPlain _ _ _ _ _ (f := .EXT_STATUS_STATE) (by decide),
    get_sendPlain _ _ _ _ _ (f := .EXT_STATUS_VERSION) (by decide)]
  constructor
  · refine (get_put_other _ .EXT_STATUS_VERSION .EXT_STATUS_STATE e e v (.inr (by decide))).trans ?_
    rw [get_put_same _ _ (by decide)]; rfl
  · refine (get_put_same _ .EXT_STATUS_VERSION (by decide) e v).trans ?_
    exact Nat.mod_eq_of_lt h

/-- The first byte of a body is the frame's byte at its place. -/
theorem beAt_body (d : List Byte) (off len : Nat) (h : 1 ≤ len) : beAt (slice d off len) 0 1 = beAt d off 1 := by
  simp [beAt, slice, List.take_take, Nat.min_eq_left h]

/-- A HELLO that arrives with its version and its length right is taken up. -/
theorem outcome_extHello (ht : t < 16) (hup : s.up 3 = true) (harr : s.mgmtArrives t 0x02 d) (hver : beAt d 15 1 = 0)
    (hlen : beAt d 18 2 = 4) (hfit : 30 ≤ d.length) :
    exec (.extHello t d) s = s.become ((s.mgmtCounted t d).hello t (beAt d 6 6) (slice d 26 4)) := by
  rw [exec_extHello ht hup, mgmtRx_arrives harr,
    mgmtFrame_hello (isMgmt_mgmtCounted harr) (message_of_arrives harr) hlen hver hfit]

/-- Settles O31: JOIN_EN by the slot's levels, a HELLO by the slot that accepts it, its versions and its key. -/
theorem extenderJoinFollowsItsTable : Obligations.ExtenderJoinFollowsItsTable := by
  intro e t unit f s he ht hup on off m u a hello
  refine ⟨fun hs => ⟨fun h => ?_, fun h => ?_, fun h => ?_⟩, ?_, ?_, exec_extHelloHoldoffExpire unit hup, fun hh => ?_⟩
  · rw [exec_extJoinEnable he hs hup, joinEnable_idle h]; rfl
  · rw [exec_extJoinDisable he hs hup, joinDisable_refused h]; rfl
  · rw [exec_extJoinDisable he hs hup, joinDisable_joined h]; rfl
  · rw [exec_extDiscover he hup, become_ite]
  · rw [exec_extChallengeTimeout he hup, become_ite]; rfl
  · obtain ⟨hrole, hen, hlink, htype, hid, hver, hmsg, hlen, hfit⟩ := hh
    rw [outcome_extHello ht hup ⟨hrole, hen, hlink, htype, hid, hmsg⟩ hver hlen hfit]
    rw [← extHold_mgmtCounted s t f]
    refine ⟨fun hheld => ?_, fun hfree hslot => ?_, fun k v hfree hslot hv => ?_⟩
    · rw [hello_held hheld]; rfl
    · rw [hello_unaccepted hfree hslot]; rfl
    · have hwritten : (s.mgmtCounted t f).get .SES_KEY_STATUS_WRITTEN = s.get .SES_KEY_STATUS_WRITTEN :=
        get_mgmtCounted s t f (by decide) 0
      have hhello := hello_accepted hfree hslot (slice f 26 4)
      rw [beAt_body f 26 4 (by decide), ← hv, hwritten, slotWords_mgmtCounted] at hhello
      refine ⟨_, rfl, fun hlow => ?_, fun hhigh hkey => ?_, fun hhigh hkey => ?_⟩
      · rw [hhello, if_pos hlow, extState_outside, outside_get]
        exact extRefuse_shows _ k (by decide)
      · rw [hhello, if_neg hhigh, if_pos hkey, extState_outside, outside_get]
        exact extRefuse_shows _ k (by decide)
      · rw [hhello, if_neg hhigh, if_neg (by rw [hkey]; decide), extState_outside, outside_get]
        exact challenge_shows _ k _ (hv ▸ commonVersion_lt _)

end Sys2Proof.Machine
end

section
/-! Management frames after joining: the proof of a message, a RESPONSE, polls and configuration pushes (R156, R159, R162 to R167). -/
namespace Sys2Proof.Machine

variable {s : State} {t e unit : Nat} {d : List Byte}

/-! The commands. -/

/-- The commands of the messages that the session key proves, on trunk `t`, each with its message. -/
def authCommands (t : Nat) (d : List Byte) : List (Instr × Nat) :=
  [(.extLeave t d, 0x7E), (.extReport t d, 0x21), (.extEvent t d, 0x40), (.extConfigAck t d, 0x11), (.extCredit t d, 0x30),
    (.extPodlReq t d, 0x31)]

theorem exec_authCommand {c : Instr} {msg : Nat} (hc : (c, msg) ∈ authCommands t d) (ht : t < 16) (hup : s.up 3 = true) :
    exec c s = s.become (s.mgmtRx t msg d) := by
  simp only [authCommands, List.mem_cons, Prod.mk.injEq, List.not_mem_nil, or_false] at hc
  obtain ⟨rfl, rfl⟩ | ⟨rfl, rfl⟩ | ⟨rfl, rfl⟩ | ⟨rfl, rfl⟩ | ⟨rfl, rfl⟩ | ⟨rfl, rfl⟩ := hc
  all_goals exact runOn_up (fun s => s.mgmtRx t _ d) ht hup

/-- No such message is a HELLO or a RESPONSE. -/
theorem authCommand_msg {c : Instr} {msg : Nat} (hc : (c, msg) ∈ authCommands t d) : msg ≠ 0x02 ∧ msg ≠ 0x04 := by
  have hall : ∀ m ∈ (authCommands t d).map Prod.snd, m ≠ 0x02 ∧ m ≠ 0x04 := by
    show ∀ m ∈ [0x7E, 0x21, 0x40, 0x11, 0x30, 0x31], m ≠ 0x02 ∧ m ≠ 0x04
    decide
  exact hall msg (List.mem_map_of_mem hc)

theorem exec_extResponse (ht : t < 16) (hup : s.up 3 = true) (d : List Byte) :
    exec (.extResponse t d) s = s.become (s.mgmtRx t 0x04 d) := runOn_up _ ht hup

theorem exec_extPoll (he : e < 48) (hup : s.up 3 = true) : exec (.extPoll e) s = s.become (s.poll e) := runOn_up _ he hup

theorem exec_extPushGo (he : e < 48) (hs : s.soft = true) (hup : s.up 3 = true) : exec (.extPushGo e) s = s.become (s.pushGo e) :=
  runSoftOn_up _ he hs hup

theorem exec_extPushTimeout (he : e < 48) (hup : s.up 3 = true) : exec (.extPushTimeout e) s = s.become (s.pushTimeout e) :=
  runOn_up _ he hup

/-! A message that the session key proves (R161 to R163). -/

/-- The message `msg` of version `ver` fits the session of the slot: its version, its set of messages, its SEQ and its TAG. -/
def State.mgmtFits (s : State) (e ver msg seq len : Nat) (d : List Byte) : Prop :=
  ver = s.get .EXT_STATUS_VERSION e ∧ mgmtVersion msg ≤ ver ∧ (s.extData e).seqIn < seq ∧
    slice d (26 + len) 16 = (hmac (s.extData e).sk (d.take (26 + len))).take 16

/-- A frame counted on its trunk changes nothing that it has to fit. -/
theorem mgmtFits_mgmtCounted {ver msg seq len : Nat} :
    (s.mgmtCounted t d).mgmtFits e ver msg seq len d ↔ s.mgmtFits e ver msg seq len d := by
  rw [State.mgmtFits, get_mgmtCounted s t d (by decide), extData_mgmtCounted, State.mgmtFits]

theorem mgmtAuth_unbound (h : s.slotOfUnit t unit = none) (ver msg seq len : Nat) (d : List Byte) :
    s.mgmtAuth t unit ver msg seq len d = s.mgmtReject t unit := by
  simp only [State.mgmtAuth, h]

/-- What the slot of a message rejects is what is not of a joined extender, or does not fit its session. -/
theorem mgmtAuth_rejects_iff {ver msg seq len : Nat} :
    (s.extState e ≠ extJoined ∨ ver ≠ s.get .EXT_STATUS_VERSION e ∨ ver < mgmtVersion msg ∨
      slice d (26 + len) 16 ≠ (hmac (s.extData e).sk (d.take (26 + len))).take 16 ∨ seq ≤ (s.extData e).seqIn) ↔
    ¬(s.extState e = extJoined ∧ s.mgmtFits e ver msg seq len d) := by
  simp only [State.mgmtFits, not_and_or, not_le, not_lt, ne_eq]
  rw [or_comm (a := seq ≤ (s.extData e).seqIn)]

theorem mgmtAuth_rejected {ver msg seq len : Nat} (h : s.slotOfUnit t unit = some e)
    (hno : ¬(s.extState e = extJoined ∧ s.mgmtFits e ver msg seq len d)) :
    s.mgmtAuth t unit ver msg seq len d = s.inc .EXT_MGMT_REJ_COUNT e := by
  simp only [State.mgmtAuth, h]
  exact if_pos (mgmtAuth_rejects_iff.2 hno)

theorem mgmtAuth_accepted {ver msg seq len : Nat} (h : s.slotOfUnit t unit = some e) (hst : s.extState e = extJoined)
    (hfits : s.mgmtFits e ver msg seq len d) : s.mgmtAuth t unit ver msg seq len d =
      ((s.setExt e { s.extData e with seqIn := seq }).mgmtAct e msg (slice d 26 len)).extSeqCheck e := by
  simp only [State.mgmtAuth, h]
  exact if_neg fun hno => mgmtAuth_rejects_iff.1 hno ⟨hst, hfits⟩

/-! A RESPONSE (R159, R160). -/

theorem key_mgmtCounted (s : State) (t : Nat) (d : List Byte) (k : Nat) : (s.mgmtCounted t d).key k = s.key k :=
  beside_mgmtCounted (fun s => s.key k) (fun _ _ _ _ => rfl) s t d

theorem response_late (h : s.slotOfUnit t unit = some e) (hst : s.extState e ≠ extChallenging) (body : List Byte) :
    s.response t unit body = s.inc .EXT_MGMT_REJ_COUNT e := by
  simp only [State.response, h, if_pos hst]

theorem extHold_inc (s : State) (i : Nat) : (s.inc .EXT_AUTH_FAIL_COUNT i).extHold = s.extHold :=
  add_keeps State.extHold (fun _ => rfl) (fun _ _ _ => rfl) (fun _ _ _ _ => rfl) s i 1

/-- The unit's proof, under the slot's key, joins it or holds it off. -/
theorem response_challenging (h : s.slotOfUnit t unit = some e) (hst : s.extState e = extChallenging) (body : List Byte) :
    s.response t unit body =
      if slice body 16 32 = hmac (s.key (wbits (s.slotWords e).1 2 0)) (0x01 :: s.authMsg e (slice body 0 16))
        then s.join e (s.authMsg e (slice body 0 16))
      else { (s.extEnter e extDiscovering).inc .EXT_AUTH_FAIL_COUNT e with extHold := unit :: s.extHold } := by
  have hhold : ((s.extEnter e extDiscovering).inc .EXT_AUTH_FAIL_COUNT e).extHold = s.extHold := extHold_inc _ e
  simp only [State.response, h, hst, ne_eq, not_true_eq_false, if_false, hhold]

/-! Polls (R165). -/

/-- The last POLL went out, and not both REPORTs came since. -/
@[reducible] def State.pollMissed (s : State) (e : Nat) : Prop := (s.extData e).polled = true ∧ (s.extData e).reports ≠ 3

theorem poll_unjoined (h : s.extState e ≠ extJoined) : s.poll e = s := if_pos h

theorem poll_joined (h : s.extState e = extJoined) : s.poll e =
    let x := s.extData e
    let miss := if s.pollMissed e then x.miss + 1 else 0
    let s1 := if s.pollMissed e then s.inc .EXT_POLL_MISS_COUNT e else s
    if s.get .EXT_TIMERS_MISS_LIMIT ≤ miss then s1.extLeaveJoined e extDiscovering 1 false
    else ((s1.setExt e { x with miss := miss, polled := true, reports := 0, clrBabble := 0 }).sendAuth e 0x20
      (beBytes 2 x.clrBabble)).extSeqCheck e := by
  have hmissed : ((s.extData e).polled && (s.extData e).reports != 3) = true ↔ s.pollMissed e := by
    rw [Bool.and_eq_true, bne_iff_ne]
  simp only [State.poll, h, ne_eq, not_true_eq_false, if_false, hmissed]

/-! Configuration pushes (R164, R165). -/

theorem pushGo_unjoined (h : s.extState e ≠ extJoined) : s.pushGo e = s := if_pos h

theorem pushGo_joined (h : s.extState e = extJoined) : s.pushGo e =
    if s.flag .EXT_STATUS_PUSH_BUSY e = true then s.put .EXT_STATUS_PUSH_PEND e 1 else s.pushStart e := if_neg (not_not.2 h)

theorem pushTimeout_unjoined (h : s.extState e ≠ extJoined) : s.pushTimeout e = s := if_pos (.inl h)

/-- A push in progress is sent again, or has failed. -/
theorem pushTimeout_joined (h : s.extState e = extJoined) (hbusy : s.flag .EXT_STATUS_PUSH_BUSY e = true) : s.pushTimeout e =
    if (s.extData e).retries < s.get .EXT_TIMERS_PUSH_RETRY
      then (s.setExt e { s.extData e with retries := (s.extData e).retries + 1 }).sendConfig e
    else s.pushFail e := if_neg (by simp [h, hbusy])

/-! Messages that arrive. -/

/-- An authenticated message that arrives with its length is judged by its session. -/
theorem outcome_authCommand {c : Instr} {msg : Nat} (hc : (c, msg) ∈ authCommands t d) (ht : t < 16) (hup : s.up 3 = true)
    (harr : s.mgmtArrives t msg d) (hlen : mgmtLen msg = some (beAt d 18 2)) (hfit : 42 + beAt d 18 2 ≤ d.length) :
    exec c s = s.become ((s.mgmtCounted t d).mgmtAuth t (beAt d 6 6) (beAt d 15 1) msg (beAt d 22 4) (beAt d 18 2) d) := by
  obtain ⟨hhello, hresponse⟩ := authCommand_msg hc
  rw [exec_authCommand hc ht hup, mgmtRx_arrives harr,
    mgmtFrame_auth (isMgmt_mgmtCounted harr) (message_of_arrives harr) hhello hresponse hlen hfit]

/-- A RESPONSE that arrives with its version and its length right is judged by its slot. -/
theorem outcome_extResponse (ht : t < 16) (hup : s.up 3 = true) (harr : s.mgmtArrives t 0x04 d) (hlen : mgmtLen 0x04 = some (beAt d 18 2))
    (hver : beAt d 15 1 = 0) (hfit : 26 + beAt d 18 2 ≤ d.length) :
    exec (.extResponse t d) s = s.become ((s.mgmtCounted t d).response t (beAt d 6 6) (slice d 26 48)) := by
  have h48 : beAt d 18 2 = 48 := (Option.some.inj hlen).symm
  rw [h48] at hfit
  rw [exec_extResponse ht hup, mgmtRx_arrives harr,
    mgmtFrame_response (isMgmt_mgmtCounted harr) (message_of_arrives harr) h48 hver hfit]

/-- Settles O32: a message by its slot and its session, a RESPONSE by its proof, polls and pushes by the slot's state. -/
theorem managementFramesAuthenticateOrAreCounted : Obligations.ManagementFramesAuthenticateOrAreCounted := by
  intro e t f c msg s he ht hup hc m u len a x missed miss s1 arrives fits
  have hstate : (s.mgmtCounted t f).extState e = s.extState e := extState_mgmtCounted s t f e
  refine ⟨fun ⟨hrole, hen, hlink, htype, hid, hmsg, hlen⟩ hfit => ?_, fun ⟨hrole, hen, hlink, htype, hid, hmsg, hlen⟩ hver hfit => ?_,
    fun hst => ?_, fun hst => ?_⟩
  · rw [outcome_authCommand hc ht hup ⟨hrole, hen, hlink, htype, hid, hmsg⟩ hlen hfit]
    refine ⟨fun (hslot : (s.mgmtCounted t f).slotOfUnit t (beAt f 6 6) = none) => ?_,
      fun (hslot : (s.mgmtCounted t f).slotOfUnit t (beAt f 6 6) = some e) hno => ?_,
      fun (hslot : (s.mgmtCounted t f).slotOfUnit t (beAt f 6 6) = some e) hst hfits => ?_⟩
    · rw [mgmtAuth_unbound hslot]; rfl
    · rw [mgmtAuth_rejected hslot fun ⟨hst, hfits⟩ => hno ⟨hstate.symm.trans hst, mgmtFits_mgmtCounted.1 hfits⟩]; rfl
    · rw [mgmtAuth_accepted hslot (hstate.trans hst) (mgmtFits_mgmtCounted.2 hfits), extData_mgmtCounted]; rfl
  · rw [outcome_extResponse ht hup ⟨hrole, hen, hlink, htype, hid, hmsg⟩ hlen hver hfit]
    refine ⟨fun (hslot : (s.mgmtCounted t f).slotOfUnit t (beAt f 6 6) = some e) hst => ?_,
      fun (hslot : (s.mgmtCounted t f).slotOfUnit t (beAt f 6 6) = some e) hst => ?_⟩
    · rw [response_late hslot (by rw [hstate, hst]; decide)]; rfl
    · rw [response_challenging hslot (hstate.trans hst), slotWords_mgmtCounted, extHold_mgmtCounted, key_mgmtCounted]; rfl
  · rw [exec_extPoll he hup, poll_unjoined hst, exec_extPushTimeout he hup, pushTimeout_unjoined hst]
    refine ⟨rfl, rfl, fun hs => ?_⟩
    rw [exec_extPushGo he hs hup, pushGo_unjoined hst]; rfl
  · rw [exec_extPoll he hup, poll_joined hst]
    refine ⟨rfl, fun hs => ?_, fun hbusy => ?_⟩
    · rw [exec_extPushGo he hs hup, pushGo_joined hst]; rfl
    · rw [exec_extPushTimeout he hup, pushTimeout_joined hst hbusy]; rfl

end Sys2Proof.Machine
end

section
/-! The commit sequence of the classifier's versions: what each of its commands comes to in each state (R200 to R206). -/
namespace Sys2Proof.Machine

variable {s : State}

/-! An engine under its credit (R388, R390). -/

theorem engine_runs {e : Nat} (h : s.mayRun e = true) (f : State → State) : s.engine e f = (f s).spend e := if_pos h

theorem engine_waits {e : Nat} (h : s.mayRun e = false) (f : State → State) : s.engine e f = s := if_neg (by simp [h])

/-- Fields lie beside Belfry's bits. -/
theorem get_of_beside {t : State} (h : t.besideBel = s.besideBel) (f : Fld) (i : Nat) : t.get f i = s.get f i :=
  congrArg f.of (rd_beside h f.reg i)

/-! The end of a commit, a discard or an empty commit. -/

theorem besideBel_commitDone (s : State) (n : Nat) : (s.commitDone n).besideBel =
    ((s.put .CLS_COMMIT_STATUS_RESULT 0 n).put .CLS_COMMIT_STATUS_DONE 0 1).besideBel := by
  unfold State.commitDone
  dsimp only
  split
  · exact besideBel_pulse _ _
  · rfl

theorem get_commitDone (s : State) (n : Nat) {f : Fld} (h : f.reg ≠ .CLS_COMMIT_STATUS ∨ 10 < f.lo ∧ f.lo ≤ f.hi) :
    (s.commitDone n).get f = s.get f := by
  have hother (u : State) (g : Fld) (v : Nat) (hg : g.reg = .CLS_COMMIT_STATUS) (hhi : g.hi ≤ 10) : (u.put g 0 v).get f = u.get f :=
    get_put_other u g f 0 0 v (h.imp (fun hr hc => hr (hc.1.trans hg)) fun hb => ⟨.inr (Nat.lt_of_le_of_lt hhi hb.1), hb.2⟩)
  calc (s.commitDone n).get f
    _ = ((s.put .CLS_COMMIT_STATUS_RESULT 0 n).put .CLS_COMMIT_STATUS_DONE 0 1).get f :=
      get_of_beside (besideBel_commitDone s n) f 0
    _ = s.get f := by rw [hother _ _ _ rfl (by decide), hother _ _ _ rfl (by decide)]

theorem result_commitDone (s : State) {n : Nat} (h : n < 8) : (s.commitDone n).get .CLS_COMMIT_STATUS_RESULT = n := by
  refine (get_of_beside (besideBel_commitDone s n) _ 0).trans ?_
  refine (get_put_other _ .CLS_COMMIT_STATUS_DONE .CLS_COMMIT_STATUS_RESULT 0 0 1 (.inr (by decide))).trans ?_
  exact (get_put_same s .CLS_COMMIT_STATUS_RESULT (by decide) 0 n).trans (Nat.mod_eq_of_lt h)

theorem done_commitDone (s : State) (n : Nat) : (s.commitDone n).flag .CLS_COMMIT_STATUS_DONE = true :=
  (congrArg (· != 0) (get_of_beside (besideBel_commitDone s n) _ 0)).trans
    (flag_put_one _ .CLS_COMMIT_STATUS_DONE (by decide) 0)

/-- The two lookup tables (R191, R195), and the copies written in the staging version (R200). -/
def State.stagedTables (s : State) : List (Nat × List Word) × List (Nat × List Word) × List (Nat × List Word) := (s.flow, s.pfx, s.clsS)

theorem stagedTables_commitDone (s : State) (n : Nat) : (s.commitDone n).stagedTables = s.stagedTables :=
  show (s.commitDone n).besideBel.stagedTables = s.stagedTables by rw [besideBel_commitDone]; rfl

/-! COMMIT (R203). -/

theorem exec_clsCommit (hs : s.soft = true) (h : s.up 5 = true) : exec .clsCommit s = s.become s.clsCommit := runSoft_up _ hs h

theorem clsCommit_idle (h : s.get .CLS_COMMIT_STATUS_STATE = clsIdle) : s.clsCommit = s.commitDone 4 := if_pos h

/-- A commit of a staging waits for the version that drains. -/
theorem clsCommit_staging (h : s.get .CLS_COMMIT_STATUS_STATE = clsStaging) : s.clsCommit =
    if s.get .CLS_COMMIT_STATUS_DRAIN = 0 then s.put .CLS_COMMIT_STATUS_STATE 0 clsCommitting
    else (s.put .CLS_COMMIT_STATUS_STATE 0 clsWait).put .CLS_COMMIT_STATUS_COMMIT_BUSY 0 1 :=
  (if_neg (by rw [h]; decide)).trans (if_pos h)

theorem clsCommit_busy (h : s.get .CLS_COMMIT_STATUS_STATE = clsWait ∨ s.get .CLS_COMMIT_STATUS_STATE = clsCommitting ∨
    s.get .CLS_COMMIT_STATUS_STATE = clsDiscarding) : s.clsCommit = s := by
  unfold State.clsCommit
  rcases h with h | h | h <;> rw [h] <;> rfl

/-! ABORT (R203, R204). -/

theorem exec_clsAbort (hs : s.soft = true) (h : s.up 5 = true) : exec .clsAbort s = s.become s.clsAbort := runSoft_up _ hs h

theorem clsAbort_discards (h : s.get .CLS_COMMIT_STATUS_STATE = clsStaging ∨ s.get .CLS_COMMIT_STATUS_STATE = clsWait ∨
    s.get .CLS_COMMIT_STATUS_STATE = clsCommitting) : s.clsAbort =
    ({ s with discardFailed := false }.put .CLS_COMMIT_STATUS_STATE 0 clsDiscarding).put .CLS_COMMIT_STATUS_COMMIT_BUSY 0 0 := if_pos h

theorem clsAbort_discarding (h : s.get .CLS_COMMIT_STATUS_STATE = clsDiscarding) : s.clsAbort = s := by
  unfold State.clsAbort
  rw [h]; rfl

/-- An ABORT after the switch of a commit that software has not acknowledged came too late. -/
theorem clsAbort_idle (h : s.get .CLS_COMMIT_STATUS_STATE = clsIdle) : s.clsAbort =
    if s.get .CLS_COMMIT_STATUS_RESULT = 1 ∧ s.flag .CLS_COMMIT_STATUS_DONE = true then s.put .CLS_COMMIT_STATUS_ABORT_LATE 0 1 else s :=
  (if_neg (by rw [h]; decide)).trans (if_congr (and_iff_right h) rfl rfl)

/-! Moves of STATE that change CLS_COMMIT_STATUS alone. -/

theorem state_put (s : State) {n : Nat} (h : n < 8) : (s.put .CLS_COMMIT_STATUS_STATE 0 n).get .CLS_COMMIT_STATUS_STATE = n :=
  (get_put_same s .CLS_COMMIT_STATUS_STATE (by decide) 0 n).trans (Nat.mod_eq_of_lt h)

/-- STATE stays when another field of its register is set, or a field of another register. -/
theorem state_put_other (s : State) (f : Fld) (h : f.reg ≠ .CLS_COMMIT_STATUS ∨ f.hi < 29) (i v : Nat) :
    (s.put f i v).get .CLS_COMMIT_STATUS_STATE = s.get .CLS_COMMIT_STATUS_STATE :=
  get_put_other s f _ i 0 v (h.imp (fun hr hc => hr hc.1.symm) fun hb => ⟨.inr hb, by decide⟩)

theorem state_put_busy (s : State) {n : Nat} (h : n < 8) (b : Nat) :
    ((s.put .CLS_COMMIT_STATUS_STATE 0 n).put .CLS_COMMIT_STATUS_COMMIT_BUSY 0 b).get .CLS_COMMIT_STATUS_STATE = n :=
  (state_put_other _ _ (.inr (by decide)) 0 b).trans (state_put s h)

/-- The next state, where only CLS_COMMIT_STATUS and the mark of a failed discard may have moved. -/
theorem become_statusMove {u : State} {b : Bool} (h : OnlyReg .CLS_COMMIT_STATUS 0 { s with discardFailed := b } u) :
    s.become u = .next u ∧ u = { s with regs := u.regs, discardFailed := u.discardFailed } ∧
      ∀ r i, r ≠ .CLS_COMMIT_STATUS → u.rd r i = s.rd r i := by
  have hform : u = { s with regs := u.regs, discardFailed := u.discardFailed } := by rw [h.rest]
  refine ⟨?_, hform, fun r i hr => h.rd_ne hr i⟩
  rw [hform]; rfl

/-! The switch (R203, R205). -/

theorem exec_clsCommitSwitch (h : s.up 5 = true) : exec .clsCommitSwitch s = s.become s.clsSwitch := run_up _ h

/-- The indexed tables after the switch: the staging's copies are the active ones, and the values that they replace drain (R200). -/
def State.switchTables (s : State) : State :=
  { s with
    clsD := s.clsS.map fun (e : Nat × List Word) => (e.1, (tfind s.clsA e.1).getD (List.replicate (clsWords (e.1 / 2 ^ 17)) 0))
    clsA := s.clsS.foldl (fun a (e : Nat × List Word) => tset a e.1 (if e.2.all (· == 0) then none else some e.2)) s.clsA
    clsS := [], drainWarned := false }.each
    (s.clsS.filter fun (e : Nat × List Word) => e.1 / 2 ^ 17 == 5) fun s e => s.memWrite 7 (2 ^ 17 + e.1 % 2 ^ 17)

/-- The version registers after the switch: the staging version is the active one, and the old one drains. -/
def State.switchVersions (s t : State) : State :=
  (((t.put .CLS_VERSION_ACTIVE 0 s.versionS).put .CLS_JOURNAL_COUNT 0 0).put .CLS_COMMIT_STATUS_STATE 0 clsIdle).put
    .CLS_COMMIT_STATUS_DRAIN 0 (if s.inflight s.versionA = 0 then 2 else 1)

theorem clsSwitch_committing (h : s.get .CLS_COMMIT_STATUS_STATE = clsCommitting) (ht : s.taeOf 0 = none) :
    s.clsSwitch = (s.switchVersions s.switchTables).mirJournaled.commitDone 1 :=
  if_neg (by simp [h, ht])

theorem clsSwitch_otherwise (h : s.get .CLS_COMMIT_STATUS_STATE ≠ clsCommitting) : s.clsSwitch = s := if_pos (.inl h)

/-- A write of a memory word leaves what neither the injected errors nor FLT_INJ_DATA hold. -/
theorem memWrite_keeps {β : Type} (g : State → β) (hl : ∀ s l, g { s with injected := l } = g s)
    (hput : ∀ s, g (s.put .FLT_INJ_DATA_ARM 0 0) = g s) (s : State) (m a : Nat) : g (s.memWrite m a) = g s := by
  unfold State.memWrite
  split
  · exact (hput _).trans (hl s _)
  · exact hl s _

theorem stagedTables_switchTables (s : State) : s.switchTables.stagedTables = (s.flow, s.pfx, []) :=
  each_keeps State.stagedTables _ _ (fun s _ => memWrite_keeps State.stagedTables (fun _ _ => rfl) (fun _ => rfl) s _ _) _

theorem stagedTables_mirJournaled (s : State) : s.mirJournaled.stagedTables = s.stagedTables := by
  unfold State.mirJournaled
  split <;> rfl

theorem regs_mirJournaled (s : State) : s.mirJournaled.regs = s.regs := by
  unfold State.mirJournaled
  split <;> rfl

/-- What the version registers show right after the switch. -/
theorem switchVersions_shows (s t : State) : (s.switchVersions t).get .CLS_COMMIT_STATUS_STATE = clsIdle ∧
    (s.switchVersions t).get .CLS_COMMIT_STATUS_DRAIN = (if s.inflight s.versionA = 0 then 2 else 1) ∧
    (s.switchVersions t).get .CLS_JOURNAL_COUNT = 0 ∧ (s.switchVersions t).versionA = s.versionS % 2 ^ 16 := by
  refine ⟨?_, ?_, ?_, ?_⟩
  · exact (state_put_other _ _ (.inr (by decide)) 0 _).trans (state_put _ (by decide))
  · refine (get_put_same _ .CLS_COMMIT_STATUS_DRAIN (by decide) 0 _).trans (Nat.mod_eq_of_lt ?_)
    split <;> decide
  · rw [State.switchVersions, get_put_reg _ (by decide), get_put_reg _ (by decide)]
    exact get_put_same _ .CLS_JOURNAL_COUNT (by decide) 0 0
  · rw [State.versionA, State.switchVersions, get_put_reg _ (by decide), get_put_reg _ (by decide), get_put_reg _ (by decide)]
    exact get_put_same t .CLS_VERSION_ACTIVE (by decide) 0 s.versionS

/-- What the switch leaves: the staging version active, the old one draining, the staging empty. -/
theorem clsSwitch_shows (h : s.get .CLS_COMMIT_STATUS_STATE = clsCommitting) (ht : s.taeOf 0 = none) :
    s.clsSwitch.get .CLS_COMMIT_STATUS_STATE = clsIdle ∧ s.clsSwitch.get .CLS_COMMIT_STATUS_RESULT = 1 ∧
    s.clsSwitch.flag .CLS_COMMIT_STATUS_DONE = true ∧ s.clsSwitch.versionA = s.versionS % 2 ^ 16 ∧
    s.clsSwitch.get .CLS_COMMIT_STATUS_DRAIN = (if s.inflight s.versionA = 0 then 2 else 1) ∧ s.clsSwitch.get .CLS_JOURNAL_COUNT = 0 ∧
    s.clsSwitch.stagedTables = (s.flow, s.pfx, []) := by
  rw [clsSwitch_committing h ht]
  obtain ⟨hstate, hdrain, hcount, hversion⟩ := switchVersions_shows s s.switchTables
  have hget {f : Fld} (hf : f.reg ≠ .CLS_COMMIT_STATUS ∨ 10 < f.lo ∧ f.lo ≤ f.hi) :
      ((s.switchVersions s.switchTables).mirJournaled.commitDone 1).get f = (s.switchVersions s.switchTables).get f :=
    (get_commitDone _ 1 hf).trans (get_of_regs (regs_mirJournaled _) f 0)
  refine ⟨(hget (by decide)).trans hstate, result_commitDone _ (by decide), done_commitDone _ 1, (hget (by decide)).trans hversion,
    (hget (by decide)).trans hdrain, (hget (by decide)).trans hcount, ?_⟩
  exact (stagedTables_commitDone _ 1).trans ((stagedTables_mirJournaled _).trans (stagedTables_switchTables s))

theorem exec_clsCommitEcc (h : s.up 5 = true) : exec .clsCommitEcc s = s.become s.clsCommitEcc := run_up _ h

/-! The drain, cleanup and discarding (R203, R206). -/

theorem exec_clsDrainEmpty (h : s.up 5 = true) : exec .clsDrainEmpty s = s.become s.clsDrainEmpty := run_up _ h

theorem exec_clsDrainWarn (h : s.up 5 = true) : exec .clsDrainWarn s = s.become s.clsDrainWarn := run_up _ h

theorem exec_clsCleanupEnd (h : s.up 5 = true) (hrun : s.mayRun 0 = true) :
    exec .clsCleanupEnd s = s.become (s.clsCleanupEnd.spend 0) := (run_up _ h).trans (congrArg s.become (engine_runs hrun _))

theorem exec_clsDiscardEnd (h : s.up 5 = true) (hrun : s.mayRun 0 = true) :
    exec .clsDiscardEnd s = s.become (s.clsDiscardEnd.spend 0) := (run_up _ h).trans (congrArg s.become (engine_runs hrun _))

/-- The state in which the draining version is retired. -/
def State.retired (s : State) : State :=
  { s with flow := sweepTable (settle s.versionA 4 5) s.flow, pfx := sweepTable (settle s.versionA 20 21) s.pfx, clsD := [] }.put
    .CLS_COMMIT_STATUS_DRAIN 0 0

theorem state_retired (s : State) : s.retired.get .CLS_COMMIT_STATUS_STATE = s.get .CLS_COMMIT_STATUS_STATE :=
  state_put_other _ .CLS_COMMIT_STATUS_DRAIN (.inr (by decide)) 0 0

theorem drain_retired (s : State) : s.retired.get .CLS_COMMIT_STATUS_DRAIN = 0 :=
  get_put_same _ .CLS_COMMIT_STATUS_DRAIN (by decide) 0 0

/-- At the end of cleanup a commit that waits goes on. -/
theorem clsCleanupEnd_draining (h : s.get .CLS_COMMIT_STATUS_DRAIN = 2) : s.clsCleanupEnd =
    if s.get .CLS_COMMIT_STATUS_STATE = clsWait
    then (s.retired.put .CLS_COMMIT_STATUS_STATE 0 clsCommitting).put .CLS_COMMIT_STATUS_COMMIT_BUSY 0 0 else s.retired :=
  (if_neg (not_not_intro h)).trans (if_congr (Eq.congr (state_retired s) rfl) rfl rfl)

theorem clsCleanupEnd_shows (h : s.get .CLS_COMMIT_STATUS_DRAIN = 2) : s.clsCleanupEnd.get .CLS_COMMIT_STATUS_DRAIN = 0 ∧
    s.clsCleanupEnd.get .CLS_COMMIT_STATUS_STATE =
      (if s.get .CLS_COMMIT_STATUS_STATE = clsWait then clsCommitting else s.get .CLS_COMMIT_STATUS_STATE) ∧
    s.clsCleanupEnd = { s.retired with regs := s.clsCleanupEnd.regs } := by
  rw [clsCleanupEnd_draining h]
  split
  · refine ⟨?_, state_put_busy _ (by decide) 0, rfl⟩
    rw [get_put_other _ .CLS_COMMIT_STATUS_COMMIT_BUSY _ 0 0 0 (.inr (by decide)),
      get_put_other _ .CLS_COMMIT_STATUS_STATE _ 0 0 _ (.inr (by decide)), drain_retired]
  · exact ⟨drain_retired s, state_retired s, rfl⟩

theorem clsDiscardEnd_discarding (h : s.get .CLS_COMMIT_STATUS_STATE = clsDiscarding) : s.clsDiscardEnd =
    (s.undoStaging.put .CLS_COMMIT_STATUS_STATE 0 clsIdle).commitDone (if s.discardFailed = true then 3 else 2) :=
  if_neg (not_not_intro h)

theorem clsDiscardEnd_shows (h : s.get .CLS_COMMIT_STATUS_STATE = clsDiscarding) :
    s.clsDiscardEnd.get .CLS_COMMIT_STATUS_STATE = clsIdle ∧
    s.clsDiscardEnd.get .CLS_COMMIT_STATUS_RESULT = (if s.discardFailed = true then 3 else 2) ∧
    s.clsDiscardEnd.flag .CLS_COMMIT_STATUS_DONE = true ∧
    s.clsDiscardEnd.stagedTables = (sweepTable (undo s.versionS 4 5) s.flow, sweepTable (undo s.versionS 20 21) s.pfx, []) ∧
    s.clsDiscardEnd.get .CLS_JOURNAL_COUNT = 0 := by
  rw [clsDiscardEnd_discarding h]
  refine ⟨?_, result_commitDone _ (by split <;> decide), done_commitDone _ _, stagedTables_commitDone _ _, ?_⟩
  · exact (get_commitDone _ _ (by decide)).trans (state_put _ (by decide))
  · exact ((get_commitDone _ _ (by decide)).trans (get_put_reg _ (by decide) 0 0 _)).trans
      (get_put_same _ .CLS_JOURNAL_COUNT (by decide) 0 0)

/-- Settles O35: COMMIT and ABORT by STATE, the switch and the two walks by what they leave. -/
theorem commitSequenceFollowsItsTable : Obligations.CommitSequenceFollowsItsTable := by
  intro s hup st dr moves
  have hmoves {c : Instr} {u : State} {n : Nat} {b : Bool} (hexec : exec c s = s.become u)
      (hu : OnlyReg .CLS_COMMIT_STATUS 0 { s with discardFailed := b } u) (hn : u.get .CLS_COMMIT_STATUS_STATE = n) : moves c n :=
    ⟨u, hexec.trans (become_statusMove hu).1, hn, (become_statusMove hu).2⟩
  refine ⟨fun hs => ⟨fun hst hdr => ?_, fun hst hdr => ?_, fun hst => ?_, fun hst => ?_, fun hst => ?_, fun hst => ?_, fun hst => ?_⟩,
    fun hst => ⟨?_, ?_⟩, fun hst ht => ?_, fun hst => ?_, ?_, fun hrun => ⟨?_, ?_⟩, fun hrun hdr => ?_, fun hrun hdr => ?_,
    fun hrun hst => ?_, fun hrun hst => ?_, ?_⟩
  · refine hmoves (exec_clsCommit hs hup) (b := s.discardFailed) ?_ ?_ <;> rw [clsCommit_staging hst, if_pos hdr]
    · exact (OnlyReg.refl .CLS_COMMIT_STATUS 0 s).put .CLS_COMMIT_STATUS_STATE rfl _
    · exact state_put s (by decide)
  · refine hmoves (exec_clsCommit hs hup) (b := s.discardFailed) ?_ ?_ <;> rw [clsCommit_staging hst, if_neg hdr]
    · exact ((OnlyReg.refl .CLS_COMMIT_STATUS 0 s).put .CLS_COMMIT_STATUS_STATE rfl _).put .CLS_COMMIT_STATUS_COMMIT_BUSY rfl _
    · exact state_put_busy s (by decide) 1
  · rw [exec_clsCommit hs hup, clsCommit_busy hst]; rfl
  · refine ⟨_, exec_clsCommit hs hup, ?_⟩
    rw [clsCommit_idle hst]
    exact ⟨result_commitDone s (by decide), done_commitDone s 4, (get_commitDone s 4 (by decide)).trans hst⟩
  · refine hmoves (exec_clsAbort hs hup) (b := false) ?_ ?_ <;> rw [clsAbort_discards hst]
    · exact ((OnlyReg.refl .CLS_COMMIT_STATUS 0 _).put .CLS_COMMIT_STATUS_STATE rfl _).put .CLS_COMMIT_STATUS_COMMIT_BUSY rfl _
    · exact state_put_busy _ (by decide) 0
  · rw [exec_clsAbort hs hup, clsAbort_discarding hst]; rfl
  · rw [exec_clsAbort hs hup, clsAbort_idle hst]
    split <;> rfl
  · rw [exec_clsCommitSwitch hup, clsSwitch_otherwise hst]; rfl
  · exact (exec_clsCommitEcc hup).trans (congrArg s.become (if_neg hst))
  · obtain ⟨hstate, hresult, hdone, hversion, hdrain, hcount, htables⟩ := clsSwitch_shows hst ht
    exact ⟨_, exec_clsCommitSwitch hup, hstate, hresult, hdone, hversion, hdrain, hcount,
      congrArg (·.2.2) htables, congrArg (·.1) htables, congrArg (·.2.1) htables⟩
  · exact (exec_clsCommitEcc hup).trans (congrArg s.become (if_pos hst))
  · rw [exec_clsDrainEmpty hup]
    unfold State.clsDrainEmpty
    split <;> rfl
  · exact (run_up _ hup).trans (congrArg s.become (engine_waits hrun _))
  · exact (run_up _ hup).trans (congrArg s.become (engine_waits hrun _))
  · rw [exec_clsCleanupEnd hup hrun]
    exact congrArg (fun u : State => s.become (u.spend 0)) (if_pos hdr)
  · obtain ⟨hdrain, hstate, hrest⟩ := clsCleanupEnd_shows hdr
    refine ⟨_, exec_clsCleanupEnd hup hrun, hdrain, hstate, ?_, ?_, ?_, ?_⟩ <;> rw [hrest] <;> rfl
  · rw [exec_clsDiscardEnd hup hrun]
    exact congrArg (fun u : State => s.become (u.spend 0)) (if_pos hst)
  · obtain ⟨hstate, hresult, hdone, htables, hcount⟩ := clsDiscardEnd_shows hst
    exact ⟨_, exec_clsDiscardEnd hup hrun, hstate, hresult, hdone, congrArg (·.1) htables, congrArg (·.2.1) htables,
      congrArg (·.2.2) htables, hcount⟩
  · exact (exec_clsDrainWarn hup).trans (congrArg s.become (if_congr (and_congr_right fun _ => iff_of_eq (Bool.not_eq_true' _)) rfl rfl))

end Sys2Proof.Machine
end

section
/-! The classifier's table commands: a staged command by the checks that it meets, a READ or SEARCH by its view (R199 to R208). -/
namespace Sys2Proof.Machine

variable {s : State} {t : Tae} {e : Ecc}

/-! A command that waits in its engine. -/

theorem taeRun_waiting {k op : Nat} (h : s.taeOf k = some t) (hop : t.op = op) (f : Tae → State → TaeOut × State) :
    s.taeRun k op f = (f t s).2.taeDone k t (f t s).1 := by
  simp only [State.taeRun, h, hop, if_true]

/-! A failed staging (R203, R208). -/

theorem clsFaultFree_keeps {β : Type} (g : State → β) (hf : ∀ s n, g { s with fresh := n } = g s) (hr : ∀ s l, g { s with raised := l } = g s)
    (s : State) (target : Nat) : g (s.clsFaultFree target) = g s := by
  unfold State.clsFaultFree
  split
  · exact (hf _ _).trans (hr s _)
  · rfl

/-- CLS_COMMIT_STATUS holds neither reported faults nor the count of refused commands. -/
theorem get_failedStaging (s : State) (target : Nat) {f : Fld} (h : f.reg = .CLS_COMMIT_STATUS) :
    ((s.clsFaultFree target).inc .CLS_STAGE_REJ_COUNT).get f = s.get f :=
  (congrArg f.of (rd_inc_reg _ (by rfl) (by rw [h]; decide) 0 0)).trans
    (clsFaultFree_keeps (fun s => s.get f) (fun _ _ => rfl) (fun _ _ => rfl) s target)

theorem state_stageFail (s : State) (cause : Nat) : (s.stageFail cause).get .CLS_COMMIT_STATUS_STATE = clsDiscarding := by
  rw [State.stageFail, get_pulse, state_put_other _ .CLS_COMMIT_STATUS_FAIL_CAUSE (.inr (by decide)),
    state_put_other _ .CLS_COMMIT_STATUS_COMMIT_BUSY (.inr (by decide)), state_put_other _ .CLS_COMMIT_STATUS_STAGE_FAIL (.inr (by decide)),
    state_put _ (by decide)]

theorem stageFail_marks (s : State) (cause : Nat) : (s.stageFail cause).flag .CLS_COMMIT_STATUS_STAGE_FAIL = true := by
  rw [State.flag, State.stageFail, get_pulse]
  exact (flag_put_other _ .CLS_COMMIT_STATUS_FAIL_CAUSE _ 0 0 cause (.inr (by decide))).trans
    ((flag_put_other _ .CLS_COMMIT_STATUS_COMMIT_BUSY _ 0 0 0 (.inr (by decide))).trans
      (flag_put_one _ .CLS_COMMIT_STATUS_STAGE_FAIL (by decide) 0))

theorem cause_stageFail (s : State) {cause : Nat} (h : cause < 16) :
    (s.stageFail cause).get .CLS_COMMIT_STATUS_FAIL_CAUSE = cause :=
  (get_pulse _ _ _ 0).trans ((get_put_same _ .CLS_COMMIT_STATUS_FAIL_CAUSE (by decide) 0 cause).trans (Nat.mod_eq_of_lt h))

/-! The checks of a staged command (R205, R208). -/

/-- The staging is shut for a command that did not find it open, and after an ABORT or a failure since. -/
theorem stageShut_iff (s : State) (opened : Bool) : s.stageShut opened = true ↔ opened = false ∨
    s.get .CLS_COMMIT_STATUS_STATE = clsDiscarding ∨ s.flag .CLS_COMMIT_STATUS_STAGE_FAIL = true ∨ s.committed = false := by
  cases opened
  · exact iff_of_true rfl (.inl rfl)
  · simp [State.stageShut, or_assoc]

section
variable {p : Tae → Bool} (f : Tae → State → TaeOut × State)

theorem staged_locked (hp : p t = true) (h : s.stageShut t.opened = true) : staged e p f t s = s.stageRefuse 4 := by
  simp only [staged, hp, h, Bool.not_true, Bool.false_eq_true, if_false, if_true]

theorem staged_uncorr (hp : p t = true) (h : s.stageShut t.opened = false) :
    staged .uncorr p f t s = ((s.stageFail 4).clsFaultFree t.target).stageRefuse 5 := by
  simp only [staged, hp, h, Bool.not_true, Bool.false_eq_true, if_false, if_true]

theorem staged_acts (hp : p t = true) (h : s.stageShut t.opened = false) (he : e ≠ .uncorr) : staged e p f t s = f t s := by
  simp only [staged, hp, h, he, Bool.not_true, Bool.false_eq_true, if_false]

end

/-- The staged commands: operation, whether the target admits it, and what it does to the staging. -/
def stagedRows (e : Ecc) (t : Tae) (s : State) : List (Instr × Nat × Bool × (TaeOut × State)) :=
  [(.clsStageAdd e, 1, t.target == 1 || t.target == 2, if t.target = 1 then s.stageAddFlow t.data else s.stageAddPfx t.data),
   (.clsStageDel e, 2, t.target == 1 || t.target == 2, if t.target = 1 then s.stageDelFlow t.data else s.stageDelPfx t.data),
   (.clsStageWrite e, 3, 3 ≤ t.target && t.target ≤ 5 && decide (t.addr < clsRange t.target), s.stageWrite t.target t.addr t.data)]

/-- The staged commands have one form: an engine's work that waits for a credit, under the common checks. -/
theorem exec_stagedRow {c : Instr} {op : Nat} {ok : Bool} {r : TaeOut × State} (h : (c, op, ok, r) ∈ stagedRows e t s) :
    ∃ p f, exec c s = run 5 (fun s => s.engine 0 fun s => s.taeRun 0 op (staged e p f)) s ∧ p t = ok ∧ f t s = r := by
  simp only [stagedRows, List.mem_cons, List.not_mem_nil, or_false, Prod.mk.injEq] at h
  obtain ⟨rfl, rfl, rfl, rfl⟩ | ⟨rfl, rfl, rfl, rfl⟩ | ⟨rfl, rfl, rfl, rfl⟩ := h
  · exact ⟨_, _, rfl, rfl, rfl⟩
  · exact ⟨_, _, rfl, rfl, rfl⟩
  · exact ⟨_, _, rfl, rfl, rfl⟩

/-- A staged command whose target admits it ends with the outcome of the checks that remain. -/
theorem exec_stagedRow_waiting {c : Instr} {op : Nat} {r : TaeOut × State} (h : (c, op, true, r) ∈ stagedRows e t s) (hup : s.up 5 = true)
    (ht : s.taeOf 0 = some t) (hop : t.op = op) (hrun : s.mayRun 0 = true) : ∃ p f, p t = true ∧ f t s = r ∧
      exec c s = s.become (((staged e p f t s).2.taeDone 0 t (staged e p f t s).1).spend 0) := by
  obtain ⟨p, f, hexec, hp, hf⟩ := exec_stagedRow h
  exact ⟨p, f, hp, hf, by rw [hexec, run_up _ hup, engine_runs hrun, taeRun_waiting ht hop]⟩

/-! READ and SEARCH (R199, R207). -/

theorem exec_clsRead_dead (hup : s.up 5 = true) (ht : s.taeOf 0 = some t) (hop : t.op = 4) (hv : s.viewVersion t.view = none) :
    exec (.clsRead e) s = s.become (s.taeDone 0 t (6, none, [])) := by
  refine (run_up _ hup).trans (congrArg s.become ((taeRun_waiting ht hop _).trans ?_))
  rw [hv]

theorem exec_clsSearch_dead (hup : s.up 5 = true) (ht : s.taeOf 0 = some t) (hop : t.op = 5) (hv : s.viewVersion t.view = none) :
    exec (.clsSearch e) s = s.become (s.taeDone 0 t (6, none, [])) := by
  refine (run_up _ hup).trans (congrArg s.become ((taeRun_waiting ht hop _).trans ?_))
  rw [hv]

/-- A READ within its target's range answers with ECC or with what the version shows. -/
theorem exec_clsRead_live {v : Nat} (hup : s.up 5 = true) (ht : s.taeOf 0 = some t) (hop : t.op = 4) (hv : s.viewVersion t.view = some v)
    (h1 : 1 ≤ t.target) (h5 : t.target ≤ 5) (haddr : s.clsAddrOk t.target t.addr = true) :
    exec (.clsRead e) s = s.become (if s.clsBad t.target (s.clsFirst t.target t.addr) e = true
      then ((s.clsFault t.target (s.clsFirst t.target t.addr)).when (t.target == 5) fun s => s.inc .POL_ECC_COUNT).taeDone 0 t (7, none, [])
      else s.taeDone 0 t (s.clsRead t.target v (s.clsFirst t.target t.addr))) := by
  refine (run_up _ hup).trans (congrArg s.become ((taeRun_waiting ht hop _).trans ?_))
  simp only [hv, h1, h5, haddr, decide_true, Bool.and_self, Bool.not_true, Bool.or_self, Bool.false_eq_true, if_false]
  split <;> rfl

/-- A SEARCH of one of the two lookup tables answers with ECC or with what the version shows. -/
theorem exec_clsSearch_live {v : Nat} (hup : s.up 5 = true) (ht : s.taeOf 0 = some t) (hop : t.op = 5)
    (hv : s.viewVersion t.view = some v) (h12 : t.target = 1 ∨ t.target = 2) :
    exec (.clsSearch e) s = s.become (if s.searchBad t.target v t.data e = true
      then (s.clsFaultFree t.target).taeDone 0 t (7, none, []) else s.taeDone 0 t (s.clsSearch t.target v t.data)) := by
  have htarget : (!(t.target == 1 || t.target == 2)) = false := by rcases h12 with h | h <;> rw [h] <;> rfl
  refine (run_up _ hup).trans (congrArg s.become ((taeRun_waiting ht hop _).trans ?_))
  simp only [hv, htarget, Bool.false_eq_true, if_false]
  split <;> rfl

/-- Settles O34: a staged command by the first check that stops it, a READ or SEARCH by its view and the errors that it reads. -/
theorem stagedCommandsAreCheckedInOrder : Obligations.StagedCommandsAreCheckedInOrder := by
  intro t e s hup ht shut ends locked failed rows
  refine ⟨fun c op ok r hmem hop hok hrun => ?_, fun hop hv c hc => ?_,
    fun v hv => ⟨fun hop h1 h5 haddr => ?_, fun hop h12 => exec_clsSearch_live hup ht hop hv h12⟩⟩
  · subst hok
    obtain ⟨p, f, hp, hf, hexec⟩ := exec_stagedRow_waiting hmem hup ht hop hrun
    have hopen (h : ¬shut) : s.stageShut t.opened = false := Bool.eq_false_iff.2 (mt (stageShut_iff s t.opened).1 h)
    refine ⟨fun h => ?_, fun h he => ?_, fun h he => ?_⟩
    · rw [staged_locked f hp ((stageShut_iff s t.opened).2 h)] at hexec
      exact hexec
    · subst he
      rw [staged_uncorr f hp (hopen h)] at hexec
      refine ⟨hexec, (get_failedStaging _ _ rfl).trans (state_stageFail s 4), ?_,
        (get_failedStaging _ _ rfl).trans (cause_stageFail s (by decide))⟩
      exact (congrArg (· != 0) (get_failedStaging _ _ rfl)).trans (stageFail_marks s 4)
    · rw [staged_acts f hp (hopen h) he, hf] at hexec
      exact hexec
  · rcases hop with hop | hop
    · rw [hc, if_pos hop]
      exact exec_clsRead_dead hup ht hop hv
    · rw [hc, if_neg (by rw [hop]; decide)]
      exact exec_clsSearch_dead hup ht hop hv
  · rw [exec_clsRead_live hup ht hop hv h1 h5 haddr, State.when]
    simp only [beq_iff_eq]
    rfl

end Sys2Proof.Machine
end

section
/-! The node registry: its commands by the checks that they meet, and the visits of the ageing sweeper (R220 to R228). -/
namespace Sys2Proof.Machine

variable {s : State} {t : Tae} {e : Ecc} {i : Nat} {d : List Word}

/-! The tables of contexts and of node counters under the registry's operations. -/

theorem ctx_memWrite (s : State) (m a : Nat) : (s.memWrite m a).ctx = s.ctx :=
  memWrite_keeps State.ctx (fun _ _ => rfl) (fun _ => rfl) s m a

theorem nodeCnt_memWrite (s : State) (m a : Nat) : (s.memWrite m a).nodeCnt = s.nodeCnt :=
  memWrite_keeps State.nodeCnt (fun _ _ => rfl) (fun _ => rfl) s m a

theorem ctxOf_writeCtx (s : State) (i : Nat) (c : Ctx) (j : Nat) : (s.writeCtx i c).ctxOf j = if j = i then c else s.ctxOf j :=
  (congrArg (tget ({} : Ctx) · j) (ctx_memWrite (s.setCtx i c) 5 i)).trans (tget_tput {} s.ctx i j c)

theorem ctxOf_reclass (s : State) (i : Nat) (f : State → State) (j : Nat) : (s.reclass i f).ctxOf j = (f s).ctxOf j := by
  unfold State.reclass
  dsimp only
  split <;> rfl

theorem ctx_readProf (s : State) (v i : Nat) (bad : List Nat) : (s.readProf v i bad).2.ctx = s.ctx := by
  unfold State.readProf
  split
  · exact add_keeps State.ctx (f := .POL_ECC_COUNT) (fun _ => rfl) (fun _ _ _ => rfl) (fun _ _ _ _ => rfl) _ 0 1
  · rfl

/-- The reset of a node's policer writes the policer in the node's context (R233, R240). -/
theorem ctxOf_resetPol_node (s : State) (i v : Nat) :
    ∃ p, ∀ j, (s.resetPol .node i v).ctxOf j = if j = i then { s.ctxOf i with pol := p } else s.ctxOf j := by
  have hread (k : Nat) : (s.readProf v (s.polProfile .node i) []).2.ctxOf k = s.ctxOf k :=
    congrArg (tget ({} : Ctx) · k) (ctx_readProf s v (s.polProfile .node i) [])
  exact ⟨_, fun j => (ctxOf_writeCtx _ i _ j).trans (by rw [hread i, hread j])⟩

theorem nodeCounter_clearNode (s : State) (i k : Nat) {n : Nat} (hn : n < 4) :
    (s.clearNode i).nodeCounter k n = if k = i then 0 else s.nodeCounter k n := by
  have hnode : (4 * k + n) / 4 = k := by omega
  refine (congrArg (tget 0 · (4 * k + n)) (nodeCnt_memWrite _ 6 i)).trans ?_
  refine (congrArg (·.getD 0) (tfind_filter (fun x => !(x / 4 == i)) s.nodeCnt (4 * k + n))).trans ?_
  rw [hnode]
  by_cases h : k = i
  · simp [h]
  · simp [h, State.nodeCounter, tget]

/-! A registry command that waits in its engine (R225, R226). -/

/-- The registry's commands: operation, target, and what each does to the entry that it names. -/
def registryRows (e : Ecc) (t : Tae) (s : State) : List (Instr × Nat × Nat × (TaeOut × State)) :=
  [(.nregInsert e, 1, 1, s.nregInsert t.addr t.data e), (.nregDelete e, 2, 1, s.nregDelete t.addr e),
   (.nregWriteCfg e, 3, 1, s.nregWriteCfg t.addr t.data e), (.nregRead e, 4, 1, s.nregRead 1 t.addr e),
   (.nregSearch e, 5, 1, s.nregSearch t.addr t.data e), (.nregClear e, 6, 2, s.nregClear t.addr e)]

/-- The command ends with this outcome, and leaves this state beside the engine's latch (R431). -/
def RegistryAnswers (s : State) (t : Tae) (c : Instr) (r : TaeOut × State) : Prop := exec c s = s.become (r.2.taeDone 1 t r.1)

/-- The registry's commands have one form. -/
theorem exec_registryRow_form {c : Instr} {op k : Nat} {r : TaeOut × State} (h : (c, op, k, r) ∈ registryRows e t s)
    (htarget : t.target = k) : ∃ f, exec c s = run 6 (fun s => s.taeRun 1 op f) s ∧ f t s = r := by
  simp only [registryRows, List.mem_cons, List.not_mem_nil, or_false, Prod.mk.injEq] at h
  obtain ⟨rfl, rfl, rfl, rfl⟩ | ⟨rfl, rfl, rfl, rfl⟩ | ⟨rfl, rfl, rfl, rfl⟩ | ⟨rfl, rfl, rfl, rfl⟩ |
    ⟨rfl, rfl, rfl, rfl⟩ | ⟨rfl, rfl, rfl, rfl⟩ := h
  · exact ⟨_, rfl, if_pos htarget⟩
  · exact ⟨_, rfl, if_pos htarget⟩
  · exact ⟨_, rfl, if_pos htarget⟩
  · exact ⟨_, rfl, congrArg (s.nregRead · t.addr e) htarget⟩
  · exact ⟨_, rfl, if_pos htarget⟩
  · exact ⟨_, rfl, if_pos htarget⟩

theorem registryRow_answers {c : Instr} {op k : Nat} {r : TaeOut × State} (h : (c, op, k, r) ∈ registryRows e t s)
    (hup : s.up 6 = true) (ht : s.taeOf 1 = some t) (hop : t.op = op) (htarget : t.target = k) : RegistryAnswers s t c r := by
  obtain ⟨f, hexec, hf⟩ := exec_registryRow_form h htarget
  rw [RegistryAnswers, hexec, run_up _ hup, taeRun_waiting ht hop, hf]

/-! The checks of a command on one context (R225, R226). -/

/-- A command on context `i`: BAD_CMD, then ECC, then what the command itself answers. -/
def State.checkedCtx (s : State) (i : Nat) (e : Ecc) (bad : Bool) (r : TaeOut × State) : TaeOut × State :=
  if bad then refusedCmd 6 s else if s.eccOf 5 i e = .uncorr then refusedCmd 7 (s.memFault 5 i) else r

/-- What holds of the command's outcome holds of the refusal of the first check that fails, and of the command's own answer else. -/
theorem checkedCtx_outcome {E : TaeOut × State → Prop} {P A : Prop} [Decidable P] [Decidable (s.eccOf 5 i e = .uncorr)] {bad : Bool}
    {r : TaeOut × State} (h : E (s.checkedCtx i e bad r)) (hP : bad = true ↔ P) (hr : E r → A) :
    if P then E (refusedCmd 6 s) else if s.eccOf 5 i e = .uncorr then E (refusedCmd 7 (s.memFault 5 i)) else A := by
  unfold State.checkedCtx at h
  split
  case isTrue hbad => rwa [if_pos (hP.2 hbad)] at h
  case isFalse hbad =>
    rw [if_neg (mt hP.1 hbad)] at h
    split
    case isTrue hecc => rwa [if_pos hecc] at h
    case isFalse hecc =>
      rw [if_neg hecc] at h
      exact hr h

/-- A command on a registered node is NOT_FOUND where the context holds none. -/
theorem registered_outcome {E : TaeOut × State → Prop} {A : Prop} {valid : Bool} {r : TaeOut × State}
    (h : E (if (!valid) = true then refusedCmd 2 s else r)) (hr : valid = true → E r → A) :
    if valid = false then E (refusedCmd 2 s) else A := by
  cases valid
  · exact h
  · exact hr rfl h

/-- What INSERT answers after the checks of the context: OCCUPIED, a context of the port that cannot be read, EXISTS, or the node. -/
def State.insertAnswer (s : State) (i : Nat) (d : List Word) : TaeOut × State :=
  if (s.ctxOf i).valid then refusedCmd 3 s
  else match s.portUnread (i / 256) with
  | some j => refusedCmd 7 (s.memFault 5 j)
  | none =>
    if (s.nodeByAddr (i / 256) (dataAddr d)).isSome then refusedCmd 1 s
    else ((0, none, []), s.register i (dataAddr d) 2 s.versionA (wbit (nth d 0 0) 30) (cfg4Of d) (cfg5Of d))

theorem nregInsert_eq (s : State) (i : Nat) (d : List Word) (e : Ecc) : s.nregInsert i d e =
    s.checkedCtx i e (s.nregBadIndex i || wbits (nth d 4 0) 15 0 == 0 || badAddr (dataAddr d)) (s.insertAnswer i d) := rfl

theorem nregDelete_eq (s : State) (i : Nat) (e : Ecc) : s.nregDelete i e = s.checkedCtx i e (s.nregBadIndex i)
    (if !(s.ctxOf i).valid then refusedCmd 2 s else ((0, none, []), s.removeNode i 2)) := rfl

/-- The state that WRITE_CFG leaves: the configuration written, and the policer reset under a new profile or at a rising EN (R240). -/
def State.reconfigured (s : State) (i : Nat) (d : List Word) : State :=
  let c := s.ctxOf i
  let s1 := s.reclass i fun s => s.writeCtx i { c with pin := wbit (nth d 0 0) 30, cfg4 := cfg4Of d, cfg5 := cfg5Of d }
  if wbits c.cfg5 15 0 != wbits (cfg5Of d) 15 0 || (!wbit c.cfg5 31 && wbit (cfg5Of d) 31) then s1.resetPol .node i s1.versionA else s1

theorem nregWriteCfg_eq (s : State) (i : Nat) (d : List Word) (e : Ecc) : s.nregWriteCfg i d e =
    s.checkedCtx i e (s.nregBadIndex i || wbits (nth d 4 0) 15 0 == 0)
      (if !(s.ctxOf i).valid then refusedCmd 2 s else ((0, none, []), s.reconfigured i d)) := rfl

/-- Beside PIN and the configuration words, WRITE_CFG moves at most the policer of its own node. -/
theorem ctxOf_reconfigured (s : State) (i : Nat) (d : List Word) : ∃ p, ∀ j, (s.reconfigured i d).ctxOf j =
    if j = i then { s.ctxOf i with pin := wbit (nth d 0 0) 30, cfg4 := cfg4Of d, cfg5 := cfg5Of d, pol := p } else s.ctxOf j := by
  have hwritten (j : Nat) := (ctxOf_reclass s i (fun u => u.writeCtx i
    { s.ctxOf i with pin := wbit (nth d 0 0) 30, cfg4 := cfg4Of d, cfg5 := cfg5Of d }) j).trans (ctxOf_writeCtx s i _ j)
  unfold State.reconfigured
  dsimp only
  split
  · obtain ⟨p, hp⟩ := ctxOf_resetPol_node (s.reclass i fun u => u.writeCtx i
      { s.ctxOf i with pin := wbit (nth d 0 0) 30, cfg4 := cfg4Of d, cfg5 := cfg5Of d }) i (State.versionA _)
    refine ⟨p, fun j => (hp j).trans ?_⟩
    rw [hwritten i, hwritten j, if_pos rfl]
    split <;> rfl
  · exact ⟨(s.ctxOf i).pol, hwritten⟩

theorem nregRead_context (s : State) (i : Nat) (e : Ecc) : s.nregRead 1 i e =
    s.checkedCtx i e (s.nregBadIndex i) ((0, none, s.ctxWords i), { s with fresh := s.fresh + 3 }) := by
  unfold State.nregRead State.checkedCtx
  simp only [beq_self_eq_true, Bool.true_or, Bool.not_true, Bool.or_false, if_true]

/-- The first context of the port that a search cannot read ends it with ECC, before the node is looked for (R226). -/
theorem insertAnswer_outcome {E : TaeOut × State → Prop} (h : E (s.insertAnswer i d)) :
    if (s.ctxOf i).valid = true then E (refusedCmd 3 s)
    else match s.portUnread (i / 256) with
      | some k => E (refusedCmd 7 (s.memFault 5 k))
      | none => if (s.nodeByAddr (i / 256) (dataAddr d)).isSome = true then E (refusedCmd 1 s)
        else E ((0, none, []), s.register i (dataAddr d) 2 s.versionA (wbit (nth d 0 0) 30) (cfg4Of d) (cfg5Of d)) := by
  unfold State.insertAnswer at h
  split
  case isTrue hvalid => rwa [if_pos hvalid] at h
  case isFalse hvalid =>
    rw [if_neg hvalid] at h
    cases hport : s.portUnread (i / 256) with
    | some k =>
      rw [hport] at h
      exact h
    | none =>
      rw [hport] at h
      dsimp only at h ⊢
      split
      case isTrue hnode => rwa [if_pos hnode] at h
      case isFalse hnode => rwa [if_neg hnode] at h

theorem nregSearch_outcome {E : TaeOut × State → Prop} (h : E (s.nregSearch i d e)) :
    if s.present' (i / 256) = false ∨ badAddr (dataAddr d) = true then E (refusedCmd 6 s)
    else if e = .uncorr then E (refusedCmd 7 (s.memFaultFree 5))
    else match s.portUnread (i / 256), s.nodeByAddr (i / 256) (dataAddr d) with
      | some k, _ => E (refusedCmd 7 (s.memFault 5 k))
      | none, some k => E ((0, some (i / 256 * 256 + k), []), s)
      | none, none => E (refusedCmd 2 s) := by
  have hbad : (!s.present' (i / 256) || badAddr (dataAddr d)) = true ↔ s.present' (i / 256) = false ∨ badAddr (dataAddr d) = true := by
    simp
  unfold State.nregSearch at h
  dsimp only at h
  split
  case isTrue hb => rwa [if_pos (hbad.2 hb)] at h
  case isFalse hb =>
    rw [if_neg (mt hbad.1 hb)] at h
    split
    case isTrue he => rwa [if_pos he] at h
    case isFalse he =>
      rw [if_neg he] at h
      cases hport : s.portUnread (i / 256) with
      | some k => simpa only [hport] using h
      | none => cases hnode : s.nodeByAddr (i / 256) (dataAddr d) <;> simpa only [hport, hnode] using h

theorem nregClear_clears (hbad : s.nregBadIndex i = false) (hecc : s.eccOf 6 i e ≠ .uncorr) :
    s.nregClear i e = ((0, none, []), s.clearNode i) := by
  rw [State.nregClear, if_neg (by simp [hbad]), if_neg hecc]

/-! The ageing sweeper (R220 to R224). -/

theorem sweeping_iff (s : State) : s.sweeping = true ↔ s.committed = true ∧ s.get .NREG_AGE_PERIOD ≠ 0 := by
  simp [State.sweeping]

theorem exec_ageingVisit_idle (hup : s.up 6 = true) (h : ¬s.sweeping = true ∨ s.mayRun 1 = false) :
    exec (.ageingVisit e) s = .next s := by
  refine (run_up _ hup).trans (congrArg s.become ?_)
  by_cases hs : s.sweeping = true
  · exact (if_pos hs).trans (engine_waits (h.resolve_left (not_not_intro hs)) _)
  · exact if_neg hs

/-- The sweeper takes its period at the start of an even pass (R222). -/
def State.periodTaken (s : State) : State :=
  if s.sweepPos = 0 ∧ s.sweepPass % 2 = 0 then { s with agePeriod := s.get .NREG_AGE_PERIOD } else s

theorem periodTaken_keeps {β : Type} (g : State → β) (h : ∀ s n, g { s with agePeriod := n } = g s) (s : State) :
    g s.periodTaken = g s := by
  unfold State.periodTaken
  split
  · exact h s _
  · rfl

theorem ctxOf_periodTaken (s : State) (i : Nat) : s.periodTaken.ctxOf i = s.ctxOf i :=
  periodTaken_keeps (State.ctxOf · i) (fun _ _ => rfl) s

theorem eccOf_periodTaken (s : State) (m a : Nat) (e : Ecc) : s.periodTaken.eccOf m a e = s.eccOf m a e :=
  periodTaken_keeps (State.eccOf · m a e) (fun _ _ => rfl) s

theorem flag_periodTaken (s : State) (f : Fld) (i : Nat) : s.periodTaken.flag f i = s.flag f i :=
  periodTaken_keeps (State.flag · f i) (fun _ _ => rfl) s

/-- The sweeper stands at the context after `i`, after the last one in the pass after `j` (R220). -/
def State.sweptTo (s : State) (i j : Nat) : State :=
  if i = 262143 then { s with sweepPos := 0, sweepPass := j + 1 } else { s with sweepPos := i + 1 }

theorem exec_ageingVisit (hup : s.up 6 = true) (hs : s.sweeping = true) (hrun : s.mayRun 1 = true) : exec (.ageingVisit e) s =
    s.become (((s.periodTaken.visit s.sweepPos s.sweepPass e).sweptTo s.sweepPos s.sweepPass).spend 1) := by
  refine (run_up _ hup).trans (congrArg s.become ((if_pos hs).trans ((engine_runs hrun _).trans (congrArg (State.spend · 1) ?_))))
  exact if_neg (by simp [hs])

/-- Of an empty context that cannot be read a free value says whether its VALID could be (R224, log 44). -/
theorem badCtx_eq (s : State) (i : Nat) : s.badCtx i =
    (if (s.ctxOf i).valid = true then s.removeNode i 3
      else if decide (s.free % 2 ≠ 0) = true then s.used.removeNode i 3 else s.used).memFault 5 i := by
  unfold State.badCtx
  split
  · rfl
  · by_cases hfree : s.free % 2 = 0 <;> simp [hfree]

/-- A visit leaves alone what is not registered, what is pinned, and what lies on a port without ageing (R220). -/
theorem visit_leaves_iff (s : State) (i : Nat) :
    (!(s.ctxOf i).valid || (s.ctxOf i).pin || !s.flag .NREG_PORT_CFG_AGE_EN (i / 256)) = true ↔
      (s.ctxOf i).valid = false ∨ (s.ctxOf i).pin = true ∨ s.flag .NREG_PORT_CFG_AGE_EN (i / 256) = false := by
  simp [or_assoc]

theorem exec_nregAgeWrite (hs : s.soft = true) (hup : s.up 6 = true) (w : Word) : exec (.nregAgeWrite w) s = s.become (s.ageWrite w) :=
  runSoft_up _ hs hup

theorem period_ageWrite (s : State) (w : Word) : (s.ageWrite w).get .NREG_AGE_PERIOD = wbits w 15 0 := by
  have hput : (s.put .NREG_AGE_PERIOD 0 (wbits w 15 0)).get .NREG_AGE_PERIOD = wbits w 15 0 :=
    (get_put_same s .NREG_AGE_PERIOD (by decide) 0 _).trans (Nat.mod_eq_of_lt (wbits_lt w 15 0))
  unfold State.ageWrite
  dsimp only
  split <;> exact hput

/-- PERIOD moves nothing that is driven from outside. -/
theorem outside_ageWrite (s : State) (w : Word) : s.outside (s.ageWrite w) = s.ageWrite w := by
  unfold State.ageWrite
  dsimp only
  split <;> rfl

/-- Settles O36: the commands by the first check that stops them, and a visit of the sweeper by the context that it meets. -/
theorem registryFollowsItsCommandsAndVisits : Obligations.RegistryFollowsItsCommandsAndVisits := by
  refine ⟨fun t e s hup ht _ htarget => ?_, fun e w s hup => ?_⟩
  · have row {c : Instr} {op : Nat} {r : TaeOut × State} (h : (c, op, 1, r) ∈ registryRows e t s) (hop : t.op = op) :
        RegistryAnswers s t c r := registryRow_answers h hup ht hop htarget
    refine ⟨fun hop => ?_, fun hop => ?_, fun hop => ?_, fun hop => ?_, fun hop => ?_⟩
    · have hexec : RegistryAnswers s t (.nregInsert e) (s.nregInsert t.addr t.data e) := row (by simp [registryRows]) hop
      rw [nregInsert_eq] at hexec
      exact checkedCtx_outcome hexec (by simp [or_assoc]) insertAnswer_outcome
    · have hexec : RegistryAnswers s t (.nregDelete e) (s.nregDelete t.addr e) := row (by simp [registryRows]) hop
      rw [nregDelete_eq] at hexec
      exact checkedCtx_outcome hexec Iff.rfl fun h => registered_outcome h fun _ => id
    · have hexec : RegistryAnswers s t (.nregWriteCfg e) (s.nregWriteCfg t.addr t.data e) := row (by simp [registryRows]) hop
      rw [nregWriteCfg_eq] at hexec
      refine checkedCtx_outcome hexec (by simp) fun h => registered_outcome h fun hvalid h => ?_
      obtain ⟨p, hctx⟩ := ctxOf_reconfigured s t.addr t.data
      have hself := (hctx t.addr).trans (if_pos rfl)
      exact ⟨s.reconfigured t.addr t.data, h, congrArg Ctx.pin hself, congrArg Ctx.cfg4 hself, congrArg Ctx.cfg5 hself,
        (congrArg Ctx.valid hself).trans hvalid, (congrArg Ctx.addr hself :), fun j hj => (hctx j).trans (if_neg hj)⟩
    · have hexec : RegistryAnswers s t (.nregRead e) (s.nregRead 1 t.addr e) := row (by simp [registryRows]) hop
      rw [nregRead_context] at hexec
      exact checkedCtx_outcome hexec Iff.rfl id
    · have hexec : RegistryAnswers s t (.nregSearch e) (s.nregSearch t.addr t.data e) := row (by simp [registryRows]) hop
      exact nregSearch_outcome hexec
  · refine ⟨fun h => ?_, fun hruns hrun => ?_, fun hsoft => ?_, fun t ht hop htarget hbad hecc => ?_⟩
    · exact exec_ageingVisit_idle hup (h.imp_left (mt (sweeping_iff s).1))
    · refine ⟨decide (s.periodTaken.free % 2 ≠ 0), (exec_ageingVisit hup ((sweeping_iff s).2 hruns) hrun).trans ?_⟩
      refine congrArg (fun u : State => s.become ((u.sweptTo s.sweepPos s.sweepPass).spend 1)) ?_
      simp only [State.visit, badCtx_eq, ctxOf_periodTaken, eccOf_periodTaken, flag_periodTaken]
      exact if_congr Iff.rfl rfl (if_congr (visit_leaves_iff s s.sweepPos) rfl (if_congr Iff.rfl rfl (if_congr Iff.rfl rfl
        (if_congr (iff_of_eq (Bool.not_eq_true' _)) rfl rfl))))
    · exact ⟨_, (exec_nregAgeWrite hsoft hup w).trans (congrArg Host.Outcome.next (outside_ageWrite s w)), period_ageWrite s w, rfl⟩
    · have hexec : RegistryAnswers s t (.nregClear e) (s.nregClear t.addr e) :=
        registryRow_answers (e := e) (by simp [registryRows]) hup ht hop htarget
      refine ⟨_, hexec, fun k n hn => ?_⟩
      rw [nregClear_clears hbad hecc]
      exact nodeCounter_clearNode s t.addr k hn

end Sys2Proof.Machine
end

section
/-! The Dome's adaptive loop: each adapting class moves its own ALPHA by its own bounds (R246). -/
namespace Sys2Proof.Machine

variable {s : State} {k : Nat}

/-! Steps over several places of one register, each of which moves its own place alone. -/

theorem rest_each_own {r : Reg} {f : State → Nat → State} (hmoves : ∀ s c, OnlyReg r c s (f s c)) (l : List Nat) (s : State) :
    s.each l f = { s with regs := (s.each l f).regs } := by
  have hrest : ({ s.each l f with regs := [] } : State) = { s with regs := [] } :=
    each_keeps (fun s => { s with regs := [] }) l f (fun s c => congrArg (fun u : State => { u with regs := [] }) (hmoves s c).rest) s
  exact congrArg (fun u : State => { u with regs := (s.each l f).regs }) hrest

/-- Where a step looks at no other place of the register, each place moves as a step from the first state would move it. -/
theorem rd_each_own {r : Reg} {f : State → Nat → State} (hmoves : ∀ s c, OnlyReg r c s (f s c))
    (hown : ∀ s u c, (∀ r' i, ¬(r' = r ∧ i ≠ c) → u.rd r' i = s.rd r' i) → (f u c).rd r c = (f s c).rd r c)
    (l : List Nat) (hl : l.Nodup) (s : State) (r' : Reg) (i : Nat) :
    (s.each l f).rd r' i = if r' = r ∧ i ∈ l then (f s i).rd r i else s.rd r' i := by
  induction l generalizing s with
  | nil => simp
  | cons c l ih =>
    obtain ⟨hc, hnd⟩ := List.nodup_cons.1 hl
    rw [each_cons, ih hnd]
    by_cases hlater : r' = r ∧ i ∈ l
    · have hi : i ≠ c := fun h => hc (h ▸ hlater.2)
      rw [if_pos hlater, if_pos ⟨hlater.1, List.mem_cons_of_mem _ hlater.2⟩]
      refine hown s (f s c) i fun q j hq => (hmoves s c).rd q j fun h => hq ⟨h.1, ?_⟩
      exact h.2 ▸ hi.symm
    · rw [if_neg hlater]
      by_cases hnow : r' = r ∧ i = c
      · obtain ⟨rfl, rfl⟩ := hnow
        rw [if_pos ⟨rfl, List.mem_cons_self⟩]
      · rw [(hmoves s c).rd r' i hnow, if_neg fun h => (List.mem_cons.1 h.2).elim (hnow ⟨h.1, ·⟩) (hlater ⟨h.1, ·⟩)]

/-! One class (R246). -/

/-- The classes that adapt. -/
def State.adapting (s : State) : List Nat := (List.range 8).filter fun k => s.flag .DOME_CLASS_CFG_ADAPT k

/-- The loop's move of class `k` in state `s`, by the cells in use, the target and the step of state `o`. -/
def State.adapt (o s : State) (k : Nat) : State :=
  if o.get .DOME_TARGET_TARGET + o.get .DOME_TARGET_BAND < o.usedCells then
    s.put .DOME_CLASS_CUR_ALPHA k (max (s.get .DOME_CLASS_ALPHA_ALPHA_MIN k) (s.get .DOME_CLASS_CUR_ALPHA k - o.get .DOME_LOOP_STEP))
  else if o.usedCells + o.get .DOME_TARGET_BAND < o.get .DOME_TARGET_TARGET then
    s.put .DOME_CLASS_CUR_ALPHA k (min (s.get .DOME_CLASS_ALPHA_ALPHA_MAX k) (s.get .DOME_CLASS_CUR_ALPHA k + o.get .DOME_LOOP_STEP))
  else s

theorem domeLoop_eq (s : State) : s.domeLoop = s.each s.adapting s.adapt := rfl

theorem mem_adapting (hk : k < 8) : k ∈ s.adapting ↔ s.flag .DOME_CLASS_CFG_ADAPT k = true := by
  simp [State.adapting, hk]

theorem nodup_adapting (s : State) : s.adapting.Nodup := List.nodup_range.filter _

theorem onlyReg_adapt (o s : State) (k : Nat) : OnlyReg .DOME_CLASS_CUR k s (o.adapt s k) := by
  have hput (v : Nat) := (OnlyReg.refl .DOME_CLASS_CUR k s).put .DOME_CLASS_CUR_ALPHA rfl v
  unfold State.adapt
  split
  · exact hput _
  · split
    · exact hput _
    · exact .refl _ _ _

/-- A class moves by its own registers. -/
theorem rd_adapt_own (o s u : State) (k : Nat) (h : ∀ r i, ¬(r = .DOME_CLASS_CUR ∧ i ≠ k) → u.rd r i = s.rd r i) :
    (o.adapt u k).rd .DOME_CLASS_CUR k = (o.adapt s k).rd .DOME_CLASS_CUR k := by
  have hcur : u.rd .DOME_CLASS_CUR k = s.rd .DOME_CLASS_CUR k := h _ k fun hc => hc.2 rfl
  have hbounds : u.rd .DOME_CLASS_ALPHA k = s.rd .DOME_CLASS_ALPHA k := h _ k fun hc => absurd hc.1 (by decide)
  have hget (f : Fld) (hf : u.rd f.reg k = s.rd f.reg k) : u.get f k = s.get f k := congrArg f.of hf
  have hput {v v' : Nat} (hv : v = v') :
      (u.put .DOME_CLASS_CUR_ALPHA k v).rd .DOME_CLASS_CUR k = (s.put .DOME_CLASS_CUR_ALPHA k v').rd .DOME_CLASS_CUR k := by
    subst hv
    exact (rd_wr_same u _ k _).trans ((congrArg (Fld.DOME_CLASS_CUR_ALPHA.into · v) hcur).trans (rd_wr_same s _ k _).symm)
  unfold State.adapt
  split
  · exact hput (by rw [hget .DOME_CLASS_ALPHA_ALPHA_MIN hbounds, hget .DOME_CLASS_CUR_ALPHA hcur])
  · split
    · exact hput (by rw [hget .DOME_CLASS_ALPHA_ALPHA_MAX hbounds, hget .DOME_CLASS_CUR_ALPHA hcur])
    · exact hcur

/-- ALPHA stays in its field: a bound and a level that is lowered fit it, and a level that is raised is cut to a bound. -/
theorem alpha_adapt (o s : State) (k : Nat) : (o.adapt s k).get .DOME_CLASS_CUR_ALPHA k =
    if o.get .DOME_TARGET_TARGET + o.get .DOME_TARGET_BAND < o.usedCells then
      max (s.get .DOME_CLASS_ALPHA_ALPHA_MIN k) (s.get .DOME_CLASS_CUR_ALPHA k - o.get .DOME_LOOP_STEP)
    else if o.usedCells + o.get .DOME_TARGET_BAND < o.get .DOME_TARGET_TARGET then
      min (s.get .DOME_CLASS_ALPHA_ALPHA_MAX k) (s.get .DOME_CLASS_CUR_ALPHA k + o.get .DOME_LOOP_STEP)
    else s.get .DOME_CLASS_CUR_ALPHA k := by
  have hput {v : Nat} (hv : v < 2 ^ 16) : (s.put .DOME_CLASS_CUR_ALPHA k v).get .DOME_CLASS_CUR_ALPHA k = v :=
    (get_put_same s .DOME_CLASS_CUR_ALPHA (by decide) k v).trans (Nat.mod_eq_of_lt hv)
  have hlo : s.get .DOME_CLASS_ALPHA_ALPHA_MIN k < 2 ^ 16 := of_lt _ _
  have hhi : s.get .DOME_CLASS_ALPHA_ALPHA_MAX k < 2 ^ 16 := of_lt _ _
  have halpha : s.get .DOME_CLASS_CUR_ALPHA k < 2 ^ 16 := of_lt _ _
  unfold State.adapt
  split
  · exact hput (max_lt hlo ((Nat.sub_le _ _).trans_lt halpha))
  · split
    · exact hput ((min_le_left _ _).trans_lt hhi)
    · rfl

/-! The rows. -/

theorem rd_domeLoop (s : State) (r : Reg) (i : Nat) : s.domeLoop.rd r i =
    if r = .DOME_CLASS_CUR ∧ i ∈ s.adapting then (s.adapt s i).rd .DOME_CLASS_CUR i else s.rd r i :=
  rd_each_own (onlyReg_adapt s) (rd_adapt_own s) s.adapting (nodup_adapting s) s r i

theorem rest_domeLoop (s : State) : s.domeLoop = { s with regs := s.domeLoop.regs } :=
  rest_each_own (onlyReg_adapt s) s.adapting s

theorem exec_domeLoopTick (hup : s.up 8 = true) : exec .domeLoopTick s = .next s.domeLoop := by
  have hout : s.outside s.domeLoop = s.domeLoop := by rw [rest_domeLoop]; rfl
  exact (run_up _ hup).trans (congrArg Host.Outcome.next hout)

/-- Between bounds in order, the greater of the lower bound and the lesser of the upper one and a value is the value clamped. -/
theorem max_min_clamp {lo hi : Nat} (h : lo ≤ hi) (v : Nat) : max lo (min hi v) = if v < lo then lo else if hi < v then hi else v := by
  split
  · omega
  · split <;> omega

theorem exec_domeAlphaWrite (hk : k < 8) (hs : s.soft = true) (hup : s.up 8 = true) (w : Word) :
    exec (.domeAlphaWrite k w) s = s.become (s.alphaWrite k w) := runSoftOn_up _ hk hs hup

/-- Settles O22: a run takes each adapting class on by its own registers, and a write clamps. -/
theorem adaptiveLoopMovesAlphaWithinBounds : Obligations.AdaptiveLoopMovesAlphaWithinBounds := by
  refine fun k w s hk hup => ⟨⟨s.domeLoop, exec_domeLoopTick hup, rest_domeLoop s, fun r i h => ?_, fun j hj => ?_⟩, fun hs hle => ?_⟩
  · refine (rd_domeLoop s r i).trans (if_neg fun hc => h.elim (· hc.1) fun hi => ?_)
    exact Nat.not_lt.2 hi (List.mem_range.1 (List.mem_of_mem_filter hc.2))
  · have hread := congrArg Fld.DOME_CLASS_CUR_ALPHA.of (rd_domeLoop s .DOME_CLASS_CUR j)
    cases hadapt : s.flag .DOME_CLASS_CFG_ADAPT j with
    | false =>
      rw [if_neg fun hc => by simp [(mem_adapting hj).1 hc.2] at hadapt] at hread
      exact hread.trans (if_pos rfl).symm
    | true =>
      rw [if_pos ⟨rfl, (mem_adapting hj).2 hadapt⟩] at hread
      exact hread.trans ((alpha_adapt s s j).trans (if_neg (by decide)).symm)
  · refine (exec_domeAlphaWrite hk hs hup w).trans ?_
    rw [State.alphaWrite, max_min_clamp hle]
    rfl

end Sys2Proof.Machine
end

section
/-! The policers: refill, refresh, the commands of POL_TAE and the configuration of a port (R231 to R240, R248). -/
namespace Sys2Proof.Machine

variable {s : State} {t : Tae} {k : PolKind} {i n : Nat} {w : Word}

/-! The refill (R234). -/

/-- The time since a policer's last refill: none where the time has stepped backwards. -/
def polElapsed (p : Pol) (t : Nat) : Nat :=
  let e0 := (t + 2 ^ 32 - p.last) % 2 ^ 32
  if 2 ^ 31 ≤ e0 then 0 else e0

/-- The committed level before it is cut to its burst. -/
def polCommitted (w : List Word) (p : Pol) (t : Nat) : Nat := p.levelC + polElapsed p t * profCir w * 16

theorem polRefill_eq (w : List Word) (p : Pol) (t : Nat) : polRefill w p t =
    { p with levelC := min (profCbs w * polUnit) (polCommitted w p t)
             levelE := min (profEbs w * polUnit) (p.levelE +
               if profMode w = 1 then polCommitted w p t - profCbs w * polUnit else polElapsed p t * profPir w * 16)
             last := t } := by
  unfold polRefill polCommitted polElapsed
  dsimp only
  split <;> rfl

/-- No level passes its burst, none within it falls, and the tokens of the elapsed time bound the gain: of each level, and of both
together where what the committed level does not hold passes to the excess level. -/
theorem polRefill_bounds (w : List Word) (p : Pol) (t : Nat) :
    (polRefill w p t).levelC ≤ profCbs w * polUnit ∧ (polRefill w p t).levelE ≤ profEbs w * polUnit ∧
    (polRefill w p t).last = t ∧ (polRefill w p t).gen = p.gen ∧
    (p.levelC ≤ profCbs w * polUnit → p.levelC ≤ (polRefill w p t).levelC) ∧
    (p.levelE ≤ profEbs w * polUnit → p.levelE ≤ (polRefill w p t).levelE) ∧
    (polRefill w p t).levelC ≤ p.levelC + polElapsed p t * profCir w * 16 ∧
    (profMode w = 1 → p.levelC ≤ profCbs w * polUnit → (polRefill w p t).levelC + (polRefill w p t).levelE ≤
      p.levelC + p.levelE + polElapsed p t * profCir w * 16) ∧
    (profMode w ≠ 1 → (polRefill w p t).levelE ≤ p.levelE + polElapsed p t * profPir w * 16) := by
  rw [polRefill_eq]
  dsimp only
  refine ⟨min_le_left _ _, min_le_left _ _, rfl, rfl, fun h => le_min h (Nat.le_add_right _ _), fun h => le_min h (Nat.le_add_right _ _),
    min_le_right _ _, fun hmode hc => ?_, fun hmode => ?_⟩
  · rw [if_pos hmode, polCommitted]
    omega
  · rw [if_neg hmode]
    exact min_le_right _ _

/-! What a policer's state is after each operation. -/

theorem pol_memWrite (s : State) (m a : Nat) (k : PolKind) (j : Nat) : (s.memWrite m a).pol k j = s.pol k j :=
  memWrite_keeps (State.pol · k j) (fun _ _ => by cases k <;> rfl) (fun _ => by cases k <;> rfl) s m a

theorem pol_setPol (s : State) (k : PolKind) (i : Nat) (p : Pol) (k' : PolKind) (j : Nat) :
    (s.setPol k i p).pol k' j = if (k', j) = (k, i) then p else s.pol k' j := by
  cases k with
  | port | flow =>
    refine (pol_memWrite _ 7 _ k' j).trans ?_
    cases k' <;> simp [State.pol, State.ctxOf, tget_tput]
  | node =>
    refine (pol_memWrite _ 5 i k' j).trans ?_
    cases k' with
    | port | flow => simp [State.pol]
    | node =>
      refine (congrArg Ctx.pol (tget_tput {} s.ctx i j _)).trans ?_
      rw [apply_ite Ctx.pol]
      exact if_congr (by simp) rfl rfl

theorem pol_setPol_same (s : State) (k : PolKind) (i : Nat) (p : Pol) : (s.setPol k i p).pol k i = p :=
  (pol_setPol s k i p k i).trans (if_pos rfl)

theorem pol_setPol_other (s : State) {k k' : PolKind} {i j : Nat} (p : Pol) (h : (k', j) ≠ (k, i)) :
    (s.setPol k i p).pol k' j = s.pol k' j := (pol_setPol s k i p k' j).trans (if_neg h)

theorem rd_setPol (s : State) (k : PolKind) (i : Nat) (p : Pol) {r : Reg} (h : r ≠ .FLT_INJ_DATA) (j : Nat) :
    (s.setPol k i p).rd r j = s.rd r j := by
  have hmem (u : State) (m a : Nat) : (u.memWrite m a).rd r j = u.rd r j :=
    memWrite_keeps (fun u => u.rd r j) (fun _ _ => rfl) (fun u => rd_put_reg u h 0 j 0) u m a
  cases k <;> exact hmem _ _ _

theorem pol_outside (s u : State) (k : PolKind) (j : Nat) : (s.outside u).pol k j = u.pol k j := by cases k <;> rfl

theorem pol_taeDone (s : State) (e : Nat) (t : Tae) (o : TaeOut) (k : PolKind) (j : Nat) : (s.taeDone e t o).pol k j = s.pol k j := by
  cases k <;> rfl

theorem pol_wr (s : State) (r : Reg) (i : Nat) (w : Word) (k : PolKind) (j : Nat) : (s.wr r i w).pol k j = s.pol k j := by
  cases k <;> rfl

/-! Profiles and states as they are read (R235, R250). -/

theorem badWord_nil (s : State) (m a : Nat) : s.badWord m [] a = true ↔ s.eccOf m a .ok = .uncorr := by
  simp [State.badWord]

theorem readProf_read {v : Nat} (h : s.eccOf 7 (profAddr i) .ok ≠ .uncorr) : s.readProf v i [] = (s.profile v i, s) :=
  if_neg (mt (badWord_nil s 7 _).1 h)

/-- Four words that nothing constrains, in the place of a profile that cannot be read (log 44). -/
def State.freeProf (s : State) : List Word := (List.range 4).map fun j => word (Config.freeNat (s.fresh + j))

theorem length_freeProf (s : State) : s.freeProf.length = 4 := by simp [State.freeProf]

theorem readProf_unread {v : Nat} (h : s.eccOf 7 (profAddr i) .ok = .uncorr) : s.readProf v i [] =
    (s.freeProf, ({ s with fresh := s.fresh + 4 }.inc .POL_ECC_COUNT).memFault 7 (profAddr i)) :=
  if_pos ((badWord_nil s 7 _).2 h)

theorem readPol_read (h : s.eccOf 7 (polAddr k i) .ok ≠ .uncorr) (w : List Word) : s.readPol k i w [] = s :=
  if_neg fun hc => h ((badWord_nil s 7 _).1 hc.2)

theorem resetPol_read {v : Nat} (h : s.eccOf 7 (profAddr (s.polProfile k i)) .ok ≠ .uncorr) :
    s.resetPol k i v = s.setPol k i (polReset (s.profile v (s.polProfile k i)) (s.polToZero k) s.unit64) := by
  rw [State.resetPol, readProf_read h]

/-! A refresh of a port's policer (R235). -/

/-- The state with a policer refilled now, under profile `w`. -/
def State.refilled (s : State) (k : PolKind) (i : Nat) (w : List Word) : State :=
  s.setPol k i (polRefill w (polAdopt w (s.pol k i) (s.polToZero k) s.unit64) s.unit64)

/-- A refresh under the profile as it has been read, `r`. -/
theorem refresh_port (s : State) {r : List Word × State} (hr : s.readProf s.versionA (s.polProfile .port i) [] = r) :
    s.refresh .port i .ok = if s.flag .POL_PORT_CFG_EN i = true ∨ profMode r.1 ≠ 0 then (r.2.readPol .port i r.1 []).refilled .port i r.1
      else r.2 := by
  subst hr
  refine (if_neg fun hc => PolKind.noConfusion hc.1).trans ?_
  by_cases hon : s.flag .POL_PORT_CFG_EN i = true ∨ profMode (s.readProf s.versionA (s.polProfile .port i) []).1 ≠ 0
  · rw [if_pos hon]
    exact if_neg (by simpa [or_iff_not_imp_left] using hon)
  · rw [if_neg hon]
    exact if_pos (by simpa using hon)

theorem exec_policerRefresh_port (hi : i < 1040) (hup : s.up 7 = true) :
    exec (.policerRefresh .port i .ok) s = s.become (s.refresh .port i .ok) := runOn_up _ hi hup

/-! The policer commands (R248). -/

theorem exec_polRead (hup : s.up 7 = true) (ht : s.taeOf 2 = some t) (hop : t.op = 4) (hk : polTarget t.target t.addr = some k)
    (hecc : s.eccOf 7 (polAddr k t.addr) .ok ≠ .uncorr) :
    exec (.polRead .ok) s = s.become (s.taeDone 2 t (0, none, polWords (s.pol k t.addr))) := by
  refine (run_up _ hup).trans ?_
  rw [taeRun_waiting ht hop]
  simp only [State.polCmd, hk, hecc, if_false]

theorem exec_polReset (hup : s.up 7 = true) (ht : s.taeOf 2 = some t) (hop : t.op = 7) (hk : polTarget t.target t.addr = some k)
    (hecc : s.eccOf 7 (polAddr k t.addr) .ok ≠ .uncorr) :
    exec (.polReset .ok) s = s.become ((s.resetPol k t.addr s.versionA).taeDone 2 t (0, none, [])) := by
  refine (run_up _ hup).trans ?_
  rw [taeRun_waiting ht hop]
  simp only [State.polCmd, hk, hecc, if_false]

/-! A write of POL_PORT_CFG (R240). -/

/-- The bits of POL_PORT_CFG that a write stores. -/
def portCfgWord (w : Word) : Word := w &&& 0xE000FFFF#32

theorem wbits_profile (w : Word) : wbits w 15 0 = Fld.POL_PORT_CFG_PROFILE.of w := by
  simp only [wbits, bits, Fld.of, Fld.width, Fld.POL_PORT_CFG_PROFILE, BitVec.extractLsb'_toNat]

theorem profile_portCfgWord (w : Word) : wbits (portCfgWord w) 15 0 = wbits w 15 0 := by
  rw [wbits_profile, wbits_profile]
  exact of_and_ones .POL_PORT_CFG_PROFILE w _ (by decide)

theorem en_portCfgWord (w : Word) : wbit (portCfgWord w) 31 = wbit w 31 :=
  (wbit_and _ _ 31).trans (Bool.and_true _)

/-- The state with the register written, before its policer is looked at. -/
def State.portCfgTaken (s : State) (n : Nat) (w : Word) : State := s.wr .POL_PORT_CFG n (portCfgWord w)

theorem get_portCfgTaken (s : State) (n : Nat) (w : Word) {f : Fld} (h : f.reg ≠ .POL_PORT_CFG) (j : Nat) :
    (s.portCfgTaken n w).get f j = s.get f j :=
  (get_wr s f .POL_PORT_CFG n j _).trans (if_neg fun hc => h hc.1)

theorem polProfile_portCfgTaken (s : State) (n : Nat) (w : Word) : (s.portCfgTaken n w).polProfile .port n = wbits w 15 0 :=
  ((get_wr s .POL_PORT_CFG_PROFILE .POL_PORT_CFG n n _).trans (if_pos ⟨rfl, rfl⟩)).trans
    ((wbits_profile _).symm.trans (profile_portCfgWord w))

theorem versionA_portCfgTaken (s : State) (n : Nat) (w : Word) : (s.portCfgTaken n w).versionA = s.versionA :=
  get_portCfgTaken s n w (by decide) 0

theorem profile_portCfgTaken (s : State) (n : Nat) (w : Word) (v i : Nat) : (s.portCfgTaken n w).profile v i = s.profile v i := by
  simp only [State.profile, State.entryIn, State.versionD, State.versionS, versionA_portCfgTaken]
  rfl

theorem polToZero_portCfgTaken (s : State) (n : Nat) (w : Word) : (s.portCfgTaken n w).polToZero .port = s.polToZero .port :=
  congrArg (· != 0) (get_portCfgTaken s n w (f := .POL_RESET_MODE_PORT) (by decide) 0)

theorem polPortCfgWrite_eq (s : State) (n : Nat) (w : Word) : s.polPortCfgWrite n w =
    if wbits (s.rd .POL_PORT_CFG n) 15 0 ≠ wbits w 15 0 ∨ (wbit (s.rd .POL_PORT_CFG n) 31 = false ∧ wbit w 31 = true) then
      (s.portCfgTaken n w).resetPol .port n s.versionA
    else s.portCfgTaken n w := by
  have hreset : wbits (s.rd .POL_PORT_CFG n) 15 0 ≠ wbits (portCfgWord w) 15 0 ∨
      (!wbit (s.rd .POL_PORT_CFG n) 31 && wbit (portCfgWord w) 31) = true ↔
      wbits (s.rd .POL_PORT_CFG n) 15 0 ≠ wbits w 15 0 ∨ (wbit (s.rd .POL_PORT_CFG n) 31 = false ∧ wbit w 31 = true) := by
    simp [profile_portCfgWord, en_portCfgWord]
  have hversion := versionA_portCfgTaken s n w
  exact if_congr hreset (congrArg ((s.portCfgTaken n w).resetPol .port n) hversion) rfl

theorem resetPol_portCfgTaken (h : s.eccOf 7 (profAddr (wbits w 15 0)) .ok ≠ .uncorr) :
    (s.portCfgTaken n w).resetPol .port n s.versionA = (s.portCfgTaken n w).setPol .port n
      (polReset (s.profile s.versionA (wbits w 15 0)) (s.polToZero .port) s.unit64) := by
  have hprof := polProfile_portCfgTaken s n w
  rw [resetPol_read (by rw [hprof]; exact h), hprof, profile_portCfgTaken, polToZero_portCfgTaken]
  rfl

theorem exec_polPortCfgWrite (hn : n < 1040) (hs : s.soft = true) (hup : s.up 7 = true) (w : Word) :
    exec (.polPortCfgWrite n w) s = s.become (s.polPortCfgWrite n w) := runSoftOn_up _ hn hs hup

/-- A port's policer set in a state that holds the policers of `s`: every other policer is as it was in `s`. -/
theorem outside_setPol_port {u : State} (hu : ∀ k j, u.pol k j = s.pol k j) (i : Nat) (p : Pol) :
    (s.outside (u.setPol .port i p)).pol .port i = p ∧
    (∀ j, j ≠ i → (s.outside (u.setPol .port i p)).pol .port j = s.pol .port j) ∧
    ∀ j, (s.outside (u.setPol .port i p)).pol .flow j = s.pol .flow j ∧ (s.outside (u.setPol .port i p)).pol .node j = s.pol .node j := by
  have hother {k : PolKind} {j : Nat} (h : (k, j) ≠ (.port, i)) : (s.outside (u.setPol .port i p)).pol k j = s.pol k j :=
    (pol_outside s _ k j).trans ((pol_setPol_other u p h).trans (hu k j))
  exact ⟨(pol_outside s _ .port i).trans (pol_setPol_same u .port i p), fun _ hj => hother (by simp [hj]),
    fun _ => ⟨hother (by simp), hother (by simp)⟩⟩

/-- Settles O37: the refill's bounds, a refresh by the profile that it reads, the commands of POL_TAE, and a port's configuration. -/
theorem policerRefillsWithinItsBurst : Obligations.PolicerRefillsWithinItsBurst := by
  refine ⟨polRefill_bounds, fun i s hi hup => ?_, fun t k s hup ht hk hecc => ?_, fun n w s hn hup hs => ?_⟩
  · have hexec := exec_policerRefresh_port hi hup
    refine ⟨fun hread hen hmode => ?_, fun hread hen => ?_, fun hread hon hecc => ?_⟩
    · rw [hexec, refresh_port s (readProf_read hread), if_neg (by simp [hen, hmode])]
      rfl
    · rw [hexec, refresh_port s (readProf_unread (not_not.1 hread)), if_pos (.inl hen)]
      exact ⟨s.freeProf, length_freeProf s, rfl⟩
    · rw [refresh_port s (readProf_read hread), if_pos hon, readPol_read hecc] at hexec
      obtain ⟨hself, hport, hrest⟩ := outside_setPol_port (fun k j => (rfl : s.pol k j = s.pol k j)) i _
      exact ⟨_, hexec, hself, hport, hrest, fun r k hr => rd_setPol s .port i _ hr k⟩
  · refine ⟨fun hop => exec_polRead hup ht hop hk hecc, fun hop hread => ⟨_, exec_polReset hup ht hop hk hecc, ?_, fun k' j hj => ?_⟩⟩
    · rw [pol_outside, pol_taeDone, resetPol_read hread, pol_setPol_same]
    · rw [pol_outside, pol_taeDone, resetPol_read hread, pol_setPol_other s _ hj]
  · have hexec := exec_polPortCfgWrite hn hs hup w
    rw [polPortCfgWrite_eq] at hexec
    refine ⟨fun hprofile hen => ?_, fun hnew hread => ?_⟩
    · rw [hexec, if_neg (not_or.2 ⟨not_not.2 hprofile, fun h => by simp [h] at hen⟩)]
      rfl
    · rw [if_pos hnew, resetPol_portCfgTaken hread] at hexec
      refine ⟨_, hexec, ?_, outside_setPol_port (pol_wr s _ n _) n _⟩
      exact (rd_setPol (s.portCfgTaken n w) .port n _ (by decide) n).trans (rd_wr_same s _ n _)

end Sys2Proof.Machine
end

section
/-! The shaper's credit over one cycle (R259). -/
namespace Sys2Proof.Machine

variable {s : State} {p k : Nat}

/-- The class is paused or its gate is closed: its credit is held. -/
def State.creditHeld (s : State) (p k : Nat) : Prop :=
  s.flag .MAC_STATUS_RX_PAUSED p = true ∨ (s.get .MAC_STATUS_RX_PFC_PAUSED p).testBit k = true ∨ s.gateOpen p k = false

/-- HI_CREDIT in force, in the credit's unit. -/
def State.creditHigh (s : State) (p k : Nat) : Int := Fld.SCH_CBS_HI_HI_CREDIT.of (s.inForce .SCH_CBS_HI (8 * p + k)) * 16 * 3000000

/-- The idle slope in force, not above the rate of the port's shapers. -/
def State.idleRate (s : State) (p k : Nat) : Nat :=
  min (Fld.SCH_CBS_SLOPE_IDLE_SLOPE.of (s.inForce .SCH_CBS_SLOPE (8 * p + k))) (s.shapeRate p)

/-- The class has a copy in its queues or in the slot. -/
def State.classWaits (s : State) (p k : Nat) : Prop := s.classHolds p k = true ∨ (s.candOf p).any (·.cls == k) = true

theorem idleRate_le_shapeRate (s : State) (p k : Nat) : s.idleRate p k ≤ s.shapeRate p := min_le_right _ _

theorem creditHigh_nonneg (s : State) (p k : Nat) : 0 ≤ s.creditHigh p k := by
  unfold State.creditHigh
  omega

/-! What a cycle makes of the credit, case by case. -/

theorem creditHeld_iff (s : State) (p k : Nat) : s.creditHeld p k ↔
    (s.flag .MAC_STATUS_RX_PAUSED p || (s.get .MAC_STATUS_RX_PFC_PAUSED p).testBit k || !s.gateOpen p k) = true := by
  simp [State.creditHeld, or_assoc]

theorem creditTick_held (h : s.creditHeld p k) : s.creditTick p k = tget 0 s.credit (8 * p + k) :=
  if_pos ((creditHeld_iff s p k).1 h)

theorem creditTick_sending (h : ¬s.creditHeld p k) (hs : s.sending p = some k) : s.creditTick p k =
    tget 0 s.credit (8 * p + k) - (s.shapeRate p - s.idleRate p k) * 32 :=
  (if_neg (mt (creditHeld_iff s p k).2 h)).trans (if_pos hs)

theorem creditTick_waiting (h : ¬s.creditHeld p k) (hs : s.sending p ≠ some k) (hw : s.classWaits p k) : s.creditTick p k =
    min (s.creditHigh p k) (tget 0 s.credit (8 * p + k) + s.idleRate p k * 32) :=
  (if_neg (mt (creditHeld_iff s p k).2 h)).trans ((if_neg hs).trans (if_pos (by simpa [State.classWaits] using hw)))

theorem creditTick_empty (h : ¬s.creditHeld p k) (hs : s.sending p ≠ some k) (hw : ¬s.classWaits p k) : s.creditTick p k =
    if tget 0 s.credit (8 * p + k) < 0 then min 0 (tget 0 s.credit (8 * p + k) + s.idleRate p k * 32) else 0 :=
  (if_neg (mt (creditHeld_iff s p k).2 h)).trans ((if_neg hs).trans (if_neg (by simpa [State.classWaits] using hw)))

/-! Bounds. -/

/-- While the class is sending, its credit does not rise: the idle slope does not pass the port's rate. -/
theorem creditTick_sending_le (h : ¬s.creditHeld p k) (hs : s.sending p = some k) :
    s.creditTick p k ≤ tget 0 s.credit (8 * p + k) := by
  have hrate := idleRate_le_shapeRate s p k
  rw [creditTick_sending h hs]
  omega

theorem creditTick_empty_le (h : ¬s.creditHeld p k) (hs : s.sending p ≠ some k) (hw : ¬s.classWaits p k) : s.creditTick p k ≤ 0 := by
  rw [creditTick_empty h hs hw]
  split
  · exact min_le_left _ _
  · exact le_rfl

theorem creditTick_le_high (hc : tget 0 s.credit (8 * p + k) ≤ s.creditHigh p k) : s.creditTick p k ≤ s.creditHigh p k := by
  by_cases h : s.creditHeld p k
  · exact (creditTick_held h).trans_le hc
  by_cases hs : s.sending p = some k
  · exact (creditTick_sending_le h hs).trans hc
  by_cases hw : s.classWaits p k
  · exact (creditTick_waiting h hs hw).trans_le (min_le_left _ _)
  · exact (creditTick_empty_le h hs hw).trans (creditHigh_nonneg s p k)

/-- A deficit shrinks by the idle slope, and at most to nothing. -/
theorem creditTick_empty_deficit (h : ¬s.creditHeld p k) (hs : s.sending p ≠ some k) (hw : ¬s.classWaits p k)
    (hc : tget 0 s.credit (8 * p + k) < 0) : tget 0 s.credit (8 * p + k) ≤ s.creditTick p k := by
  rw [creditTick_empty h hs hw, if_pos hc]
  exact le_min hc.le (by omega)

/-- Settles O26: the credit by what its class does in the cycle: held, sending, waiting or empty. -/
theorem creditIsBounded : Obligations.CreditIsBounded := by
  refine fun p k s => ⟨creditTick_le_high, creditTick_held, creditTick_sending_le, fun h hs hq hslot => ?_⟩
  have hw : ¬s.classWaits p k := by simp [State.classWaits, hq, hslot]
  refine ⟨fun hc => (creditTick_empty h hs hw).trans (if_neg hc.not_gt), fun hc => ?_⟩
  exact ⟨creditTick_empty_deficit h hs hw hc, creditTick_empty_le h hs hw⟩

end Sys2Proof.Machine
end

section
/-! Oculus: the sweep, the watch, and the writes of their registers (R264 to R270). -/
namespace Sys2Proof.Machine

variable {s : State} {v : Nat} {w : Word}

/-! The sweep (R264). -/

theorem exec_ocuSweepSample (hup : s.up 10 = true) : exec .ocuSweepSample s = s.become s.sweepSample := run_up _ hup

theorem sweepHeld_inc {f : Fld} (hs : satFlag (satSource f.reg) = none) (s : State) (i : Nat) :
    (s.inc f i).ocuSweepHeld = s.ocuSweepHeld :=
  add_keeps State.ocuSweepHeld (fun _ => rfl) (fun _ _ _ => rfl) (fun h hh => by rw [hs] at hh; cases hh) s i 1

theorem sweepHeld_ite {t u : State} {c : Prop} [Decidable c] (ht : t.ocuSweepHeld = s.ocuSweepHeld)
    (hu : u.ocuSweepHeld = s.ocuSweepHeld) : (if c then t else u).ocuSweepHeld = s.ocuSweepHeld := by
  split
  · exact ht
  · exact hu

theorem sweepHeld_streamSample (s : State) (watch : Bool) (q cells delay : Nat) :
    (s.streamSample watch q cells delay).ocuSweepHeld = s.ocuSweepHeld :=
  sweepHeld_ite rfl (sweepHeld_ite (sweepHeld_inc rfl s 0) rfl)

/-- A sample does not tell whether one was held back. -/
theorem sweepHeld_takeSample (s : State) (watch : Bool) (q : Nat) : (s.takeSample watch q).ocuSweepHeld = s.ocuSweepHeld := by
  unfold State.takeSample
  dsimp only
  rw [sweepHeld_streamSample, each_keeps State.ocuSweepHeld _ _ fun _ _ => sweepHeld_inc rfl _ _]
  exact sweepHeld_ite (sweepHeld_ite rfl rfl) (sweepHeld_ite rfl rfl)

theorem sweepSample_off (h : s.flag .OCU_CTRL_SWEEP_EN = false) : s.sweepSample = s := if_pos (by simp [h])

theorem sweepSample_throttled (h : s.flag .OCU_CTRL_SWEEP_EN = true) (hrun : s.mayRun 2 = false) :
    s.sweepSample = { s with ocuSweepHeld := true } :=
  (if_neg (by simp [h])).trans (if_pos (by simp [hrun]))

/-- The sample at the sweep's position, with the credit used. -/
def State.swept (s : State) : State := (s.spend 2).takeSample false (s.get .OCU_STATUS_SWEEP_POS)

theorem sweepSample_runs (h : s.flag .OCU_CTRL_SWEEP_EN = true) (hrun : s.mayRun 2 = true) : s.sweepSample =
    if s.get .OCU_STATUS_SWEEP_POS + 1 = queueCount
    then (({ s.swept with ocuSweepHeld := false }.put .OCU_STATUS_SWEEP_POS 0 0).inc .OCU_SWEEPS_COUNT).when s.ocuSweepHeld
      fun u => u.inc .OCU_LATE_COUNT
    else s.swept.put .OCU_STATUS_SWEEP_POS 0 (s.get .OCU_STATUS_SWEEP_POS + 1) := by
  have hheld : s.swept.ocuSweepHeld = s.ocuSweepHeld := sweepHeld_takeSample _ _ _
  rw [← hheld]
  exact (if_neg (by simp [h])).trans (if_neg (by simp [hrun]))

/-! The watch (R264, R265). -/

theorem exec_ocuWatchSample (hup : s.up 10 = true) : exec .ocuWatchSample s = s.become s.watchSample := run_up _ hup

theorem watchSample_off (h : s.flag .OCU_CTRL_WATCH_EN = false) : s.watchSample = s := if_pos (by simp [h])

theorem watchSample_throttled (h : s.flag .OCU_CTRL_WATCH_EN = true) (hrun : s.mayRun 2 = false) :
    s.watchSample = { s with ocuWatchHeld := true } :=
  (if_neg (by simp [h])).trans (if_pos (by simp [hrun]))

/-- The watch stands at its next entry, after the last one in its next period, with the credit used. -/
def State.watchMoved (s : State) : State :=
  if s.ocuWatchPos = 1023 then { s.spend 2 with ocuWatchPos := 0, ocuWatchHeld := false }.when s.ocuWatchHeld fun u => u.inc .OCU_LATE_COUNT
  else { s.spend 2 with ocuWatchPos := s.ocuWatchPos + 1 }

theorem get_watchMoved (s : State) {f : Fld} (h : f.reg ≠ .OCU_LATE) (i : Nat) : s.watchMoved.get f i = s.get f i := by
  unfold State.watchMoved
  split
  · cases s.ocuWatchHeld
    · rfl
    · exact congrArg f.of (rd_inc_reg _ rfl h 0 i)
  · rfl

/-- A field of maxima takes a greater value. -/
def State.putMax (s : State) (f : Fld) (i v : Nat) : State := if s.get f i < v then s.put f i v else s

theorem get_putMax_reg (s : State) {f g : Fld} (h : g.reg ≠ f.reg) (i j v : Nat) : (s.putMax f i v).get g j = s.get g j := by
  unfold State.putMax
  split
  · exact get_put_reg s h i j v
  · rfl

/-- The maxima and the last delay of entry `e` take a sample. -/
def State.watchTakes (s : State) (e : Nat) (x : Nat × Nat) : State :=
  ((s.putMax .OCU_WATCH_MAXC_MAX e x.1).putMax .OCU_WATCH_MAXD_MAX e x.2).put .OCU_WATCH_LAST_DELAY e x.2

theorem watchSample_runs (h : s.flag .OCU_CTRL_WATCH_EN = true) (hrun : s.mayRun 2 = true) : s.watchSample =
    if s.flag .OCU_WATCH_EN s.ocuWatchPos = false then s.watchMoved
    else (s.watchMoved.watchTakes s.ocuWatchPos (s.sample (s.get .OCU_WATCH_QUEUE s.ocuWatchPos))).takeSample true
      (s.get .OCU_WATCH_QUEUE s.ocuWatchPos) := by
  refine ((if_neg (by simp [h])).trans (if_neg (by simp [hrun]))).trans ?_
  exact if_congr (iff_of_eq (Bool.not_eq_true' _)) rfl rfl

/-- The maxima compared are those from before the visit. -/
theorem watchTakes_watchMoved (s : State) (e : Nat) (x : Nat × Nat) : s.watchMoved.watchTakes e x =
    let u := if s.get .OCU_WATCH_MAXC_MAX e < x.1 then s.watchMoved.put .OCU_WATCH_MAXC_MAX e x.1 else s.watchMoved
    (if s.get .OCU_WATCH_MAXD_MAX e < x.2 then u.put .OCU_WATCH_MAXD_MAX e x.2 else u).put .OCU_WATCH_LAST_DELAY e x.2 := by
  have hc : s.watchMoved.get .OCU_WATCH_MAXC_MAX e = s.get .OCU_WATCH_MAXC_MAX e := get_watchMoved s (by decide) e
  have hd : (s.watchMoved.putMax .OCU_WATCH_MAXC_MAX e x.1).get .OCU_WATCH_MAXD_MAX e = s.get .OCU_WATCH_MAXD_MAX e :=
    (get_putMax_reg _ (by decide) e e _).trans (get_watchMoved s (by decide) e)
  rw [State.watchTakes, State.putMax, hd, State.putMax, hc]

/-! The writes (R264, R270). -/

theorem exec_ocuCtrlWrite (hs : s.soft = true) (hup : s.up 10 = true) (w : Word) : exec (.ocuCtrlWrite w) s = s.become (s.ocuCtrl w) :=
  runSoft_up _ hs hup

theorem exec_ocuWatchWrite (hv : v < 1024) (hs : s.soft = true) (hup : s.up 10 = true) (w : Word) :
    exec (.ocuWatchWrite v w) s = s.become (s.ocuWatch v w) := runSoftOn_up _ hv hs hup

theorem outside_ocuCtrl (s : State) (w : Word) : s.outside (s.ocuCtrl w) = s.ocuCtrl w := by
  unfold State.ocuCtrl
  dsimp only
  split <;> split <;> rfl

theorem outside_ocuWatch (s : State) (v : Nat) (w : Word) : s.outside (s.ocuWatch v w) = s.ocuWatch v w := by
  unfold State.ocuWatch
  dsimp only
  split <;> rfl

/-- An engine is started where its bit is written 1 and it was not running. -/
theorem ocuCtrl_eq (s : State) (w : Word) : s.ocuCtrl w =
    let u := if wbit w 31 = true ∧ s.flag .OCU_CTRL_SWEEP_EN = false
      then { s with ocuSweepHeld := false }.put .OCU_STATUS_SWEEP_POS 0 0 else s
    let y := if wbit w 30 = true ∧ s.flag .OCU_CTRL_WATCH_EN = false then { u with ocuWatchPos := 0, ocuWatchHeld := false } else u
    (y.putFlag .OCU_CTRL_SWEEP_EN 0 (wbit w 31)).putFlag .OCU_CTRL_WATCH_EN 0 (wbit w 30) := by
  simp only [State.ocuCtrl, Bool.and_eq_true, Bool.not_eq_true']

/-- Settles O27: the sweep and the watch by whether they are off, throttled or run; the two writes by what they start and clear. -/
theorem oculusVisitsItsQueuesInTurn : Obligations.OculusVisitsItsQueuesInTurn := by
  refine fun v w s hv hup => ⟨?_, ?_, fun hs => ⟨?_, ?_⟩⟩
  · refine (exec_ocuSweepSample hup).trans (congrArg Host.Outcome.next ?_)
    cases hen : s.flag .OCU_CTRL_SWEEP_EN with
    | false => rw [sweepSample_off hen, if_pos rfl, outside_self]
    | true =>
      cases hrun : s.mayRun 2 with
      | false => rw [sweepSample_throttled hen hrun]; rfl
      | true => exact (congrArg s.outside (sweepSample_runs hen hrun)).trans (outside_ite s _ _ _)
  · refine (exec_ocuWatchSample hup).trans (congrArg Host.Outcome.next ?_)
    cases hen : s.flag .OCU_CTRL_WATCH_EN with
    | false => rw [watchSample_off hen, if_pos rfl, outside_self]
    | true =>
      cases hrun : s.mayRun 2 with
      | false => rw [watchSample_throttled hen hrun]; rfl
      | true =>
        rw [watchSample_runs hen hrun, watchTakes_watchMoved]
        exact outside_ite s _ _ _
  · rw [exec_ocuCtrlWrite hs hup, State.become, outside_ocuCtrl, ocuCtrl_eq]
  · rw [exec_ocuWatchWrite hv hs hup, State.become, outside_ocuWatch]
    rfl

end Sys2Proof.Machine
end

section
/-! The queue of commands: a step takes the front one, and k steps the first k (95_what_each_step_holds.md). -/
namespace Sys2Proof.Machine

/-- Settles O1: a step on a queue that is not empty is its front command's meaning by definition. -/
theorem stepRunsFrontCommand : Obligations.StepRunsFrontCommand := fun _ _ _ => rfl

theorem step_idle {s : State} (h : s.pending = []) : step s = s.become s.tick := by simp only [step, h]

/-- A command leaves the queue with which it is carried out. -/
theorem pending_exec {c : Instr} {s t : State} (h : exec c s = .next t) : t.pending = s.pending := by
  cases hm : movesPins c with
  | true => exact pending_of_pinMove hm h
  | false => exact congrArg Prod.fst (exec_external hm h)

/-- A step that answers takes the front command, and nothing of an empty queue. -/
theorem pending_step {s t : State} (h : step s = .next t) : t.pending = s.pending.drop 1 := by
  unfold step at h
  split at h
  case h_1 hq => cases h; exact hq ▸ rfl
  case h_2 c rest hq => rw [pending_exec h, hq]; rfl

/-- Settles O2, by induction on the number of steps. -/
theorem queueIsFirstInFirstOut : Obligations.QueueIsFirstInFirstOut := by
  refine ⟨fun k => ?_, fun s h => step_idle h, fun s n w => ⟨rfl, rfl⟩⟩
  induction k with
  | zero => intro s t h; cases h; rfl
  | succ k ih =>
    intro s t h
    simp only [Host.Core.run] at h
    split at h
    case h_1 u hu => rw [ih u t h, pending_step hu, List.drop_drop, Nat.add_comm]
    all_goals cases h

end Sys2Proof.Machine
end

section
/-! What a gate list's entries and its fallback leave of the rest of the state (R285 to R293). -/
namespace Sys2Proof.Machine

variable {s : State} {β : Type} {g : State → β}

/-- Both branches of a choice keep what the choice is to keep. -/
theorem ite_keeps (g : State → β) {t u : State} {x : β} {c : Prop} [Decidable c] (ht : g t = x) (hu : g u = x) :
    g (if c then t else u) = x := by
  split
  · exact ht
  · exact hu

/-- The registers of the lists that an entry or a fallback moves. -/
def listRegs : List Reg := [.TPG_GCL_STATUS, .TPG_GCL_ENTRY, .TPG_GCL_OVERRUN, .TPG_GCL_SKIP]

/-- `g` does not look at what an entry or a fallback moves in the lists, at Belfry's bits or at the faults reported. -/
structure BesideLists (g : State → β) : Prop where
  bel : ∀ s, g s.besideBel = g s
  gcl : ∀ s l, g { s with gcl := l } = g s
  raised : ∀ s l, g { s with raised := l } = g s
  wr : ∀ s r i w, r ∈ [Reg.TPG_GCL_ENTRY, .TPG_GCL_OVERRUN, .TPG_GCL_SKIP] → g (State.wr s r i w) = g s
  put : ∀ s f i v, f ∈ [Fld.TPG_GCL_STATUS_STATE, .TPG_GCL_STATUS_GATES] → g (State.put s f i v) = g s

/-- A field that no entry and no fallback moves: of another register, or of the status beside STATE and GATES. -/
@[reducible] def Fld.BesideLists (f : Fld) : Prop := f.reg ∉ listRegs ∨ f.reg = .TPG_GCL_STATUS ∧ 7 < f.lo ∧ f.lo ≤ f.hi ∧ f.hi < 29

theorem besideLists_get {f : Fld} (h : f.BesideLists) (i : Nat) : BesideLists fun s => s.get f i := by
  refine ⟨fun _ => rfl, fun _ _ => rfl, fun _ _ => rfl, fun s r k w hr => ?_, fun s p k v hp => ?_⟩
  · refine congrArg f.of (rd_wr_other s w fun hc => ?_)
    rcases h with h | ⟨h, -⟩
    · exact h (hc.1 ▸ List.mem_cons_of_mem _ hr)
    · rw [← hc.1, h] at hr; exact absurd hr (by decide)
  · have hbits : p.reg = .TPG_GCL_STATUS ∧ (p.hi ≤ 7 ∨ 29 ≤ p.lo) := by
      simp only [List.mem_cons, List.not_mem_nil, or_false] at hp
      rcases hp with rfl | rfl <;> decide
    refine get_put_other s p f k i v ?_
    rcases h with h | ⟨-, hlo, hle, hhi⟩
    · exact .inl fun hc => h (by rw [hc.1, hbits.1]; decide)
    · exact .inr ⟨by omega, hle⟩

theorem besideLists_time : BesideLists State.time :=
  ⟨fun _ => rfl, fun _ _ => rfl, fun _ _ => rfl, fun _ _ _ _ _ => rfl, fun _ _ _ _ _ => rfl⟩

theorem besideLists_phase : BesideLists State.phase :=
  ⟨fun _ => rfl, fun _ _ => rfl, fun _ _ => rfl, fun _ _ _ _ _ => rfl, fun _ _ _ _ _ => rfl⟩

namespace BesideLists

theorem add (h : BesideLists g) {f : Fld} (hf : f.reg ∈ [Reg.TPG_GCL_ENTRY, .TPG_GCL_OVERRUN, .TPG_GCL_SKIP])
    (hs : satFlag (satSource f.reg) = none) (s : State) (i n : Nat) : g (s.add f i n) = g s :=
  add_keeps g h.bel (fun s i w => h.wr s _ i w hf) (fun k hk => by rw [hs] at hk; cases hk) s i n

theorem setGcl (h : BesideLists g) (s : State) (n : Nat) (x : Gcl) : g (s.setGcl n x) = g s := h.gcl s _

theorem setGates (h : BesideLists g) (s : State) (n v : Nat) : g (s.setGates n v) = g s :=
  (h.add (f := .TPG_GCL_OVERRUN_COUNT) (by decide) rfl _ n _).trans (h.put s _ n v (by simp))

theorem setGclState (h : BesideLists g) (s : State) (n v : Nat) : g (s.setGclState n v) = g s :=
  h.put s _ n v (by simp)

theorem entryIndex (h : BesideLists g) (s : State) (n v : Nat) : g (s.put .TPG_GCL_ENTRY_INDEX n v) = g s :=
  h.wr s .TPG_GCL_ENTRY n _ (by decide)

theorem gclHalt (h : BesideLists g) (s : State) (n i : Nat) : g (s.gclHalt n i) = g s :=
  (h.raised _ _).trans ((h.entryIndex _ n i).trans ((h.setGates _ n 0).trans (h.setGclState s n gclHalted)))

theorem applyEntry (h : BesideLists g) (s : State) (n : Nat) (x : GclSeg) : g (s.applyEntry n x) = g s :=
  (h.setGates _ n _).trans ((h.entryIndex _ n _).trans (h.setGcl s n _))

theorem takeEntry (h : BesideLists g) (s : State) (n : Nat) (x : GclSeg) (bad : List Nat) : g (s.takeEntry n x bad) = g s := by
  unfold State.takeEntry
  dsimp only
  split
  · exact h.gclHalt s n _
  · exact h.applyEntry s n x

theorem gclFollow (h : BesideLists g) (s : State) (n : Nat) (bad : List Nat) : g (s.gclFollow n bad) = g s := by
  unfold State.gclFollow
  dsimp only
  split
  · exact (h.takeEntry _ n _ bad).trans ((h.add (f := .TPG_GCL_SKIP_COUNT) (by decide) rfl _ n _).trans (h.setGcl s n _))
  · exact h.takeEntry s n _ bad

theorem enterFallback (h : BesideLists g) (s : State) (n : Nat) : g (s.enterFallback n) = g s := by
  unfold State.enterFallback
  split
  · exact (h.setGates _ n 0).trans (h.setGclState s n gclFallClosed)
  · exact (h.setGclState _ n gclFallTime).trans (h.setGcl s n _)

theorem fallbackAll (h : BesideLists g) (s : State) (a : Nat) : g (s.fallbackAll a) = g s :=
  each_keeps g _ _ (fun u n => h.enterFallback u n) s

end BesideLists

end Sys2Proof.Machine
end

section
/-! The time base: TIME_INCR, reads of the fraction, SET and ADJ, and the clock comparison (R272 to R276). -/
namespace Sys2Proof.Machine

variable {s : State} {n : Nat} {w : Word} {bad : List Nat}

/-! Writes (R273). -/

theorem exec_tpgIncrLoWrite (hs : s.soft = true) (hup : s.up 11 = true) (w : Word) :
    exec (.tpgIncrLoWrite w) s = s.become { s with incrHeld := some w } := runSoft_up _ hs hup

theorem exec_tpgIncrHiWrite (hs : s.soft = true) (hup : s.up 11 = true) (w : Word) :
    exec (.tpgIncrHiWrite w) s = s.become (s.incrHi w) := runSoft_up _ hs hup

/-- The pair is taken within its range, and the held low half is used up either way. -/
theorem incrHi_eq (s : State) (w : Word) : s.incrHi w =
    let lo := (s.incrHeld.getD (s.rd .TPG_INCR_LO)).toNat
    let x := wbits w 15 0 * 2 ^ 32 + lo
    let kept := { s with incrHeld := none }
    if 0x008000000000 ≤ x ∧ x ≤ 0x014000000000
    then (kept.put .TPG_INCR_LO_INCR_LO 0 lo).put .TPG_INCR_HI_INCR_HI 0 (wbits w 15 0) else kept := by
  refine (ite_not _ _ _).symm.trans (if_congr ?_ rfl rfl)
  rw [not_or, Nat.not_lt, Nat.not_lt]

/-! The value of the time base (R274, R275). -/

/-- A step of the time base takes it to the new value: what follows in the loops and lists does not move it again. -/
theorem time_stepTime (s : State) (t : Nat) (bad : List Nat) : (s.stepTime t bad).time = t := by
  unfold State.stepTime
  dsimp only
  refine (each_keeps State.time _ _ (fun u n => ?_) _).trans
    ((each_keeps State.time _ _ (fun u n => ?_) _).trans (each_keeps State.time _ _ (fun u a => ?_) _))
  · have hfollows : (if u.gclState n = gclRunning ∧ !(u.operPlan n).angle then u.gclFollow n bad else u).time = u.time := by
      split
      · exact besideLists_time.gclFollow u n bad
      · rfl
    split
    · exact hfollows
    · exact hfollows
  · split <;> rfl
  · rfl

theorem exec_timeSet (hs : s.soft = true) (hup : s.up 11 = true) (bad : List Nat) :
    exec (.timeSet bad) s = s.become (s.timeSet bad) := runSoft_up _ hs hup

theorem exec_timeAdj (hs : s.soft = true) (hup : s.up 11 = true) (bad : List Nat) :
    exec (.timeAdj bad) s = s.become (s.timeAdj bad) := runSoft_up _ hs hup

/-- ADJ moves the time base round its range. -/
theorem time_timeAdj (s : State) (bad : List Nat) : ((s.timeAdj bad).time : Int) =
    ((s.time : Int) + signed 32 (s.get .TPG_ADJ_ADJ) * nsUnit) % (timeModulus : Int) := by
  rw [State.timeAdj, time_stepTime]
  exact Int.toNat_of_nonneg (Int.emod_nonneg _ (by decide))

/-! Reads through the slave port. -/

/-- While the core domain runs, a read of one of its registers is answered with what the register shows. -/
theorem slaveRead_register {a : Nat} {r : Reg} {i b : Nat} (ha : regOf a = some (r, i)) (hr : isAon r = false) (hup : s.up b = true) :
    s.slaveRead a = (s.readEffect r i).slaveOk (s.view r i) := by
  have hcore : s.coreOn = true ∧ s.coreClk = true := by
    simpa only [State.coreUp, Bool.and_eq_true] using (Bool.and_eq_true _ _ ▸ hup : s.coreUp = true ∧ _).1
  obtain ⟨hon, hclk⟩ := hcore
  have hp : s.porstLow = false := by
    simp only [State.coreOn, Bool.and_eq_true, Bool.not_eq_true'] at hon
    exact hon.1
  simp only [State.slaveRead, ha, hr, State.slaveRuns, hclk, hon, State.slaveLoad, State.readReg, hp]
  rfl

theorem exec_tpgTimeFracRead {b : Nat} (hup : s.up b = true) :
    exec .tpgTimeFracRead s = s.become (s.fracRead.slaveOk (word s.timeFrac)) :=
  congrArg s.become (slaveRead_register regOf_timeFrac rfl hup)

/-- The shadows hold the nanoseconds within the second and the seconds. -/
theorem fracRead_shows (s : State) : s.fracRead.get .TPG_TIME_NS_NS = s.ns % 1000000000 ∧
    s.fracRead.get .TPG_TIME_SEC_LO_SEC_LO = s.ns / 1000000000 % 2 ^ 32 ∧
    s.fracRead.get .TPG_TIME_SEC_HI_SEC_HI = s.ns / 1000000000 / 2 ^ 32 % 2 ^ 16 := by
  refine ⟨?_, ?_, get_put_same _ .TPG_TIME_SEC_HI_SEC_HI (by decide) 0 _⟩
  · calc s.fracRead.get .TPG_TIME_NS_NS
      _ = (s.put .TPG_TIME_NS_NS 0 (s.ns % 1000000000)).get .TPG_TIME_NS_NS :=
        (get_put_reg _ (by decide) 0 0 _).trans (get_put_reg _ (by decide) 0 0 _)
      _ = s.ns % 1000000000 % 2 ^ Fld.TPG_TIME_NS_NS.width := get_put_same s .TPG_TIME_NS_NS (by decide) 0 _
      _ = s.ns % 1000000000 := Nat.mod_eq_of_lt ((Nat.mod_lt _ (by decide)).trans (by decide))
  · exact (get_put_reg _ (by decide) 0 0 _).trans (get_put_same _ .TPG_TIME_SEC_LO_SEC_LO (by decide) 0 _)

theorem rd_fracRead (s : State) {r : Reg} (h : r ∉ [Reg.TPG_TIME_NS, .TPG_TIME_SEC_LO, .TPG_TIME_SEC_HI]) (i : Nat) :
    s.fracRead.rd r i = s.rd r i := by
  simp only [List.mem_cons, List.not_mem_nil, or_false, not_or] at h
  obtain ⟨hns, hlo, hhi⟩ := h
  exact (rd_put_reg _ hhi 0 i _).trans ((rd_put_reg _ hlo 0 i _).trans (rd_put_reg s hns 0 i _))

/-! The clock comparison (R276). -/

/-- TPG_CLKCMP after a write of it: a window in its range is taken, and DONE is cleared where bit 30 is 1. -/
def State.cmpArmed (s : State) (w : Word) : State :=
  (s.when (decide (10 ≤ wbits w 4 0 ∧ wbits w 4 0 ≤ 27)) fun s => s.put .TPG_CLKCMP_WINDOW_LOG2 0 (wbits w 4 0)).when (wbit w 30)
    fun s => s.put .TPG_CLKCMP_DONE 0 0

theorem onlyReg_cmpArmed (s : State) (w : Word) : OnlyReg .TPG_CLKCMP 0 s (s.cmpArmed w) :=
  ((OnlyReg.refl .TPG_CLKCMP 0 s).when_put .TPG_CLKCMP_WINDOW_LOG2 rfl _ _).when_put .TPG_CLKCMP_DONE rfl 0 _

theorem done_cmpArmed (s : State) (w : Word) : (s.cmpArmed w).flag .TPG_CLKCMP_DONE = (s.flag .TPG_CLKCMP_DONE && !wbit w 30) := by
  rw [State.cmpArmed, flag_when_clear _ _ (by decide), flag_when_other _ _ _ _ _ _ _ (.inr (by decide))]

theorem window_cmpArmed (s : State) (w : Word) : (s.cmpArmed w).get .TPG_CLKCMP_WINDOW_LOG2 =
    if 10 ≤ wbits w 4 0 ∧ wbits w 4 0 ≤ 27 then wbits w 4 0 else s.get .TPG_CLKCMP_WINDOW_LOG2 := by
  have hkept (u : State) : (u.when (wbit w 30) fun s => s.put .TPG_CLKCMP_DONE 0 0).get .TPG_CLKCMP_WINDOW_LOG2 =
      u.get .TPG_CLKCMP_WINDOW_LOG2 := by
    cases wbit w 30
    · rfl
    · exact get_put_other u _ _ 0 0 0 (.inr (by decide))
  rw [State.cmpArmed, hkept]
  split
  · next h => rw [decide_eq_true h, when_true, get_put_same _ _ (by decide)]; exact Nat.mod_eq_of_lt (wbits_lt w 4 0)
  · next h => rw [decide_eq_false h, when_false]

theorem clkcmp_eq (s : State) (w : Word) : s.clkcmp w = { s.cmpArmed w with clkRun := s.clkRun || wbit w 31 } := by
  have hrun : (s.cmpArmed w).clkRun = s.clkRun := by rw [(onlyReg_cmpArmed s w).rest]
  have hwrite : s.clkcmp w = if wbit w 31 then { s.cmpArmed w with clkRun := true } else s.cmpArmed w := by
    simp only [State.clkcmp, State.cmpArmed, State.when, decide_eq_true_eq]
  rw [hwrite]
  cases wbit w 31
  · rw [Bool.or_false, ← hrun]; rfl
  · rw [Bool.or_true]; rfl

theorem exec_clkcmpGo (hs : s.soft = true) (hup : s.up 11 = true) (w : Word) : exec (.clkcmpGo w) s = s.become (s.clkcmp w) :=
  runSoft_up _ hs hup

theorem exec_clkcmpDone (hup : s.up 11 = true) (n : Word) : exec (.clkcmpDone n) s = s.become (if s.clkRun = true
    then (({ s with clkRun := false }).wr .TPG_CLKCMP_COUNT 0 n).put .TPG_CLKCMP_DONE 0 1 else s) := run_up _ hup

/-- Settles O38: writes by their ranges, the steps of the time base by what they keep, the read by its shadows. -/
theorem timeBaseTakesItsWritesWhole : Obligations.TimeBaseTakesItsWritesWhole := by
  refine fun w v n bad s hup => ⟨fun hs => ⟨exec_tpgIncrLoWrite hs hup v, ?_, exec_timeSet hs hup bad, ?_, ?_, ?_⟩, ?_, ?_⟩
  · refine (exec_tpgIncrHiWrite hs hup w).trans (congrArg Host.Outcome.next ?_)
    rw [incrHi_eq]
    exact outside_ite s _ _ _
  · exact ⟨_, exec_timeAdj hs hup bad, time_timeAdj s bad⟩
  · exact ⟨_, exec_timeSet hs hup bad, time_stepTime s _ bad⟩
  · have honly := onlyReg_cmpArmed s w
    refine ⟨_, (exec_clkcmpGo hs hup w).trans (congrArg s.become (clkcmp_eq s w)), rfl, window_cmpArmed s w, done_cmpArmed s w, ?_,
      fun r i hr => honly.rd_ne hr i⟩
    rw [honly.rest]; rfl
  · obtain ⟨hns, hlo, hhi⟩ := fracRead_shows s
    exact ⟨_, exec_tpgTimeFracRead hup, rfl, hns, hlo, hhi, rfl, fun r i hr => rd_fracRead s hr i⟩
  · exact (exec_clkcmpDone hup n).trans (congrArg Host.Outcome.next (outside_ite s _ _ _))

end Sys2Proof.Machine
end

section
/-! The phase sources: edges, misses, enabling and disabling, and the status read (R57, R278 to R280, R298). -/
namespace Sys2Proof.Machine

variable {s : State} {a : Nat}

/-! The source of an update. -/

theorem ph_setPh (s : State) (a : Nat) (x : Phase) : (s.setPh a x).ph a = x := tget_tput_same _ _ _ _

theorem ph_of_phase {u : State} (h : u.phase = s.phase) (a : Nat) : u.ph a = s.ph a := by rw [State.ph, h, State.ph]

theorem phase_inc (s : State) (f : Fld) (i : Nat) : (s.inc f i).phase = s.phase :=
  add_keeps State.phase (fun _ => rfl) (fun _ _ _ => rfl) (fun _ _ _ _ => rfl) s i 1

theorem phase_phEvent (s : State) (a : Nat) : (s.phEvent a).phase = s.phase :=
  show (s.pulse (1440 + a)).besideBel.phase = s.besideBel.phase from congrArg State.phase (besideBel_pulse s (1440 + a))

theorem phState_setPhState (s : State) (a : Nat) {v : Nat} (h : v < 8) : (s.setPhState a v).phState a = v :=
  (get_put_same s .TPG_PH_STATUS_STATE (by decide) a v).trans (Nat.mod_eq_of_lt h)

theorem besideLists_phState (a : Nat) : BesideLists fun s => s.phState a := besideLists_get (by decide) a

/-! The commands (R57, R280, R298). -/

theorem exec_phrefEdge (ha : a < 2) (hup : s.up 11 = true) (bad : List Nat) :
    exec (.phrefEdge a bad) s = s.become (s.phEdge a bad) := runOn_up _ ha hup

theorem exec_phaseMiss (ha : a < 2) (hup : s.up 11 = true) : exec (.phaseMiss a) s = s.become (s.phMiss a) := runOn_up _ ha hup

theorem exec_phaseEnable (ha : a < 2) (hs : s.soft = true) (hup : s.up 11 = true) :
    exec (.phaseEnable a) s = s.become (s.phEnable a) := runSoftOn_up _ ha hs hup

theorem exec_phaseDisable (ha : a < 2) (hs : s.soft = true) (hup : s.up 11 = true) :
    exec (.phaseDisable a) s = s.become (s.phDisable a) := runSoftOn_up _ ha hs hup

theorem regOf_phStatus (ha : a < 2) : regOf (regAddr .TPG_PH_STATUS a) = some (.TPG_PH_STATUS, a) := by
  interval_cases a <;> decide +kernel

theorem exec_phStatusRead (ha : a < 2) (hup : s.up 11 = true) :
    exec (.phStatusRead a) s = s.become ((s.phRead a).slaveOk (s.phStatus a)) := by
  refine congrArg s.become ((onUnit_in _ ha).trans ?_)
  exact slaveRead_register (regOf_phStatus ha) rfl hup

/-! Edges (R57, R278, R279). -/

/-- The last accepted edge is less than 12 ms old. -/
def State.phGlitch (s : State) (a : Nat) : Prop := ∃ t, (s.ph a).lastEdge = some t ∧ (s.time : Int) - t < 12000000 * nsUnit

/-- An edge that is accepted, before its source acts on it. -/
def State.edgeTaken (s : State) (a : Nat) : State :=
  (s.setPh a { s.ph a with lastEdge := some (s.time : Int) }).inc .TPG_PH_EDGES_COUNT a

/-- The time at which an edge counts, corrected by the input's delay. -/
def State.edgeTime (s : State) (a : Nat) : Int :=
  (s.time : Int) - ((s.phFcal a : Int) + signed 32 (s.get .TPG_PH_UCAL_UCAL a)) * 2 ^ 36

/-- What a source that is not OFF makes of an accepted edge. -/
def State.edgeUsed (s : State) (a : Nat) (bad : List Nat) : State :=
  if s.phState a = phOff then s.edgeTaken a
  else if s.phState a = phAcquire ∨ s.phState a = phLost then (s.edgeTaken a).edgeAcquire a (s.edgeTime a)
  else ((s.edgeTaken a).edgeTrack a (s.edgeTime a)).each (((s.edgeTaken a).edgeTrack a (s.edgeTime a)).followers a) fun s n =>
    s.gclFollow n bad

theorem phEdge_glitch (h : s.phGlitch a) (bad : List Nat) : s.phEdge a bad = s.inc .TPG_PH_GLITCH_COUNT a := by
  obtain ⟨t, ht, hlt⟩ := h
  simp only [State.phEdge, ht]
  exact if_pos (decide_eq_true hlt)

theorem phEdge_accepted (h : ¬s.phGlitch a) (bad : List Nat) : s.phEdge a bad = s.edgeUsed a bad := by
  unfold State.phEdge
  dsimp only
  split
  case h_1 t ht => exact if_neg fun hlt => h ⟨t, ht, of_decide_eq_true hlt⟩
  case h_2 => exact if_neg (by decide)

/-- The time of a source's last accepted edge, and how many edges it has accepted. -/
def State.edgesSeen (s : State) (a : Nat) : Option Int × Nat := ((s.ph a).lastEdge, s.get .TPG_PH_EDGES_COUNT a)

theorem edgesSeen_setPh (s : State) {x : Phase} (h : x.lastEdge = (s.ph a).lastEdge) : (s.setPh a x).edgesSeen a = s.edgesSeen a := by
  rw [State.edgesSeen, ph_setPh, h]; rfl

theorem edgesSeen_put (s : State) {f : Fld} (h : f.reg ≠ .TPG_PH_EDGES) (i v : Nat) : (s.put f i v).edgesSeen a = s.edgesSeen a :=
  Prod.ext rfl (get_put_reg s h.symm i a v)

theorem edgesSeen_inc (s : State) {f : Fld} (h : f.reg ≠ .TPG_PH_EDGES) (hs : satFlag (satSource f.reg) = none) (i : Nat) :
    (s.inc f i).edgesSeen a = s.edgesSeen a :=
  Prod.ext (congrArg Phase.lastEdge (ph_of_phase (phase_inc s f i) a)) (congrArg Fld.TPG_PH_EDGES_COUNT.of (rd_inc_reg s hs h.symm i a))

theorem edgesSeen_phEvent (s : State) (k : Nat) : (s.phEvent k).edgesSeen a = s.edgesSeen a :=
  Prod.ext (congrArg Phase.lastEdge (ph_of_phase (phase_phEvent s k) a)) (get_pulse s _ _ a)

theorem besideLists_edgesSeen (a : Nat) : BesideLists fun s => s.edgesSeen a :=
  have hget := besideLists_get (f := .TPG_PH_EDGES_COUNT) (by decide) a
  ⟨fun s => Prod.ext rfl (hget.bel s), fun s l => Prod.ext rfl (hget.gcl s l), fun s l => Prod.ext rfl (hget.raised s l),
    fun s r i w hr => Prod.ext rfl (hget.wr s r i w hr),
    fun s f i v hf => Prod.ext rfl (hget.put s f i v hf)⟩

theorem edgesSeen_edgeAcquire (s : State) (te : Int) : (s.edgeAcquire a te).edgesSeen a = s.edgesSeen a := by
  unfold State.edgeAcquire
  dsimp only
  split
  · exact edgesSeen_setPh s rfl
  · split
    · exact (edgesSeen_inc _ (by decide) rfl a).trans (edgesSeen_setPh s rfl)
    · exact (edgesSeen_put _ (f := .TPG_PH_FREQ_FREQ) (by decide) a _).trans
        ((edgesSeen_put _ (f := .TPG_PH_STATUS_STATE) (by decide) a _).trans (edgesSeen_setPh s rfl))

theorem edgesSeen_edgeTrack (s : State) (te : Int) : (s.edgeTrack a te).edgesSeen a = s.edgesSeen a := by
  have hmoved (x : Phase) (v : Nat) (h : x.lastEdge = (s.ph a).lastEdge) :
      ((((s.setPh a x).showFreq a).put .TPG_PH_ERR_ERR a v).put .TPG_PH_STATUS_MISSES a 0).edgesSeen a = s.edgesSeen a :=
    (edgesSeen_put _ (f := .TPG_PH_STATUS_MISSES) (by decide) a 0).trans ((edgesSeen_put _ (f := .TPG_PH_ERR_ERR) (by decide) a v).trans
      ((edgesSeen_put _ (f := .TPG_PH_FREQ_FREQ) (by decide) a _).trans (edgesSeen_setPh s h)))
  have hranged {u : State} {c : Prop} [Decidable c] (hu : u.edgesSeen a = s.edgesSeen a) :
      (if c then u.inc .TPG_PH_RANGE_COUNT a else u).edgesSeen a = s.edgesSeen a :=
    ite_keeps (·.edgesSeen a) ((edgesSeen_inc u (by decide) rfl a).trans hu) hu
  refine ite_keeps (·.edgesSeen a) (edgesSeen_inc s (by decide) rfl a) (ite_keeps (·.edgesSeen a) ?_ (hranged (hmoved _ _ rfl)))
  exact (edgesSeen_phEvent _ a).trans ((edgesSeen_put _ (f := .TPG_PH_STATUS_STATE) (by decide) a _).trans
    (hranged (hmoved _ _ rfl)))

theorem edgesSeen_edgeTaken (s : State) (a : Nat) :
    (s.edgeTaken a).edgesSeen a = (some (s.time : Int), min (2 ^ 32 - 1) (s.get .TPG_PH_EDGES_COUNT a + 1)) := by
  refine Prod.ext ?_ (get_add _ .TPG_PH_EDGES_COUNT (by decide) a 1)
  exact (congrArg Phase.lastEdge (ph_of_phase (phase_inc _ _ a) a)).trans (congrArg Phase.lastEdge (ph_setPh s a _))

/-- Every accepted edge is the last one seen, and is counted. -/
theorem edgesSeen_edgeUsed (s : State) (a : Nat) (bad : List Nat) : (s.edgeUsed a bad).edgesSeen a = (s.edgeTaken a).edgesSeen a := by
  unfold State.edgeUsed
  split
  · rfl
  · split
    · exact edgesSeen_edgeAcquire _ _
    · exact (each_keeps (fun s => s.edgesSeen a) _ _ (fun u n => (besideLists_edgesSeen a).gclFollow u n bad) _).trans
        (edgesSeen_edgeTrack _ _)

/-! Misses (R280, R289). -/

theorem phMiss_tracking (h : s.phState a = phTracking) :
    s.phMiss a = (s.setPh a { s.ph a with tPrev := none }).setPhState a phAcquire := if_pos h

theorem phMiss_locked (h : s.phState a = phLocked) (hold : s.get .TPG_PH_CFG_HOLD_CYCLES a ≠ 0) :
    s.phMiss a = ((s.setPhState a phHoldover).put .TPG_PH_STATUS_MISSES a 1).phEvent a := by
  simp only [State.phMiss, h, phTracking, phLocked]
  exact if_neg hold

theorem phMiss_loses (h : s.phState a = phLocked ∧ s.get .TPG_PH_CFG_HOLD_CYCLES a = 0 ∨
    s.phState a = phHoldover ∧ s.get .TPG_PH_STATUS_MISSES a = s.get .TPG_PH_CFG_HOLD_CYCLES a) : s.phMiss a = s.phLose a := by
  rcases h with ⟨hst, hhold⟩ | ⟨hst, hmiss⟩
  · simp only [State.phMiss, hst, phTracking, phLocked]
    exact if_pos hhold
  · simp only [State.phMiss, hst, phTracking, phLocked, phHoldover]
    exact if_pos hmiss

theorem phMiss_holds (h : s.phState a = phHoldover) (hmiss : s.get .TPG_PH_STATUS_MISSES a ≠ s.get .TPG_PH_CFG_HOLD_CYCLES a) :
    s.phMiss a = s.put .TPG_PH_STATUS_MISSES a (s.get .TPG_PH_STATUS_MISSES a + 1) := by
  simp only [State.phMiss, h, phTracking, phLocked, phHoldover]
  exact if_neg hmiss

theorem phMiss_idle (h : s.phState a = phOff ∨ s.phState a = phAcquire ∨ s.phState a = phLost) : s.phMiss a = s := by
  rcases h with h | h | h <;> simp only [State.phMiss, h] <;> rfl

/-- A source that is lost takes no part of what it tracked with it; the lists enter fallback beside it. -/
theorem phLose_shows (s : State) (a : Nat) : (s.phLose a).phState a = phLost ∧ ((s.phLose a).ph a).tPrev = none := by
  constructor
  · calc (s.phLose a).phState a
      _ = ((((s.setPh a { s.ph a with tPrev := none }).setPhState a phLost).inc .TPG_PH_LOSSES_COUNT a).phEvent a).phState a :=
        (besideLists_phState a).fallbackAll _ a
      _ = (((s.setPh a { s.ph a with tPrev := none }).setPhState a phLost).inc .TPG_PH_LOSSES_COUNT a).phState a := get_pulse _ _ _ a
      _ = ((s.setPh a { s.ph a with tPrev := none }).setPhState a phLost).phState a :=
        congrArg Fld.TPG_PH_STATUS_STATE.of (rd_inc_reg _ rfl (by decide) a a)
      _ = phLost := phState_setPhState _ a (by decide)
  · have hphase : (s.phLose a).phase = (s.setPh a { s.ph a with tPrev := none }).phase :=
      (besideLists_phase.fallbackAll _ a).trans ((phase_phEvent _ a).trans (phase_inc _ _ a))
    exact (congrArg Phase.tPrev (ph_of_phase hphase a)).trans (congrArg Phase.tPrev (ph_setPh s a _))

/-! Enabling and disabling (R280). -/

theorem phEnable_off (h : s.phState a = phOff) : s.phEnable a =
    (((s.put .TPG_PH_CFG_EN a 1).setPh a { freq := s.nominal a, tRef := s.time, lastEdge := (s.ph a).lastEdge }).setPhState a
      phAcquire).showFreq a := if_neg (not_not.2 h)

theorem phEnable_on (h : s.phState a ≠ phOff) : s.phEnable a = s.put .TPG_PH_CFG_EN a 1 := if_pos h

theorem phDisable_off (h : s.phState a = phOff) : s.phDisable a = s.put .TPG_PH_CFG_EN a 0 := if_pos h

/-- A source that is disabled holds its angle, and with it its count. -/
theorem phDisable_on (h : s.phState a ≠ phOff) : (s.phDisable a).phState a = phOff ∧ (s.phDisable a).angle a = s.angle a := by
  have hform : s.phDisable a = ((((s.put .TPG_PH_CFG_EN a 0).fallbackAll a).setPh a
      { s.ph a with theta := s.angle a, tRef := s.time }).setPhState a phOff) := if_neg h
  have hoff : (s.phDisable a).phState a = phOff := by rw [hform]; exact phState_setPhState _ a (by decide)
  refine ⟨hoff, ?_⟩
  rw [State.angle, State.angleAt, if_pos hoff, hform]
  exact congrArg Phase.theta (ph_setPh _ a _)

/-- Settles O39: an edge by whether it is a glitch, a miss by the state, enabling and disabling by what they set and hold. -/
theorem phaseSourceFollowsItsStates : Obligations.PhaseSourceFollowsItsStates := by
  refine fun a bad s ha hup => ⟨fun h => ?_, fun h => ?_, fun h => ?_, fun h => ?_, fun h hold => ?_, fun h => ?_, fun h hmiss => ?_,
    fun h => ?_, fun hs => ⟨fun h => ?_, fun h => ?_, fun h => ?_, fun h => ?_⟩, ?_⟩
  · exact (exec_phrefEdge ha hup bad).trans (congrArg s.become (phEdge_glitch h bad))
  · exact (exec_phrefEdge ha hup bad).trans (congrArg s.become (phEdge_accepted h bad))
  · have hseen := (edgesSeen_edgeUsed s a bad).trans (edgesSeen_edgeTaken s a)
    exact ⟨_, (exec_phrefEdge ha hup bad).trans (congrArg s.become (phEdge_accepted h bad)), congrArg Prod.fst hseen,
      congrArg Prod.snd hseen⟩
  · exact ⟨_, (exec_phaseMiss ha hup).trans (congrArg s.become (phMiss_tracking h)), phState_setPhState _ a (by decide), rfl⟩
  · exact (exec_phaseMiss ha hup).trans (congrArg s.become (phMiss_locked h hold))
  · obtain ⟨hst, hprev⟩ := phLose_shows s a
    exact ⟨_, (exec_phaseMiss ha hup).trans (congrArg s.become (phMiss_loses h)), hst, hprev, rfl⟩
  · exact (exec_phaseMiss ha hup).trans (congrArg s.become (phMiss_holds h hmiss))
  · exact (exec_phaseMiss ha hup).trans (congrArg s.become (phMiss_idle h))
  · exact (exec_phaseEnable ha hs hup).trans (congrArg s.become (phEnable_off h))
  · exact (exec_phaseEnable ha hs hup).trans (congrArg s.become (phEnable_on h))
  · exact (exec_phaseDisable ha hs hup).trans (congrArg s.become (phDisable_off h))
  · obtain ⟨hst, hangle⟩ := phDisable_on h
    exact ⟨_, exec_phaseDisable ha hs hup, hst, hangle, congrArg (· / cycleUnit) hangle⟩
  · refine ⟨_, exec_phStatusRead ha hup, rfl, ?_, rfl, fun r i hr => rd_put_reg s hr a i _⟩
    exact get_put_same s .TPG_PH_CYCLES_CYCLES (by decide) a _

end Sys2Proof.Machine
end

section
/-! Reading rules for the fields and tables that the rows of this part move. -/
namespace Sys2Proof.Machine

variable {s : State}

/-- A field of a register leaves the fields beside it. -/
theorem get_put_bits (s : State) {f g : Fld} (h : (g.hi < f.lo ∨ f.hi < g.lo) ∧ g.lo ≤ g.hi) (i j v : Nat) :
    (s.put f i v).get g j = s.get g j := get_put_other s f g i j v (.inr h)

theorem flag_put_bits (s : State) {f g : Fld} (h : (g.hi < f.lo ∨ f.hi < g.lo) ∧ g.lo ≤ g.hi) (i j v : Nat) :
    (s.put f i v).flag g j = s.flag g j := flag_put_other s f g i j v (.inr h)

theorem flag_put_reg (s : State) {f g : Fld} (h : g.reg ≠ f.reg) (i j v : Nat) : (s.put f i v).flag g j = s.flag g j :=
  flag_put_other s f g i j v (.inl fun hc => h hc.1)

theorem flag_pulse (s : State) (k : Nat) (f : Fld) (i : Nat) : (s.pulse k).flag f i = s.flag f i := by
  rw [State.flag, get_pulse, State.flag]

theorem get_add_reg (s : State) {f g : Fld} (hs : satFlag (satSource f.reg) = none) (h : g.reg ≠ f.reg) (i n j : Nat) :
    (s.add f i n).get g j = s.get g j :=
  congrArg g.of ((rd_add s f i n g.reg j fun k hk => by rw [hs] at hk; cases hk).trans (rd_wr_other s _ fun hc => h hc.1))

theorem get_setGcl (s : State) (n : Nat) (x : Gcl) (f : Fld) (i : Nat) : (s.setGcl n x).get f i = s.get f i := rfl

theorem flag_setGcl (s : State) (n : Nat) (x : Gcl) (f : Fld) (i : Nat) : (s.setGcl n x).flag f i = s.flag f i := rfl

theorem gclOf_setGcl (s : State) (n : Nat) (x : Gcl) : (s.setGcl n x).gclOf n = x := tget_tput_same _ _ _ _

theorem gclOf_of_gcl {u : State} (h : u.gcl = s.gcl) (n : Nat) : u.gclOf n = s.gclOf n := by rw [State.gclOf, h, State.gclOf]

end Sys2Proof.Machine
end

section
/-! The gate lists: starts, changes and stops, entries, halts and fallback, and the entries' table commands (R282 to R300). -/
namespace Sys2Proof.Machine

variable {s : State} {n : Nat} {bad : List Nat} {t : Tae} {e : Ecc}

/-! The commands. -/

theorem exec_gclStart (hn : n < 1040) (hs : s.soft = true) (hup : s.up 11 = true) (bad : List Nat) :
    exec (.gclStart n bad) s = s.become (s.gclStart n bad) := runSoftOn_up _ hn hs hup

theorem exec_gclStop (hn : n < 1040) (hs : s.soft = true) (hup : s.up 11 = true) :
    exec (.gclStop n) s = s.become (s.gclStop n) := runSoftOn_up _ hn hs hup

theorem exec_gclChange (hn : n < 1040) (hs : s.soft = true) (hup : s.up 11 = true) :
    exec (.gclChange n) s = s.become (s.gclChange n) := runSoftOn_up _ hn hs hup

theorem exec_gclListStart (hn : n < 1040) (hup : s.up 11 = true) (bad : List Nat) :
    exec (.gclListStart n bad) s = s.become (s.gclListStart n bad) := runOn_up _ hn hup

theorem exec_gclEntryBoundary (hn : n < 1040) (hup : s.up 11 = true) (e : Ecc) :
    exec (.gclEntryBoundary n e) s = s.become (s.gclBoundary n e) := runOn_up _ hn hup

theorem exec_gclFallbackExit (hn : n < 1040) (hup : s.up 11 = true) (bad : List Nat) :
    exec (.gclFallbackExit n bad) s = s.become (s.gclFallbackExit n bad) := runOn_up _ hn hup

/-! Gates, entries and halts (R285, R293). -/

theorem gates_setGates (s : State) (n v : Nat) : (s.setGates n v).get .TPG_GCL_STATUS_GATES n = v % 256 :=
  (get_add_reg _ rfl (by decide) n _ n).trans (get_put_same s .TPG_GCL_STATUS_GATES (by decide) n v)

theorem get_setGates (s : State) {f : Fld} (h : f.reg ≠ .TPG_GCL_OVERRUN ∧ (f.reg ≠ .TPG_GCL_STATUS ∨ 7 < f.lo ∧ f.lo ≤ f.hi))
    (n v i : Nat) : (s.setGates n v).get f i = s.get f i := by
  obtain ⟨hover, hf⟩ := h
  refine (get_add_reg _ (f := .TPG_GCL_OVERRUN_COUNT) rfl hover n _ i).trans (get_put_other s _ f n i v ?_)
  exact hf.imp (fun h hc => h hc.1) fun ⟨hlo, hle⟩ => ⟨.inr hlo, hle⟩

theorem gclState_setGclState (s : State) (n : Nat) {v : Nat} (h : v < 8) : (s.setGclState n v).gclState n = v :=
  (get_put_same s .TPG_GCL_STATUS_STATE (by decide) n v).trans (Nat.mod_eq_of_lt h)

theorem gclState_setGates (s : State) (n v : Nat) : (s.setGates n v).gclState n = s.gclState n := get_setGates s (by decide) n v n

/-- A halted list shows HALTED and holds every gate closed. -/
theorem gclHalt_shows (s : State) (n i : Nat) :
    (s.gclHalt n i).gclState n = gclHalted ∧ (s.gclHalt n i).get .TPG_GCL_STATUS_GATES n = 0 := by
  constructor
  · exact (get_put_reg _ (f := .TPG_GCL_ENTRY_INDEX) (by decide) n n i).trans
      ((gclState_setGates _ n 0).trans (gclState_setGclState s n (by decide)))
  · exact (get_put_reg _ (f := .TPG_GCL_ENTRY_INDEX) (by decide) n n i).trans (gates_setGates _ n 0)

/-- An entry applied leaves the list's state and sets the gates. -/
theorem applyEntry_shows (s : State) (n : Nat) (x : GclSeg) :
    (s.applyEntry n x).gclState n = s.gclState n ∧ (s.applyEntry n x).get .TPG_GCL_STATUS_GATES n = x.gates % 256 :=
  ⟨(gclState_setGates _ n _).trans (get_put_reg _ (f := .TPG_GCL_ENTRY_INDEX) (by decide) n n _), gates_setGates _ n _⟩

theorem takeEntry_halts {x : GclSeg} (h : s.get .TPG_GCL_OPER_LIST_BASE n + x.idx ∈ bad) :
    s.takeEntry n x bad = s.gclHalt n (s.get .TPG_GCL_OPER_LIST_BASE n + x.idx) := if_pos (List.contains_iff_mem.2 h)

theorem takeEntry_applies {x : GclSeg} (h : s.get .TPG_GCL_OPER_LIST_BASE n + x.idx ∉ bad) :
    s.takeEntry n x bad = s.applyEntry n x := if_neg fun hc => h (List.contains_iff_mem.1 hc)

theorem gclState_takeEntry (s : State) (n : Nat) (x : GclSeg) (bad : List Nat) : (s.takeEntry n x bad).gclState n =
    if s.get .TPG_GCL_OPER_LIST_BASE n + x.idx ∈ bad then gclHalted else s.gclState n := by
  split
  · next h => rw [takeEntry_halts h]; exact (gclHalt_shows s n _).1
  · next h => rw [takeEntry_applies h]; exact (applyEntry_shows s n x).1

theorem gcl_setGates (s : State) (n v : Nat) : (s.setGates n v).gcl = s.gcl :=
  add_keeps State.gcl (fun _ => rfl) (fun _ _ _ => rfl) (fun _ _ _ _ => rfl) _ n _

/-- An entry moves the place in the list and nothing else that the list keeps. -/
theorem gclOf_takeEntry (s : State) (n : Nat) (x : GclSeg) (bad : List Nat) :
    ∃ i, (s.takeEntry n x bad).gclOf n = { s.gclOf n with idx := i } := by
  by_cases h : s.get .TPG_GCL_OPER_LIST_BASE n + x.idx ∈ bad
  · rw [takeEntry_halts h]
    exact ⟨(s.gclOf n).idx, gclOf_of_gcl (gcl_setGates (s.setGclState n gclHalted) n 0) n⟩
  · rw [takeEntry_applies h]
    exact ⟨x.idx, (gclOf_of_gcl (gcl_setGates _ n _) n).trans (gclOf_setGcl s n _)⟩

/-! Plans (R287 to R289, R299). -/

theorem besideLists_flag {f : Fld} (h : f.BesideLists) (i : Nat) : BesideLists fun s => s.flag f i :=
  have hget := besideLists_get h i
  ⟨fun _ => rfl, fun _ _ => rfl, fun _ _ => rfl, fun s r k w hr => congrArg (· != 0) (hget.wr s r k w hr),
    fun s p k v hp => congrArg (· != 0) (hget.put s p k v hp)⟩

theorem besideLists_operPlan (n : Nat) : BesideLists fun s => s.operPlan n := by
  have hflag := besideLists_flag (f := .TPG_GCL_STATUS_OPER_MODE) (by decide) n
  have hsrc := besideLists_get (f := .TPG_GCL_STATUS_OPER_SRC) (by decide) n
  have hbase := besideLists_get (f := .TPG_GCL_OPER_LIST_BASE) (by decide) n
  have hlen := besideLists_get (f := .TPG_GCL_OPER_LIST_LEN) (by decide) n
  have hcycle := besideLists_get (f := .TPG_GCL_OPER_CYCLE_CYCLE) (by decide) n
  have hhi := besideLists_get (f := .TPG_GCL_OPER_BASE_SEC_HI_SEC_HI) (by decide) n
  have hlo := besideLists_get (f := .TPG_GCL_OPER_BASE_SEC_LO_SEC_LO) (by decide) n
  have hns := besideLists_get (f := .TPG_GCL_OPER_BASE_NS_NS) (by decide) n
  refine ⟨fun _ => rfl, fun _ _ => rfl, fun _ _ => rfl, fun s r i w hr => ?_, fun s f i v hf => ?_⟩
  · simp only [State.operPlan, hflag.wr s r i w hr, hsrc.wr s r i w hr, hbase.wr s r i w hr, hlen.wr s r i w hr,
      hcycle.wr s r i w hr, hhi.wr s r i w hr, hlo.wr s r i w hr, hns.wr s r i w hr]
  · simp only [State.operPlan, hflag.put s f i v hf, hsrc.put s f i v hf, hbase.put s f i v hf, hlen.put s f i v hf,
      hcycle.put s f i v hf, hhi.put s f i v hf, hlo.put s f i v hf, hns.put s f i v hf]

/-- A plan that fits its registers. -/
structure GclPlan.Fits (g : GclPlan) : Prop where
  src : g.src < 2
  len : g.len < 8192
  base : g.base < 65536
  cycle : g.cycle < 2 ^ 32
  ns : g.ns < 2 ^ 30
  sec : g.sec < 2 ^ 48

/-- The operating registers show the plan that they have taken. -/
theorem operPlan_setOper (s : State) (n : Nat) {g : GclPlan} (h : g.Fits) : (s.setOper n g).operPlan n = g := by
  obtain ⟨hsrc, hlen, hbase, hcycle, hns, hsec⟩ := h
  have hmode (u : State) : (u.putFlag .TPG_GCL_STATUS_OPER_MODE n g.angle).flag .TPG_GCL_STATUS_OPER_MODE n = g.angle :=
    flag_putFlag u _ (by decide) n _
  cases g
  simp (disch := decide) only [State.operPlan, State.setOper, get_put_same, get_put_reg, get_put_bits, flag_put_reg, flag_put_bits, hmode,
    Fld.width, GclPlan.mk.injEq, true_and]
  dsimp only at *
  simp only [Fld.TPG_GCL_STATUS_OPER_SRC, Fld.TPG_GCL_OPER_LIST_BASE, Fld.TPG_GCL_OPER_LIST_LEN, Fld.TPG_GCL_OPER_CYCLE_CYCLE,
    Fld.TPG_GCL_OPER_BASE_SEC_HI_SEC_HI, Fld.TPG_GCL_OPER_BASE_SEC_LO_SEC_LO, Fld.TPG_GCL_OPER_BASE_NS_NS]
  omega

theorem adminPlan_on (s : State) (n : Nat) : (s.put .TPG_GCL_CFG_EN n 1).adminPlan n = s.adminPlan n := by
  simp (disch := decide) only [State.adminPlan, get_put_reg, get_put_bits, flag_put_bits]

theorem startsClosed_iff (s : State) (n : Nat) (g : GclPlan) : s.startsClosed n g = true ↔
    ¬(g.angle = false ∨ s.phGood g.src = true) ∧ s.flag .TPG_GCL_CFG_FALLBACK n = true := by
  simp [State.startsClosed]

theorem gclSegs_of_gmem {u : State} (h : u.gmem = s.gmem) (g : GclPlan) (k i pos : Nat) : u.gclSegs g k i pos = s.gclSegs g k i pos := by
  induction k generalizing i pos with
  | zero => rfl
  | succ k ih => simp only [State.gclSegs, State.gateEntry, h, ih]

theorem planSegs_of_gmem {u : State} (h : u.gmem = s.gmem) (g : GclPlan) : u.planSegs g = s.planSegs g := gclSegs_of_gmem h g _ 0 0

/-! Starts and changes (R287, R288). -/

theorem gclStart_running (h : s.gclState n ≠ gclIdle) (bad : List Nat) : s.gclStart n bad = s.put .TPG_GCL_CFG_EN n 1 :=
  if_pos ((get_put_reg s (by decide) n n 1).trans_ne h)

theorem gclState_on (s : State) (n : Nat) : (s.put .TPG_GCL_CFG_EN n 1).gclState n = s.gclState n := get_put_reg s (by decide) n n 1

theorem gclStart_refused (h : s.gclState n = gclIdle) (hg : (s.adminPlan n).refusal ≠ 0) (bad : List Nat) :
    s.gclStart n bad = (s.put .TPG_GCL_CFG_EN n 1).gclRefuse n (s.adminPlan n).refusal := by
  simp only [State.gclStart, gclState_on, adminPlan_on, h]
  exact if_pos hg

/-- A start that is accepted: the admin list waits for its T, and the port leaves low-power idle. -/
def State.listWaits (s : State) (n : Nat) (p : GclPend) : State :=
  ((((s.put .TPG_GCL_CFG_EN n 1).setGcl n { s.gclOf n with pend := some p }).put .TPG_GCL_STATUS_CHANGE_PEND n 1).setGclState n
    gclPending).lpiWake n

theorem gclSchedule_idle (h : s.gclState n = gclIdle) (g : GclPlan) : s.gclSchedule n g =
    (s.setGcl n { s.gclOf n with pend := some ⟨g, s.time, none⟩ }).put .TPG_GCL_STATUS_CHANGE_PEND n 1 := by
  simp [State.gclSchedule, State.nextBoundary, h, gclIdle, gclFallTime, gclRunning]

theorem gcl_lpiWake (s : State) (m : Nat) : (s.lpiWake m).gcl = s.gcl := ite_keeps State.gcl rfl rfl

theorem gclOf_listWaits (s : State) (n : Nat) (p : GclPend) : (s.listWaits n p).gclOf n = { s.gclOf n with pend := some p } :=
  (gclOf_of_gcl (gcl_lpiWake _ n) n).trans (gclOf_setGcl (s.put .TPG_GCL_CFG_EN n 1) n { s.gclOf n with pend := some p })

theorem gclStart_accepted (h : s.gclState n = gclIdle) (hg : (s.adminPlan n).refusal = 0) (bad : List Nat) :
    let p : GclPend := ⟨s.adminPlan n, s.time, none⟩
    s.gclStart n bad = if (s.listWaits n p).untilT n p = 0 then (s.listWaits n p).gclListStart n bad else s.listWaits n p := by
  intro p
  have hsched : (((s.put .TPG_GCL_CFG_EN n 1).gclSchedule n (s.adminPlan n)).setGclState n gclPending).lpiWake n = s.listWaits n p := by
    rw [gclSchedule_idle ((gclState_on s n).trans h)]; rfl
  simp only [State.gclStart, gclState_on, adminPlan_on, h, hg, ne_eq, not_true_eq_false, if_false, hsched, gclOf_listWaits]

theorem listWaits_shows (s : State) (n : Nat) (p : GclPend) : (s.listWaits n p).gclState n = gclPending ∧
    (s.listWaits n p).flag .TPG_GCL_STATUS_CHANGE_PEND n = true ∧ (s.listWaits n p).flag .MAC_STATUS_TX_LPI n = false := by
  refine ⟨?_, ?_, ?_⟩
  · exact (congrArg Fld.TPG_GCL_STATUS_STATE.of (rd_lpiWake _ n (by decide) n)).trans (gclState_setGclState _ n (by decide))
  · refine (congrArg (fun w => Fld.TPG_GCL_STATUS_CHANGE_PEND.of w != 0) (rd_lpiWake _ n (by decide) n)).trans ?_
    exact (flag_put_bits _ (f := .TPG_GCL_STATUS_STATE) (by decide) n n _).trans (flag_put_one _ _ (by decide) n)
  · unfold State.listWaits
    generalize State.setGclState _ n gclPending = u
    cases hl : u.flag .MAC_STATUS_TX_LPI n
    · rwa [lpiWake_awake hl]
    · rw [lpiWake_asleep hl]
      exact flag_put_zero u _ (by decide) n

theorem gclChange_ignored (h : s.flag .TPG_GCL_CFG_EN n = false ∨ s.gclState n = gclIdle ∨ s.gclState n = gclHalted) :
    s.gclChange n = s := by
  refine if_pos ?_
  simpa [or_assoc] using h

theorem gclChange_taken (h : ¬(s.flag .TPG_GCL_CFG_EN n = false ∨ s.gclState n = gclIdle ∨ s.gclState n = gclHalted)) : s.gclChange n =
    if (s.adminPlan n).refusal ≠ 0 then s.gclRefuse n (s.adminPlan n).refusal
    else if s.flag .TPG_GCL_STATUS_CHANGE_PEND n = true then s.gclRefuse n 4 else s.gclSchedule n (s.adminPlan n) := by
  refine if_neg ?_
  simpa [or_assoc] using h

/-- A stopped list is IDLE, has nothing pending and holds every gate open. -/
theorem gclStop_shows (s : State) (n : Nat) : (s.gclStop n).flag .TPG_GCL_CFG_EN n = false ∧ (s.gclStop n).gclState n = gclIdle ∧
    (s.gclStop n).flag .TPG_GCL_STATUS_CHANGE_PEND n = false ∧ (s.gclStop n).get .TPG_GCL_STATUS_GATES n = 0xFF ∧
    (s.gclStop n).gclOf n = {} := by
  refine ⟨?_, ?_, ?_, gates_setGates _ n _, (gclOf_of_gcl (gcl_setGates _ n _) n).trans (gclOf_setGcl (s.put .TPG_GCL_CFG_EN n 0) n {})⟩
  · unfold State.gclStop
    simp (disch := decide) only [State.flag, get_setGates, get_put_reg, State.setGclState, get_setGcl, get_put_same]
    rfl
  · unfold State.gclStop
    simp (disch := decide) only [State.gclState, get_setGates, get_put_reg, get_put_bits, State.setGclState, get_put_same]
    rfl
  · unfold State.gclStop
    simp (disch := decide) only [State.flag, get_setGates, get_put_reg, get_put_same]
    rfl

/-! The start of a list at T (R287, R289). -/

/-- The list that takes over at T, in a state, before its first entry acts. -/
def State.listBegun (s : State) (n : Nat) (g : GclPlan) (st : Nat) : State :=
  ((((s.setOper n g).setGcl n { count0 := s.cycles g.src, fbRef := s.time }).put .TPG_GCL_STATUS_CHANGE_PEND n 0).setGclState n st).gclDone n

theorem listBegun_shows (s : State) (n : Nat) {g : GclPlan} (hg : g.Fits) {st : Nat} (hst : st < 8) :
    (s.listBegun n g st).flag .TPG_GCL_STATUS_CHANGE_PEND n = false ∧ (s.listBegun n g st).operPlan n = g ∧
    (s.listBegun n g st).gclState n = st := by
  refine ⟨?_, ?_, ?_⟩
  · unfold State.listBegun State.gclDone State.setGclState
    simp (disch := decide) only [flag_pulse, flag_put_reg, flag_put_bits]
    exact flag_put_zero _ _ (by decide) n
  · have hpulse (u : State) : (u.gclDone n).operPlan n = u.operPlan n := by
      simp (disch := decide) only [State.operPlan, State.gclDone, get_pulse, flag_pulse, get_put_reg, flag_put_reg]
    have hpend (u : State) : (u.put .TPG_GCL_STATUS_CHANGE_PEND n 0).operPlan n = u.operPlan n := by
      simp (disch := decide) only [State.operPlan, get_put_reg, flag_put_bits, get_put_bits]
    exact (hpulse _).trans (((besideLists_operPlan n).setGclState _ n st).trans ((hpend _).trans
      (((besideLists_operPlan n).setGcl _ n _).trans (operPlan_setOper s n hg))))
  · unfold State.listBegun State.gclDone State.gclState
    simp (disch := decide) only [get_pulse, get_put_reg]
    exact gclState_setGclState _ n hst

theorem gcl_pulse (s : State) (k : Nat) : (s.pulse k).gcl = s.gcl :=
  show (s.pulse k).besideBel.gcl = s.besideBel.gcl from congrArg State.gcl (besideBel_pulse s k)

theorem gmem_pulse (s : State) (k : Nat) : (s.pulse k).gmem = s.gmem :=
  show (s.pulse k).besideBel.gmem = s.besideBel.gmem from congrArg State.gmem (besideBel_pulse s k)

theorem gclOf_listBegun (s : State) (n : Nat) (g : GclPlan) (st : Nat) :
    (s.listBegun n g st).gclOf n = { count0 := s.cycles g.src, fbRef := s.time } := by
  have hgcl : (s.listBegun n g st).gcl = ((s.setOper n g).setGcl n { count0 := s.cycles g.src, fbRef := s.time }).gcl := by
    unfold State.listBegun State.gclDone State.setGclState
    simp only [gcl_pulse, put_gcl]
  exact (gclOf_of_gcl hgcl n).trans (gclOf_setGcl _ n _)

theorem gmem_listBegun (s : State) (n : Nat) (g : GclPlan) (st : Nat) : (s.listBegun n g st).gmem = s.gmem := gmem_pulse _ 1448

theorem gclListStart_idle (h : (s.gclOf n).pend = none ∨ s.gclState n = gclHalted) (bad : List Nat) : s.gclListStart n bad = s := by
  unfold State.gclListStart
  split
  · rfl
  · next hp => exact if_pos (h.resolve_left (by rw [hp]; exact Option.some_ne_none _))

theorem gclListStart_closed {p : GclPend} (hp : (s.gclOf n).pend = some p) (hst : s.gclState n ≠ gclHalted)
    (hc : s.startsClosed n p.plan = true) (bad : List Nat) : s.gclListStart n bad =
      ((s.listBegun n p.plan gclFallClosed).put .TPG_GCL_ENTRY_INDEX n p.plan.base).setGates n 0 := by
  simp only [State.gclListStart, hp, if_neg hst, hc, if_true]
  rfl

/-- STATE of a list that applies its first entry. -/
def State.begunState (s : State) (g : GclPlan) : Nat := if g.angle && !s.phGood g.src then gclFallTime else gclRunning

theorem gclListStart_open {p : GclPend} (hp : (s.gclOf n).pend = some p) (hst : s.gclState n ≠ gclHalted)
    (hc : ¬s.startsClosed n p.plan = true) (bad : List Nat) : s.gclListStart n bad =
      (s.listBegun n p.plan (s.begunState p.plan)).takeEntry n (segAt (s.planSegs p.plan) 0) bad := by
  rw [← planSegs_of_gmem (gmem_listBegun s n p.plan (s.begunState p.plan))]
  simp only [State.gclListStart, hp, if_neg hst, hc]
  rfl

theorem begunState_lt (s : State) (g : GclPlan) : s.begunState g < 8 := by unfold State.begunState; split <;> decide

/-- What the list that takes over at T shows: its plan, nothing pending, and the state and gates that its source and its first entry
give. -/
theorem gclListStart_shows {p : GclPend} (hp : (s.gclOf n).pend = some p) (hst : s.gclState n ≠ gclHalted) (hfits : p.plan.Fits)
    (bad : List Nat) :
    let u := s.gclListStart n bad
    let follows := p.plan.angle = false ∨ s.phGood p.plan.src = true
    let closed := ¬follows ∧ s.flag .TPG_GCL_CFG_FALLBACK n = true
    let x := segAt (s.planSegs p.plan) 0
    u.flag .TPG_GCL_STATUS_CHANGE_PEND n = false ∧ u.operPlan n = p.plan ∧ (u.gclOf n).pend = none ∧
      (closed → u.gclState n = gclFallClosed ∧ u.get .TPG_GCL_STATUS_GATES n = 0) ∧
      (¬closed → p.plan.base + x.idx ∈ bad → u.gclState n = gclHalted ∧ u.get .TPG_GCL_STATUS_GATES n = 0) ∧
      (¬closed → p.plan.base + x.idx ∉ bad → (follows → u.gclState n = gclRunning) ∧ (¬follows → u.gclState n = gclFallTime) ∧
        u.get .TPG_GCL_STATUS_GATES n = x.gates % 256) := by
  intro u follows closed x
  have hpend : BesideLists fun s => s.flag .TPG_GCL_STATUS_CHANGE_PEND n := besideLists_flag (by decide) n
  have hplan := besideLists_operPlan n
  by_cases hc : closed
  · have hu : u = _ := gclListStart_closed hp hst ((startsClosed_iff s n p.plan).2 hc) bad
    obtain ⟨hflag, hoper, hstate⟩ := listBegun_shows s n hfits (st := gclFallClosed) (by decide)
    rw [hu]
    refine ⟨?_, ?_, ?_, fun _ => ⟨?_, gates_setGates _ n 0⟩, fun h => absurd hc h, fun h => absurd hc h⟩
    · exact (hpend.setGates _ n 0).trans ((hpend.entryIndex _ n _).trans hflag)
    · exact (hplan.setGates _ n 0).trans ((hplan.entryIndex _ n _).trans hoper)
    · rw [gclOf_of_gcl (gcl_setGates _ n 0), gclOf_of_gcl (put_gcl ..), gclOf_listBegun]
    · exact (gclState_setGates _ n 0).trans ((get_put_reg _ (by decide) n n _).trans hstate)
  · have hu : u = _ := gclListStart_open hp hst (fun h => hc ((startsClosed_iff s n p.plan).1 h)) bad
    obtain ⟨hflag, hoper, hstate⟩ := listBegun_shows s n hfits (begunState_lt s p.plan)
    have hbase : (s.listBegun n p.plan (s.begunState p.plan)).get .TPG_GCL_OPER_LIST_BASE n = p.plan.base := congrArg GclPlan.base hoper
    rw [hu]
    refine ⟨(hpend.takeEntry _ n x bad).trans hflag, (hplan.takeEntry _ n x bad).trans hoper, ?_, fun h => absurd h hc, fun _ h => ?_,
      fun _ h => ?_⟩
    · obtain ⟨i, hi⟩ := gclOf_takeEntry (s.listBegun n p.plan (s.begunState p.plan)) n x bad
      rw [hi, gclOf_listBegun]
    · rw [takeEntry_halts (by rwa [hbase])]
      exact gclHalt_shows _ n _
    · rw [takeEntry_applies (by rwa [hbase])]
      obtain ⟨hkept, hgates⟩ := applyEntry_shows (s.listBegun n p.plan (s.begunState p.plan)) n x
      rw [hkept, hstate]
      refine ⟨fun hf => if_neg ?_, fun hf => if_pos ?_, hgates⟩
      · simpa [follows, or_iff_not_imp_left] using hf
      · simpa [follows] using hf

/-! Boundaries and the end of fallback (R285, R289, R293). -/

theorem gclBoundary_idle (h : s.gclState n ≠ gclRunning) (h' : s.gclState n ≠ gclFallTime) (e : Ecc) : s.gclBoundary n e = s :=
  if_neg (not_or.2 ⟨h, h'⟩)

theorem gclBoundary_bad (h : s.gclState n = gclRunning ∨ s.gclState n = gclFallTime) : s.gclBoundary n .uncorr =
    s.gclHalt n (s.get .TPG_GCL_OPER_LIST_BASE n + (segAt (s.planSegs (s.operPlan n)) (s.gclKept n)).idx) :=
  (if_pos h).trans (if_pos rfl)

theorem gclBoundary_good (h : s.gclState n = gclRunning ∨ s.gclState n = gclFallTime) (he : e ≠ .uncorr) :
    s.gclBoundary n e = s.gclFollow n [] := (if_pos h).trans (if_neg he)

theorem gclFallbackExit_not (h : ¬((s.gclState n = gclFallTime ∨ s.gclState n = gclFallClosed) ∧ s.phGood (s.operPlan n).src = true))
    (bad : List Nat) : s.gclFallbackExit n bad = s := if_neg h

/-- A list that ends its fallback counts its source's cycles from here, and runs unless its entry halts it. -/
theorem gclFallbackExit_shows (h : (s.gclState n = gclFallTime ∨ s.gclState n = gclFallClosed) ∧ s.phGood (s.operPlan n).src = true)
    (bad : List Nat) : ((s.gclFallbackExit n bad).gclOf n).count0 = s.cycles (s.operPlan n).src ∧
      ((s.gclFallbackExit n bad).gclOf n).high = 0 ∧ (s.gclFallbackExit n bad).gclState n =
        if (s.operPlan n).base + (segAt (s.planSegs (s.operPlan n)) 0).idx ∈ bad then gclHalted else gclRunning := by
  rw [show s.gclFallbackExit n bad = _ from if_pos h]
  generalize hu : (s.setGcl n { s.gclOf n with count0 := s.cycles (s.operPlan n).src, high := 0 }).setGclState n gclRunning = u
  have hgcl : u.gclOf n = { s.gclOf n with count0 := s.cycles (s.operPlan n).src, high := 0 } := by rw [← hu]; exact gclOf_setGcl s n _
  have hst : u.gclState n = gclRunning := by rw [← hu]; exact gclState_setGclState _ n (by decide)
  have hbase : u.get .TPG_GCL_OPER_LIST_BASE n = (s.operPlan n).base := by rw [← hu]; exact get_put_reg _ (by decide) n n _
  obtain ⟨i, hi⟩ := gclOf_takeEntry u n (segAt (s.planSegs (s.operPlan n)) 0) bad
  rw [hi, hgcl, gclState_takeEntry, hst, hbase]
  exact ⟨rfl, rfl, rfl⟩

/-! The entries' table commands (R282, R300). -/

theorem exec_tpgWriteEntry (hup : s.up 11 = true) (ht : s.taeOf 3 = some t) (hop : t.op = 3) (e : Ecc) :
    let i := t.addr % 65536
    let u := { s with gmem := tput (0, 0) s.gmem i (wbits (nth t.data 0 0) 7 0, (nth t.data 1 0).toNat) }
    exec (.tpgWriteEntry e) s = .next (s.outside (
      if gateBad t.data = true then s.taeDone 3 t (6, none, [])
      else if s.gateInUse i = true then s.taeDone 3 t (8, none, [])
      else if e = .uncorr then (s.memFault 0xA i).taeDone 3 t (7, none, [])
      else u.taeDone 3 t (0, none, []))) := by
  refine (run_up _ hup).trans (congrArg s.become ((taeRun_waiting ht hop _).trans ?_))
  dsimp only
  split
  · rfl
  · split
    · rfl
    · split <;> rfl

theorem exec_tpgReadEntry (hup : s.up 11 = true) (ht : s.taeOf 3 = some t) (hop : t.op = 4) (e : Ecc) :
    let i := t.addr % 65536
    exec (.tpgReadEntry e) s = .next (s.outside (
      if e = .uncorr then (s.memFault 0xA i).taeDone 3 t (7, none, [])
      else s.taeDone 3 t (0, none, [word (s.gateEntry i).1, word (s.gateEntry i).2, 0, 0]))) := by
  refine (run_up _ hup).trans (congrArg s.become ((taeRun_waiting ht hop _).trans ?_))
  dsimp only
  split <;> rfl

/-- Settles O40: a start, a change and a stop by the list's state and the plan, a boundary and the end of fallback by their entries. -/
theorem gateListsStartChangeAndStop : Obligations.GateListsStartChangeAndStop := by
  refine ⟨fun n e bad s hn hup => ⟨fun hs => ⟨fun h => ?_, fun h hg => ?_, fun h hg => ?_, ?_, fun h => ?_, fun h => ?_⟩, fun h => ?_,
    fun p hp hst hsrc hlen hbase hcycle hns hsec => ?_, fun h h' => ?_, fun h he => ?_, fun h he => ?_, fun h => ?_, fun h => ?_⟩,
    fun t e s hup ht => ⟨fun hop => ?_, fun hop => ?_⟩⟩
  · exact (exec_gclStart hn hs hup bad).trans (congrArg s.become (gclStart_running h bad))
  · exact (exec_gclStart hn hs hup bad).trans (congrArg s.become (gclStart_refused h hg bad))
  · exact ⟨(exec_gclStart hn hs hup bad).trans (congrArg s.become (gclStart_accepted h hg bad)), listWaits_shows s n _⟩
  · exact ⟨_, exec_gclStop hn hs hup, gclStop_shows s n⟩
  · exact (exec_gclChange hn hs hup).trans (congrArg s.become (gclChange_ignored h))
  · rw [exec_gclChange hn hs hup, gclChange_taken h]
    exact congrArg Host.Outcome.next ((outside_ite ..).trans (if_congr Iff.rfl rfl (outside_ite ..)))
  · exact (exec_gclListStart hn hup bad).trans (congrArg s.become (gclListStart_idle h bad))
  · refine ⟨_, exec_gclListStart hn hup bad, gclListStart_shows hp hst ⟨hsrc, hlen, hbase, hcycle, hns, hsec⟩ bad⟩
  · exact (exec_gclEntryBoundary hn hup e).trans (congrArg s.become (gclBoundary_idle h h' e))
  · subst he
    refine ⟨_, (exec_gclEntryBoundary hn hup _).trans (congrArg s.become (gclBoundary_bad h)), gclHalt_shows s n _⟩
  · exact (exec_gclEntryBoundary hn hup e).trans (congrArg s.become (gclBoundary_good h he))
  · exact ⟨_, exec_gclFallbackExit hn hup bad, gclFallbackExit_shows h bad⟩
  · exact (exec_gclFallbackExit hn hup bad).trans (congrArg s.become (gclFallbackExit_not h bad))
  · dsimp only
    rw [exec_tpgWriteEntry hup ht hop]
    split
    · rfl
    · split
      · rfl
      · split
        · rfl
        · refine ⟨_, rfl, rfl, tget_tput_same _ _ _ _, fun j hj => tget_tput_other _ _ _ _ _ hj⟩
  · dsimp only
    rw [exec_tpgReadEntry hup ht hop]
    split <;> rfl

end Sys2Proof.Machine
end

section
/-! The Spire: the decision, what it does with a frame to be forwarded, the ends, and the express table's commands (R301 to R310). -/
namespace Sys2Proof.Machine

variable {s : State} {t m : Nat} {bad : List Nat} {r : Rx} {x : SpiRx} {a : Tae} {e : Ecc}

/-! What the receptions do not see. -/

theorem rx_add (s : State) (f : Fld) (i n : Nat) : (s.add f i n).rx = s.rx :=
  add_keeps State.rx (fun _ => rfl) (fun _ _ _ => rfl) (fun _ _ _ _ => rfl) s i n

theorem rx_flowControl (s : State) (p : Nat) : (s.flowControl p).rx = s.rx := by
  have hpause : (s.fcPause p).rx = s.rx := ite_keeps State.rx rfl (ite_keeps State.rx rfl rfl)
  have hpfc (u : State) : (u.fcPfc p).rx = u.rx := ite_keeps State.rx rfl rfl
  exact ite_keeps State.rx ((hpfc _).trans hpause) rfl

theorem rxOf_of_rx {u : State} (h : u.rx = s.rx) (p : Nat) : u.rxOf p = s.rxOf p := by rw [State.rxOf, h, State.rxOf]

theorem rxOf_inc (s : State) (f : Fld) (i p : Nat) : (s.inc f i).rxOf p = s.rxOf p := rxOf_of_rx (rx_add s f i 1) p

theorem rxOf_flowControl (s : State) (q p : Nat) : (s.flowControl q).rxOf p = s.rxOf p := rxOf_of_rx (rx_flowControl s q) p

theorem rxOf_setTx (s : State) (q : Nat) (y : Option Tx) (p : Nat) : (s.setTx q y).rxOf p = s.rxOf p := rfl

theorem rxOf_notePeak (s : State) (p : Nat) : s.notePeak.rxOf p = s.rxOf p := ite_keeps (·.rxOf p) rfl rfl

/-! The decision (R301 to R306). -/

theorem exec_spireDecision (ht : t < 16) (hup : s.up 12 = true) (bad : List Nat) :
    exec (.spireDecision t bad) s = s.become (s.spiDecide (1024 + t) bad) := runOn_up _ ht hup

theorem spiDecide_none (h : s.rxOf m = none) (bad : List Nat) : s.spiDecide m bad = s := by
  unfold State.spiDecide
  rw [h]

theorem spiDecide_past (h : s.rxOf m = some r) (hr : r.badStart = true ∨ r.oversize = true ∨ (r.spi.isSome = true ∧ r.express = false) ∨
    r.bytes.length < 28) (bad : List Nat) : s.spiDecide m bad = s := by
  unfold State.spiDecide
  rw [h]
  refine if_pos ?_
  simpa [or_assoc] using hr

/-- The entries of the express table that the decision on a reception reads with an error. -/
def State.expBadRead (s : State) (m : Nat) (r : Rx) (bad : List Nat) : List Nat :=
  if s.expAsked m r.bytes = true then bad.eraseDups.filter (· < 256) else []

/-- A reception before its decision. -/
def Rx.undecided (r : Rx) : Rx := { r with express := false, spi := none }

/-- A reception that holds no cell of the Dome. -/
def Rx.outOfDome (r : Rx) (x : SpiRx) : Rx := { r with spi := some x, head := none, inflight := false }

/-- A reception that waits for the decision. -/
structure Rx.Awaits (r : Rx) : Prop where
  badStart : r.badStart = false
  oversize : r.oversize = false
  express : r.express = true
  length : 28 ≤ r.bytes.length

theorem spiDecide_awaits (h : s.rxOf m = some r) (hr : r.Awaits) (bad : List Nat) : s.spiDecide m bad =
    let l := s.expBadRead m r bad
    let v := s.expErrors l
    match v.spiTreat m r.bytes l with
    | none => if r.head.isNone && !r.noCell && !r.cut then v.takeHead m r.undecided else v.setRx m (some r.undecided)
    | some (x, fwd) =>
      let k := v.spiLocal m x r.undecided
      if !fwd then (if x.key.isNone then k.2.inc .SPI_HSR_OWN_COUNT (spiIndex x) else k.2)
      else match k.2.rxOf m with
        | some r2 => k.2.spiForward m k.1 r2
        | none => k.2 := by
  obtain ⟨hbad, hover, hexp, hlen⟩ := hr
  unfold State.spiDecide
  rw [h]
  refine (if_neg ?_).trans ?_
  · simp [hbad, hover, hexp, hlen]
  · simp only [hexp, Bool.true_and]
    rfl

theorem spiDecide_other (h : s.rxOf m = some r) (hr : r.Awaits)
    (hx : (s.expErrors (s.expBadRead m r bad)).spiTreat m r.bytes (s.expBadRead m r bad) = none) :
    let v := s.expErrors (s.expBadRead m r bad)
    s.spiDecide m bad = if r.head = none ∧ r.noCell = false ∧ r.cut = false then v.takeHead m r.undecided
      else v.setRx m (some r.undecided) := by
  rw [spiDecide_awaits h hr]
  simp [hx, and_assoc]

/-- A frame that is not for this station leaves the frame path. -/
theorem spiLocal_passes (h : x.own = false) (s : State) (m : Nat) (r : Rx) :
    s.spiLocal m x r = (x, (s.setRx m (some (r.outOfDome x))).flowControl m) := by
  simp only [State.spiLocal, h, Bool.false_and, Bool.false_eq_true, if_false]
  rfl

theorem spiDecide_forwards (h : s.rxOf m = some r) (hr : r.Awaits)
    (hx : (s.expErrors (s.expBadRead m r bad)).spiTreat m r.bytes (s.expBadRead m r bad) = some (x, true)) (hown : x.own = false) :
    s.spiDecide m bad = (((s.expErrors (s.expBadRead m r bad)).setRx m (some (r.undecided.outOfDome x))).flowControl m).spiForward m x
      (r.undecided.outOfDome x) := by
  rw [spiDecide_awaits h hr]
  simp [hx, spiLocal_passes hown, rxOf_flowControl, rxOf_setRx]

theorem spiDecide_own (h : s.rxOf m = some r) (hr : r.Awaits)
    (hx : (s.expErrors (s.expBadRead m r bad)).spiTreat m r.bytes (s.expBadRead m r bad) = some (x, false)) (hown : x.own = false)
    (hkey : x.key = none) : s.spiDecide m bad =
      (((s.expErrors (s.expBadRead m r bad)).setRx m (some (r.undecided.outOfDome x))).flowControl m).inc .SPI_HSR_OWN_COUNT
        (spiIndex x) := by
  rw [spiDecide_awaits h hr]
  simp [hx, spiLocal_passes hown, hkey]

/-! A frame to be forwarded (R305 to R308). -/

theorem spiForward_dup (h : s.isDup x true = true) (m : Nat) (r : Rx) :
    s.spiForward m x r = (s.setRx m (some { r with spi := some x })).inc .SPI_HSR_DUP_COUNT (spiIndex x) := if_pos h

theorem spiForward_busy (h : s.isDup x true = false) (hb : s.spiBusy x = true) (m : Nat) (r : Rx) :
    s.spiForward m x r = s.spiFall m x r := (if_neg (by simp [h])).trans (if_pos hb)

/-- What an egress trunk sends of a frame that is cut through. -/
def SpiRx.sends (x : SpiRx) (r : Rx) (e : Nat) : Tx :=
  { copy := none, bytes := r.bytes, good := true, cls := x.cls, octets := 0, owner := e, cut := true }

theorem spiForward_free (h : s.isDup x true = false) (hb : s.spiBusy x = false) (m : Nat) (r : Rx) : s.spiForward m x r =
    ((s.startGap (s.spiEgress x) 0).setRx m (some { r with spi := some { x with cut := true } })).setTx (s.spiEgress x)
      (some (x.sends r (s.spiEgress x))) := (if_neg (by simp [h])).trans (if_neg (by simp [hb]))

theorem spiFall_held (h : s.domeHeld = true) (m : Nat) (x : SpiRx) (r : Rx) :
    s.spiFall m x r = s.setRx m (some { r with spi := some x, cut := true }) := if_pos h

theorem spiFall_floor (h : s.domeHeld = false) (hf : s.aboveFloor = false) (m : Nat) (x : SpiRx) (r : Rx) :
    s.spiFall m x r = (s.setRx m (some { r with spi := some x })).inc .SPI_FB_NOCELL_COUNT (spiIndex x) :=
  (if_neg (by simp [h])).trans (if_pos (by simp [hf]))

/-- The reception of a frame that falls back, with the head cell that it has taken. -/
def State.fallen (s : State) (x : SpiRx) (r : Rx) : Rx :=
  { r with spi := some { x with fallback := true }, fbHead := some s.pickHead, cells := max r.cells (cellsFor (min r.bytes.length 256)) }

theorem spiFall_takes (h : s.domeHeld = false) (hf : s.aboveFloor = true) (m : Nat) (x : SpiRx) (r : Rx) : s.spiFall m x r =
    ((s.used.headWrite s.pickHead).setRx m (some (s.fallen x r))).notePeak.flowControl m :=
  (if_neg (by simp [h])).trans (if_neg (by simp [hf]))

theorem rxOf_spiFall (h : s.domeHeld = false) (hf : s.aboveFloor = true) (m : Nat) (x : SpiRx) (r : Rx) :
    (s.spiFall m x r).rxOf m = some (s.fallen x r) := by
  rw [spiFall_takes h hf, rxOf_flowControl, rxOf_notePeak, rxOf_setRx]

/-! The express table's commands (R302, R310). -/

theorem exec_spiWriteEntry (hup : s.up 12 = true) (ht : s.taeOf 4 = some a) (hop : a.op = 3) (e : Ecc) :
    let d := slice (a.data ++ [0, 0, 0, 0]) 0 4
    exec (.spiWriteEntry e) s = .next (s.outside (
      if expBad d = true then s.taeDone 4 a (6, none, [])
      else if e = .uncorr then (s.memFault 0xC a.addr).taeDone 4 a (7, none, [])
      else { s with exp := tset s.exp (a.addr % 256) (if d.all (· == 0) then none else some d) }.taeDone 4 a (0, none, []))) := by
  refine (run_up _ hup).trans (congrArg s.become ((taeRun_waiting ht hop _).trans ?_))
  dsimp only
  split
  · rfl
  · split <;> rfl

theorem exec_spiReadEntry (hup : s.up 12 = true) (ht : s.taeOf 4 = some a) (hop : a.op = 4) (e : Ecc) :
    exec (.spiReadEntry e) s = .next (s.outside (
      if e = .uncorr then (s.memFault 0xC a.addr).taeDone 4 a (7, none, [])
      else s.taeDone 4 a (0, none, (tfind s.exp (a.addr % 256)).getD [0, 0, 0, 0]))) := by
  refine (run_up _ hup).trans (congrArg s.become ((taeRun_waiting ht hop _).trans ?_))
  split <;> rfl

/-- Settles O41: the decision by what the Spire makes of the frame, the forwarding by what it meets, the ends by whose frame ends. -/
theorem spireDecidesOnceAndFallsBack : Obligations.SpireDecidesOnceAndFallsBack := by
  refine ⟨fun t bad b fcs err s ht => ⟨fun hup => ⟨fun h => ?_, fun r h hr => ?_, fun r h hbad hover hexp hlen => ?_⟩,
    fun hup => ⟨fun h => ?_, fun h => ?_, fun h => ?_, fun h => ?_⟩⟩, fun m x r s => ⟨fun h => ?_, fun h hb => ?_, fun h hb hd => ?_,
    fun h hb hd => ⟨fun hf => ?_, fun hf => ?_⟩⟩, fun a e s hup ha => ⟨fun hop => ?_, fun hop => ?_⟩⟩
  · exact (exec_spireDecision ht hup bad).trans (congrArg s.become (spiDecide_none h bad))
  · exact (exec_spireDecision ht hup bad).trans (congrArg s.become (spiDecide_past h hr bad))
  · have hr : r.Awaits := ⟨hbad, hover, hexp, hlen⟩
    have hexec := exec_spireDecision ht hup bad
    exact ⟨fun hx => hexec.trans (congrArg s.become (spiDecide_other h hr hx)),
      fun y hx hown => hexec.trans (congrArg s.become (spiDecide_forwards h hr hx hown)),
      fun y hx hown hkey => hexec.trans (congrArg s.become (spiDecide_own h hr hx hown hkey))⟩
  · rw [getD_map_eq_any] at h
    rw [exec_spireCutEnd ht hup, h]; rfl
  · rw [getD_map_eq_any] at h
    rw [exec_spireCutEnd ht hup, h]; rfl
  · rw [getD_map_eq_any] at h
    rw [exec_spireFallbackEnd ht hup, h]; rfl
  · rw [getD_map_eq_any] at h
    rw [exec_spireFallbackEnd ht hup, h]; rfl
  · rw [spiForward_dup h]
    exact ⟨get_add _ .SPI_HSR_DUP_COUNT (by decide) (spiIndex x) 1, tx_add _ _ _ _⟩
  · rw [spiForward_free h hb]
    exact ⟨⟨_, (txOf_setTx ..).trans (if_pos rfl), rfl, rfl, rfl⟩, (rxOf_setTx ..).trans (rxOf_setRx ..)⟩
  · rw [spiForward_busy h hb, spiFall_held hd]
    exact ⟨rxOf_setRx s m _, rfl⟩
  · rw [spiForward_busy h hb]
    exact ⟨_, rxOf_spiFall hd hf m x r, rfl, rfl⟩
  · rw [spiForward_busy h hb, spiFall_floor hd hf]
    exact ⟨get_add _ .SPI_FB_NOCELL_COUNT (by decide) (spiIndex x) 1, (rxOf_inc _ _ _ m).trans (rxOf_setRx s m _)⟩
  · dsimp only
    rw [exec_spiWriteEntry hup ha hop]
    split
    · rfl
    · split
      · rfl
      · refine ⟨_, rfl, rfl, ?_, fun j hj => tfind_tset_other _ _ _ _ hj⟩
        rw [tfind_tset_same]
        split <;> rfl
  · dsimp only
    rw [exec_spiReadEntry hup ha hop]
    split <;> rfl

end Sys2Proof.Machine
end

section
/-! The DMA channels: their states, and what a descriptor begins, waits for and ends with (R312 to R345). -/
namespace Sys2Proof.Machine

variable {s : State} {c n : Nat} {e : Ecc} {d : List Word}

/-! What an update of one channel leaves (R312). -/

theorem chan_setChan (s : State) (c k : Nat) (x : Chan) : (s.setChan c x).chan k = if k = c then x else s.chan k := tget_tput _ _ _ _ _

theorem chan_setChan_same (s : State) (c : Nat) (x : Chan) : (s.setChan c x).chan c = x := tget_tput_same _ _ _ _

theorem chan_setChan_other (s : State) {c k : Nat} (h : k ≠ c) (x : Chan) : (s.setChan c x).chan k = s.chan k := tget_tput_other _ _ _ _ _ h

theorem chan_of_dma {u : State} (h : u.dma = s.dma) (k : Nat) : u.chan k = s.chan k := by rw [State.chan, h, State.chan]

theorem dma_pulse (s : State) (k : Nat) : (s.pulse k).dma = s.dma :=
  show (s.pulse k).besideBel.dma = s.besideBel.dma from congrArg State.dma (besideBel_pulse s k)

theorem dma_inc (s : State) (f : Fld) (i : Nat) : (s.inc f i).dma = s.dma :=
  add_keeps State.dma (fun _ => rfl) (fun _ _ _ => rfl) (fun _ _ _ _ => rfl) s i 1

theorem dma_unclaim (s : State) (c : Nat) : (s.unclaim c).dma = s.dma := by
  unfold State.unclaim
  split <;> rfl

/-- STATE of a channel is its own. -/
theorem chState_put_other (s : State) (f : Fld) {c k : Nat} (h : k ≠ c) (v : Nat) : (s.put f c v).chState k = s.chState k :=
  get_put_other s f _ c k v (.inl fun hc => h hc.2)

theorem chState_put_reg (s : State) {f : Fld} (h : Reg.DMA_CH_STATUS ≠ f.reg) (c k v : Nat) : (s.put f c v).chState k = s.chState k :=
  get_put_reg s h c k v

/-! A channel enters a state (R319, R324). -/

theorem chEnter_shows (s : State) (c : Nat) {st reason : Nat} (hst : st < 8) (hr : reason < 8) :
    (s.chEnter c st reason).chState c = st ∧ (s.chEnter c st reason).get .DMA_CH_STATUS_REASON c = reason := by
  constructor
  · refine (get_put_bits _ (f := .DMA_CH_STATUS_REASON) (by decide) c c _).trans ?_
    exact (get_put_same s .DMA_CH_STATUS_STATE (by decide) c st).trans (Nat.mod_eq_of_lt hst)
  · exact (get_put_same _ .DMA_CH_STATUS_REASON (by decide) c reason).trans (Nat.mod_eq_of_lt hr)

theorem get_chEnter (s : State) (c st reason : Nat) {f : Fld} (h : f.reg ≠ .DMA_CH_STATUS) (k : Nat) :
    (s.chEnter c st reason).get f k = s.get f k := (get_put_reg _ h c k _).trans (get_put_reg s h c k _)

theorem chan_put (s : State) (f : Fld) (i v k : Nat) : (s.put f i v).chan k = s.chan k := rfl

theorem chan_chEnter (s : State) (c st reason k : Nat) : (s.chEnter c st reason).chan k = s.chan k := rfl

theorem chState_chEnter_other (s : State) {c k : Nat} (h : k ≠ c) (st reason : Nat) : (s.chEnter c st reason).chState k = s.chState k :=
  (chState_put_other _ _ h _).trans (chState_put_other s _ h _)

/-- A channel that lets go of its ring keeps everything else that it holds, and every other channel all that it holds. -/
theorem chan_ringDrop (s : State) (c : Nat) :
    (s.ringDrop c).chan c = { s.chan c with want := false, arrived := none, ahead := [], more := [] } := chan_setChan_same _ c _

theorem chan_ringDrop_other (s : State) {c k : Nat} (h : k ≠ c) : (s.ringDrop c).chan k = s.chan k := chan_setChan_other _ h _

/-! The stop at a boundary (R324). -/

/-- A channel that lets go of its unit, its ring and its descriptor. -/
def State.stopHeld (s : State) (c : Nat) : State :=
  ((s.unclaim c).ringDrop c).setChan c { ((s.unclaim c).ringDrop c).chan c with desc := none, waits := 0, unit := none }

theorem chStop_eq (s : State) (c reason : Nat) :
    s.chStop c reason = (((s.stopHeld c).chEnter c chStopped reason).stopStatus c).chanSource c := rfl

theorem chan_stopHeld (s : State) (c : Nat) : (s.stopHeld c).chan c =
    { s.chan c with want := false, arrived := none, ahead := [], more := [], desc := none, waits := 0, unit := none } := by
  rw [State.stopHeld, chan_setChan_same, chan_ringDrop, chan_of_dma (dma_unclaim s c)]

theorem chan_stopHeld_other (s : State) {c k : Nat} (h : k ≠ c) : (s.stopHeld c).chan k = s.chan k := by
  rw [State.stopHeld, chan_setChan_other _ h, chan_ringDrop_other _ h, chan_of_dma (dma_unclaim s c)]

theorem rd_stopHeld (s : State) (c : Nat) {r : Reg} (h : r ≠ .CHK_CFG) (k : Nat) : (s.stopHeld c).rd r k = s.rd r k := rd_unclaim s c h k

theorem get_stopStatus (s : State) (c : Nat) {f : Fld} (h : f.reg ≠ .DMA_CH_STOP_STATUS) (k : Nat) : (s.stopStatus c).get f k = s.get f k :=
  (get_put_reg _ h c k _).trans ((get_put_reg _ h c k _).trans (get_put_reg s h c k _))

theorem chan_stopStatus (s : State) (c k : Nat) : (s.stopStatus c).chan k = s.chan k := rfl

theorem chan_chanSource (s : State) (c k : Nat) : (s.chanSource c).chan k = s.chan k := chan_of_dma (dma_pulse s _) k

theorem stopStatus_shows (s : State) (c : Nat) : (s.stopStatus c).flag .DMA_CH_STOP_STATUS_VALID c = true ∧
    (s.stopStatus c).flag .DMA_CH_STOP_STATUS_NONE c = (s.chan c).last.isNone ∧
    (s.stopStatus c).get .DMA_CH_STOP_STATUS_LAST_IDX c = (s.chan c).last.getD 0 % 2 ^ 16 := by
  refine ⟨?_, ?_, get_put_same _ .DMA_CH_STOP_STATUS_LAST_IDX (by decide) c _⟩
  · exact (flag_put_bits _ (f := .DMA_CH_STOP_STATUS_LAST_IDX) (by decide) c c _).trans
      ((flag_put_bits _ (f := .DMA_CH_STOP_STATUS_NONE) (by decide) c c _).trans (flag_put_one s _ (by decide) c))
  · exact (flag_put_bits _ (f := .DMA_CH_STOP_STATUS_LAST_IDX) (by decide) c c _).trans
      (flag_putFlag _ .DMA_CH_STOP_STATUS_NONE (by decide) c _)

/-- What a stop shows, and that it is the channel's own. -/
theorem chStop_shows (s : State) (c : Nat) {reason : Nat} (hr : reason < 8) :
    (s.chStop c reason).chState c = chStopped ∧ (s.chStop c reason).get .DMA_CH_STATUS_REASON c = reason ∧
    (s.chStop c reason).flag .DMA_CH_STOP_STATUS_VALID c = true ∧
    (s.chStop c reason).flag .DMA_CH_STOP_STATUS_NONE c = (s.chan c).last.isNone ∧
    (s.chStop c reason).get .DMA_CH_STOP_STATUS_LAST_IDX c = (s.chan c).last.getD 0 % 2 ^ 16 ∧
    ((s.chStop c reason).chan c).desc = none ∧
    ∀ k, k ≠ c → (s.chStop c reason).chState k = s.chState k ∧ (s.chStop c reason).chan k = s.chan k := by
  obtain ⟨hstate, hreason⟩ := chEnter_shows (s.stopHeld c) c (st := chStopped) (by decide) hr
  obtain ⟨hvalid, hnone, hlast⟩ := stopStatus_shows ((s.stopHeld c).chEnter c chStopped reason) c
  have hchan (k : Nat) : (s.chStop c reason).chan k = (s.stopHeld c).chan k := by
    rw [chStop_eq, chan_chanSource, chan_stopStatus, chan_chEnter]
  have hown : (((s.stopHeld c).chEnter c chStopped reason).chan c).last = (s.chan c).last := by
    rw [chan_chEnter, chan_stopHeld]
  rw [hown] at hnone hlast
  rw [chStop_eq] at hchan ⊢
  refine ⟨?_, ?_, (flag_pulse ..).trans hvalid, (flag_pulse ..).trans hnone, (get_pulse ..).trans hlast, ?_, fun k hk => ⟨?_, ?_⟩⟩
  · exact (get_pulse ..).trans ((get_stopStatus _ c (by decide) c).trans hstate)
  · exact (get_pulse ..).trans ((get_stopStatus _ c (by decide) c).trans hreason)
  · rw [hchan, chan_stopHeld]
  · exact (get_pulse ..).trans ((get_stopStatus _ c (by decide) k).trans ((chState_chEnter_other _ hk _ _).trans
      (congrArg Fld.DMA_CH_STATUS_STATE.of (rd_stopHeld s c (by decide) k))))
  · rw [hchan, chan_stopHeld_other s hk]

/-! The commands of the channel's states (R319, R324). -/

theorem exec_dmaChannelEnable (hc : c < 64) (hs : s.soft = true) (hup : s.up 13 = true) :
    exec (.dmaChannelEnable c) s = s.become (s.chEnable c) := runSoftOn_up _ hc hs hup

theorem exec_dmaChannelDisable (hc : c < 64) (hs : s.soft = true) (hup : s.up 13 = true) :
    exec (.dmaChannelDisable c) s = s.become (s.chDisable c) := runSoftOn_up _ hc hs hup

theorem exec_dmaDoorbell (hc : c < 64) (hs : s.soft = true) (hup : s.up 13 = true) :
    exec (.dmaDoorbell c) s = s.become (s.doorbell c) := runSoftOn_up _ hc hs hup

theorem exec_dmaStop (hc : c < 64) (hs : s.soft = true) (hup : s.up 13 = true) :
    exec (.dmaStop c) s = s.become (s.dmaStop c) := runSoftOn_up _ hc hs hup

theorem exec_dmaStopped (hc : c < 64) (hup : s.up 13 = true) : exec (.dmaStopped c) s = s.become (s.dmaStopped c) := runOn_up _ hc hup

theorem chEnable_off (hcom : s.committed = true) (hst : s.chState c = chOff) : s.chEnable c =
    ((s.put .DMA_CH_CFG_EN c 1).put .DMA_CH_STATUS_STATE c chIdle).putFlag .DMA_CH_STATUS_PACED c (s.get .DMA_CH_PACE_PACE_MODE c == 2) :=
  if_neg (by simp [hcom, hst])

theorem chEnable_discarded (h : s.committed = false ∨ s.chState c ≠ chOff) : s.chEnable c = s := if_pos (by simpa using h)

theorem doorbell_runs (h : s.chState c = chIdle ∨ s.chState c = chStopped) : s.doorbell c =
    (((s.setChan c { s.chan c with count := 0, last := none, want := true }).put .DMA_CH_STATUS_STATE c chRun).put
      .DMA_CH_STATUS_DB_PEND c 0).dmaPump := if_pos h

theorem doorbell_kept (h : s.chState c = chRun) :
    s.doorbell c = (s.setChan c { s.chan c with count := 0 }).put .DMA_CH_STATUS_DB_PEND c 1 := by
  simp only [State.doorbell, h]; rfl

theorem doorbell_stopping (h : s.chState c = chStopping) : s.doorbell c = s.setChan c { s.chan c with count := 0 } := by
  simp only [State.doorbell, h]; rfl

theorem doorbell_ignored (h : s.chState c = chOff ∨ s.chState c = chHalted) : s.doorbell c = s := by
  rcases h with h | h <;> simp only [State.doorbell, h] <;> rfl

/-- Settles O43: each command by the state that it meets, the stop by what it shows. -/
theorem channelFollowsItsStates : Obligations.ChannelFollowsItsStates := by
  refine fun c s hc hup => ⟨fun hs => ⟨fun hcom hst => ?_, fun h => ?_, ?_, fun h => ?_, fun h => ?_, fun h => ?_, fun h => ?_, fun h => ?_,
    fun h => ?_⟩, fun h => ?_, fun hst hb => ?_⟩
  · exact (exec_dmaChannelEnable hc hs hup).trans (congrArg s.become (chEnable_off hcom hst))
  · exact (exec_dmaChannelEnable hc hs hup).trans (congrArg s.become (chEnable_discarded h))
  · exact (exec_dmaChannelDisable hc hs hup).trans (become_ite ..)
  · exact (exec_dmaDoorbell hc hs hup).trans (congrArg s.become (doorbell_runs h))
  · exact (exec_dmaDoorbell hc hs hup).trans (congrArg s.become (doorbell_kept h))
  · exact (exec_dmaDoorbell hc hs hup).trans (congrArg s.become (doorbell_stopping h))
  · exact (exec_dmaDoorbell hc hs hup).trans (congrArg s.become (doorbell_ignored h))
  · exact (exec_dmaStop hc hs hup).trans (congrArg s.become (if_pos h))
  · exact (exec_dmaStop hc hs hup).trans (congrArg s.become (if_neg (not_not.2 h)))
  · refine (exec_dmaStopped hc hup).trans (congrArg s.become (if_neg fun hb => h ?_))
    simpa using hb
  · refine ⟨_, (exec_dmaStopped hc hup).trans (congrArg s.become (if_pos ?_)), chStop_shows s c (by decide)⟩
    simp [hst, hb]

end Sys2Proof.Machine
end

section
/-! The DMA descriptors: what arrives begins or ends the chain, what completes retires, and what waits goes on (R314 to R345). -/
namespace Sys2Proof.Machine

variable {s : State} {c n : Nat} {e : Ecc} {d : List Word}

/-! The commands. -/

theorem exec_dmaDescriptorFetch (hc : c < 64) (hup : s.up 13 = true) (n : Nat) :
    exec (.dmaDescriptorFetch c n) s = s.become (s.descFetch c n) := runOn_up _ hc hup

theorem exec_dmaDescriptorComplete (hc : c < 64) (hup : s.up 13 = true) :
    exec (.dmaDescriptorComplete c) s = s.become (s.descComplete c) := runOn_up _ hc hup

theorem exec_dmaPaceHold (hc : c < 64) (hup : s.up 13 = true) : exec (.dmaPaceHold c) s = s.become (s.paceHold c) := runOn_up _ hc hup

theorem exec_dmaPaceRelease (hc : c < 64) (hup : s.up 13 = true) : exec (.dmaPaceRelease c) s = s.become (s.paceRelease c) :=
  runOn_up _ hc hup

theorem exec_dmaPaceTimeout (hc : c < 64) (hup : s.up 13 = true) : exec (.dmaPaceTimeout c) s = s.become (s.paceTimeout c) :=
  runOn_up _ hc hup

theorem exec_dmaStreamFlush (hc : c < 64) (hup : s.up 13 = true) : exec (.dmaStreamFlush c) s = s.become (s.streamFlush c) :=
  runOn_up _ hc hup

theorem exec_injectFloorClear (hc : c < 64) (hup : s.up 13 = true) : exec (.injectFloorClear c) s = s.become (s.floorClear c) :=
  runOn_up _ hc hup

theorem exec_chkUnitClaim (hc : c < 64) (hup : s.up 14 = true) : exec (.chkUnitClaim c) s = s.become (s.unitClaim c) := runOn_up _ hc hup

theorem exec_hostRxDeliver (hc : c < 64) (hup : s.up 13 = true) (e : Ecc) :
    exec (.hostRxDeliver c e) s = s.become (s.hostDeliver c e) := runOn_up _ hc hup

/-! A descriptor arrives (R317, R319, R320). -/

theorem chRuns_iff (s : State) (c : Nat) : s.chRuns c = true ↔ s.chState c = chRun ∨ s.chState c = chStopping := by simp [State.chRuns]

theorem chRuns_run (h : s.chState c = chRun) : s.chRuns c = true := (chRuns_iff s c).2 (.inl h)

theorem chRuns_stopping (h : s.chState c = chStopping) : s.chRuns c = true := (chRuns_iff s c).2 (.inr h)

theorem descFetch_idle (h : (s.chan c).arrived = none ∨ s.chRuns c = false) (n : Nat) : s.descFetch c n = s := by
  unfold State.descFetch
  dsimp only
  split
  · rfl
  · next harr =>
    have hst : ¬(s.chState c = chRun ∨ s.chState c = chStopping) := by
      rw [← chRuns_iff, h.resolve_left (by rw [harr]; exact Option.some_ne_none _)]; exact Bool.false_ne_true
    rw [not_or] at hst
    exact (if_neg hst.2).trans (if_pos hst.1)

theorem descFetch_stopping (h : (s.chan c).arrived = some d) (hst : s.chState c = chStopping) (n : Nat) :
    s.descFetch c n = s.setChan c { s.chan c with arrived := none } := by
  simp only [State.descFetch, h]
  exact if_pos hst

/-- A channel that runs takes what has arrived by its OWN. -/
theorem descFetch_runs (h : (s.chan c).arrived = some d) (hst : s.chState c = chRun) (n : Nat) : s.descFetch c n =
    if wbit (nth d 0 0) 31 = false then
      if s.flag .DMA_CH_STATUS_DB_PEND c = true then
        ((s.setChan c { s.chan c with arrived := none, want := true }).put .DMA_CH_STATUS_DB_PEND c 0).dmaPump
      else (s.ringDrop c).chEnter c chIdle 1
    else
      let y := s.setChan c { s.chan c with arrived := none, desc := some d }
      ((if descBad (s.chMode c) d = true then y.chanEnd c 1 else y.descBegin c d).readAhead c n).dmaPump := by
  simp only [State.descFetch, h, hst, Bool.not_eq_true']
  rfl

/-- The end of a chain: the channel is IDLE, and lets go of what it has read. -/
theorem chainEnd_shows (s : State) (c : Nat) : ((s.ringDrop c).chEnter c chIdle 1).chState c = chIdle ∧
    ((s.ringDrop c).chEnter c chIdle 1).get .DMA_CH_STATUS_REASON c = 1 ∧ (((s.ringDrop c).chEnter c chIdle 1).chan c).arrived = none ∧
    (((s.ringDrop c).chEnter c chIdle 1).chan c).ahead = [] := by
  obtain ⟨hst, hreason⟩ := chEnter_shows (s.ringDrop c) c (st := chIdle) (reason := 1) (by decide) (by decide)
  rw [chan_chEnter, chan_ringDrop]
  exact ⟨hst, hreason, rfl, rfl⟩

/-! A descriptor retires (R319, R321, R339). -/

/-- What a channel keeps when its descriptor has retired. -/
def Chan.retired (x : Chan) (i : Nat) : Chan :=
  { count := x.count + 1, last := some i, serial := x.serial + 1, out := x.out, ahead := x.ahead, more := x.more }

/-- A retirement before its event: the unit is free, IDX has moved on, and what was done is counted. -/
def State.retireCounted (s : State) (c : Nat) : State :=
  let i := s.get .DMA_CH_IDX_IDX c
  let s1 := (s.unclaim c).setChan c ((s.chan c).retired i)
  let s2 := (s1.put .DMA_CH_IDX_IDX c (if i = s.get .DMA_CH_RING_HI_SIZE_M1 c then 0 else i + 1)).inc .DMA_CH_DESC_COUNT c
  (s2.add64 .DMA_CH_BYTES_LO .DMA_CH_BYTES_HI c (s.chan c).bytes).put .DMA_CH_POS_BYTES_DONE c 0

theorem retire_eq (s : State) (c : Nat) (d : List Word) :
    s.retire c d = if wbit (nth d 0 0) 28 then (s.retireCounted c).chanSource c else s.retireCounted c := rfl

theorem dma_add64 (s : State) (lo hi : Reg) (i n : Nat) : (s.add64 lo hi i n).dma = s.dma := by
  rw [State.add64, wr_dma, wr_dma]

theorem chan_retire (s : State) (c : Nat) (d : List Word) : (s.retire c d).chan c = (s.chan c).retired (s.get .DMA_CH_IDX_IDX c) := by
  have hcounted : (s.retireCounted c).chan c = (s.chan c).retired (s.get .DMA_CH_IDX_IDX c) := by
    unfold State.retireCounted
    dsimp only
    rw [chan_put, chan_of_dma (dma_add64 ..), chan_of_dma (dma_inc ..), chan_put, chan_setChan_same]
  rw [retire_eq]
  exact ite_keeps (·.chan c) ((chan_chanSource ..).trans hcounted) hcounted

theorem rd_retire_of (s : State) (c : Nat) (d : List Word) {r : Reg} {i : Nat} {w : Word} (h : (s.retireCounted c).rd r i = w) :
    (s.retire c d).rd r i = w := by
  rw [retire_eq]
  exact ite_keeps (·.rd r i) ((rd_pulse ..).trans h) h

/-- The registers that a retirement moves. -/
def retireRegs : List Reg := [.CHK_CFG, .DMA_CH_IDX, .DMA_CH_DESC, .DMA_CH_BYTES_LO, .DMA_CH_BYTES_HI, .DMA_CH_POS]

theorem rd_retire_other (s : State) (c : Nat) (d : List Word) {r : Reg} (h : r ∉ retireRegs) (i : Nat) : (s.retire c d).rd r i = s.rd r i := by
  simp only [retireRegs, List.mem_cons, List.not_mem_nil, or_false, not_or] at h
  obtain ⟨hchk, hidx, hdesc, hlo, hhi, hpos⟩ := h
  refine rd_retire_of s c d ?_
  unfold State.retireCounted
  dsimp only
  rw [rd_put_reg _ hpos, rd_add64 _ hlo hhi, rd_inc_reg _ (by rfl) hdesc, rd_put_reg _ hidx, rd_setChan, rd_unclaim s c hchk]

/-- IDX moves on round the ring. -/
theorem idx_retire (s : State) (c : Nat) (d : List Word) : (s.retire c d).get .DMA_CH_IDX_IDX c =
    if s.get .DMA_CH_IDX_IDX c = s.get .DMA_CH_RING_HI_SIZE_M1 c then 0 else (s.get .DMA_CH_IDX_IDX c + 1) % 2 ^ 16 := by
  have hcounted : (s.retireCounted c).get .DMA_CH_IDX_IDX c =
      (if s.get .DMA_CH_IDX_IDX c = s.get .DMA_CH_RING_HI_SIZE_M1 c then 0 else s.get .DMA_CH_IDX_IDX c + 1) % 2 ^ 16 := by
    unfold State.retireCounted State.get
    dsimp only
    rw [rd_put_reg _ (by decide), rd_add64 _ (by decide) (by decide), rd_inc_reg _ (by rfl) (by decide)]
    exact get_put_same _ .DMA_CH_IDX_IDX (by decide) c _
  refine (congrArg Fld.DMA_CH_IDX_IDX.of (rd_retire_of s c d rfl)).trans (hcounted.trans ?_)
  split <;> rfl

theorem descComplete_none (h : (s.chan c).desc = none ∨ (s.chan c).posted = false ∨ (s.chan c).post ≠ [] ∨
    ((s.chan c).abort = false ∧ s.chRuns c = false)) : s.descComplete c = s := by
  unfold State.descComplete
  dsimp only
  split
  · rfl
  · next hd =>
    rcases h with h | h | h | ⟨ha, hr⟩
    · rw [hd] at h; exact absurd h (Option.some_ne_none _)
    · exact if_pos (by simp [h])
    · exact if_pos (by simp [h])
    · split
      · rfl
      · rw [ha, hr]; rfl

theorem descComplete_aborted (hd : (s.chan c).desc = some d) (hposted : (s.chan c).posted = true) (hpost : (s.chan c).post = [])
    (ha : (s.chan c).abort = true) : s.descComplete c = (s.retire c d).clearDone := by
  simp [State.descComplete, hd, hposted, hpost, ha]

/-- A descriptor whose status is written, in a channel that processes its ring. -/
theorem descComplete_retires (hd : (s.chan c).desc = some d) (hposted : (s.chan c).posted = true) (hpost : (s.chan c).post = [])
    (ha : (s.chan c).abort = false) (hr : s.chRuns c = true) : s.descComplete c =
      let s1 := s.retire c d
      if (s.chan c).code.getD 0 = 1 then s1.chStop c 4
      else if s.chState c = chStopping then s1
      else if s.get .DMA_CH_CFG_LIMIT c ≤ (s.chan c).count + 1 then
        (((s1.ringDrop c).chEnter c chIdle 2).inc .DMA_CH_LIMITS_COUNT c).chanSource c
      else (s1.reach c).dmaPump := by
  have hstate : (s.retire c d).chState c = s.chState c := congrArg Fld.DMA_CH_STATUS_STATE.of (rd_retire_other s c d (by decide) c)
  have hlimit : (s.retire c d).get .DMA_CH_CFG_LIMIT c = s.get .DMA_CH_CFG_LIMIT c :=
    congrArg Fld.DMA_CH_CFG_LIMIT.of (rd_retire_other s c d (by decide) c)
  simp [State.descComplete, hd, hposted, hpost, ha, hr, hstate, hlimit, chan_retire, Chan.retired]

/-- The end of a chain at LIMIT. -/
theorem limitEnd_shows (s : State) (c : Nat) :
    let u := (((s.ringDrop c).chEnter c chIdle 2).inc .DMA_CH_LIMITS_COUNT c).chanSource c
    u.chState c = chIdle ∧ u.get .DMA_CH_STATUS_REASON c = 2 ∧ u.get .DMA_CH_IDX_IDX c = s.get .DMA_CH_IDX_IDX c ∧
      (u.chan c).desc = (s.chan c).desc ∧ (u.chan c).last = (s.chan c).last := by
  intro u
  have hget {f : Fld} (h : f.reg ≠ .DMA_CH_LIMITS) : u.get f c = ((s.ringDrop c).chEnter c chIdle 2).get f c :=
    (get_pulse ..).trans (congrArg f.of (rd_inc_reg _ (by rfl) h c c))
  have hchan : u.chan c = { s.chan c with want := false, arrived := none, ahead := [], more := [] } := by
    rw [chan_chanSource, chan_of_dma (dma_inc _ _ _), chan_chEnter, chan_ringDrop]
  obtain ⟨hst, hreason⟩ := chEnter_shows (s.ringDrop c) c (st := chIdle) (reason := 2) (by decide) (by decide)
  rw [hchan]
  exact ⟨(hget (by decide)).trans hst, (hget (by decide)).trans hreason, (hget (by decide)).trans (get_chEnter _ c _ _ (by decide) c), rfl, rfl⟩

/-! Pacing and the stream's flush (R326, R335). -/

theorem paceHold_eq (s : State) (c : Nat) : s.paceHold c =
    if s.chState c ≠ chOff ∧ (s.get .DMA_CH_PACE_PACE_MODE c = 1 ∧ s.get .DMA_CH_PACE_WM_HIGH c ≤ s.paceFill c ∨
      s.get .DMA_CH_PACE_PACE_MODE c = 2 ∧ s.paceFill c ≤ s.get .DMA_CH_PACE_WM_LOW c) then s.put .DMA_CH_STATUS_PACED c 1 else s :=
  if_congr (by simp) rfl rfl

theorem paceRelease_eq (s : State) (c : Nat) : s.paceRelease c =
    if s.get .DMA_CH_PACE_PACE_MODE c = 1 ∧ s.paceFill c ≤ s.get .DMA_CH_PACE_WM_LOW c ∨
      s.get .DMA_CH_PACE_PACE_MODE c = 2 ∧ s.get .DMA_CH_PACE_WM_HIGH c ≤ s.paceFill c ∨ s.get .DMA_CH_PACE_PACE_MODE c = 0 ∨
      s.get .DMA_CH_PACE_PACE_MODE c = 3 then (s.put .DMA_CH_STATUS_PACED c 0).dmaPump else s :=
  if_congr (by simp [or_assoc]) rfl rfl

theorem streamFlush_eq (s : State) (c : Nat) : s.streamFlush c =
    if s.chMode c = 3 ∧ s.chRuns c = true ∧ (s.chan c).desc.isSome = true ∧ (s.chan c).ended = false ∧ 0 < (s.chan c).fed ∧
      s.get .DMA_CH_TIMERS_STREAM_FLUSH c ≠ 0 then (s.chanEnd c 0).dmaPump else s :=
  if_congr (by simp) rfl rfl

/-! A descriptor that waits (R333, R334, R345). -/

theorem floorClear_eq (h : (s.chan c).desc = some d) :
    s.floorClear c = if (s.chan c).waits = 2 ∧ s.chRuns c = true then (s.injBegin c d).dmaPump else s := by
  simp [State.floorClear, h]

theorem unitClaim_eq (h : (s.chan c).desc = some d) :
    s.unitClaim c = if (s.chan c).waits = 1 ∧ s.chRuns c = true then (s.descBegin c d).dmaPump else s := by
  simp [State.unitClaim, h]

/-- A host frame can be delivered into a channel's descriptor now. -/
structure State.HostReady (s : State) (c : Nat) : Prop where
  mode : s.chMode c = 1
  runs : s.chRuns c = true
  waits : (s.chan c).waits = 4
  paced : s.flag .DMA_CH_STATUS_PACED c = false
  mayRun : s.mayRun 4 = true

theorem hostDeliver_none (h : (s.chan c).desc = none ∨ s.hostNext c = none ∨ ¬s.HostReady c) (e : Ecc) : s.hostDeliver c e = s := by
  unfold State.hostDeliver
  dsimp only
  split
  · next d it hd hit =>
    have hready : ¬s.HostReady c := by
      rcases h with h | h | h
      · rw [hd] at h; exact absurd h (Option.some_ne_none _)
      · rw [hit] at h; exact absurd h (Option.some_ne_none _)
      · exact h
    refine if_pos (by_contra fun hc => hready ?_)
    simp only [Bool.or_eq_true, Bool.not_eq_true', decide_eq_true_eq, not_or, ne_eq, not_not, Bool.not_eq_true,
      Bool.not_eq_false] at hc
    obtain ⟨⟨⟨⟨hmode, hruns⟩, hwaits⟩, hpaced⟩, hmay⟩ := hc
    exact ⟨hmode, hruns, hwaits, hpaced, hmay⟩
  · rfl

/-- Reading a host frame's data leaves the channels. -/
theorem dma_hostData (s : State) (h : Nat) (f : DFrame) (e : Ecc) : (s.hostData h f e).2.2.dma = s.dma := by
  unfold State.hostData
  split
  · rfl
  · exact dma_inc s _ 0
  · rfl

theorem hostCheck_free (h : (s.chan c).unit = none) (l : List Byte) : s.hostCheck c l = (l, 0, s) := by
  simp only [State.hostCheck, h]

/-- A host frame's delivery into a descriptor without a unit: the ticket's image and the data as they were read, and CODE. -/
theorem hostDeliver_gives {it : HostItem} {f : DFrame} (h : s.HostReady c) (hd : (s.chan c).desc = some d) (hit : s.hostNext c = some it)
    (hf : s.frame it.head = some f) (hdesc : s.eccOf 2 it.head .ok = .ok) (hunit : (s.chan c).unit = none) (e : Ecc) :
    s.hostDeliver c e =
      let y := s.hostData it.head f e
      let all := bytesOf it.image ++ y.1
      let cap := (dstSide d).total
      ((y.2.2.bufPut c { s.chan c with waits := 0, fifo := all.take cap, out := (s.chan c).out ++ [((s.chan c).serial, it.head)] }).chanEnd c
        (if y.2.1 = true then 7 else if cap < all.length then 6 else 0)).dmaPump := by
  obtain ⟨hmode, hruns, hwaits, hpaced, hmay⟩ := h
  have hread : s.descRead it.head = s := by simp only [State.descRead, hf, hdesc]; rfl
  have hchan : (s.hostData it.head f e).2.2.chan c = s.chan c := chan_of_dma (dma_hostData s it.head f e) c
  have hcheck : (s.hostData it.head f e).2.2.hostCheck c (s.hostData it.head f e).1 =
      ((s.hostData it.head f e).1, 0, (s.hostData it.head f e).2.2) := hostCheck_free (by rw [hchan]; exact hunit) _
  simp only [State.hostDeliver, hd, hit, hread, hf, hcheck, hchan]
  refine (if_neg (by simp [hmode, hruns, hwaits, hpaced, hmay])).trans ?_
  rfl

theorem length_leBytes (n v : Nat) : (leBytes n v).length = n := by
  induction n generalizing v with
  | zero => rfl
  | succ n ih => exact congrArg (· + 1) (ih (v / 256))

theorem length_beBytes (n v : Nat) : (beBytes n v).length = n := List.length_reverse.trans (length_leBytes n v)

/-- Settles O44: a fetch and a completion by what the channel holds, pacing by the fill, what waits by what it waits for. -/
theorem descriptorsBeginWaitAndComplete : Obligations.DescriptorsBeginWaitAndComplete := by
  refine fun c n e s hc hup => ⟨fun h => ?_, fun d hd => ⟨fun hst => ?_, fun hst hown hdb => ?_, fun hst hown hdb => ?_, fun hst hown => ?_⟩,
    fun h => ?_, fun d hd hposted hpost => ⟨fun ha => ?_, fun ha hr hcode => ?_, fun ha hst hcode => ?_, fun ha hst hcode hlim => ?_,
    fun ha hst hcode hlim => ?_⟩, ?_, ?_, ?_, ?_, fun d hd => ⟨?_, fun hchk => ?_⟩, fun h => ?_,
    fun d it f hd hit hmode hruns hwaits hpaced hmay hf hdesc hunit => ?_⟩
  · exact (exec_dmaDescriptorFetch hc hup n).trans (congrArg s.become (descFetch_idle h n))
  · exact (exec_dmaDescriptorFetch hc hup n).trans (congrArg s.become (descFetch_stopping hd hst n))
  · rw [exec_dmaDescriptorFetch hc hup, descFetch_runs hd hst, if_pos hown, if_pos hdb]; rfl
  · refine ⟨_, ?_, chainEnd_shows s c⟩
    rw [exec_dmaDescriptorFetch hc hup, descFetch_runs hd hst, if_pos hown, if_neg (by simp [hdb])]; rfl
  · rw [exec_dmaDescriptorFetch hc hup, descFetch_runs hd hst, if_neg (by rw [hown]; exact Bool.noConfusion)]; rfl
  · exact (exec_dmaDescriptorComplete hc hup).trans (congrArg s.become (descComplete_none h))
  · exact (exec_dmaDescriptorComplete hc hup).trans (congrArg s.become (descComplete_aborted hd hposted hpost ha))
  · rw [exec_dmaDescriptorComplete hc hup, descComplete_retires hd hposted hpost ha hr]
    exact congrArg s.become (if_pos hcode)
  · rw [exec_dmaDescriptorComplete hc hup, descComplete_retires hd hposted hpost ha (chRuns_stopping hst)]
    exact congrArg s.become ((if_neg hcode).trans (if_pos hst))
  · have hnot : s.chState c ≠ chStopping := by rw [hst]; decide
    rw [exec_dmaDescriptorComplete hc hup, descComplete_retires hd hposted hpost ha (chRuns_run hst)]
    exact congrArg s.become ((if_neg hcode).trans ((if_neg hnot).trans (if_neg (Nat.not_le.2 hlim))))
  · have hnot : s.chState c ≠ chStopping := by rw [hst]; decide
    obtain ⟨hidle, hreason, hidx, hdesc, hlast⟩ := limitEnd_shows (s.retire c d) c
    rw [chan_retire] at hdesc hlast
    have hend : s.descComplete c = _ := (descComplete_retires hd hposted hpost ha (chRuns_run hst)).trans
      ((if_neg hcode).trans ((if_neg hnot).trans (if_pos hlim)))
    exact ⟨_, (exec_dmaDescriptorComplete hc hup).trans (congrArg s.become hend), hidle, hreason, hidx.trans (idx_retire s c d), hdesc, hlast⟩
  · rw [exec_dmaPaceHold hc hup, paceHold_eq]
    exact become_ite ..
  · rw [exec_dmaPaceRelease hc hup, paceRelease_eq]
    exact become_ite ..
  · exact (exec_dmaPaceTimeout hc hup).trans (become_ite ..)
  · rw [exec_dmaStreamFlush hc hup, streamFlush_eq]
    exact become_ite ..
  · rw [exec_injectFloorClear hc hup, floorClear_eq hd]
    exact become_ite ..
  · rw [exec_chkUnitClaim hc hchk, unitClaim_eq hd]
    exact become_ite ..
  · refine (exec_hostRxDeliver hc hup e).trans (congrArg s.become (hostDeliver_none ?_ e))
    refine h.imp id (Or.imp id fun h hready => ?_)
    obtain ⟨hmode, hruns, hwaits, hpaced, hmay⟩ := hready
    simp [hmode, hruns, hwaits, hpaced, hmay] at h
  · have hgives := hostDeliver_gives ⟨hmode, hruns, hwaits, hpaced, hmay⟩ hd hit hf hdesc hunit e
    refine ⟨fun he => ?_, fun he => ⟨s.freeBytes f.data.length, length_beBytes _ _, ?_⟩⟩
    · have hdata : s.hostData it.head f e = (f.data, false, s) := by simp only [State.hostData, he]
      rw [hdata] at hgives
      exact (exec_hostRxDeliver hc hup e).trans (congrArg s.become hgives)
    · have hdata : s.hostData it.head f e = (s.freeBytes f.data.length, true, s.used.memFault 1 it.head) := by
        simp only [State.hostData, he]
      rw [hdata] at hgives
      exact (exec_hostRxDeliver hc hup e).trans (congrArg s.become hgives)

end Sys2Proof.Machine
end

section
/-! Belfry's sources: inputs and events, batches, configuration and software interrupts (R347 to R353, R358, R359). -/
namespace Sys2Proof.Machine

variable {s : State} {i : Nat} {w : Word} {l : Bool}

/-! What a change of an input comes to (R347, R348). -/

theorem setInput_off (h : s.up 15 = false) (i : Nat) (l : Bool) :
    s.setInput i l = if s.belInput i = l ∨ belReserved i = true then s else s.inputAt i l :=
  if_congr Iff.rfl rfl (inBlock_off (s := s.inputAt i l) _ h)

/-- A rising source takes a change to 1 as an event. -/
theorem setInput_rise (h : s.up 15 = true) (hmove : ¬(s.belInput i = true ∨ belReserved i = true)) (hsense : s.sense i = 2) :
    s.setInput i true = (s.inputAt i true).edgeEvent i := by
  have hs : (s.inputAt i true).sense i = 2 := hsense
  refine (if_neg hmove).trans ((inBlock_up (s := s.inputAt i true) _ h).trans ?_)
  rw [hs]
  rfl

/-- A rising source takes a change to 0 as no event. -/
theorem setInput_fall (h : s.up 15 = true) (hmove : ¬(s.belInput i = false ∨ belReserved i = true)) (hsense : s.sense i = 2) :
    s.setInput i false = s.inputAt i false := by
  have hs : (s.inputAt i false).sense i = 2 := hsense
  refine (if_neg hmove).trans ((inBlock_up (s := s.inputAt i false) _ h).trans ?_)
  rw [hs]
  rfl

theorem setInput_reserved (h : belReserved i = true) (l : Bool) : s.setInput i l = s := if_pos (.inr h)

theorem sense_setInput (s : State) (i k : Nat) (l : Bool) : (s.setInput k l).sense i = s.sense i := get_setInput ..

theorem levelMode_setInput (s : State) (i k : Nat) (l : Bool) : (s.setInput k l).levelMode i = s.levelMode i := by
  rw [State.levelMode, sense_setInput, State.levelMode]

theorem up_setInput (s : State) (i b : Nat) (l : Bool) : (s.setInput i l).up b = s.up b :=
  setInput_keeps (fun s => s.up b) i (fun _ _ => rfl) (fun _ _ _ => rfl) (fun _ _ => rfl) (fun _ _ => rfl) s l

/-- Where Belfry can act, the level of a level source is evaluated. -/
theorem setInput_level (h : s.up 15 = true) (hlev : s.levelMode i = true) (hmove : ¬(s.belInput i = l ∨ belReserved i = true)) :
    s.setInput i l = ((s.inputAt i l).noteWithdrawn i).presentAll := by
  have hsense : s.sense i = 0 ∨ s.sense i = 1 := by
    have : s.sense i < 2 := of_decide_eq_true hlev
    omega
  have hkept : (s.inputAt i l).sense i = s.sense i := rfl
  refine (if_neg hmove).trans ((inBlock_up (s := s.inputAt i l) _ h).trans ?_)
  rw [hkept]
  rcases hsense with hs | hs <;> rw [hs] <;> rfl

theorem belSrc_setInput_other (s : State) {i k : Nat} (h : k ≠ i) (l : Bool) : (s.setInput i l).belSrc k = s.belSrc k :=
  setInput_keeps (fun s => s.belSrc k) i (fun _ _ => rfl) (fun s _ _ => belSrc_setBel_other s _ h) (fun _ _ => rfl) (fun _ _ => rfl) s l

/-- A level source's bits do not move with its input. -/
theorem bel_setInput_level (hlev : s.levelMode i = true) (l : Bool) : (s.setInput i l).bel = s.bel := by
  cases hup : s.up 15
  · rw [setInput_off hup]
    exact ite_keeps State.bel rfl rfl
  · by_cases hmove : s.belInput i = l ∨ belReserved i = true
    · rw [State.setInput, if_pos hmove]
    · rw [setInput_level hup hlev hmove]
      exact (presentAll_keeps State.bel (fun _ _ => rfl) _).trans (noteWithdrawn_keeps State.bel (fun _ _ => rfl) _ i)

theorem belSrc_of_bel {u : State} (h : u.bel = s.bel) (i : Nat) : u.belSrc i = s.belSrc i := by rw [State.belSrc, h, State.belSrc]

/-! Level sources (R350). -/

theorem testBit_pendMask (h : s.levelMode i = true) (k : Nat) : (s.pendMask i).testBit k =
    (s.asserted i && (s.get .BEL_SRC_CFG_TARGETS i).testBit k && !(s.belSrc i).claimed.testBit k) := by
  unfold State.pendMask
  dsimp only
  rw [if_pos h]
  cases s.asserted i
  · exact Nat.zero_testBit k
  · rw [if_pos rfl, testBit_andNot, Bool.true_and]

theorem asserted_level (h : s.levelMode i = true) : s.asserted i = decide (s.belInput i = decide (s.sense i = 0)) := by
  rw [State.asserted, h, Bool.true_and]
  rfl

/-! Commands (R54, R347, R349). -/

theorem exec_belLevelChange (hi : i < 2048) (l : Bool) : exec (.belLevelChange i l) s = s.become (s.levelChange i l) :=
  congrArg s.become (onUnit_in _ hi)

theorem exec_phyIntChange {lane : Nat} (h : lane < 256) (l : Bool) : exec (.phyIntChange lane l) s = s.become (s.levelChange (1040 + lane) l) :=
  congrArg s.become (onUnit_in _ h)

theorem exec_belSourceEvent (hi : i < 2048) (hup : s.up 15 = true) : exec (.belSourceEvent i) s = s.become (s.sourceEvent i) :=
  runOn_up _ hi hup

theorem exec_belBatchTimer (hi : i < 2048) (hup : s.up 15 = true) : exec (.belBatchTimer i) s =
    s.become (if (s.belSrc i).held = 0 ∨ s.levelMode i = true then s else s.batchEnd i) := runOn_up _ hi hup

theorem exec_belSrcCfgWrite (hi : i < 2048) (hs : s.soft = true) (hup : s.up 15 = true) (w : Word) :
    exec (.belSrcCfgWrite i w) s = s.become (s.srcCfg i w) := runSoftOn_up _ hi hs hup

theorem exec_belPendClear (hi : i < 2048) (hs : s.soft = true) (hup : s.up 15 = true) (w : Word) :
    exec (.belPendClear i w) s = s.become (s.pendClear i w) := runSoftOn_up _ hi hs hup

theorem exec_belSwi (hs : s.soft = true) (hup : s.up 15 = true) (w : Word) : exec (.belSwi w) s = s.become (s.belSwi w) :=
  runSoft_up _ hs hup

/-! A change while no claim of the source is judged. -/

/-- No open claim is the source's, and none has been withdrawn. -/
def State.BelCalm (s : State) (i : Nat) : Prop := ∀ x ∈ s.belClaims, x.src ≠ i ∧ x.withdrawn = false

theorem BelCalm.setInput (h : s.BelCalm i) (l : Bool) : (s.setInput i l).BelCalm i := by
  unfold State.BelCalm
  rw [belClaims_setInput (fun x hx => (h x hx).1)]
  exact h

theorem BelCalm.spurCount (h : s.BelCalm i) : s.spurCount = s := spurCount_calm fun x hx => (h x hx).2

theorem BelCalm.noteWithdrawn (h : s.BelCalm i) : s.noteWithdrawn i = s := noteWithdrawn_unclaimed fun x hx => (h x hx).1

theorem levelChange_calm (h : s.BelCalm i) (l : Bool) : s.levelChange i l = s.setInput i l := by
  unfold State.levelChange State.inBlock
  rw [BelCalm.spurCount (BelCalm.setInput h l)]
  exact ite_self _

theorem sourceEvent_calm (h : s.BelCalm i) : s.sourceEvent i = (s.setInput i (!s.belInput i)).setInput i (s.belInput i) :=
  BelCalm.spurCount (BelCalm.setInput (BelCalm.setInput h _) _)

/-! Edge sources (R349). -/

/-- What one event makes of an edge source's bits. -/
def State.batched (s : State) (i : Nat) : BelSrc :=
  if s.get .BEL_SRC_COAL_COUNT i ≤ (s.belSrc i).held + 1
  then { s.belSrc i with pend := (s.belSrc i).pend ||| s.get .BEL_SRC_CFG_TARGETS i, held := 0 }
  else { s.belSrc i with held := (s.belSrc i).held + 1 }

theorem belSrc_presentAll (s : State) (i : Nat) : s.presentAll.belSrc i = s.belSrc i := presentAll_keeps (fun s => s.belSrc i) (fun _ _ => rfl) s

theorem belSrc_batchEnd (s : State) (i : Nat) :
    (s.batchEnd i).belSrc i = { s.belSrc i with pend := (s.belSrc i).pend ||| s.get .BEL_SRC_CFG_TARGETS i, held := 0 } :=
  (belSrc_presentAll _ i).trans (belSrc_setBel_same s i _)

theorem belSrc_edgeEvent (s : State) (i : Nat) : (s.edgeEvent i).belSrc i = s.batched i := by
  unfold State.edgeEvent State.batched
  dsimp only
  split
  · exact belSrc_batchEnd s i
  · exact belSrc_setBel_same s i _

/-- A state without Belfry's source bits and presented vectors. -/
def State.besideBits (s : State) : State := { s with bel := [], vec := [] }

theorem eq_of_besideBits {u : State} (h : u.besideBits = s.besideBits) : u = { s with bel := u.bel, vec := u.vec } :=
  congrArg (fun x : State => { x with bel := u.bel, vec := u.vec }) h

theorem besideBits_presentAll (s : State) : s.presentAll.besideBits = s.besideBits := presentAll_keeps State.besideBits (fun _ _ => rfl) s

theorem besideBits_setBel (s : State) (i : Nat) (b : BelSrc) : (s.setBel i b).besideBits = s.besideBits := rfl

theorem besideBits_edgeEvent (s : State) (i : Nat) : (s.edgeEvent i).besideBits = s.besideBits :=
  edgeEvent_keeps State.besideBits i (fun _ _ _ => rfl) (fun _ _ => rfl) s

theorem of_besideBits {γ : Type} (g : State → γ) (hg : ∀ x : State, g x.besideBits = g x) {u : State} (h : u.besideBits = s.besideBits) :
    g u = g s := by rw [← hg u, h, hg]

theorem outside_of_besideBits {u : State} (h : u.besideBits = s.besideBits) : s.outside u = u :=
  outside_eq (of_besideBits State.pending (fun _ => rfl) h) (of_besideBits State.porstLow (fun _ => rfl) h)
    (of_besideBits State.blkLow (fun _ => rfl) h) (of_besideBits State.coreClk (fun _ => rfl) h)
    (of_besideBits State.refClk (fun _ => rfl) h) (of_besideBits State.pulsed (fun _ => rfl) h)

theorem outside_belSrc (s u : State) (i : Nat) : (s.outside u).belSrc i = u.belSrc i := rfl

theorem outside_belInput (s u : State) (i : Nat) : (s.outside u).belInput i = u.belInput i := rfl

theorem outside_pendMask (s u : State) (i : Nat) : (s.outside u).pendMask i = u.pendMask i := rfl

/-- A rising edge of an edge source that rests low is one event, and its input falls again. -/
theorem sourceEvent_rise (hup : s.up 15 = true) (hres : belReserved i = false) (hcalm : s.BelCalm i) (hsense : s.sense i = 2)
    (hlow : s.belInput i = false) : s.sourceEvent i = ((s.inputAt i true).edgeEvent i).inputAt i false := by
  have hhigh : (s.setInput i true).belInput i = true := belInput_setInput s hres true
  rw [sourceEvent_calm hcalm, hlow, Bool.not_false, setInput_fall ((up_setInput ..).trans hup) (by simp [hhigh, hres])
    ((sense_setInput ..).trans hsense), setInput_rise hup (by simp [hlow, hres]) hsense]

/-! A claim that is judged (R358). -/

theorem belClaims_pulse_nil (h : s.belClaims = []) (k : Nat) : (s.pulse k).belClaims = [] := by
  have hnil (u : State) (hu : u.belClaims = []) (b : Bool) : (u.setInput k b).belClaims = [] :=
    (belClaims_setInput (fun x hx => by rw [hu] at hx; cases hx) b).trans hu
  unfold State.pulse
  split
  · exact h
  · exact hnil _ (hnil { s with pulsed := k :: s.pulsed } h true) false

theorem belClaims_inc_nil (h : s.belClaims = []) (f : Fld) (k : Nat) : (s.inc f k).belClaims = [] := by
  have hmark (u : State) (src : Nat) : (u.satMark src).belClaims = u.belClaims := by
    rw [satMark_eq]
    split <;> rfl
  unfold State.inc State.add
  dsimp only
  split
  · exact belClaims_pulse_nil ((hmark (s.wr f.reg k _) _).trans h) _
  · exact h

theorem belInput_inputAt (s : State) (i : Nat) (l : Bool) : (s.inputAt i l).belInput i = l := by
  simp only [State.belInput, State.inputAt, tget_tput_same]
  cases l <;> cases (decide (1040 ≤ i) && decide (i ≤ 1295)) <;> rfl

theorem asserted_inputAt (h : s.levelMode i = true) (l : Bool) : (s.inputAt i l).asserted i = decide (l = decide (s.sense i = 0)) := by
  rw [asserted_level (s := s.inputAt i l) h, belInput_inputAt]
  rfl

theorem noteWithdrawn_asserted (h : s.asserted i = true) : s.noteWithdrawn i = s := if_pos (by simp [h])

theorem belClaims_noteWithdrawn {t at' : Nat} (hlev : s.levelMode i = true) (hass : s.asserted i = false)
    (hclaims : s.belClaims = [⟨t, i, at', false⟩]) (hwin : s.now - at' < s.get .BEL_GLB_CFG_SPUR_WIN) :
    (s.noteWithdrawn i).belClaims = [⟨t, i, at', true⟩] := by
  have hmark : s.noteWithdrawn i = _ := if_neg (by simp [hlev, hass])
  rw [hmark, hclaims]
  exact congrArg (fun x : Claim => [x]) (if_pos ⟨rfl, hwin⟩)

/-- A claim that has been withdrawn, when it is the only one, is counted and judged no more. -/
theorem spurCount_one {x : Claim} (h : s.belClaims = [x]) (hx : x.withdrawn = true) :
    s.spurCount = ({ s with belClaims := [] } : State).inc .BEL_SPURIOUS_AFTER_CLAIM_COUNT x.target := by
  simp only [State.spurCount, h, List.filter_cons, List.filter_nil, hx]
  rfl

/-- The only claim, withdrawn inside its window, is counted and judged no more. -/
theorem sourceEvent_withdrawn {t at' : Nat} (hup : s.up 15 = true) (hres : belReserved i = false) (hass : s.asserted i = true)
    (hclaims : s.belClaims = [⟨t, i, at', false⟩]) (hwin : s.now - at' < s.get .BEL_GLB_CFG_SPUR_WIN) :
    (s.sourceEvent i).belClaims = [] ∧ (s.sourceEvent i).get .BEL_SPURIOUS_AFTER_CLAIM_COUNT t =
      min (2 ^ 32 - 1) (s.get .BEL_SPURIOUS_AFTER_CLAIM_COUNT t + 1) := by
  have hlev : s.levelMode i = true := (Bool.and_eq_true_iff.1 hass).1
  have hlvl : s.belInput i = decide (s.sense i = 0) := of_decide_eq_true ((asserted_level hlev).symm.trans hass)
  obtain ⟨b, hb⟩ : ∃ b, s.belInput i = b := ⟨_, rfl⟩
  let v := s.setInput i (!b)
  have hv : v = ((s.inputAt i (!b)).noteWithdrawn i).presentAll := setInput_level hup hlev (by simp [hb, hres])
  have hvclaims : v.belClaims = [⟨t, i, at', true⟩] := by
    rw [hv, presentAll_keeps State.belClaims fun _ _ => rfl]
    refine belClaims_noteWithdrawn (s := s.inputAt i (!b)) hlev ?_ hclaims hwin
    rw [asserted_inputAt hlev, ← hlvl, hb]
    cases b <;> rfl
  have hvlev : v.levelMode i = true := (levelMode_setInput ..).trans hlev
  have hvlow : v.belInput i = !b := belInput_setInput s hres _
  have hback : v.setInput i b = (v.inputAt i b).presentAll := by
    rw [setInput_level ((up_setInput ..).trans hup) hvlev (by rw [hvlow]; simp [hres]), noteWithdrawn_asserted]
    rw [asserted_inputAt hvlev, sense_setInput, ← hlvl, hb]
    exact decide_eq_true rfl
  have hclaims' : (v.setInput i b).belClaims = [⟨t, i, at', true⟩] := by
    rw [hback, presentAll_keeps State.belClaims fun _ _ => rfl]
    exact hvclaims
  have hevent : s.sourceEvent i = ({ v.setInput i b with belClaims := [] } : State).inc .BEL_SPURIOUS_AFTER_CLAIM_COUNT t := by
    rw [← spurCount_one hclaims' rfl]
    simp only [State.sourceEvent, hb, v]
  rw [hevent]
  refine ⟨belClaims_inc_nil rfl _ _, (get_add _ .BEL_SPURIOUS_AFTER_CLAIM_COUNT (by decide) t 1).trans ?_⟩
  have hcount : ({ v.setInput i b with belClaims := [] } : State).get .BEL_SPURIOUS_AFTER_CLAIM_COUNT t =
      s.get .BEL_SPURIOUS_AFTER_CLAIM_COUNT t := (get_setInput v i b _ t).trans (get_setInput s i _ _ t)
  rw [hcount]
  rfl

/-! Configuration (R348, R353). -/

/-- A source's configuration after a write of it: SENSE is taken where its code is valid. -/
def State.srcTaken (s : State) (i : Nat) (w : Word) : State :=
  let s1 := ((s.putFlag .BEL_SRC_CFG_EN i (wbit w 31)).put .BEL_SRC_CFG_PRIO i (Fld.BEL_SRC_CFG_PRIO.of w)).put .BEL_SRC_CFG_TARGETS i
    (Fld.BEL_SRC_CFG_TARGETS.of w)
  if Fld.BEL_SRC_CFG_SENSE.of w < 5 then s1.put .BEL_SRC_CFG_SENSE i (Fld.BEL_SRC_CFG_SENSE.of w) else s1

/-- A source's bits after a write of its configuration: a new SENSE clears them, and PEND keeps the source's targets. -/
def State.srcBits (s : State) (i : Nat) (w : Word) : BelSrc :=
  if (s.srcTaken i w).sense i ≠ s.sense i then { s.belSrc i with pend := 0, held := 0 }
  else { s.belSrc i with pend := (s.belSrc i).pend &&& Fld.BEL_SRC_CFG_TARGETS.of w }

theorem bel_srcTaken (s : State) (i : Nat) (w : Word) : (s.srcTaken i w).bel = s.bel := ite_keeps State.bel rfl rfl

theorem belClaims_srcTaken (s : State) (i : Nat) (w : Word) : (s.srcTaken i w).belClaims = s.belClaims := ite_keeps State.belClaims rfl rfl

theorem srcTaken_shows (s : State) (i : Nat) (w : Word) : (s.srcTaken i w).flag .BEL_SRC_CFG_EN i = wbit w 31 ∧
    (s.srcTaken i w).get .BEL_SRC_CFG_PRIO i = Fld.BEL_SRC_CFG_PRIO.of w ∧
    (s.srcTaken i w).get .BEL_SRC_CFG_TARGETS i = Fld.BEL_SRC_CFG_TARGETS.of w ∧
    (s.srcTaken i w).sense i = if Fld.BEL_SRC_CFG_SENSE.of w < 5 then Fld.BEL_SRC_CFG_SENSE.of w else s.sense i := by
  have hen (u : State) : (u.putFlag .BEL_SRC_CFG_EN i (wbit w 31)).flag .BEL_SRC_CFG_EN i = wbit w 31 :=
    flag_putFlag u _ (by decide) i _
  have hfit (f : Fld) : f.of w % 2 ^ f.width = f.of w := Nat.mod_eq_of_lt (of_lt f w)
  unfold State.srcTaken State.sense
  split
  · simp (disch := decide) only [flag_put_bits, get_put_bits, get_put_same, hen, hfit, and_self]
  · simp (disch := decide) only [State.putFlag, flag_put_bits, get_put_bits, get_put_same, hfit, and_self, and_true]
    exact hen s

theorem srcCfg_calm (h : s.BelCalm i) (w : Word) : s.srcCfg i w = ((s.srcTaken i w).setBel i (s.srcBits i w)).presentAll := by
  have hcalm (u : State) (hu : u.belClaims = s.belClaims) : u.BelCalm i := by unfold State.BelCalm; rwa [hu]
  have hset : ((s.srcTaken i w).setBel i (s.srcBits i w)).BelCalm i := hcalm _ (belClaims_srcTaken s i w)
  have hpres : ((s.srcTaken i w).setBel i (s.srcBits i w)).presentAll.BelCalm i :=
    hcalm _ ((presentAll_keeps State.belClaims (fun _ _ => rfl) _).trans (belClaims_srcTaken s i w))
  have hform : s.srcCfg i w = (((s.srcTaken i w).setBel i (s.srcBits i w)).noteWithdrawn i).presentAll.spurCount := by
    have hown : (s.srcTaken i w).belSrc i = s.belSrc i := belSrc_of_bel (bel_srcTaken s i w) i
    unfold State.srcBits
    rw [← hown]
    rfl
  rw [hform, BelCalm.noteWithdrawn hset, BelCalm.spurCount hpres]

theorem belSrc_srcCfg (h : s.BelCalm i) (w : Word) (k : Nat) :
    (s.srcCfg i w).belSrc k = if k = i then s.srcBits i w else s.belSrc k := by
  rw [srcCfg_calm h, belSrc_presentAll, belSrc_setBel, belSrc_of_bel (bel_srcTaken s i w)]

theorem rd_srcCfg (h : s.BelCalm i) (w : Word) (r : Reg) (k : Nat) : (s.srcCfg i w).rd r k = (s.srcTaken i w).rd r k := by
  rw [srcCfg_calm h]
  exact rd_presentAll ..

/-- PEND written 1 clears what an edge source holds there; a level source is clear for the cycle only. -/
theorem belSrc_pendClear (s : State) (i : Nat) (w : Word) (k : Nat) : (s.pendClear i w).belSrc k = if k = i
    then (if s.levelMode i = true then s.belSrc i else { s.belSrc i with pend := andNot (s.belSrc i).pend (wbits w 31 24) })
    else s.belSrc k := by
  unfold State.pendClear
  dsimp only
  split
  · rw [belSrc_presentAll, belSrc_setBel, belSrc_presentAll, belSrc_setBel]
    split <;> rfl
  · rw [belSrc_presentAll, belSrc_setBel]

theorem besideBits_pendClear (s : State) (i : Nat) (w : Word) : (s.pendClear i w).besideBits = s.besideBits := by
  unfold State.pendClear
  dsimp only
  split
  · rw [besideBits_presentAll, besideBits_setBel, besideBits_presentAll, besideBits_setBel]
  · rw [besideBits_presentAll, besideBits_setBel]

/-! Software interrupts (R359). -/

theorem belSwi_none (h : wbits w 15 0 = 0) (s : State) : s.belSwi w = s := by
  rw [State.belSwi, h]
  rfl

theorem bitList_two_pow : ∀ j < 16, bitList 16 (2 ^ j) = [j] := by decide

theorem belSwi_one {j : Nat} (hj : j < 16) (h : wbits w 15 0 = 2 ^ j) (s : State) : s.belSwi w = s.pulse (1520 + j) := by
  rw [State.belSwi, h, bitList_two_pow j hj]
  rfl

/-- An event of a level source under no claim moves neither its bits nor, in the end, its input. -/
theorem sourceEvent_level (hcalm : s.BelCalm i) (hlev : s.levelMode i = true) :
    (s.sourceEvent i).bel = s.bel ∧ (s.sourceEvent i).belInput i = s.belInput i := by
  rw [sourceEvent_calm hcalm]
  refine ⟨?_, ?_⟩
  · rw [bel_setInput_level ((levelMode_setInput ..).trans hlev), bel_setInput_level hlev]
  · cases hres : belReserved i
    · exact belInput_setInput _ hres _
    · rw [setInput_reserved hres, setInput_reserved hres]

theorem levelChange_off (hup : s.up 15 = false) (i : Nat) (l : Bool) :
    s.levelChange i l = if s.belInput i = l ∨ belReserved i = true then s else s.inputAt i l :=
  (inBlock_off _ ((up_setInput ..).trans hup)).trans (setInput_off hup i l)

/-- The event of a rising source in one state: its bits and its input, and nothing else. -/
theorem riseEvent_shows (s : State) (i : Nat) :
    let u := ((s.inputAt i true).edgeEvent i).inputAt i false
    u.belSrc i = s.batched i ∧ (∀ k, k ≠ i → u.belSrc k = s.belSrc k) ∧ u.belInput i = false ∧
      u = { s with bel := u.bel, belLvl := u.belLvl, vec := u.vec } := by
  intro u
  refine ⟨belSrc_edgeEvent (s.inputAt i true) i, fun k hk => ?_, belInput_inputAt .., ?_⟩
  · exact edgeEvent_keeps (fun s => s.belSrc k) i (fun s _ _ => belSrc_setBel_other s _ hk) (fun _ _ => rfl) (s.inputAt i true)
  · exact congrArg (fun x : State => { x with bel := u.bel, belLvl := u.belLvl, vec := u.vec }) (besideBits_edgeEvent (s.inputAt i true) i)

/-- What a level source shows on its targets once its input has taken a level. -/
theorem pendMask_setInput (hlev : s.levelMode i = true) (hres : belReserved i = false) (l : Bool) (k : Nat) :
    ((s.setInput i l).pendMask i).testBit k =
      (decide (l = decide (s.sense i = 0)) && (s.get .BEL_SRC_CFG_TARGETS i).testBit k && !(s.belSrc i).claimed.testBit k) := by
  have hlev' : (s.setInput i l).levelMode i = true := (levelMode_setInput ..).trans hlev
  rw [testBit_pendMask hlev', asserted_level hlev', belInput_setInput s hres, sense_setInput, get_setInput, claimed_setInput]

/-- Settles O46: a level by its source's sense, an event by the edges that it makes, the rest by what each command writes. -/
theorem sourcesBecomePendingOnTheirTargets : Obligations.SourcesBecomePendingOnTheirTargets := by
  refine fun i lane t at' lvl w s hi hlane => ⟨fun hlev k => ?_, fun hres hcalm => ⟨?_, fun hup => ?_⟩, fun hres => ?_, ?_, fun hup =>
    ⟨fun hres hcalm hsense hlow => ?_, fun hcalm hlev => ?_, fun hres hass hclaims hwin => ?_, fun h => ?_, fun hheld hlev => ?_,
      fun hs => ⟨fun hcalm => ?_, ?_, fun h => ?_, fun j hj h => ?_⟩⟩⟩
  · rw [testBit_pendMask hlev]
    simp only [Bool.and_eq_true, Bool.not_eq_true', and_assoc]
  · rw [exec_belLevelChange hi, levelChange_calm hcalm, setInput_reserved hres]; rfl
  · rw [exec_belSourceEvent hi hup, sourceEvent_calm hcalm, setInput_reserved hres, setInput_reserved hres]; rfl
  · refine ⟨_, exec_belLevelChange hi lvl, fun hup => ?_, fun hup hcalm => ?_, fun hup hcalm hlev => ?_⟩
    · rw [levelChange_off hup]
      split
      · next h => exact ⟨rfl, h.resolve_right (by simp [hres])⟩
      · exact ⟨rfl, belInput_inputAt ..⟩
    · rw [levelChange_calm hcalm]
      exact ⟨belInput_setInput s hres lvl, fun k hk => belSrc_setInput_other s hk lvl⟩
    · rw [levelChange_calm hcalm]
      exact ⟨belSrc_of_bel (bel_setInput_level hlev lvl) i, fun k => pendMask_setInput hlev hres lvl k⟩
  · rw [exec_phyIntChange hlane, exec_belLevelChange (by omega)]
  · obtain ⟨hbits, hothers, hlow', hrest⟩ := riseEvent_shows s i
    refine ⟨_, (exec_belSourceEvent hi hup).trans (congrArg Host.Outcome.next ?_), hbits, hothers, hlow', hrest⟩
    rw [sourceEvent_rise hup hres hcalm hsense hlow, hrest]; rfl
  · obtain ⟨hbel, hinput⟩ := sourceEvent_level hcalm hlev
    exact ⟨_, exec_belSourceEvent hi hup, hbel, hinput⟩
  · obtain ⟨hnone, hcount⟩ := sourceEvent_withdrawn hup hres hass hclaims hwin
    exact ⟨_, exec_belSourceEvent hi hup, hnone, hcount⟩
  · rw [exec_belBatchTimer hi hup, if_pos h]; rfl
  · have hrest : (s.batchEnd i).besideBits = s.besideBits := besideBits_presentAll _
    refine ⟨s.batchEnd i, ?_, belSrc_batchEnd s i, fun k hk => ?_, eq_of_besideBits hrest⟩
    · rw [exec_belBatchTimer hi hup, if_neg (by simp [hheld, hlev])]
      exact congrArg Host.Outcome.next (outside_of_besideBits hrest)
    · exact (belSrc_presentAll _ k).trans (belSrc_setBel_other s _ hk)
  · obtain ⟨hen, hprio, htargets, hsense⟩ := srcTaken_shows s i w
    have hget (f : Fld) : (s.srcCfg i w).get f i = (s.srcTaken i w).get f i := congrArg f.of (rd_srcCfg hcalm w f.reg i)
    have hsame : (s.srcCfg i w).sense i = (s.srcTaken i w).sense i := hget _
    refine ⟨_, exec_belSrcCfgWrite hi hs hup w, (congrArg (· != 0) (hget .BEL_SRC_CFG_EN)).trans hen, (hget _).trans hprio,
      (hget _).trans htargets, hsame.trans hsense, fun k hk => (belSrc_srcCfg hcalm w k).trans (if_neg hk), ?_⟩
    rw [outside_belSrc, belSrc_srcCfg hcalm, if_pos rfl, State.sense, outside_get]
    exact if_congr (by rw [← hsame]; rfl) rfl rfl
  · have hrest := besideBits_pendClear s i w
    refine ⟨s.pendClear i w, ?_, fun k hk => (belSrc_pendClear s i w k).trans (if_neg hk), (belSrc_pendClear s i w i).trans (if_pos rfl),
      eq_of_besideBits hrest⟩
    exact (exec_belPendClear hi hs hup w).trans (congrArg Host.Outcome.next (outside_of_besideBits hrest))
  · exact (exec_belSwi hs hup w).trans (congrArg s.become (belSwi_none h s))
  · exact (exec_belSwi hs hup w).trans (congrArg s.become (belSwi_one hj h s))

end Sys2Proof.Machine
end

section
/-! What the collector's reactions leave of the rest of the state (R362 to R375). -/
namespace Sys2Proof.Machine

variable {s : State} {i : Nat} {β : Type} {g : State → β}

theorem when_keeps (g : State → β) {f : State → State} (hf : ∀ u, g (f u) = g u) (s : State) (c : Bool) : g (s.when c f) = g s := by
  cases c
  · rfl
  · exact hf s

/-- The registers that records, counts of reactions and the Lantern move. -/
def reactRegs : List Reg :=
  [.LOG_DROPPED, .LOG_STATUS, .BEL_SPURIOUS_AFTER_CLAIM, .FLT_BLK_RESETS, .FLT_CHIP_REQ_CNT, .FLT_SHADOWED, .FLT_LANTERN]

/-- `g` does not look at Belfry's bits, the log's queue or what records and counts of reactions move. -/
structure BesideReports (g : State → β) : Prop where
  bel : ∀ s, g s.besideBel = g s
  queue : ∀ s l, g { s with logQ := l } = g s
  wr : ∀ s r i w, r ∈ reactRegs → g (State.wr s r i w) = g s

theorem besideReports_rd {r : Reg} (h : r ∉ reactRegs) (i : Nat) : BesideReports fun s => s.rd r i :=
  ⟨fun _ => rfl, fun _ _ => rfl, fun s _ _ w hr => rd_wr_other s w fun hc => h (hc.1 ▸ hr)⟩

theorem besideReports_get {f : Fld} (h : f.reg ∉ reactRegs) (i : Nat) : BesideReports fun s => s.get f i :=
  have hrd := besideReports_rd h i
  ⟨fun _ => rfl, fun _ _ => rfl, fun s r k w hr => congrArg f.of (hrd.wr s r k w hr)⟩

theorem besideReports_blkReset : BesideReports State.blkReset := ⟨fun _ => rfl, fun _ _ => rfl, fun _ _ _ _ _ => rfl⟩

theorem besideReports_episode : BesideReports State.episode := ⟨fun _ => rfl, fun _ _ => rfl, fun _ _ _ _ _ => rfl⟩

namespace BesideReports

theorem put (h : BesideReports g) {f : Fld} (hf : f.reg ∈ reactRegs) (s : State) (i v : Nat) : g (s.put f i v) = g s := h.wr s _ i _ hf

theorem inc (h : BesideReports g) {f : Fld} (hf : f.reg ∈ reactRegs) (hs : ∀ k, satFlag (satSource f.reg) = some k → k.reg ∈ reactRegs)
    (s : State) (i : Nat) : g (s.inc f i) = g s :=
  add_keeps g h.bel (fun s i w => h.wr s _ i w hf) (fun k hk s v => h.put (hs k hk) s 0 v) s i 1

theorem record (h : BesideReports g) (s : State) (kind flags : Nat) (body : List Word) (z : Bool) :
    g (s.record kind flags body z) = g s :=
  record_keeps g h.bel h.queue (fun s r i w hr => h.wr s r i w (by rcases hr with rfl | rfl <;> decide)) s kind flags body z

theorem levelChange (h : BesideReports g) (s : State) (i : Nat) (l : Bool) : g (s.levelChange i l) = g s := by
  have hset (u : State) : g (u.setInput i l) = g u := by rw [← h.bel, besideBel_setInput, h.bel]
  have hcount (u : State) : g u.spurCount = g u :=
    (each_keeps g _ _ (fun u (x : Claim) => h.inc (f := .BEL_SPURIOUS_AFTER_CLAIM_COUNT) (by decide) (fun _ hk => by cases hk) u x.target) _).trans
      ((h.bel _).symm.trans (h.bel u))
  exact ite_keeps g ((hcount _).trans (hset s)) (hset s)

theorem irqReaction (h : BesideReports g) (i : Nat) (hput : ∀ s v, g (State.put s .FLT_SRC_STATUS_IRQ i v) = g s) (s : State) :
    g (s.irqReaction i) = g s := (h.levelChange _ _ _).trans (hput s 1)

theorem blockReset (h : BesideReports g) (hblk : ∀ s l l', g { s with blkReset := l, shadowed := l' } = g s) (s : State) (b : Nat)
    (m : Bool) (src : Nat) : g (s.blockReset b m src) = g s := by
  refine ite_keeps g rfl ((h.record _ _ _ _ _).trans ((h.inc (f := .FLT_BLK_RESETS_COUNT) (by decide) ?_ _ 0).trans (hblk s _ _)))
  rintro k ⟨rfl⟩
  decide

theorem chipRequest (h : BesideReports g) (hput : ∀ s v, g (State.put s .MNT_RST_STATUS_CHIP_REQ 0 v) = g s) (s : State) (m : Bool)
    (src : Nat) : g (s.chipRequest m src) = g s := by
  refine (h.record _ _ _ _ _).trans ((h.inc (f := .FLT_CHIP_REQ_CNT_COUNT) (by decide) ?_ _ 0).trans (hput s 1))
  rintro k ⟨rfl⟩
  decide

theorem lanternHold (h : BesideReports g) (s : State) (why : Nat) : g (s.lanternHold why) = g s :=
  (h.record _ _ _ _ _).trans (h.put (f := .FLT_LANTERN_STATE) (by decide) s 0 2)

theorem pinReaction (h : BesideReports g) (hput : ∀ s v, g (State.put s .FLT_STATUS_PIN_HOLD 0 v) = g s) (s : State) :
    g s.pinReaction = g s := (when_keeps g (fun u => h.lanternHold u 2) _ _).trans (hput s 1)

end BesideReports

end Sys2Proof.Machine
end

section
/-! The capture of a fault: a leading fault and its reactions, a merged one, and one in a reset shadow (R360 to R373). -/
namespace Sys2Proof.Machine

variable {s : State} {i : Nat} {wire : Bool} {syn : Word} {β : Type} {g : State → β}

/-! The firing (R361, R364). -/

theorem exec_faultCapture (hi : i < 512) (hup : s.aonUp = true) (wire : Bool) (syn : Word) :
    exec (.faultCapture i wire syn) s = s.become (s.capture' i wire syn) := runAonOn_up _ hi hup

theorem capture_unreported (h : s.raised.find? (fun x => x.source == i) = none) (wire : Bool) (syn : Word) :
    s.capture' i wire syn = s.railLeaves i wire syn := by simp only [State.capture', h]

/-- A source may fire: it is not reserved, and is OK. -/
def State.mayFire (s : State) (i : Nat) : Prop := faultReserved i = false ∧ s.get .FLT_SRC_STATUS_RAIL i = 0

/-- The source has left OK, and has given its syndrome. -/
def State.railLeft (s : State) (i : Nat) (wire : Bool) (syn : Word) : State :=
  { s.put .FLT_SRC_STATUS_RAIL i (if wire then 2 else 1) with faultSyn := tput 0 s.faultSyn i syn }

/-- The syndrome that counts: a wire fault has none. -/
def firedSyn (wire : Bool) (syn : Word) : Word := if wire = true then 0 else syn

theorem railLeaves_not (h : ¬s.mayFire i) (wire : Bool) (syn : Word) : s.railLeaves i wire syn = s := by
  refine if_pos ?_
  simpa [State.mayFire, or_iff_not_imp_left] using h

theorem railLeaves_fires (h : s.mayFire i) (wire : Bool) (syn : Word) : s.railLeaves i wire syn =
    if (s.railLeft i wire syn).inShadow i then (s.railLeft i wire syn).inc .FLT_SHADOWED_COUNT else (s.railLeft i wire syn).fire i :=
  if_neg (by simp [h.1, h.2])

theorem rail_railLeft (s : State) (i : Nat) (wire : Bool) (syn : Word) :
    (s.railLeft i wire syn).get .FLT_SRC_STATUS_RAIL i = if wire = true then 2 else 1 := by
  refine (get_put_same s .FLT_SRC_STATUS_RAIL (by decide) i _).trans ?_
  cases wire <;> rfl

/-- RAIL is all that moves of the registers. -/
theorem get_railLeft (s : State) (i : Nat) (wire : Bool) (syn : Word) {f : Fld}
    (h : f.reg ≠ .FLT_SRC_STATUS ∨ (f.hi < 28 ∨ 29 < f.lo) ∧ f.lo ≤ f.hi) (k : Nat) :
    (s.railLeft i wire syn).get f k = s.get f k := get_put_other s .FLT_SRC_STATUS_RAIL f i k _ (h.imp_left fun h hc => h hc.1)

theorem rd_railLeft (s : State) (i : Nat) (wire : Bool) (syn : Word) {r : Reg} (h : r ≠ .FLT_SRC_STATUS) (k : Nat) :
    (s.railLeft i wire syn).rd r k = s.rd r k := rd_put_reg s h i k _

theorem synNow_railLeft (s : State) (i : Nat) (wire : Bool) (syn : Word) : (s.railLeft i wire syn).synNow i = firedSyn wire syn := by
  have hsyn : (s.railLeft i wire syn).synOf i = syn := tget_tput_same _ _ _ _
  rw [State.synNow, rail_railLeft, hsyn]
  cases wire <;> rfl

theorem ownerOf_railLeft (s : State) (i : Nat) (wire : Bool) (syn : Word) :
    (s.railLeft i wire syn).ownerOf i = faultOwner i (firedSyn wire syn) := by rw [State.ownerOf, synNow_railLeft]

theorem inShadow_railLeft (s : State) (i : Nat) (wire : Bool) (syn : Word) :
    (s.railLeft i wire syn).inShadow i = s.shadowed.contains (faultOwner i (firedSyn wire syn)) := by
  rw [State.inShadow, ownerOf_railLeft]
  rfl

theorem faultReact_railLeft (s : State) (i : Nat) (wire : Bool) (syn : Word) :
    (s.railLeft i wire syn).faultReact i = s.faultReact i := by
  rw [State.faultReact, State.flag, get_railLeft s i wire syn (by decide), get_railLeft s i wire syn (by decide),
    get_railLeft s i wire syn (by decide)]
  rfl

/-! FIRED and FIRE_CNT (R364, R366). -/

theorem fireCount_shows (s : State) (i : Nat) : (s.fireCount i).flag .FLT_SRC_STATUS_FIRED i = true ∧
    (s.fireCount i).get .FLT_SRC_STATUS_FIRE_CNT i = min 15 (s.get .FLT_SRC_STATUS_FIRE_CNT i + 1) := by
  refine ⟨?_, ?_⟩
  · exact (flag_put_bits _ (f := .FLT_SRC_STATUS_FIRE_CNT) (by decide) i i _).trans (flag_put_one s _ (by decide) i)
  · refine (get_put_same _ .FLT_SRC_STATUS_FIRE_CNT (by decide) i _).trans (Nat.mod_eq_of_lt ?_)
    exact (Nat.min_le_left 15 _).trans_lt (by decide)

theorem get_fireCount (s : State) (i : Nat) {f : Fld} (h : f.reg ≠ .FLT_SRC_STATUS ∨ 19 < f.lo ∧ f.lo ≤ f.hi ∧ f.hi < 31) (k : Nat) :
    (s.fireCount i).get f k = s.get f k := by
  refine (get_put_other _ .FLT_SRC_STATUS_FIRE_CNT f i k _ ?_).trans (get_put_other s .FLT_SRC_STATUS_FIRED f i k 1 ?_)
  · exact h.imp (fun h hc => h hc.1) fun ⟨hlo, hle, _⟩ => ⟨.inr hlo, hle⟩
  · exact h.imp (fun h hc => h hc.1) fun ⟨_, hle, hhi⟩ => ⟨.inl hhi, hle⟩

theorem rd_fireCount (s : State) (i : Nat) {r : Reg} (h : r ≠ .FLT_SRC_STATUS) (k : Nat) : (s.fireCount i).rd r k = s.rd r k :=
  (rd_put_reg _ h i k _).trans (rd_put_reg s h i k _)

theorem synNow_fireCount (s : State) (i : Nat) : (s.fireCount i).synNow i = s.synNow i := by
  rw [State.synNow, get_fireCount s i (by decide) i]
  rfl

theorem ownerOf_fireCount (s : State) (i : Nat) : (s.fireCount i).ownerOf i = s.ownerOf i := by
  rw [State.ownerOf, synNow_fireCount, State.ownerOf]

theorem faultReact_fireCount (s : State) (i : Nat) : (s.fireCount i).faultReact i = s.faultReact i := by
  rw [State.faultReact, State.flag, get_fireCount s i (by decide), get_fireCount s i (by decide), get_fireCount s i (by decide)]
  rfl

/-! The first-error record (R365). -/

theorem of_word (f : Fld) (n : Nat) : f.of (word n) = n % 2 ^ 32 / 2 ^ f.lo % 2 ^ f.width := by
  simp [Fld.of, word, Nat.shiftRight_eq_div_pow]

/-- FLT_FIRST_SRC of a leading fault. -/
def firstSrc (wire : Bool) (sev i : Nat) : Word := word (2 ^ 31 ||| b2n wire <<< 29 ||| sev <<< 27 ||| i)

theorem firstSrc_shows (wire : Bool) {sev i : Nat} (hsev : sev < 4) (hi : i < 512) :
    Fld.FLT_FIRST_SRC_VALID.of (firstSrc wire sev i) = 1 ∧ Fld.FLT_FIRST_SRC_SOURCE.of (firstSrc wire sev i) = i ∧
    Fld.FLT_FIRST_SRC_WIRE.of (firstSrc wire sev i) = b2n wire ∧ Fld.FLT_FIRST_SRC_SEVERITY.of (firstSrc wire sev i) = sev := by
  have hor : 2 ^ 31 ||| b2n wire <<< 29 ||| sev <<< 27 ||| i = 2 ^ 27 * (16 + 4 * b2n wire + sev) + i := by
    have hhigh : 2 ^ 31 ||| b2n wire <<< 29 ||| sev <<< 27 = 2 ^ 27 * (16 + 4 * b2n wire + sev) := by
      cases wire <;> interval_cases sev <;> rfl
    rw [hhigh, ← Nat.two_pow_add_eq_or_of_lt (by omega)]
  have hwire : b2n wire < 2 := by cases wire <;> decide
  simp only [firstSrc, hor, of_word, Fld.width, Fld.FLT_FIRST_SRC_VALID, Fld.FLT_FIRST_SRC_SOURCE, Fld.FLT_FIRST_SRC_WIRE,
    Fld.FLT_FIRST_SRC_SEVERITY]
  omega

/-- A first-error record that is free takes the leading fault. -/
theorem firstError_free (h : s.flag .FLT_FIRST_SRC_VALID = false) (hi : i < 512) :
    (s.firstError i).flag .FLT_FIRST_SRC_VALID = true ∧ (s.firstError i).get .FLT_FIRST_SRC_SOURCE = i ∧
    (s.firstError i).flag .FLT_FIRST_SRC_WIRE = decide (s.get .FLT_SRC_STATUS_RAIL i = 2) ∧
    (s.firstError i).get .FLT_FIRST_SRC_SEVERITY = s.get .FLT_SRC_CFG_SEVERITY i ∧
    (s.firstError i).rd .FLT_FIRST_SYN = s.synNow i ∧ (s.firstError i).rd .FLT_FIRST_TS_LO = word s.logTime ∧
    (s.firstError i).rd .FLT_FIRST_TS_HI = word (s.logTime >>> 32) := by
  have hform : s.firstError i = { ((((s.wr .FLT_FIRST_SRC 0
      (firstSrc (decide (s.get .FLT_SRC_STATUS_RAIL i = 2)) (s.get .FLT_SRC_CFG_SEVERITY i) i)).wr .FLT_FIRST_SYN 0 (s.synNow i)).wr
      .FLT_FIRST_TS_LO 0 (word s.logTime)).wr .FLT_FIRST_TS_HI 0 (word (s.logTime >>> 32))) with episodeFirst := true } :=
    if_neg (by simp [h])
  obtain ⟨hvalid, hsource, hwire, hsev⟩ := firstSrc_shows (decide (s.get .FLT_SRC_STATUS_RAIL i = 2))
    (of_lt .FLT_SRC_CFG_SEVERITY (s.rd .FLT_SRC_CFG i)) hi
  have hsrc : (s.firstError i).rd .FLT_FIRST_SRC =
      firstSrc (decide (s.get .FLT_SRC_STATUS_RAIL i = 2)) (s.get .FLT_SRC_CFG_SEVERITY i) i := by
    rw [hform]
    refine (rd_wr_other _ _ (by decide)).trans ((rd_wr_other _ _ (by decide)).trans ((rd_wr_other _ _ (by decide)).trans ?_))
    exact rd_wr_same ..
  refine ⟨?_, (congrArg _ hsrc).trans hsource, ?_, (congrArg _ hsrc).trans hsev, ?_, ?_, ?_⟩
  · exact congrArg (· != 0) ((congrArg Fld.FLT_FIRST_SRC_VALID.of hsrc).trans hvalid)
  · refine (congrArg (· != 0) ((congrArg Fld.FLT_FIRST_SRC_WIRE.of hsrc).trans hwire)).trans ?_
    cases decide (s.get .FLT_SRC_STATUS_RAIL i = 2) <;> rfl
  · rw [hform]
    refine (rd_wr_other _ _ (by decide)).trans ((rd_wr_other _ _ (by decide)).trans ?_)
    exact rd_wr_same ..
  · rw [hform]
    refine (rd_wr_other _ _ (by decide)).trans ?_
    exact rd_wr_same ..
  · rw [hform]
    exact rd_wr_same ..

theorem firstError_taken (h : s.flag .FLT_FIRST_SRC_VALID = true) (i : Nat) :
    s.firstError i = { s.put .FLT_FIRST_SRC_OVERFLOW 0 1 with episodeFirst := false } := if_pos h

/-- The registers of the first-error record. -/
def firstRegs : List Reg := [.FLT_FIRST_SRC, .FLT_FIRST_SYN, .FLT_FIRST_TS_LO, .FLT_FIRST_TS_HI]

theorem rd_firstError (s : State) (i : Nat) {r : Reg} (h : r ∉ firstRegs) (k : Nat) : (s.firstError i).rd r k = s.rd r k := by
  simp only [firstRegs, List.mem_cons, List.not_mem_nil, or_false, not_or] at h
  obtain ⟨hsrc, hsyn, hlo, hhi⟩ := h
  refine ite_keeps (·.rd r k) (rd_put_reg s hsrc 0 k 1) ?_
  exact (rd_wr_other _ _ fun hc => hhi hc.1).trans ((rd_wr_other _ _ fun hc => hlo hc.1).trans
    ((rd_wr_other _ _ fun hc => hsyn hc.1).trans (rd_wr_other s _ fun hc => hsrc hc.1)))

/-! A leading fault (R364 to R373). -/

/-- The next firing of a source, by its count, is more than the repeat limit allows. -/
def State.repeats (s : State) (i : Nat) : Bool :=
  (s.faultReact i).testBit 2 && s.get .FLT_CFG_REPEAT_LIMIT != 0 &&
    decide (s.get .FLT_CFG_REPEAT_LIMIT < min 15 (s.get .FLT_SRC_STATUS_FIRE_CNT i + 1))

/-- The reactions that a leading fault takes. -/
def State.leadTaken (s : State) (i : Nat) : Nat := if s.repeats i then orBit (clrBit (s.faultReact i) 2) 3 else s.faultReact i

/-- A leading fault resets its block. -/
def State.leadResets (s : State) (i : Nat) : Bool := (s.leadTaken i).testBit 2 && resettable (s.ownerOf i)

/-- The record of a leading fault, before the first-error record takes it. -/
def State.leadRecorded (s : State) (i : Nat) : State :=
  let s1 := s.fireCount i
  let frozen := s1.get .FLT_SRC_CFG_SEVERITY i == 3
  let flags := (if frozen then 4 else 0) ||| (if (s.faultReact i).testBit 2 && !resettable (s.ownerOf i) then 8 else 0)
  s1.record 1 flags (s1.faultBody i 0 (s.leadTaken i)) frozen

/-- A leading fault before its reactions: what is recorded of it, and the episode that it opens. -/
def State.leadShown (s : State) (i : Nat) : State :=
  let s2 := (s.leadRecorded i).firstError i
  { s2.put .FLT_STATUS_EPISODE 0 1 with
    episode := some (i, if s.leadResets i && !s2.blkReset.contains (s.ownerOf i) then [s.ownerOf i] else []) }

theorem leadingFault_eq (s : State) (i : Nat) : s.leadingFault i =
    (((((s.leadShown i).when ((s.leadTaken i).testBit 0) fun u => u.irqReaction i).when ((s.leadTaken i).testBit 1) State.nmtReaction).when
      (s.leadResets i) fun u => u.blockReset (s.ownerOf i) false i).when ((s.leadTaken i).testBit 3) fun u => u.chipRequest false i).when
      ((s.leadTaken i).testBit 4) State.pinReaction := by
  have hreact := faultReact_fireCount s i
  have howner := ownerOf_fireCount s i
  have hlimit : (s.fireCount i).get .FLT_CFG_REPEAT_LIMIT = s.get .FLT_CFG_REPEAT_LIMIT := get_fireCount s i (by decide) 0
  have hcount := (fireCount_shows s i).2
  simp only [State.leadingFault, hreact, howner, hlimit, hcount]
  rfl

theorem testBit_leadTaken (s : State) (i k : Nat) : (s.leadTaken i).testBit k =
    if s.repeats i = true then (if k = 2 then false else if k = 3 then true else (s.faultReact i).testBit k) else (s.faultReact i).testBit k := by
  unfold State.leadTaken
  split
  · rw [testBit_orBit, testBit_clrBit]
    by_cases h2 : k = 2
    · subst h2; simp
    · by_cases h3 : k = 3
      · subst h3; simp
      · simp [h2, h3]
  · rfl

theorem testBit_leadTaken_other (s : State) (i : Nat) {k : Nat} (h : k ≠ 2 ∧ k ≠ 3) :
    (s.leadTaken i).testBit k = (s.faultReact i).testBit k := by
  rw [testBit_leadTaken, if_neg h.1, if_neg h.2, ite_self]

theorem testBit_leadTaken_two (s : State) (i : Nat) : (s.leadTaken i).testBit 2 = (!s.repeats i && (s.faultReact i).testBit 2) := by
  rw [testBit_leadTaken]
  cases s.repeats i <;> rfl

theorem testBit_leadTaken_three (s : State) (i : Nat) : (s.leadTaken i).testBit 3 = (s.repeats i || (s.faultReact i).testBit 3) := by
  rw [testBit_leadTaken]
  cases s.repeats i <;> rfl

/-! What is recorded. -/

theorem besideReports_synNow (i : Nat) : BesideReports fun s => s.synNow i := by
  have hrail := besideReports_get (f := .FLT_SRC_STATUS_RAIL) (by decide) i
  refine ⟨fun _ => rfl, fun _ _ => rfl, fun s r k w hr => ?_⟩
  exact if_congr (iff_of_eq (congrArg (· = 2) (hrail.wr s r k w hr))) rfl rfl

theorem besideReports_logTime : BesideReports State.logTime := ⟨fun _ => rfl, fun _ _ => rfl, fun _ _ _ _ _ => rfl⟩

theorem leadRecorded_keeps (h : BesideReports g) (s : State) (i : Nat) : g (s.leadRecorded i) = g (s.fireCount i) := h.record _ _ _ _ _

theorem rd_leadRecorded (s : State) (i : Nat) {r : Reg} (h : r ∉ reactRegs) (k : Nat) :
    (s.leadRecorded i).rd r k = (s.fireCount i).rd r k := leadRecorded_keeps (besideReports_rd h k) s i

theorem rd_leadShown_put (s : State) (i : Nat) (r : Reg) (k : Nat) :
    (s.leadShown i).rd r k = (((s.leadRecorded i).firstError i).put .FLT_STATUS_EPISODE 0 1).rd r k := rfl

/-- Beside the first-error record and EPISODE, a leading fault shows its count before its reactions. -/
theorem rd_leadShown (s : State) (i : Nat) {r : Reg} (h : r ∉ reactRegs ∧ r ∉ firstRegs ∧ r ≠ .FLT_STATUS) (k : Nat) :
    (s.leadShown i).rd r k = (s.fireCount i).rd r k := by
  obtain ⟨hreact, hfirst, hstatus⟩ := h
  rw [rd_leadShown_put]
  exact (rd_put_reg _ (f := .FLT_STATUS_EPISODE) hstatus 0 k 1).trans ((rd_firstError _ i hfirst k).trans (rd_leadRecorded s i hreact k))

theorem rd_leadShown_first (s : State) (i : Nat) {r : Reg} (h : r ∈ firstRegs) (k : Nat) :
    (s.leadShown i).rd r k = ((s.leadRecorded i).firstError i).rd r k := by
  rw [rd_leadShown_put]
  refine rd_put_reg _ (f := .FLT_STATUS_EPISODE) (fun hc => ?_) 0 k 1
  rw [hc] at h
  exact absurd h (by decide)

/-- A free first-error record takes the source, its syndrome, its rail, its severity and the time. -/
theorem leadShown_first (hi : i < 512) (h : s.flag .FLT_FIRST_SRC_VALID = false) :
    (s.leadShown i).flag .FLT_FIRST_SRC_VALID = true ∧ (s.leadShown i).get .FLT_FIRST_SRC_SOURCE = i ∧
    (s.leadShown i).flag .FLT_FIRST_SRC_WIRE = decide (s.get .FLT_SRC_STATUS_RAIL i = 2) ∧
    (s.leadShown i).get .FLT_FIRST_SRC_SEVERITY = s.get .FLT_SRC_CFG_SEVERITY i ∧
    (s.leadShown i).rd .FLT_FIRST_SYN = s.synNow i ∧ (s.leadShown i).rd .FLT_FIRST_TS_LO = word s.logTime ∧
    (s.leadShown i).rd .FLT_FIRST_TS_HI = word (s.logTime >>> 32) := by
  have hget {f : Fld} (hf : f.reg ∉ reactRegs) (hs : f.reg ≠ .FLT_SRC_STATUS ∨ 19 < f.lo ∧ f.lo ≤ f.hi ∧ f.hi < 31) (k : Nat) :
      (s.leadRecorded i).get f k = s.get f k := (leadRecorded_keeps (besideReports_get hf k) s i).trans (get_fireCount s i hs k)
  have hfree : (s.leadRecorded i).flag .FLT_FIRST_SRC_VALID = false :=
    (congrArg (· != 0) (hget (f := .FLT_FIRST_SRC_VALID) (by decide) (by decide) 0)).trans h
  have hrail : (s.leadRecorded i).get .FLT_SRC_STATUS_RAIL i = s.get .FLT_SRC_STATUS_RAIL i := hget (by decide) (by decide) i
  have hsev : (s.leadRecorded i).get .FLT_SRC_CFG_SEVERITY i = s.get .FLT_SRC_CFG_SEVERITY i := hget (by decide) (by decide) i
  have hsyn : (s.leadRecorded i).synNow i = s.synNow i :=
    (leadRecorded_keeps (besideReports_synNow i) s i).trans (synNow_fireCount s i)
  have htime : (s.leadRecorded i).logTime = s.logTime := leadRecorded_keeps besideReports_logTime s i
  obtain ⟨hvalid, hsource, hwire, hsev', hsyn', hlo, hhi⟩ := firstError_free hfree hi
  rw [hrail] at hwire
  rw [hsev] at hsev'
  rw [hsyn] at hsyn'
  rw [htime] at hlo hhi
  have hfirst {r : Reg} (hr : r ∈ firstRegs) := rd_leadShown_first s i hr 0
  exact ⟨(congrArg (fun w => Fld.FLT_FIRST_SRC_VALID.of w != 0) (hfirst (by decide))).trans hvalid,
    (congrArg Fld.FLT_FIRST_SRC_SOURCE.of (hfirst (by decide))).trans hsource,
    (congrArg (fun w => Fld.FLT_FIRST_SRC_WIRE.of w != 0) (hfirst (by decide))).trans hwire,
    (congrArg Fld.FLT_FIRST_SRC_SEVERITY.of (hfirst (by decide))).trans hsev', (hfirst (by decide)).trans hsyn',
    (hfirst (by decide)).trans hlo, (hfirst (by decide)).trans hhi⟩

/-- One field set in two states that agree. -/
theorem rd_put_congr {t : State} {r : Reg} {f : Fld} {k i : Nat} (h : t.rd r k = s.rd r k) (hf : t.rd f.reg i = s.rd f.reg i) (v : Nat) :
    (t.put f i v).rd r k = (s.put f i v).rd r k := by
  rw [State.put, State.put, rd_wr, rd_wr, h, hf]

/-- A first-error record that is taken shows the overflow, and nothing else of the fault. -/
theorem leadShown_overflow (i : Nat) (h : s.flag .FLT_FIRST_SRC_VALID = true) {r : Reg} (hr : r ∈ firstRegs) :
    (s.leadShown i).rd r = (s.put .FLT_FIRST_SRC_OVERFLOW 0 1).rd r := by
  have hregs : r ∉ reactRegs ∧ r ≠ .FLT_SRC_STATUS := by
    simp only [firstRegs, List.mem_cons, List.not_mem_nil, or_false] at hr
    rcases hr with rfl | rfl | rfl | rfl <;> decide
  obtain ⟨hreact, hstatus⟩ := hregs
  have hkept (r' : Reg) (h1 : r' ∉ reactRegs) (h2 : r' ≠ .FLT_SRC_STATUS) (k : Nat) : (s.leadRecorded i).rd r' k = s.rd r' k :=
    (rd_leadRecorded s i h1 k).trans (rd_fireCount s i h2 k)
  have htaken : (s.leadRecorded i).flag .FLT_FIRST_SRC_VALID = true :=
    (congrArg (fun w => Fld.FLT_FIRST_SRC_VALID.of w != 0) (hkept .FLT_FIRST_SRC (by decide) (by decide) 0)).trans h
  rw [rd_leadShown_first s i hr, firstError_taken htaken]
  exact rd_put_congr (hkept r hreact hstatus 0) (hkept .FLT_FIRST_SRC (by decide) (by decide) 0) 1

/-! The reactions, one after the other. -/

/-- A field that shares no bit with another. -/
@[reducible] def Fld.apart (f p : Fld) : Prop := f.reg ≠ p.reg ∨ (f.hi < p.lo ∨ p.hi < f.lo) ∧ f.lo ≤ f.hi

theorem get_put_apart (s : State) {f p : Fld} (h : f.apart p) (i v k : Nat) : (s.put p i v).get f k = s.get f k :=
  get_put_other s p f i k v (h.imp_left fun h hc => h hc.1)

/-- The interrupt, the trap and the block's reset of a leading fault, as far as it takes them. -/
def State.leadReacted (s : State) (i : Nat) : State :=
  (((s.leadShown i).when ((s.leadTaken i).testBit 0) fun u => u.irqReaction i).when ((s.leadTaken i).testBit 1) State.nmtReaction).when
    (s.leadResets i) fun u => u.blockReset (s.ownerOf i) false i

/-- The chip request and the pin, which merged faults take too. -/
def State.chipPin (s : State) (i taken : Nat) : State :=
  (s.when (taken.testBit 3) fun u => u.chipRequest false i).when (taken.testBit 4) State.pinReaction

theorem leadingFault_reacted (s : State) (i : Nat) : s.leadingFault i = (s.leadReacted i).chipPin i (s.leadTaken i) := leadingFault_eq s i

theorem chipPin_keeps (h : BesideReports g) (hchip : ∀ s v, g (State.put s .MNT_RST_STATUS_CHIP_REQ 0 v) = g s)
    (hpin : ∀ s v, g (State.put s .FLT_STATUS_PIN_HOLD 0 v) = g s) (s : State) (i taken : Nat) : g (s.chipPin i taken) = g s :=
  (when_keeps g (h.pinReaction hpin) _ _).trans (when_keeps g (fun u => h.chipRequest hchip u _ _) s _)

theorem leadReacted_keeps (h : BesideReports g) (hirq : ∀ s v, g (State.put s .FLT_SRC_STATUS_IRQ i v) = g s)
    (hnmt : ∀ s v, g (State.put s .FLT_NMT_PEND 0 v) = g s) (hblk : ∀ s l l', g { s with blkReset := l, shadowed := l' } = g s) (s : State) :
    g (s.leadReacted i) = g (s.leadShown i) :=
  (when_keeps g (fun u => h.blockReset hblk u _ _ _) _ _).trans
    ((when_keeps g (fun u => hnmt u _) _ _).trans (when_keeps g (fun u => h.irqReaction i hirq u) _ _))

theorem get_chipPin (s : State) (i taken : Nat) {f : Fld} (h : f.reg ∉ reactRegs ∧ f.apart .MNT_RST_STATUS_CHIP_REQ ∧
    f.apart .FLT_STATUS_PIN_HOLD) (k : Nat) : (s.chipPin i taken).get f k = s.get f k :=
  chipPin_keeps (besideReports_get h.1 k) (fun s v => get_put_apart s h.2.1 0 v k) (fun s v => get_put_apart s h.2.2 0 v k) s i taken

theorem rd_chipPin (s : State) (i taken : Nat) {r : Reg} (h : r ∉ reactRegs ∧ r ≠ .MNT_RST_STATUS ∧ r ≠ .FLT_STATUS) (k : Nat) :
    (s.chipPin i taken).rd r k = s.rd r k :=
  chipPin_keeps (besideReports_rd h.1 k) (fun s v => rd_put_reg s h.2.1 0 k v) (fun s v => rd_put_reg s h.2.2 0 k v) s i taken

theorem chip_chipPin (s : State) (i : Nat) {taken : Nat} (h : taken.testBit 3 = true) :
    (s.chipPin i taken).flag .MNT_RST_STATUS_CHIP_REQ = true := by
  have hchip (u : State) : (u.chipRequest false i).get .MNT_RST_STATUS_CHIP_REQ = (u.put .MNT_RST_STATUS_CHIP_REQ 0 1).get .MNT_RST_STATUS_CHIP_REQ := by
    have hrep := besideReports_get (f := .MNT_RST_STATUS_CHIP_REQ) (by decide) 0
    refine (hrep.record _ _ _ _ _).trans (hrep.inc (f := .FLT_CHIP_REQ_CNT_COUNT) (by decide) ?_ _ 0)
    rintro k ⟨rfl⟩
    decide
  have hpin (u : State) : u.pinReaction.get .MNT_RST_STATUS_CHIP_REQ = u.get .MNT_RST_STATUS_CHIP_REQ :=
    (besideReports_get (by decide) 0).pinReaction (fun s v => get_put_reg s (by decide) 0 0 v) u
  have hkept : (s.chipPin i taken).get .MNT_RST_STATUS_CHIP_REQ = (s.chipRequest false i).get .MNT_RST_STATUS_CHIP_REQ := by
    unfold State.chipPin
    rw [h, when_true]
    exact when_keeps (fun u => u.get .MNT_RST_STATUS_CHIP_REQ) hpin _ _
  exact (congrArg (· != 0) (hkept.trans (hchip s))).trans (flag_put_one s _ (by decide) 0)

theorem pin_chipPin (s : State) (i : Nat) {taken : Nat} (h : taken.testBit 4 = true) : (s.chipPin i taken).flag .FLT_STATUS_PIN_HOLD = true := by
  unfold State.chipPin
  rw [h, when_true]
  generalize s.when _ _ = u
  have hpin : u.pinReaction.get .FLT_STATUS_PIN_HOLD = (u.put .FLT_STATUS_PIN_HOLD 0 1).get .FLT_STATUS_PIN_HOLD :=
    when_keeps (fun u => u.get .FLT_STATUS_PIN_HOLD) (fun v => (besideReports_get (by decide) 0).lanternHold v 2) _ _
  exact (congrArg (· != 0) hpin).trans (flag_put_one u _ (by decide) 0)

/-- What the interrupt, the trap and the block's reset leave alone. -/
theorem get_leadReacted (s : State) (i : Nat) {f : Fld} (h : f.reg ∉ reactRegs ∧ f.apart .FLT_SRC_STATUS_IRQ ∧ f.apart .FLT_NMT_PEND)
    (k : Nat) : (s.leadReacted i).get f k = (s.leadShown i).get f k :=
  leadReacted_keeps (besideReports_get h.1 k) (fun s v => get_put_apart s h.2.1 i v k) (fun s v => get_put_apart s h.2.2 0 v k)
    (fun _ _ _ => rfl) s

theorem rd_leadReacted (s : State) (i : Nat) {r : Reg} (h : r ∉ reactRegs ∧ r ≠ .FLT_SRC_STATUS ∧ r ≠ .FLT_NMT) (k : Nat) :
    (s.leadReacted i).rd r k = (s.leadShown i).rd r k :=
  leadReacted_keeps (besideReports_rd h.1 k) (fun s v => rd_put_reg s h.2.1 i k v) (fun s v => rd_put_reg s h.2.2 0 k v)
    (fun _ _ _ => rfl) s

theorem episode_leadReacted (s : State) (i : Nat) : (s.leadReacted i).episode = (s.leadShown i).episode :=
  leadReacted_keeps besideReports_episode (fun _ _ => rfl) (fun _ _ => rfl) (fun _ _ _ => rfl) s

theorem irq_leadReacted (s : State) (i : Nat) (h : (s.leadTaken i).testBit 0 = true) :
    (s.leadReacted i).flag .FLT_SRC_STATUS_IRQ i = true := by
  have hrep := besideReports_get (f := .FLT_SRC_STATUS_IRQ) (by decide) i
  have hirq (u : State) : (u.irqReaction i).get .FLT_SRC_STATUS_IRQ i = (u.put .FLT_SRC_STATUS_IRQ i 1).get .FLT_SRC_STATUS_IRQ i :=
    hrep.levelChange _ _ _
  have hkept : (s.leadReacted i).get .FLT_SRC_STATUS_IRQ i = ((s.leadShown i).irqReaction i).get .FLT_SRC_STATUS_IRQ i := by
    unfold State.leadReacted
    rw [h, when_true]
    exact (when_keeps (fun u => u.get .FLT_SRC_STATUS_IRQ i) (fun u => hrep.blockReset (fun _ _ _ => rfl) u _ _ _) _ _).trans
      (when_keeps (fun u => u.get .FLT_SRC_STATUS_IRQ i) (fun u => get_put_reg u (by decide) 0 i _) _ _)
  exact (congrArg (· != 0) (hkept.trans (hirq _))).trans (flag_put_one _ _ (by decide) i)

/-- The trap reaction adds its targets to the pending traps. -/
theorem nmt_leadReacted (s : State) (i : Nat) : (s.leadReacted i).get .FLT_NMT_PEND =
    if (s.leadTaken i).testBit 1 = true then s.get .FLT_NMT_PEND ||| s.get .FLT_CFG_NMT_TARGETS else s.get .FLT_NMT_PEND := by
  have hrep {f : Fld} (h : f.reg ∉ reactRegs) := besideReports_get h 0
  have hshown {f : Fld} (h : f.reg ∉ reactRegs ∧ f.reg ∉ firstRegs ∧ f.reg ≠ .FLT_STATUS) (hs : f.reg ≠ .FLT_SRC_STATUS) :
      ((s.leadShown i).when ((s.leadTaken i).testBit 0) fun u => u.irqReaction i).get f = s.get f :=
    (when_keeps (fun u => u.get f) (fun u => (hrep h.1).irqReaction i (fun u v => get_put_reg u hs i 0 v) u) _ _).trans
      (congrArg f.of ((rd_leadShown s i h 0).trans (rd_fireCount s i hs 0)))
  refine (when_keeps (fun u => u.get .FLT_NMT_PEND) (fun u => (hrep (by decide)).blockReset (fun _ _ _ => rfl) u _ _ _) _ _).trans ?_
  have hpend := hshown (f := .FLT_NMT_PEND) (by decide) (by decide)
  have htargets := hshown (f := .FLT_CFG_NMT_TARGETS) (by decide) (by decide)
  cases (s.leadTaken i).testBit 1
  · exact hpend
  · refine (get_put_same _ .FLT_NMT_PEND (by decide) 0 _).trans ?_
    rw [hpend, htargets]
    exact Nat.mod_eq_of_lt (Nat.or_lt_two_pow (of_lt .FLT_NMT_PEND _) (of_lt .FLT_CFG_NMT_TARGETS _))

theorem blkReset_leadShown (s : State) (i : Nat) : (s.leadShown i).blkReset = s.blkReset :=
  (ite_keeps State.blkReset rfl rfl : ((s.leadRecorded i).firstError i).blkReset = (s.leadRecorded i).blkReset).trans
    (leadRecorded_keeps besideReports_blkReset s i)

theorem blkReset_blockReset (s : State) (b : Nat) (m : Bool) (src : Nat) : (s.blockReset b m src).blkReset =
    if s.blkReset.contains b = true then s.blkReset else insertRising b s.blkReset := by
  unfold State.blockReset
  split
  · rfl
  · refine (besideReports_blkReset.record _ _ _ _ _).trans (besideReports_blkReset.inc (f := .FLT_BLK_RESETS_COUNT) (by decide) ?_ _ 0)
    rintro k ⟨rfl⟩
    decide

theorem blkReset_leadReacted (s : State) (i : Nat) : (s.leadReacted i).blkReset =
    if s.leadResets i = true then (if s.blkReset.contains (s.ownerOf i) = true then s.blkReset else insertRising (s.ownerOf i) s.blkReset)
    else s.blkReset := by
  have hbefore : (((s.leadShown i).when ((s.leadTaken i).testBit 0) fun u => u.irqReaction i).when ((s.leadTaken i).testBit 1)
      State.nmtReaction).blkReset = s.blkReset :=
    (when_keeps State.blkReset (f := State.nmtReaction) (fun _ => rfl) _ _).trans
      ((when_keeps State.blkReset (fun u => besideReports_blkReset.irqReaction i (fun _ _ => rfl) u) _ _).trans (blkReset_leadShown s i))
  unfold State.leadReacted
  cases s.leadResets i
  · exact hbefore
  · rw [when_true, blkReset_blockReset, hbefore]
    rfl

theorem contains_insertRising (a : Nat) (l : List Nat) : (insertRising a l).contains a = true := by
  induction l with
  | nil => simp [insertRising]
  | cons b l ih =>
    unfold insertRising
    split
    · simp
    · simp only [List.contains_cons, ih, Bool.or_true]

/-! A merged fault (R366, R367). -/

/-- A merged fault as it is recorded, before it counts in the first-error record. -/
def State.mergeRecorded (s : State) (i leader : Nat) : State :=
  let s1 := s.fireCount i
  let frozen := s1.get .FLT_SRC_CFG_SEVERITY i == 3
  s1.record 1 (1 ||| if frozen then 4 else 0) (s1.faultBody i leader (s.faultReact i &&& 24)) frozen

/-- A merged fault before its chip request and its pin. -/
def State.mergeShown (s : State) (i leader : Nat) : State :=
  (s.mergeRecorded i leader).when s.episodeFirst fun u => u.put .FLT_FIRST_SRC_MERGED 0 (min 0xFFF (u.get .FLT_FIRST_SRC_MERGED + 1))

theorem mergedFault_eq (s : State) (i leader : Nat) : s.mergedFault i leader = (s.mergeShown i leader).chipPin i (s.faultReact i &&& 24) := by
  simp only [State.mergedFault, faultReact_fireCount]
  rfl

theorem mergeRecorded_keeps (h : BesideReports g) (s : State) (i leader : Nat) : g (s.mergeRecorded i leader) = g (s.fireCount i) :=
  h.record _ _ _ _ _

/-- Beside the first-error record, a merged fault shows its count. -/
theorem get_mergeShown (s : State) (i leader : Nat) {f : Fld} (h : f.reg ∉ reactRegs ∧ f.reg ≠ .FLT_FIRST_SRC) (k : Nat) :
    (s.mergeShown i leader).get f k = (s.fireCount i).get f k :=
  (when_keeps (fun u => u.get f k) (fun u => get_put_reg u h.2 0 k _) _ _).trans (mergeRecorded_keeps (besideReports_get h.1 k) s i leader)

/-- The first-error record of a merged fault: one more in MERGED where it holds the leading fault. -/
theorem rd_mergeShown (s : State) (i leader : Nat) {r : Reg} (h : r ∈ firstRegs) : (s.mergeShown i leader).rd r =
    (if s.episodeFirst = true then s.put .FLT_FIRST_SRC_MERGED 0 (min 0xFFF (s.get .FLT_FIRST_SRC_MERGED + 1)) else s).rd r := by
  have hkept {r' : Reg} (h1 : r' ∉ reactRegs) (h2 : r' ≠ .FLT_SRC_STATUS) : (s.mergeRecorded i leader).rd r' = s.rd r' :=
    (mergeRecorded_keeps (besideReports_rd h1 0) s i leader).trans (rd_fireCount s i h2 0)
  have hregs : r ∉ reactRegs ∧ r ≠ .FLT_SRC_STATUS := by
    simp only [firstRegs, List.mem_cons, List.not_mem_nil, or_false] at h
    rcases h with rfl | rfl | rfl | rfl <;> decide
  have hcount : (s.mergeRecorded i leader).get .FLT_FIRST_SRC_MERGED = s.get .FLT_FIRST_SRC_MERGED :=
    congrArg Fld.FLT_FIRST_SRC_MERGED.of (hkept (by decide) (by decide))
  unfold State.mergeShown
  cases s.episodeFirst
  · exact hkept hregs.1 hregs.2
  · rw [when_true, hcount]
    exact rd_put_congr (hkept hregs.1 hregs.2) (hkept (r' := .FLT_FIRST_SRC) (by decide) (by decide)) _

theorem episode_mergeShown (s : State) (i leader : Nat) : (s.mergeShown i leader).episode = s.episode := by
  unfold State.mergeShown
  cases s.episodeFirst <;> exact mergeRecorded_keeps besideReports_episode s i leader

theorem blkReset_mergeShown (s : State) (i leader : Nat) : (s.mergeShown i leader).blkReset = s.blkReset := by
  unfold State.mergeShown
  cases s.episodeFirst <;> exact mergeRecorded_keeps besideReports_blkReset s i leader

theorem testBit_and_24 (n : Nat) {k : Nat} (h : k = 3 ∨ k = 4) (hn : n.testBit k = true) : (n &&& 24).testBit k = true := by
  rcases h with rfl | rfl <;> rw [Nat.testBit_and, hn] <;> rfl

/-- A field that no reaction moves. -/
@[reducible] def Fld.unreacted (f : Fld) : Prop := f.reg ∉ reactRegs ∧ f.apart .FLT_SRC_STATUS_IRQ ∧ f.apart .FLT_NMT_PEND ∧
  f.apart .MNT_RST_STATUS_CHIP_REQ ∧ f.apart .FLT_STATUS_PIN_HOLD

theorem get_leadingFault (s : State) (i : Nat) {f : Fld} (h : f.unreacted) (k : Nat) :
    (s.leadingFault i).get f k = (s.leadShown i).get f k := by
  obtain ⟨hreg, hirq, hnmt, hchip, hpin⟩ := h
  rw [leadingFault_reacted, get_chipPin _ _ _ ⟨hreg, hchip, hpin⟩, get_leadReacted s i ⟨hreg, hirq, hnmt⟩]

theorem rd_leadingFault (s : State) (i : Nat) {r : Reg}
    (h : r ∉ reactRegs ∧ r ∉ [Reg.FLT_SRC_STATUS, .FLT_NMT, .MNT_RST_STATUS, .FLT_STATUS]) (k : Nat) :
    (s.leadingFault i).rd r k = (s.leadShown i).rd r k := by
  simp only [List.mem_cons, List.not_mem_nil, or_false, not_or] at h
  obtain ⟨hreg, hsrc, hnmt, hchip, hpin⟩ := h
  rw [leadingFault_reacted, rd_chipPin _ _ _ ⟨hreg, hchip, hpin⟩, rd_leadReacted s i ⟨hreg, hsrc, hnmt⟩]

/-! A leading fault and a merged one, as what they show. -/

/-- What a leading fault shows, by its state before. -/
theorem leadingFault_shows (s : State) (hi : i < 512) :
    let u := s.leadingFault i
    let react := s.faultReact i
    let b := s.ownerOf i
    let more := s.repeats i = true
    (u.flag .FLT_SRC_STATUS_FIRED i = true ∧ u.get .FLT_SRC_STATUS_FIRE_CNT i = min 15 (s.get .FLT_SRC_STATUS_FIRE_CNT i + 1) ∧
      u.get .FLT_SRC_STATUS_RAIL i = s.get .FLT_SRC_STATUS_RAIL i) ∧
    u.flag .FLT_STATUS_EPISODE = true ∧ u.episode.map (·.1) = some i ∧ u.flag .FLT_FIRST_SRC_VALID = true ∧
    (s.flag .FLT_FIRST_SRC_VALID = false → u.get .FLT_FIRST_SRC_SOURCE = i ∧ u.rd .FLT_FIRST_SYN = s.synNow i ∧
      u.flag .FLT_FIRST_SRC_WIRE = decide (s.get .FLT_SRC_STATUS_RAIL i = 2) ∧
      u.get .FLT_FIRST_SRC_SEVERITY = s.get .FLT_SRC_CFG_SEVERITY i ∧
      u.rd .FLT_FIRST_TS_LO = word s.logTime ∧ u.rd .FLT_FIRST_TS_HI = word (s.logTime >>> 32)) ∧
    (s.flag .FLT_FIRST_SRC_VALID = true → ∀ r ∈ firstRegs, u.rd r = (s.put .FLT_FIRST_SRC_OVERFLOW 0 1).rd r) ∧
    (react.testBit 0 = true → u.flag .FLT_SRC_STATUS_IRQ i = true) ∧
    (react.testBit 1 = true → u.get .FLT_NMT_PEND = s.get .FLT_NMT_PEND ||| s.get .FLT_CFG_NMT_TARGETS) ∧
    (react.testBit 1 = false → u.get .FLT_NMT_PEND = s.get .FLT_NMT_PEND) ∧
    (react.testBit 2 = true → ¬more → resettable b = true → u.blkReset.contains b = true) ∧
    (more ∨ react.testBit 2 = false ∨ resettable b = false → u.blkReset = s.blkReset) ∧
    (react.testBit 3 = true ∨ more → u.flag .MNT_RST_STATUS_CHIP_REQ = true) ∧
    (react.testBit 4 = true → u.flag .FLT_STATUS_PIN_HOLD = true) := by
  intro u react b more
  have hshown {f : Fld} (h : f.unreacted) (hreg : f.reg ∉ reactRegs ∧ f.reg ∉ firstRegs ∧ f.reg ≠ .FLT_STATUS) (k : Nat) :
      u.get f k = (s.fireCount i).get f k := (get_leadingFault s i h k).trans (congrArg f.of (rd_leadShown s i hreg k))
  have hfirst {r : Reg} (h : r ∈ firstRegs) : u.rd r = (s.leadShown i).rd r := by
    have hr : r ∉ reactRegs ∧ r ∉ [Reg.FLT_SRC_STATUS, .FLT_NMT, .MNT_RST_STATUS, .FLT_STATUS] := by
      simp only [firstRegs, List.mem_cons, List.not_mem_nil, or_false] at h
      rcases h with rfl | rfl | rfl | rfl <;> decide
    exact rd_leadingFault s i hr 0
  have hflag (f : Fld) (h : f.reg ∈ firstRegs) : u.flag f = (s.leadShown i).flag f := congrArg (fun w => f.of w != 0) (hfirst h)
  have hu : u = (s.leadReacted i).chipPin i (s.leadTaken i) := leadingFault_reacted s i
  obtain ⟨hfired, hcount⟩ := fireCount_shows s i
  have hblk : u.blkReset = (s.leadReacted i).blkReset := by
    rw [hu]; exact chipPin_keeps besideReports_blkReset (fun _ _ => rfl) (fun _ _ => rfl) _ _ _
  have hnmt : u.get .FLT_NMT_PEND = (s.leadReacted i).get .FLT_NMT_PEND := by rw [hu]; exact get_chipPin _ _ _ (by decide) 0
  refine ⟨⟨?_, ?_, ?_⟩, ?_, ?_, ?_, fun h => ?_, fun h r hr => ?_, fun h => ?_, fun h => ?_, fun h => ?_, fun h hm hb => ?_, fun h => ?_,
    fun h => ?_, fun h => ?_⟩
  · exact (congrArg (· != 0) (hshown (f := .FLT_SRC_STATUS_FIRED) (by decide) (by decide) i)).trans hfired
  · exact (hshown (by decide) (by decide) i).trans hcount
  · exact (hshown (by decide) (by decide) i).trans (get_fireCount s i (by decide) i)
  · refine (congrArg (· != 0) (get_leadingFault s i (f := .FLT_STATUS_EPISODE) (by decide) 0)).trans ?_
    exact flag_put_one ((s.leadRecorded i).firstError i) _ (by decide) 0
  · rw [hu, chipPin_keeps besideReports_episode (fun _ _ => rfl) (fun _ _ => rfl), episode_leadReacted]
    rfl
  · rw [hflag _ (by decide)]
    cases hv : s.flag .FLT_FIRST_SRC_VALID
    · exact (leadShown_first hi hv).1
    · refine (congrArg (fun w => Fld.FLT_FIRST_SRC_VALID.of w != 0) (leadShown_overflow i hv (by decide))).trans ?_
      exact (flag_put_bits s (f := .FLT_FIRST_SRC_OVERFLOW) (by decide) 0 0 1).trans hv
  · obtain ⟨-, hsource, hwire, hsev, hsyn, hlo, hhi⟩ := leadShown_first hi h
    exact ⟨(congrArg _ (hfirst (by decide))).trans hsource, (hfirst (by decide)).trans hsyn, (hflag _ (by decide)).trans hwire,
      (congrArg _ (hfirst (by decide))).trans hsev, (hfirst (by decide)).trans hlo, (hfirst (by decide)).trans hhi⟩
  · exact (hfirst hr).trans (leadShown_overflow i h hr)
  · rw [hu, State.flag, get_chipPin _ _ _ (by decide)]
    exact irq_leadReacted s i ((testBit_leadTaken_other s i (by decide)).trans h)
  · rw [hnmt, nmt_leadReacted, if_pos ((testBit_leadTaken_other s i (by decide)).trans h)]
  · rw [hnmt, nmt_leadReacted, testBit_leadTaken_other s i (by decide), if_neg (by rw [h]; exact Bool.noConfusion)]
  · rw [hblk, blkReset_leadReacted, if_pos]
    · split
      · assumption
      · exact contains_insertRising ..
    · simp [State.leadResets, testBit_leadTaken_two, eq_false_of_ne_true hm, show (s.faultReact i).testBit 2 = true from h, show resettable (s.ownerOf i) = true from hb]
  · rw [hblk, blkReset_leadReacted, if_neg]
    have hnot : (!s.repeats i && (s.faultReact i).testBit 2 && resettable (s.ownerOf i)) = false := by
      rcases h with h | h | h <;> rw [h] <;> simp
    simp [State.leadResets, testBit_leadTaken_two, hnot]
  · rw [hu]
    refine chip_chipPin _ i ?_
    rw [testBit_leadTaken_three]
    rcases h with h | h <;> rw [h] <;> simp
  · rw [hu]
    exact pin_chipPin _ i ((testBit_leadTaken_other s i (by decide)).trans h)

/-- What a merged fault shows, by its state before. -/
theorem mergedFault_shows (s : State) (i leader : Nat) :
    let u := s.mergedFault i leader
    let react := s.faultReact i
    (u.flag .FLT_SRC_STATUS_FIRED i = true ∧ u.get .FLT_SRC_STATUS_FIRE_CNT i = min 15 (s.get .FLT_SRC_STATUS_FIRE_CNT i + 1) ∧
      u.get .FLT_SRC_STATUS_RAIL i = s.get .FLT_SRC_STATUS_RAIL i) ∧
    u.episode = s.episode ∧ u.blkReset = s.blkReset ∧ u.get .FLT_NMT_PEND = s.get .FLT_NMT_PEND ∧
    u.get .FLT_SRC_STATUS_IRQ i = s.get .FLT_SRC_STATUS_IRQ i ∧
    (∀ r ∈ firstRegs, u.rd r =
      (if s.episodeFirst = true then s.put .FLT_FIRST_SRC_MERGED 0 (min 0xFFF (s.get .FLT_FIRST_SRC_MERGED + 1)) else s).rd r) ∧
    (react.testBit 3 = true → u.flag .MNT_RST_STATUS_CHIP_REQ = true) ∧ (react.testBit 4 = true → u.flag .FLT_STATUS_PIN_HOLD = true) := by
  intro u react
  have hu : u = (s.mergeShown i leader).chipPin i (s.faultReact i &&& 24) := mergedFault_eq s i leader
  have hget {f : Fld} (h : (f.reg ∉ reactRegs ∧ f.apart .MNT_RST_STATUS_CHIP_REQ ∧ f.apart .FLT_STATUS_PIN_HOLD) ∧ f.reg ≠ .FLT_FIRST_SRC)
      (k : Nat) : u.get f k = (s.fireCount i).get f k := by
    rw [hu, get_chipPin _ _ _ h.1, get_mergeShown s i leader ⟨h.1.1, h.2⟩]
  obtain ⟨hfired, hcount⟩ := fireCount_shows s i
  refine ⟨⟨?_, ?_, ?_⟩, ?_, ?_, ?_, ?_, fun r hr => ?_, fun h => ?_, fun h => ?_⟩
  · exact (congrArg (· != 0) (hget (f := .FLT_SRC_STATUS_FIRED) (by decide) i)).trans hfired
  · exact (hget (by decide) i).trans hcount
  · exact (hget (by decide) i).trans (get_fireCount s i (by decide) i)
  · rw [hu, chipPin_keeps besideReports_episode (fun _ _ => rfl) (fun _ _ => rfl), episode_mergeShown]
  · rw [hu, chipPin_keeps besideReports_blkReset (fun _ _ => rfl) (fun _ _ => rfl), blkReset_mergeShown]
  · exact (hget (by decide) 0).trans (get_fireCount s i (by decide) 0)
  · exact (hget (by decide) i).trans (get_fireCount s i (by decide) i)
  · have hregs : r ∉ reactRegs ∧ r ≠ .MNT_RST_STATUS ∧ r ≠ .FLT_STATUS := by
      simp only [firstRegs, List.mem_cons, List.not_mem_nil, or_false] at hr
      rcases hr with rfl | rfl | rfl | rfl <;> decide
    rw [hu, rd_chipPin _ _ _ hregs, rd_mergeShown s i leader hr]
  · rw [hu]
    exact chip_chipPin _ i (testBit_and_24 _ (.inl rfl) h)
  · rw [hu]
    exact pin_chipPin _ i (testBit_and_24 _ (.inr rfl) h)

/-! A capture. -/

theorem repeats_railLeft (s : State) (i : Nat) (wire : Bool) (syn : Word) : (s.railLeft i wire syn).repeats i = s.repeats i := by
  rw [State.repeats, faultReact_railLeft, get_railLeft s i wire syn (by decide), get_railLeft s i wire syn (by decide)]
  rfl

theorem repeats_iff (s : State) (i : Nat) : s.repeats i = true ↔ (s.faultReact i).testBit 2 = true ∧ s.get .FLT_CFG_REPEAT_LIMIT ≠ 0 ∧
    s.get .FLT_CFG_REPEAT_LIMIT < min 15 (s.get .FLT_SRC_STATUS_FIRE_CNT i + 1) := by
  simp [State.repeats, and_assoc]

/-- What a merge adds to the record is the same with the source's rail left and before. -/
theorem merged_railLeft (s : State) (i : Nat) (wire : Bool) (syn : Word) {r : Reg} (hr : r ≠ .FLT_SRC_STATUS) :
    (if (s.railLeft i wire syn).episodeFirst = true then (s.railLeft i wire syn).put .FLT_FIRST_SRC_MERGED 0
        (min 0xFFF ((s.railLeft i wire syn).get .FLT_FIRST_SRC_MERGED + 1)) else s.railLeft i wire syn).rd r =
      (if s.episodeFirst = true then s.put .FLT_FIRST_SRC_MERGED 0 (min 0xFFF (s.get .FLT_FIRST_SRC_MERGED + 1)) else s).rd r := by
  rw [get_railLeft s i wire syn (by decide), show (s.railLeft i wire syn).episodeFirst = s.episodeFirst from rfl]
  split
  · exact rd_put_congr (rd_railLeft s i wire syn hr 0) (rd_railLeft s i wire syn (r := .FLT_FIRST_SRC) (by decide) 0) _
  · exact rd_railLeft s i wire syn hr 0

theorem shadowed_shows (s : State) (i : Nat) :
    let u := s.inc .FLT_SHADOWED_COUNT
    u.get .FLT_SRC_STATUS_FIRE_CNT i = s.get .FLT_SRC_STATUS_FIRE_CNT i ∧ u.episode = s.episode ∧ u.blkReset = s.blkReset ∧
      u.get .FLT_SRC_STATUS_RAIL i = s.get .FLT_SRC_STATUS_RAIL i ∧
      u.get .FLT_SHADOWED_COUNT = min (2 ^ 32 - 1) (s.get .FLT_SHADOWED_COUNT + 1) := by
  have hsat : ∀ k, satFlag (satSource Fld.FLT_SHADOWED_COUNT.reg) = some k → k.reg ∈ reactRegs := by
    rintro k ⟨rfl⟩
    decide
  have hkeep {γ : Type} {h : State → γ} (hh : BesideReports h) : h (s.inc .FLT_SHADOWED_COUNT) = h s := hh.inc (by decide) hsat s 0
  exact ⟨hkeep (besideReports_get (by decide) i), hkeep besideReports_episode, hkeep besideReports_blkReset,
    hkeep (besideReports_get (by decide) i), get_add s .FLT_SHADOWED_COUNT (by decide) 0 1⟩

/-- Settles O47: a capture by the source's state and its block's shadow, then the fault as leading or merged by the open episode. -/
theorem leadingFaultReactsAndMergedFaultDoesNot : Obligations.LeadingFaultReactsAndMergedFaultDoesNot := by
  intro i wire syn s hi hup hraised
  have hexec : exec (.faultCapture i wire syn) s = s.become (s.railLeaves i wire syn) :=
    (exec_faultCapture hi hup wire syn).trans (congrArg s.become (capture_unreported hraised wire syn))
  have hget {f : Fld} (h : f.reg ≠ .FLT_SRC_STATUS ∨ (f.hi < 28 ∨ 29 < f.lo) ∧ f.lo ≤ f.hi) (k : Nat) := get_railLeft s i wire syn h k
  have hrail := rail_railLeft s i wire syn
  have hreact := faultReact_railLeft s i wire syn
  have howner := ownerOf_railLeft s i wire syn
  refine ⟨fun h => ?_, fun h hshadow => ?_, fun h hshadow hep => ?_, fun e h hshadow hep => ?_, ?_⟩
  · exact hexec.trans (congrArg s.become (railLeaves_not h wire syn))
  · have hin : (s.railLeft i wire syn).inShadow i = true := (inShadow_railLeft s i wire syn).trans hshadow
    obtain ⟨hcnt, hepisode, hblk, hrail', hcount⟩ := shadowed_shows (s.railLeft i wire syn) i
    refine ⟨_, hexec.trans (congrArg s.become ((railLeaves_fires h wire syn).trans (if_pos hin))), ?_⟩
    exact ⟨hcnt.trans (hget (by decide) i), hepisode, hblk, hrail'.trans hrail,
      hcount.trans (congrArg (fun n => min (2 ^ 32 - 1) (n + 1)) (hget (by decide) 0))⟩
  · have hout : ¬(s.railLeft i wire syn).inShadow i = true := by rw [inShadow_railLeft]; exact ne_true_of_eq_false hshadow
    have hfire : (s.railLeft i wire syn).fire i = (s.railLeft i wire syn).leadingFault i := by
      simp only [State.fire, show (s.railLeft i wire syn).episode = none from hep]
    have hvalid (b : Bool) (hb : s.flag .FLT_FIRST_SRC_VALID = b) : (s.railLeft i wire syn).flag .FLT_FIRST_SRC_VALID = b :=
      (congrArg (· != 0) (hget (f := .FLT_FIRST_SRC_VALID) (by decide) 0)).trans hb
    have hwire : decide ((s.railLeft i wire syn).get .FLT_SRC_STATUS_RAIL i = 2) = wire := by rw [hrail]; cases wire <;> rfl
    obtain ⟨⟨hfired, hcnt, hrail'⟩, hepisode, hopen, hany, hfree, htaken, hirq, hnmt, hnmt', hblk, hblk', hchip, hpin⟩ :=
      leadingFault_shows (s.railLeft i wire syn) hi
    rw [hreact] at hirq hnmt hnmt' hblk hblk' hchip hpin
    rw [howner] at hblk hblk'
    rw [repeats_railLeft, repeats_iff] at hblk hblk' hchip
    rw [hwire] at hfree
    rw [hget (by decide)] at hcnt
    rw [hget (by decide), hget (by decide)] at hnmt
    rw [hget (by decide)] at hnmt'
    refine ⟨_, hexec.trans (congrArg s.become ((railLeaves_fires h wire syn).trans ((if_neg hout).trans hfire))), ⟨hfired, hcnt,
      hrail'.trans hrail⟩, hepisode, hopen, hany, fun hv => ?_, fun hv => ?_, hirq, hnmt, hnmt', hblk, hblk', hchip, hpin⟩
    · obtain ⟨hsource, hsyn, hw, hsev, hlo, hhi⟩ := hfree (hvalid _ hv)
      refine ⟨hsource, hsyn.trans (synNow_railLeft s i wire syn), hw, hsev.trans ?_, hlo, hhi⟩
      rw [hget (by decide)]
      exact (Nat.mod_eq_of_lt (of_lt .FLT_SRC_CFG_SEVERITY _)).symm
    · have hfirst {r : Reg} (hr : r ∈ firstRegs) (hr' : r ≠ .FLT_SRC_STATUS) := (htaken (hvalid _ hv) r hr).trans
        (rd_put_congr (rd_railLeft s i wire syn hr' 0) (rd_railLeft s i wire syn (r := .FLT_FIRST_SRC) (by decide) 0) 1)
      exact ⟨hfirst (by decide) (by decide), hfirst (by decide) (by decide), hfirst (by decide) (by decide),
        hfirst (by decide) (by decide)⟩
  · have hout : ¬(s.railLeft i wire syn).inShadow i = true := by rw [inShadow_railLeft]; exact ne_true_of_eq_false hshadow
    have hfire : (s.railLeft i wire syn).fire i = (s.railLeft i wire syn).mergedFault i e.1 := by
      simp only [State.fire, show (s.railLeft i wire syn).episode = some e from hep]
    obtain ⟨⟨hfired, hcnt, hrail'⟩, hopen, hblk, hnmt, hirq, hfirst, hchip, hpin⟩ := mergedFault_shows (s.railLeft i wire syn) i e.1
    rw [hreact] at hchip hpin
    rw [hget (by decide)] at hcnt hnmt hirq
    refine ⟨_, hexec.trans (congrArg s.become ((railLeaves_fires h wire syn).trans ((if_neg hout).trans hfire))), ⟨hfired, hcnt,
      hrail'.trans hrail⟩, hopen.trans hep, hblk, hnmt, hirq, ?_, hchip, hpin⟩
    have hmerged {r : Reg} (hr : r ∈ firstRegs) (hr' : r ≠ .FLT_SRC_STATUS) := (hfirst r hr).trans (merged_railLeft s i wire syn hr')
    exact ⟨hmerged (by decide) (by decide), hmerged (by decide) (by decide), hmerged (by decide) (by decide),
      hmerged (by decide) (by decide)⟩
  · obtain ⟨-, -, -, ⟨u, hclear, hvalid, hoverflow, hmerged, -⟩, -⟩ := clearsEndTheirReactionAndLanternFollowsItsKey i 0 0 0 s hi hup
    exact ⟨u, hclear, hvalid, hoverflow, hmerged⟩

end Sys2Proof.Machine
end

section
/-! The event log: its ring, its freeze and its access window (R378 to R382). -/
namespace Sys2Proof.Machine

variable {s : State} {β : Type} {g : State → β}

theorem tget_tset_some {α : Type} (d : α) (m : List (Nat × α)) (k : Nat) (x : α) : tget d (tset m k (some x)) k = x :=
  congrArg (·.getD d) (tfind_tset_same m k (some x))

theorem tget_tset_apart {α : Type} (d : α) (m : List (Nat × α)) (v : Option α) {k j : Nat} (h : j ≠ k) :
    tget d (tset m k v) j = tget d m j := congrArg (·.getD d) (tfind_tset_other m k j v h)

/-! A record written (R378). -/

/-- Room in a full log is the oldest record's place, counted and shown by OVERRUN. -/
def State.logRoom (s : State) : State :=
  if s.logFill < 32768 then s
  else ((s.put .LOG_RD_IDX_IDX 0 (s.get .LOG_RD_IDX_IDX + 1)).put .LOG_STATUS_OVERRUN 0 1).inc .LOG_OVERWRITES_COUNT

/-- The eight words of a record at write index `wr`. -/
def logWords (kind flags time wr : Nat) (body : List Word) : List Word :=
  word (kind <<< 24 ||| flags <<< 20 ||| wr) :: word time :: word (time >>> 32) :: (body ++ List.replicate (5 - body.length) 0)

/-- The record `r` in the ring's place of write index `wr`, and WR at the place after it. -/
def State.logPlaced (s : State) (wr : Nat) (r : List Word) : State :=
  ({ s with logRing := tset s.logRing (wr % 32768) (some r) }.memWrite 0xD (wr % 32768)).put .LOG_WR_IDX_IDX 0 (wr + 1)

theorem logStore_eq (s : State) (kind flags time : Nat) (body : List Word) : s.logStore kind flags time body =
    (s.logRoom.logPlaced (s.get .LOG_WR_IDX_IDX) (logWords kind flags time (s.get .LOG_WR_IDX_IDX) body)).logThresh s.logFill := rfl

theorem logOverwrite_keeps (hbel : ∀ s, g s.besideBel = g s) (hwr : ∀ s w, g (State.wr s .LOG_OVERWRITES 0 w) = g s)
    (hsat : ∀ s v, g (State.put s .LOG_STATUS_SAT 0 v) = g s) (s : State) : g (s.inc .LOG_OVERWRITES_COUNT) = g s := by
  have hcount (t : State) : g (t.wr .LOG_OVERWRITES 0 (satAdd .LOG_OVERWRITES_COUNT (t.rd .LOG_OVERWRITES 0) 1).1) = g t := hwr t _
  have hpulse (t : State) (k : Nat) : g (t.pulse k) = g t := by rw [← hbel, besideBel_pulse, hbel]
  exact ite_keeps g ((hpulse _ _).trans ((hsat _ _).trans (hcount s))) (hcount s)

theorem logRoom_keeps (hbel : ∀ s, g s.besideBel = g s) (hwr : ∀ s w, g (State.wr s .LOG_OVERWRITES 0 w) = g s)
    (hput : ∀ f ∈ [Fld.LOG_RD_IDX_IDX, .LOG_STATUS_OVERRUN, .LOG_STATUS_SAT], ∀ s v, g (State.put s f 0 v) = g s) (s : State) :
    g s.logRoom = g s :=
  ite_keeps g rfl ((logOverwrite_keeps hbel hwr (hput _ (by decide)) _).trans ((hput _ (by decide) _ _).trans (hput _ (by decide) _ _)))

theorem logPlaced_keeps (hring : ∀ s l, g { s with logRing := l } = g s) (hinj : ∀ s l, g { s with injected := l } = g s)
    (hput : ∀ f ∈ [Fld.FLT_INJ_DATA_ARM, .LOG_WR_IDX_IDX], ∀ s v, g (State.put s f 0 v) = g s) (s : State) (wr : Nat) (r : List Word) :
    g (s.logPlaced wr r) = g s :=
  (hput _ (by decide) _ _).trans ((memWrite_keeps g hinj (fun s => hput _ (by decide) s 0) _ _ _).trans (hring s _))

theorem pulse_keeps (hbel : ∀ s, g s.besideBel = g s) (s : State) (k : Nat) : g (s.pulse k) = g s := by
  rw [← hbel, besideBel_pulse, hbel]

theorem logThresh_keeps (hbel : ∀ s, g s.besideBel = g s) (hput : ∀ s v, g (State.put s .LOG_STATUS_THRESH_HIT 0 v) = g s) (s : State)
    (old : Nat) : g (s.logThresh old) = g s :=
  ite_keeps g ((pulse_keeps hbel _ _).trans (hput s 1)) rfl

theorem logFreeze_keeps (hbel : ∀ s, g s.besideBel = g s)
    (hput : ∀ f ∈ [Fld.LOG_STATUS_FROZEN, .LOG_STATUS_FREEZE_SW], ∀ s v, g (State.put s f 0 v) = g s) (sw : Bool) (s : State) :
    g (s.logFreeze sw) = g s :=
  ite_keeps g rfl ((pulse_keeps hbel _ _).trans ((hput _ (by decide) _ _).trans (hput _ (by decide) s 1)))

/-! What a record shows in the log's fields. -/

/-- The oldest record's place is taken where the log is full, and nothing else of RD and OVERRUN moves. -/
theorem logRoom_shows (s : State) :
    s.logRoom.get .LOG_RD_IDX_IDX =
        (if 32768 ≤ s.logFill then (s.get .LOG_RD_IDX_IDX + 1) % 2 ^ 16 else s.get .LOG_RD_IDX_IDX) ∧
      s.logRoom.flag .LOG_STATUS_OVERRUN = (decide (32768 ≤ s.logFill) || s.flag .LOG_STATUS_OVERRUN) := by
  by_cases h : s.logFill < 32768
  · rw [State.logRoom, if_pos h, if_neg (by omega), decide_eq_false (by omega), Bool.false_or]
    exact ⟨rfl, rfl⟩
  · rw [State.logRoom, if_neg h, if_pos (by omega), decide_eq_true (by omega), Bool.true_or]
    constructor
    · refine (logOverwrite_keeps (g := fun s => s.get .LOG_RD_IDX_IDX) (fun _ => rfl) (fun s w => ?_) (fun s v => ?_) _).trans ?_
      · exact congrArg Fld.LOG_RD_IDX_IDX.of (rd_wr_other s w (by simp [Fld.LOG_RD_IDX_IDX]))
      · exact get_put_apart s (by decide) 0 v 0
      · rw [get_put_apart _ (by decide), get_put_same _ _ (by decide)]; rfl
    · refine (logOverwrite_keeps (g := fun s => s.flag .LOG_STATUS_OVERRUN) (fun _ => rfl) (fun s w => ?_) (fun s v => ?_) _).trans ?_
      · exact congrArg (fun w => Fld.LOG_STATUS_OVERRUN.of w != 0) (rd_wr_other s w (by simp [Fld.LOG_STATUS_OVERRUN]))
      · exact flag_put_bits s (by decide) 0 0 v
      · exact flag_put_one _ _ (by decide) 0

theorem get_logRoom_frozen (s : State) : s.logRoom.get .LOG_STATUS_FROZEN = s.get .LOG_STATUS_FROZEN :=
  logRoom_keeps (g := fun s => s.get .LOG_STATUS_FROZEN) (fun _ => rfl)
    (fun s w => congrArg Fld.LOG_STATUS_FROZEN.of (rd_wr_other s w (by simp [Fld.LOG_STATUS_FROZEN])))
    (fun p hp s v => get_put_apart s ((by decide : ∀ p ∈ [Fld.LOG_RD_IDX_IDX, .LOG_STATUS_OVERRUN, .LOG_STATUS_SAT],
      Fld.LOG_STATUS_FROZEN.apart p) p hp) 0 v 0) s

theorem get_logPlaced (s : State) (wr : Nat) (r : List Word) {f : Fld} (h : f.reg ≠ .FLT_INJ_DATA ∧ f.reg ≠ .LOG_WR_IDX) :
    (s.logPlaced wr r).get f = s.get f :=
  logPlaced_keeps (g := fun s => s.get f) (fun _ _ => rfl) (fun _ _ => rfl)
    (fun p hp s v => get_put_reg s (fun hc => by
      simp only [List.mem_cons, List.not_mem_nil, or_false] at hp
      rcases hp with rfl | rfl
      · exact h.1 hc
      · exact h.2 hc) 0 0 v) s wr r

theorem wr_logPlaced (s : State) (wr : Nat) (r : List Word) : (s.logPlaced wr r).get .LOG_WR_IDX_IDX = (wr + 1) % 2 ^ 16 :=
  get_put_same _ _ (by decide) 0 _

theorem get_logThresh (s : State) (old : Nat) {f : Fld} (h : f.apart .LOG_STATUS_THRESH_HIT) : (s.logThresh old).get f = s.get f :=
  logThresh_keeps (g := fun s => s.get f) (fun _ => rfl) (fun s v => get_put_apart s h 0 v 0) s old

theorem get_logFreeze (s : State) (sw : Bool) {f : Fld} (h : f.apart .LOG_STATUS_FROZEN ∧ f.apart .LOG_STATUS_FREEZE_SW) :
    (s.logFreeze sw).get f = s.get f :=
  logFreeze_keeps (g := fun s => s.get f) (fun _ => rfl)
    (fun p hp s v => get_put_apart s (by
      simp only [List.mem_cons, List.not_mem_nil, or_false] at hp
      rcases hp with rfl | rfl
      · exact h.1
      · exact h.2) 0 v 0) sw s

theorem frozen_logFreeze (s : State) (sw : Bool) : (s.logFreeze sw).flag .LOG_STATUS_FROZEN = true := by
  unfold State.logFreeze
  split
  · assumption
  · exact (flag_pulse _ _ _ 0).trans ((flag_put_bits _ (by decide) 0 0 _).trans (flag_put_one s _ (by decide) 0))

theorem logRing_logPlaced (s : State) (wr : Nat) (r : List Word) :
    (s.logPlaced wr r).logRing = tset s.logRing (wr % 32768) (some r) :=
  memWrite_keeps State.logRing (fun _ _ => rfl) (fun _ => rfl) _ _ _

/-- What a record written shows. -/
theorem logStore_shows (s : State) (kind flags time : Nat) (body : List Word) :
    let u := s.logStore kind flags time body
    let wr := s.get .LOG_WR_IDX_IDX
    u.logQ = s.logQ ∧ u.get .LOG_WR_IDX_IDX = (wr + 1) % 2 ^ 16 ∧ u.get .LOG_RD_IDX_IDX = s.logRoom.get .LOG_RD_IDX_IDX ∧
      u.flag .LOG_STATUS_OVERRUN = s.logRoom.flag .LOG_STATUS_OVERRUN ∧
      u.logRing = tset s.logRing (wr % 32768) (some (logWords kind flags time wr body)) ∧
      u.flag .LOG_STATUS_FROZEN = s.flag .LOG_STATUS_FROZEN := by
  intro u wr
  have hu : u = (s.logRoom.logPlaced wr (logWords kind flags time wr body)).logThresh s.logFill := logStore_eq s kind flags time body
  refine ⟨?_, ?_, ?_, ?_, ?_, ?_⟩
  · rw [hu, logThresh_keeps (g := State.logQ) (fun _ => rfl) (fun _ _ => rfl),
      logPlaced_keeps (g := State.logQ) (fun _ _ => rfl) (fun _ _ => rfl) (fun _ _ _ _ => rfl)]
    exact logRoom_keeps (g := State.logQ) (fun _ => rfl) (fun _ _ => rfl) (fun _ _ _ _ => rfl) s
  · rw [hu, get_logThresh _ _ (by decide), wr_logPlaced]
  · rw [hu, get_logThresh _ _ (by decide), get_logPlaced _ _ _ (by decide)]
  · rw [hu, State.flag, get_logThresh _ _ (by decide), get_logPlaced _ _ _ (by decide), State.flag]
  · rw [hu, logThresh_keeps (g := State.logRing) (fun _ => rfl) (fun _ _ => rfl), logRing_logPlaced]
    exact congrArg (tset · _ _) (logRoom_keeps (g := State.logRing) (fun _ => rfl) (fun _ _ => rfl) (fun _ _ _ _ => rfl) s)
  · rw [hu, State.flag, get_logThresh _ _ (by decide), get_logPlaced _ _ _ (by decide), get_logRoom_frozen, State.flag]

/-- The record that freezes the log does so once it is written. -/
theorem logDrain_cons {kind flags time : Nat} {body : List Word} {freeze : Bool} {rest : List (Nat × Nat × Nat × List Word × Bool)}
    (h : s.logQ = (kind, flags, time, body, freeze) :: rest) (hopen : s.flag .LOG_STATUS_FROZEN = false) :
    s.logDrain = (({ s with logQ := rest } : State).logStore kind flags time body).when freeze fun s => s.logFreeze false := by
  simp only [State.logDrain, h]
  exact if_neg (by rw [show ({ s with logQ := rest } : State).flag .LOG_STATUS_FROZEN = false from hopen]; decide)

theorem logDrain_frozen {kind flags time : Nat} {body : List Word} {freeze : Bool} {rest : List (Nat × Nat × Nat × List Word × Bool)}
    (h : s.logQ = (kind, flags, time, body, freeze) :: rest) (hfrozen : s.flag .LOG_STATUS_FROZEN = true) :
    s.logDrain = ({ s with logQ := rest } : State).inc .LOG_DROPPED_COUNT := by
  simp only [State.logDrain, h]
  exact if_pos hfrozen

theorem get_drained (s : State) (freeze : Bool) {f : Fld} (h : f.apart .LOG_STATUS_FROZEN ∧ f.apart .LOG_STATUS_FREEZE_SW) :
    (s.when freeze fun s => s.logFreeze false).get f = s.get f :=
  when_keeps (fun s => s.get f) (f := fun s => s.logFreeze false) (fun s => get_logFreeze s false h) s freeze

/-! The access window (R382). -/

/-- A word of the record that the window shows. -/
def State.logWord (s : State) (j : Nat) : Word := nth (tget [] s.logRing (s.get .LOG_ACC_IDX_INDEX)) j 0

/-- The eight words of the record, in their places. -/
def State.logShown (s : State) : State := s.each (List.range 8) fun u j => u.wr .LOG_ACC_DATA j (s.logWord j)

theorem onlyReg_wr (s : State) (r : Reg) (i : Nat) (w : Word) : OnlyReg r i s (s.wr r i w) :=
  ⟨rfl, fun _ _ h => rd_wr_other s w h⟩

theorem rd_logShown (s : State) (r : Reg) (j : Nat) :
    s.logShown.rd r j = if r = .LOG_ACC_DATA ∧ j ∈ List.range 8 then s.logWord j else s.rd r j := by
  refine (rd_each_own (r := .LOG_ACC_DATA) (f := fun u j => u.wr .LOG_ACC_DATA j (s.logWord j)) (fun u c => onlyReg_wr u _ c _)
    (fun u v c _ => (rd_wr_same _ _ c _).trans (rd_wr_same _ _ c _).symm) (List.range 8) List.nodup_range s r j).trans ?_
  rw [rd_wr_same]

theorem rest_logShown (s : State) : s.logShown = { s with regs := s.logShown.regs } :=
  rest_each_own (r := .LOG_ACC_DATA) (fun u c => onlyReg_wr u _ c _) (List.range 8) s

theorem logAccReady_good (h : s.eccOf 0xD (s.get .LOG_ACC_IDX_INDEX) .ok ≠ .uncorr) :
    s.logAccReady = s.logShown.put .LOG_ACC_IDX_READY 0 1 := by
  have hbad : (s.eccOf 0xD (s.get .LOG_ACC_IDX_INDEX) .ok == .uncorr) = false := beq_eq_false_iff_ne.2 h
  simp only [State.logAccReady, hbad, Bool.false_eq_true, if_false]
  rfl

theorem outside_rest {u : State} (h : u = { s with regs := u.regs }) : s.outside u = { s with regs := (s.outside u).regs } :=
  congrArg s.outside h

/-- What the window shows once its record is there. -/
theorem logShown_ready (s : State) :
    let u := s.logShown.put .LOG_ACC_IDX_READY 0 1
    u.flag .LOG_ACC_IDX_READY = true ∧ (∀ j, j < 8 → u.rd .LOG_ACC_DATA j = s.logWord j) ∧ u = { s with regs := u.regs } ∧
      ∀ r i, r ≠ .LOG_ACC_IDX → r ≠ .LOG_ACC_DATA → u.rd r i = s.rd r i := by
  intro u
  refine ⟨flag_put_one s.logShown _ (by decide) 0, fun j hj => ?_, ?_, fun r i hr hr' => ?_⟩
  · exact (rd_put_reg s.logShown (by decide) 0 j 1).trans ((rd_logShown s _ j).trans (if_pos ⟨rfl, List.mem_range.2 hj⟩))
  · exact congrArg (fun v : State => { v with regs := u.regs }) (rest_logShown s)
  · exact (rd_put_reg s.logShown hr 0 i 1).trans ((rd_logShown s r i).trans (if_neg fun hc => hr' hc.1))

theorem exec_logRecordWrite (hup : s.aonUp = true) : exec .logRecordWrite s = s.become s.logDrain := runAon_up _ hup

theorem exec_logAccessReady (hup : s.aonUp = true) :
    exec .logAccessReady s = s.become (if s.flag .LOG_ACC_IDX_READY then s else s.logAccReady) :=
  runAon_up (fun s => if s.flag .LOG_ACC_IDX_READY then s else s.logAccReady) hup

theorem exec_logAccessReady_good (hup : s.aonUp = true) (h : s.flag .LOG_ACC_IDX_READY = false)
    (hecc : s.eccOf 0xD (s.get .LOG_ACC_IDX_INDEX) .ok ≠ .uncorr) :
    exec .logAccessReady s = s.become (s.logShown.put .LOG_ACC_IDX_READY 0 1) := by
  rw [exec_logAccessReady hup, h, if_neg Bool.noConfusion, logAccReady_good hecc]

theorem exec_logFreeze (hup : s.aonUp = true) : exec .logFreeze s = s.become (s.logFreeze true) :=
  runAon_up (fun s => s.logFreeze true) hup

theorem exec_logUnfreeze (hup : s.aonUp = true) : exec .logUnfreeze s = s.become s.logUnfreeze := runAon_up _ hup

theorem exec_logAccIdxWrite (hup : s.aonUp = true) (w : Word) : exec (.logAccIdxWrite w) s = s.become (s.logAccWrite w) :=
  runAon_up (fun s => s.logAccWrite w) hup

theorem logUnfreeze_shows (s : State) :
    s.logUnfreeze.flag .LOG_STATUS_FROZEN = false ∧ s.logUnfreeze.flag .LOG_STATUS_FREEZE_SW = false :=
  ⟨(flag_put_bits (s.put .LOG_STATUS_FROZEN 0 0) (by decide) 0 0 0).trans (flag_put_zero s _ (by decide) 0),
    flag_put_zero (s.put .LOG_STATUS_FROZEN 0 0) _ (by decide) 0⟩

theorem logAccWrite_shows (s : State) (w : Word) :
    (s.logAccWrite w).get .LOG_ACC_IDX_INDEX = wbits w 14 0 ∧ (s.logAccWrite w).flag .LOG_ACC_IDX_READY = false :=
  ⟨(get_put_bits (s.put .LOG_ACC_IDX_INDEX 0 (wbits w 14 0)) (by decide) 0 0 0).trans ((get_put_same s _ (by decide) 0 _).trans
      (Nat.mod_eq_of_lt (wbits_lt w 14 0))),
    flag_put_zero (s.put .LOG_ACC_IDX_INDEX 0 (wbits w 14 0)) _ (by decide) 0⟩

/-- Settles O50: a record by the frozen log and by the full one, the freeze, and the access window. -/
theorem logKeepsItsRingAndFreezes : Obligations.LogKeepsItsRingAndFreezes := by
  intro w s hup wr full k
  refine ⟨fun h => ?_, fun kind flags time body freeze rest h => ⟨fun hfrozen => ?_, fun hopen _ => ?_⟩, ?_, ?_, ?_, fun h => ?_,
    fun h hecc => ?_⟩
  · exact (exec_logRecordWrite hup).trans (congrArg s.become (by simp only [State.logDrain, h]))
  · exact (exec_logRecordWrite hup).trans (congrArg s.become (logDrain_frozen h hfrozen))
  · obtain ⟨hq, hwr, hrd, hover, hring, hfree⟩ := logStore_shows ({ s with logQ := rest } : State) kind flags time body
    obtain ⟨hroom, hrun⟩ := logRoom_shows ({ s with logQ := rest } : State)
    have hring' (freeze : Bool) := (when_keeps State.logRing (f := fun s => s.logFreeze false)
      (fun s => logFreeze_keeps (g := State.logRing) (fun _ => rfl) (fun _ _ _ _ => rfl) _ s) _ freeze).trans hring
    refine ⟨_, (exec_logRecordWrite hup).trans (congrArg s.become (logDrain_cons h hopen)), ?_, ?_, ?_, fun hf => ?_, fun hf => ?_, ?_,
      fun j hj => ?_, ?_⟩
    · exact (when_keeps State.logQ (f := fun s => s.logFreeze false)
        (fun s => logFreeze_keeps (g := State.logQ) (fun _ => rfl) (fun _ _ _ _ => rfl) _ s) _ freeze).trans hq
    · exact (get_drained _ freeze (by decide)).trans hwr
    · exact (get_drained _ freeze (by decide)).trans (hrd.trans hroom)
    · refine (congrArg (· != 0) (get_drained _ freeze (f := .LOG_STATUS_OVERRUN) (by decide))).trans (hover.trans (hrun.trans ?_))
      exact Bool.or_eq_true_iff.2 (.inl (decide_eq_true hf))
    · refine (congrArg (· != 0) (get_drained _ freeze (f := .LOG_STATUS_OVERRUN) (by decide))).trans (hover.trans (hrun.trans ?_))
      exact congrArg (· || s.flag .LOG_STATUS_OVERRUN) (decide_eq_false hf)
    · exact (congrArg (fun l => tget [] l (wr % 32768)) (hring' freeze)).trans (tget_tset_some [] _ _ _)
    · exact (congrArg (fun l => tget [] l j) (hring' freeze)).trans (tget_tset_apart [] _ _ hj)
    · cases freeze
      · exact hfree.trans hopen
      · exact frozen_logFreeze _ false
  · exact ⟨_, exec_logFreeze hup, frozen_logFreeze s true, logFreeze_keeps (g := State.logQ) (fun _ => rfl) (fun _ _ _ _ => rfl) true s,
      logFreeze_keeps (g := State.logRing) (fun _ => rfl) (fun _ _ _ _ => rfl) true s,
      fun h => congrArg s.outside (show s.logFreeze true = s from if_pos h)⟩
  · have honly : OnlyReg .LOG_STATUS 0 s s.logUnfreeze := ((OnlyReg.refl _ _ s).put .LOG_STATUS_FROZEN rfl 0).put .LOG_STATUS_FREEZE_SW rfl 0
    obtain ⟨hfrozen, hsw⟩ := logUnfreeze_shows s
    exact ⟨_, exec_logUnfreeze hup, hfrozen, hsw, congrArg Fld.LOG_WR_IDX_IDX.of (honly.rd_ne (by decide) 0), rfl,
      fun r i hr => honly.rd_ne hr i⟩
  · have honly : OnlyReg .LOG_ACC_IDX 0 s (s.logAccWrite w) :=
      ((OnlyReg.refl _ _ s).put .LOG_ACC_IDX_INDEX rfl _).put .LOG_ACC_IDX_READY rfl 0
    obtain ⟨hindex, hready⟩ := logAccWrite_shows s w
    exact ⟨_, exec_logAccIdxWrite hup w, hindex, hready, rfl, fun r i hr => honly.rd_ne hr i⟩
  · exact (exec_logAccessReady hup).trans (congrArg s.become (if_pos h))
  · obtain ⟨hready, hdata, hrest, hrd⟩ := logShown_ready s
    exact ⟨_, exec_logAccessReady_good hup h hecc, (outside_flag s _ _ 0).trans hready,
      fun j hj => (outside_rd s _ _ j).trans (hdata j hj), outside_rest hrest,
      fun r i hr hr' => (outside_rd s _ r i).trans (hrd r i hr hr')⟩

end Sys2Proof.Machine
end

section
/-! Activity credits: how they are run within an epoch, and what an epoch's boundary grants (R388 to R390, R393, R399). -/
namespace Sys2Proof.Machine

variable {s : State}

/-! The credits of an epoch are spread over its cycles (R390). -/

theorem creditRuns_mul_div {g : Nat} (h : g ≤ 1500) (n : Nat) : ((List.range n).filter (creditRuns g)).length = n * g / 1500 := by
  induction n with
  | zero => simp
  | succ n ih =>
    have hstep : (n + 1) * g = n * g + g := Nat.succ_mul n g
    rw [List.range_succ, List.filter_append, List.length_append, ih]
    by_cases hrun : n * g / 1500 < (n + 1) * g / 1500
    · rw [List.filter_singleton, show creditRuns g n = true from decide_eq_true hrun]
      simp only [cond_true, List.length_singleton]
      omega
    · rw [List.filter_singleton, show creditRuns g n = false from decide_eq_false hrun]
      simp only [cond_false, List.length_nil]
      omega

theorem creditRuns_exactly {g : Nat} (h : g ≤ 1500) : ((List.range 1500).filter (creditRuns g)).length = g := by
  rw [creditRuns_mul_div h, Nat.mul_div_cancel_left g (by decide)]

/-! The grants of stage 2 (R389). -/

/-- One engine's share in a pass: no more than it may still take, and no more than is left. -/
def creditStep (maxOf : Nat → Nat) (share : Nat) (x : Nat × List (Nat × Nat)) (e : Nat) : Nat × List (Nat × Nat) :=
  (x.1 - min (min share (maxOf e - tget 0 x.2 e)) x.1,
    tput 0 x.2 e (tget 0 x.2 e + min (min share (maxOf e - tget 0 x.2 e)) x.1))

theorem creditPass_eq (maxOf : Nat → Nat) (share : Nat) (l : List Nat) (x : Nat × List (Nat × Nat)) :
    creditPass maxOf share l x = l.foldl (creditStep maxOf share) x := rfl

/-- Credits left, and grants made of them, as stage 2 keeps them: no more than an engine's MAX, at least its floor, to engines with
work only, and of one pool. -/
structure CreditsHeld (req : List Nat) (floor maxOf : Nat → Nat) (pool : Nat) (x : Nat × List (Nat × Nat)) : Prop where
  within (e : Nat) : tget 0 x.2 e ≤ maxOf e
  least {e : Nat} (h : e ∈ req) : floor e ≤ tget 0 x.2 e
  idle {e : Nat} (h : e ∉ req) : tget 0 x.2 e = 0
  total : x.1 + ((List.range 5).map (tget 0 x.2)).sum = pool

theorem sum_range_tput (m : List (Nat × Nat)) (e v n : Nat) :
    ((List.range n).map (tget 0 (tput 0 m e v))).sum + (if e < n then tget 0 m e else 0) =
      ((List.range n).map (tget 0 m)).sum + (if e < n then v else 0) := by
  induction n with
  | zero => simp
  | succ n ih =>
    simp only [List.range_succ, List.map_append, List.map_cons, List.map_nil, List.sum_append, List.sum_singleton]
    rcases Nat.lt_trichotomy e n with h | rfl | h
    · rw [if_pos h, if_pos h] at ih
      rw [if_pos (by omega), if_pos (by omega), tget_tput_other 0 m e n v (by omega)]
      omega
    · rw [if_neg (by omega), if_neg (by omega)] at ih
      rw [if_pos (by omega), if_pos (by omega), tget_tput_same]
      omega
    · rw [if_neg (by omega), if_neg (by omega)] at ih
      rw [if_neg (by omega), if_neg (by omega), tget_tput_other 0 m e n v (by omega)]
      omega

section
variable {req : List Nat} {floor maxOf : Nat → Nat} {pool : Nat} {x : Nat × List (Nat × Nat)}

theorem CreditsHeld.step (h : CreditsHeld req floor maxOf pool x) (share : Nat) {e : Nat} (he : e ∈ req) (h5 : e < 5) :
    CreditsHeld req floor maxOf pool (creditStep maxOf share x e) := by
  obtain ⟨hwithin, hleast, hidle, htotal⟩ := h
  have hmax := hwithin e
  refine ⟨fun k => ?_, fun {k} hk => ?_, fun {k} hk => ?_, ?_⟩
  · simp only [creditStep, tget_tput]
    split
    · rename_i hek; subst hek; omega
    · exact hwithin k
  · have := hleast hk
    simp only [creditStep, tget_tput]
    split
    · rename_i hek; subst hek; omega
    · exact this
  · exact (tget_tput_other 0 x.2 e k _ fun hc => hk (hc ▸ he)).trans (hidle hk)
  · have hsum := sum_range_tput x.2 e (tget 0 x.2 e + min (min share (maxOf e - tget 0 x.2 e)) x.1) 5
    rw [if_pos h5, if_pos h5] at hsum
    simp only [creditStep]
    omega

theorem CreditsHeld.pass (h : CreditsHeld req floor maxOf pool x) (share : Nat) {l : List Nat} (hl : ∀ e ∈ l, e ∈ req ∧ e < 5) :
    CreditsHeld req floor maxOf pool (creditPass maxOf share l x) := by
  rw [creditPass_eq]
  induction l generalizing x with
  | nil => exact h
  | cons e l ih =>
    obtain ⟨he, h5⟩ := hl e List.mem_cons_self
    exact ih (h.step share he h5) fun k hk => hl k (List.mem_cons_of_mem e hk)

theorem CreditsHeld.prio (k : Nat) {l : List Nat} (hl : ∀ e ∈ l, e ∈ req ∧ e < 5) (h : CreditsHeld req floor maxOf pool x) :
    CreditsHeld req floor maxOf pool (creditPrio maxOf k l x) := by
  induction k generalizing l x with
  | zero => exact h
  | succ k ih =>
    have hsub : ∀ e ∈ l.filter fun e => decide (tget 0 x.2 e < maxOf e), e ∈ req ∧ e < 5 := fun e he => hl e (List.mem_of_mem_filter he)
    unfold creditPrio
    dsimp only
    split
    · exact h
    · exact ih hsub (h.pass _ hsub)

/-- Each priority's turn keeps them. -/
theorem CreditsHeld.prios (hreq : ∀ e ∈ req, e < 5) (prioOf : Nat → Nat) (ps : List Nat) (h : CreditsHeld req floor maxOf pool x) :
    CreditsHeld req floor maxOf pool (ps.foldl (fun x p => creditPrio maxOf 7 (req.filter fun e => prioOf e == p) x) x) := by
  induction ps generalizing x with
  | nil => exact h
  | cons p ps ih => exact ih (h.prio 7 fun e he => ⟨List.mem_of_mem_filter he, hreq e (List.mem_of_mem_filter he)⟩)

end

/-! The floors of stage 1. -/

/-- The floors granted to the engines `l`, over the grants `m`. -/
def floorsPut (floor : Nat → Nat) (l : List Nat) (m : List (Nat × Nat)) : List (Nat × Nat) := l.foldl (fun m e => tput 0 m e (floor e)) m

theorem tget_floorsPut (floor : Nat → Nat) (l : List Nat) (m : List (Nat × Nat)) (e : Nat) :
    tget 0 (floorsPut floor l m) e = if e ∈ l then floor e else tget 0 m e := by
  induction l generalizing m with
  | nil => simp [floorsPut]
  | cons a l ih =>
    refine (ih (tput 0 m a (floor a))).trans ?_
    rw [tget_tput]
    by_cases hl : e ∈ l
    · simp [hl]
    · by_cases ha : e = a <;> simp [hl, ha]

theorem sum_filter_eq (f : Nat → Nat) (p : Nat → Bool) (l : List Nat) :
    (l.map fun e => if p e then f e else 0).sum = ((l.filter p).map f).sum := by
  induction l with
  | nil => rfl
  | cons a l ih => cases h : p a <;> simp [h, ih]

theorem floorGrant_le (s : State) (e : Nat) : s.floorGrant e ≤ s.get .PWR_ENG_CFG_MAX e := Nat.min_le_right _ _

/-- The engines with work pending. -/
def State.requesting (s : State) : List Nat := (List.range 5).filter s.hasWork

/-- The pool that the grants of an epoch are made of: POOL, or the floors where they take more. -/
def State.creditPool (s : State) : Nat :=
  s.get .PWR_POOL_POOL - (s.requesting.map s.floorGrant).sum + (s.requesting.map s.floorGrant).sum

theorem floors_held (s : State) : CreditsHeld s.requesting s.floorGrant (fun e => s.get .PWR_ENG_CFG_MAX e) s.creditPool
    (s.get .PWR_POOL_POOL - (s.requesting.map s.floorGrant).sum, floorsPut s.floorGrant s.requesting []) := by
  refine ⟨fun e => ?_, fun h => ?_, fun h => ?_, congrArg (_ + ·) ?_⟩
  · rw [tget_floorsPut]
    split
    · exact floorGrant_le s e
    · exact Nat.zero_le _
  · rw [tget_floorsPut, if_pos h]
  · rw [tget_floorsPut, if_neg h, tget_nil]
  · rw [State.requesting, ← sum_filter_eq]
    refine congrArg List.sum (List.map_congr_left fun e he => ?_)
    rw [tget_floorsPut, tget_nil]
    exact if_congr (by simp [List.mem_range.1 he]) rfl rfl

/-- What stage 2 leaves. -/
def State.creditsGiven (s : State) : Nat × List (Nat × Nat) :=
  [3, 2, 1, 0].foldl (fun x p => creditPrio (fun e => s.get .PWR_ENG_CFG_MAX e) 7 (s.requesting.filter fun e => s.get .PWR_ENG_CFG_PRIO e == p) x)
    (s.get .PWR_POOL_POOL - (s.requesting.map s.floorGrant).sum, floorsPut s.floorGrant s.requesting [])

theorem creditsGiven_held (s : State) :
    CreditsHeld s.requesting s.floorGrant (fun e => s.get .PWR_ENG_CFG_MAX e) s.creditPool s.creditsGiven :=
  (floors_held s).prios (fun _ he => List.mem_range.1 (List.mem_of_mem_filter he)) (fun e => s.get .PWR_ENG_CFG_PRIO e) _

theorem epochGrants_emergency (h : s.flag .PWR_STATUS_EMERG = true) : s.epochGrants = (List.range 5).map s.floorGrant := if_pos h

theorem epochGrants_normal (h : s.flag .PWR_STATUS_EMERG = false) :
    s.epochGrants = (List.range 5).map (tget 0 s.creditsGiven.2) := if_neg (by rw [h]; exact Bool.noConfusion)

theorem nth_map_range (f : Nat → Nat) {e n : Nat} (h : e < n) : nth ((List.range n).map f) e 0 = f e := by
  simp [nth, h]

/-! The boundary of an epoch (R388, R389, R399). -/

/-- Engine `e` shows the credits that it was granted in state `o`, and used. -/
def State.creditsShown (o s : State) (e : Nat) : State :=
  (s.put .PWR_ENG_STATUS_GRANT e (o.grantOf e)).put .PWR_ENG_STATUS_USED e (min (tget 0 o.spent e) (o.grantOf e))

/-- The engines show the credits of the epoch that ends. -/
def State.epochShown (s : State) : State := s.each (List.range 5) s.creditsShown

theorem onlyReg_creditsShown (o s : State) (e : Nat) : OnlyReg .PWR_ENG_STATUS e s (o.creditsShown s e) :=
  ((OnlyReg.refl _ _ s).put .PWR_ENG_STATUS_GRANT rfl _).put .PWR_ENG_STATUS_USED rfl _

/-- Steps that agree where `P` holds, and keep it, agree over a list. -/
theorem each_congr {α : Type} {P : State → Prop} {f f' : State → α → State} (hkeep : ∀ u a, P u → P (f' u a))
    (heq : ∀ u a, P u → f u a = f' u a) (l : List α) (u : State) (hu : P u) : u.each l f = u.each l f' := by
  induction l generalizing u with
  | nil => rfl
  | cons a l ih =>
    rw [each_cons, each_cons, heq u a hu]
    exact ih _ (hkeep u a hu)

theorem rd_of_regs {t u : State} (h : u.regs = t.regs) (r : Reg) (i : Nat) : u.rd r i = t.rd r i :=
  congrArg (fun m => (tfind m (regKey r i)).getD (regReset r i)) h

theorem grants_creditsShown (o s : State) (e : Nat) : (o.creditsShown s e).grants = s.grants := rfl

theorem spent_creditsShown (o s : State) (e : Nat) : (o.creditsShown s e).spent = s.spent := rfl

theorem epochGrant_eq (s : State) :
    s.epochGrant = { s.epochShown with grants := s.epochGrants, epochAt := s.now, spent := [] } := by
  have hone (u : State) (e : Nat) (h : u.grants = s.grants ∧ u.spent = s.spent) : u.creditsShown u e = s.creditsShown u e := by
    simp only [State.creditsShown, State.grantOf, h.1, h.2]
  have hshown : s.each (List.range 5) (fun u e => u.creditsShown u e) = s.epochShown :=
    each_congr (P := fun u => u.grants = s.grants ∧ u.spent = s.spent)
      (fun u e h => ⟨(grants_creditsShown s u e).trans h.1, (spent_creditsShown s u e).trans h.2⟩) hone _ s ⟨rfl, rfl⟩
  exact congrArg (fun u : State => { u with grants := s.epochGrants, epochAt := s.now, spent := [] }) hshown

theorem rd_epochShown (s : State) (r : Reg) (i : Nat) :
    s.epochShown.rd r i = if r = .PWR_ENG_STATUS ∧ i ∈ List.range 5 then (s.creditsShown s i).rd r i else s.rd r i := by
  refine (rd_each_own (onlyReg_creditsShown s) (fun u v c h => ?_) (List.range 5) List.nodup_range s r i).trans ?_
  · have hrd : v.rd .PWR_ENG_STATUS c = u.rd .PWR_ENG_STATUS c := h _ c fun hc => hc.2 rfl
    exact rd_put_congr (f := .PWR_ENG_STATUS_USED) (rd_put_congr (f := .PWR_ENG_STATUS_GRANT) hrd hrd _)
      (rd_put_congr (f := .PWR_ENG_STATUS_GRANT) hrd hrd _) _
  · split
    · rename_i h; rw [h.1]
    · rfl

theorem rest_epochShown (s : State) : s.epochShown = { s with regs := s.epochShown.regs } := rest_each_own (onlyReg_creditsShown s) _ s

theorem creditsShown_shows (s : State) {e : Nat} (h : s.grantOf e ≤ 1500) :
    (s.creditsShown s e).get .PWR_ENG_STATUS_GRANT e = s.grantOf e ∧
      (s.creditsShown s e).get .PWR_ENG_STATUS_USED e = min (tget 0 s.spent e) (s.grantOf e) := by
  constructor
  · refine (get_put_bits (s.put .PWR_ENG_STATUS_GRANT e (s.grantOf e)) (by decide) e e _).trans ((get_put_same s _ (by decide) e _).trans ?_)
    exact Nat.mod_eq_of_lt (show s.grantOf e < 2048 by omega)
  · refine (get_put_same (s.put .PWR_ENG_STATUS_GRANT e (s.grantOf e)) _ (by decide) e _).trans ?_
    exact Nat.mod_eq_of_lt (show min (tget 0 s.spent e) (s.grantOf e) < 2048 by omega)

/-- The state that an epoch's boundary leaves. -/
def State.epochBegun (s : State) : State := { s with regs := s.epochShown.regs, grants := s.epochGrants, epochAt := s.now, spent := [] }

theorem rd_epochBegun (s : State) (r : Reg) (i : Nat) : s.epochBegun.rd r i = s.epochShown.rd r i :=
  rd_of_regs (t := s.epochShown) (u := s.epochBegun) rfl r i

theorem exec_epochGrant (hup : s.up 16 = true) : exec .epochGrant s = .next s.epochBegun := by
  refine (run_up _ hup).trans (congrArg Host.Outcome.next ?_)
  rw [epochGrant_eq]
  exact congrArg (fun u : State => s.outside { u with grants := s.epochGrants, epochAt := s.now, spent := [] }) (rest_epochShown s)

/-- Settles O51: the credits' cycles, then the boundary's grants in an emergency and by stages, and what it shows. -/
theorem epochGrantsStayWithinThePool : Obligations.EpochGrantsStayWithinThePool := by
  refine ⟨fun g hg => creditRuns_exactly hg, fun s hup => ?_⟩
  intro g emerg floors
  obtain ⟨hwithin, hleast, hidle, htotal⟩ := creditsGiven_held s
  have hlen : s.epochGrants.length = 5 := by
    unfold State.epochGrants
    split <;> exact (List.length_map _).trans List.length_range
  have hrd (r : Reg) (i : Nat) := (rd_epochBegun s r i).trans (rd_epochShown s r i)
  refine ⟨_, exec_epochGrant hup, hlen, rfl, rfl, fun e he => ?_, fun hem hfloors => ?_, fun e he hg => ?_, rfl, fun r i hr => ?_⟩
  · cases hem : s.flag .PWR_STATUS_EMERG
    · have hgrant : nth s.epochGrants e 0 = tget 0 s.creditsGiven.2 e := by rw [epochGrants_normal hem, nth_map_range _ he]
      have hwork : e ∈ s.requesting ↔ s.hasWork e = true := by simp [State.requesting, he]
      refine ⟨hgrant.trans_le (hwithin e), fun h => absurd (hem.symm.trans h) Bool.noConfusion, fun _ h => hgrant.trans (hidle ?_),
        fun _ h => (hleast (hwork.2 h)).trans_eq hgrant.symm⟩
      rw [hwork, h]
      exact Bool.noConfusion
    · have hgrant : nth s.epochGrants e 0 = s.floorGrant e := by rw [epochGrants_emergency hem, nth_map_range _ he]
      exact ⟨hgrant.trans_le (floorGrant_le s e), fun _ => hgrant, fun h => absurd (hem.symm.trans h) Bool.noConfusion,
        fun h => absurd (hem.symm.trans h) Bool.noConfusion⟩
  · have hpool : s.creditPool = s.get .PWR_POOL_POOL := Nat.sub_add_cancel hfloors
    have hsum : s.epochGrants.sum ≤ s.get .PWR_POOL_POOL := by rw [epochGrants_normal hem]; omega
    exact hsum
  · obtain ⟨hgrant, hused⟩ := creditsShown_shows s hg
    have hshown : s.epochBegun.rd .PWR_ENG_STATUS e = (s.creditsShown s e).rd .PWR_ENG_STATUS e :=
      (hrd _ e).trans (if_pos ⟨rfl, List.mem_range.2 he⟩)
    exact ⟨(congrArg Fld.PWR_ENG_STATUS_GRANT.of hshown).trans hgrant, (congrArg Fld.PWR_ENG_STATUS_USED.of hshown).trans hused⟩
  · exact (hrd r i).trans (if_neg fun hc => hr hc.1)

end Sys2Proof.Machine
end

section
/-! The voltage loop: one step of REQ at a time, and the emergency (R392, R393). -/
namespace Sys2Proof.Machine

variable {s : State} {β : Type} {g : State → β}

/-! Steps of REQ (R392). -/

/-- REQ one step towards more margin, to at most TRIM_MAX. -/
def State.trimRisen (s : State) : Int := if s.trim < signed8 (s.get .PWR_AVS_CFG_TRIM_MAX) then s.trim + 1 else s.trim

/-- REQ one step towards less, to at least TRIM_MIN. -/
def State.trimFallen (s : State) : Int := if signed8 (s.get .PWR_AVS_CFG_TRIM_MIN) < s.trim then s.trim - 1 else s.trim

theorem signed8_range {n : Nat} (h : n < 256) : -128 ≤ signed8 n ∧ signed8 n ≤ 127 := by
  unfold signed8
  split <;> omega

theorem signed8_mod {v : Int} (hlo : -128 ≤ v) (hhi : v ≤ 127) : signed8 ((v % 256).toNat % 256) = v := by
  unfold signed8
  split <;> omega

/-- `g` does not look at REQ, at the event of its change or at Belfry's bits. -/
structure BesideTrim (g : State → β) : Prop where
  bel : ∀ s, g s.besideBel = g s
  put : ∀ s f v, f ∈ [Fld.PWR_AVS_STATUS_REQ, .PWR_STATUS_REQ_CHG] → g (State.put s f 0 v) = g s

theorem besideTrim_get {f : Fld} (h : f.apart .PWR_AVS_STATUS_REQ ∧ f.apart .PWR_STATUS_REQ_CHG) (i : Nat) : BesideTrim fun s => s.get f i := by
  refine ⟨fun _ => rfl, fun s p v hp => get_put_apart s ?_ 0 v i⟩
  simp only [List.mem_cons, List.not_mem_nil, or_false] at hp
  rcases hp with rfl | rfl
  · exact h.1
  · exact h.2

theorem setTrim_keeps (h : BesideTrim g) (s : State) (v : Int) : g (s.setTrim v) = g s :=
  ite_keeps g rfl ((pulse_keeps h.bel _ _).trans ((h.put _ _ 1 (by decide)).trans (h.put s _ _ (by decide))))

theorem trimUp_keeps (h : BesideTrim g) (s : State) : g s.trimUp = g s := ite_keeps g (setTrim_keeps h s _) rfl

theorem trimDown_keeps (h : BesideTrim g) (s : State) : g s.trimDown = g s := ite_keeps g (setTrim_keeps h s _) rfl

theorem trim_of_get {t : State} (h : t.get .PWR_AVS_STATUS_REQ = s.get .PWR_AVS_STATUS_REQ) : t.trim = s.trim := congrArg signed8 h

theorem trim_setTrim (s : State) {v : Int} (hlo : -128 ≤ v) (hhi : v ≤ 127) : (s.setTrim v).trim = v := by
  unfold State.setTrim
  split
  · rename_i h; exact h.symm
  · refine (trim_of_get (s := s.put .PWR_AVS_STATUS_REQ 0 (v % 256).toNat) ((get_pulse _ _ _ 0).trans (get_put_reg _ (by decide) 0 0 1))).trans ?_
    exact (congrArg signed8 (get_put_same s _ (by decide) 0 _)).trans (signed8_mod hlo hhi)

theorem trim_range (s : State) : -128 ≤ s.trim ∧ s.trim ≤ 127 := signed8_range (of_lt .PWR_AVS_STATUS_REQ _)

theorem trim_trimUp (s : State) : s.trimUp.trim = s.trimRisen := by
  have hmax := signed8_range (of_lt .PWR_AVS_CFG_TRIM_MAX (s.rd .PWR_AVS_CFG))
  obtain ⟨hlo, -⟩ := trim_range s
  unfold State.trimUp State.trimRisen
  split
  · rename_i h
    exact trim_setTrim s (by omega) (Int.le_trans (Int.add_one_le_of_lt h) hmax.2)
  · rfl

theorem trim_trimDown (s : State) : s.trimDown.trim = s.trimFallen := by
  have hmin := signed8_range (of_lt .PWR_AVS_CFG_TRIM_MIN (s.rd .PWR_AVS_CFG))
  obtain ⟨-, hhi⟩ := trim_range s
  unfold State.trimDown State.trimFallen
  split
  · rename_i h
    exact trim_setTrim s (Int.le_sub_one_of_lt (Int.lt_of_le_of_lt hmin.1 h)) (by omega)
  · rfl

/-! A period's end (R392, R393). -/

/-- The least margin of the period shown. -/
def State.marginShown (s : State) (m : Nat) : State := s.put .PWR_AVS_STATUS_MARGIN 0 (min (m % 256) s.avsMin)

/-- REQ of `t` after the period of `s`: one step by where the least margin `least` stands. -/
def State.trimStepped (s t : State) (least : Nat) : State :=
  if !s.flag .PWR_AVS_CFG_EN then t else if least < s.get .PWR_AVS_THR_LOW then t.trimUp
  else if s.get .PWR_AVS_THR_HIGH < least then t.trimDown else t

theorem trimStepped_keeps (h : BesideTrim g) (s t : State) (least : Nat) : g (s.trimStepped t least) = g t :=
  ite_keeps g rfl (ite_keeps g (trimUp_keeps h t) (ite_keeps g (trimDown_keeps h t) rfl))

/-- REQ as the period's step sets it. -/
def State.trimNext (s : State) (least : Nat) : Int :=
  if s.flag .PWR_AVS_CFG_EN = false then s.trim else if least < s.get .PWR_AVS_THR_LOW then s.trimRisen
  else if s.get .PWR_AVS_THR_HIGH < least then s.trimFallen else s.trim

/-- A state with the trim and its limits of another takes the same steps. -/
theorem trimSteps_congr {t : State} (hreq : t.get .PWR_AVS_STATUS_REQ = s.get .PWR_AVS_STATUS_REQ)
    (hmax : t.get .PWR_AVS_CFG_TRIM_MAX = s.get .PWR_AVS_CFG_TRIM_MAX) (hmin : t.get .PWR_AVS_CFG_TRIM_MIN = s.get .PWR_AVS_CFG_TRIM_MIN) :
    t.trim = s.trim ∧ t.trimUp.trim = s.trimRisen ∧ t.trimDown.trim = s.trimFallen := by
  have htrim : t.trim = s.trim := trim_of_get hreq
  refine ⟨htrim, (trim_trimUp t).trans ?_, (trim_trimDown t).trans ?_⟩
  · rw [State.trimRisen, State.trimRisen, htrim, hmax]
  · rw [State.trimFallen, State.trimFallen, htrim, hmin]

theorem trim_trimStepped (s : State) (m least : Nat) : (s.trimStepped (s.marginShown m) least).trim = s.trimNext least := by
  obtain ⟨hsame, hup, hdown⟩ := trimSteps_congr (t := s.marginShown m) (get_put_bits s (by decide) 0 0 _)
    (get_put_reg s (by decide) 0 0 _) (get_put_reg s (by decide) 0 0 _)
  unfold State.trimStepped State.trimNext
  cases s.flag .PWR_AVS_CFG_EN
  · exact hsame
  · simp only [Bool.not_true, Bool.false_eq_true, reduceCtorEq, if_false]
    split
    · exact hup
    · split
      · exact hdown
      · exact hsame

theorem trimNext_within (least : Nat) (hlo : signed8 (s.get .PWR_AVS_CFG_TRIM_MIN) ≤ s.trim) (hhi : s.trim ≤ signed8 (s.get .PWR_AVS_CFG_TRIM_MAX)) :
    signed8 (s.get .PWR_AVS_CFG_TRIM_MIN) ≤ s.trimNext least ∧ s.trimNext least ≤ signed8 (s.get .PWR_AVS_CFG_TRIM_MAX) := by
  unfold State.trimNext State.trimRisen State.trimFallen
  generalize signed8 (s.get .PWR_AVS_CFG_TRIM_MIN) = lo at *
  generalize signed8 (s.get .PWR_AVS_CFG_TRIM_MAX) = hi at *
  repeat' split
  all_goals omega

/-- Whether a period ends the emergency: one that began before it, with no sample below LOW. -/
def State.calmPeriod (s : State) (least : Nat) : Bool := !s.avsNew && decide (s.get .PWR_AVS_THR_LOW ≤ least)

/-- What a period's end leaves in the registers. -/
def State.periodShown (s : State) (m : Nat) : State :=
  (s.trimStepped (s.marginShown m) (min (m % 256) s.avsMin)).when
    (s.flag .PWR_STATUS_EMERG && !s.avsNew && decide (s.get .PWR_AVS_THR_LOW ≤ min (m % 256) s.avsMin)) fun u => u.put .PWR_STATUS_EMERG 0 0

theorem avsPeriod_eq (s : State) (m : Nat) : s.avsPeriod m = { s.periodShown m with avsHit := false, avsNew := false, avsMin := 255 } := rfl

theorem periodShown_shows (s : State) (m : Nat) :
    let least := min (m % 256) s.avsMin
    (s.periodShown m).get .PWR_AVS_STATUS_MARGIN = least ∧ (s.periodShown m).trim = s.trimNext least ∧
      (s.periodShown m).flag .PWR_STATUS_EMERG = (s.flag .PWR_STATUS_EMERG && !s.calmPeriod least) := by
  intro least
  refine ⟨?_, ?_, ?_⟩
  · refine (when_keeps (fun u => u.get .PWR_AVS_STATUS_MARGIN) (f := fun u => u.put .PWR_STATUS_EMERG 0 0)
      (fun u => get_put_reg u (by decide) 0 0 0) _ _).trans ((trimStepped_keeps (besideTrim_get (by decide) 0) s _ _).trans ?_)
    exact (get_put_same s _ (by decide) 0 _).trans (Nat.mod_eq_of_lt (show least < 256 by omega))
  · refine (congrArg signed8 ?_).trans (trim_trimStepped s m least)
    exact when_keeps (fun u => u.get .PWR_AVS_STATUS_REQ) (f := fun u => u.put .PWR_STATUS_EMERG 0 0)
      (fun u => get_put_reg u (by decide) 0 0 0) _ _
  · have hkeep : (s.trimStepped (s.marginShown m) least).flag .PWR_STATUS_EMERG = s.flag .PWR_STATUS_EMERG :=
      congrArg (· != 0) ((trimStepped_keeps (besideTrim_get (f := .PWR_STATUS_EMERG) (by decide) 0) s _ _).trans (get_put_reg s (by decide) 0 0 _))
    refine (flag_when_clear _ _ (by decide) 0 _).trans ?_
    rw [hkeep, Bool.and_assoc]
    exact (by decide : ∀ a b : Bool, (a && !(a && b)) = (a && !b)) _ _

/-! A sample below CRIT (R393). -/

/-- The sample taken: it is the period's least where it is below the others. -/
def State.sampleTaken (s : State) (m : Nat) : State := { s with avsMin := min s.avsMin m, avsHit := true }

/-- An emergency begins with the step that its sample asks for. -/
def State.emergencyBegun (s : State) : State := (s.trimUp.put .PWR_STATUS_EMERG 0 1).inc .PWR_AVS_EMERGS_COUNT

/-- What a sample below CRIT leaves. -/
def State.critSample (s : State) (m : Nat) : State :=
  if s.flag .PWR_STATUS_EMERG then (if s.avsHit then s.sampleTaken m else (s.sampleTaken m).trimUp)
  else
    let s1 := (s.sampleTaken m).emergencyBegun.pwrEvent .PWR_STATUS_EMERG_HIT
    { s1.record 0x1D 0 [word ((m % 256) <<< 8 ||| s1.get .PWR_AVS_STATUS_REQ)] with avsNew := true }

theorem avsSample_above {m : Nat} (h : s.get .PWR_AVS_THR_CRIT ≤ m) : s.avsSample m = s := if_pos h

theorem avsSample_below {m : Nat} (h : m < s.get .PWR_AVS_THR_CRIT) : s.avsSample m = s.critSample m := if_neg (Nat.not_le.2 h)

theorem get_emergencyCount (s : State) {f : Fld} (h : f.reg ≠ .PWR_AVS_EMERGS ∧ f.apart .PWR_STATUS_SAT) (i : Nat) :
    (s.inc .PWR_AVS_EMERGS_COUNT).get f i = s.get f i := by
  refine add_keeps (fun s => s.get f i) (fun _ => rfl) (fun s k w => ?_) ?_ s 0 1
  · exact congrArg f.of (rd_wr_other s w fun hc => h.1 hc.1)
  · rintro k ⟨rfl⟩ s v
    exact get_put_apart s h.2 0 v i

theorem get_pwrEvent (s : State) {f p : Fld} (h : f.apart p) (i : Nat) : (s.pwrEvent p).get f i = s.get f i :=
  (get_pulse _ _ _ _).trans (get_put_apart s h 0 1 i)

/-- The beginning of an emergency with its event. -/
def State.emergencyMarked (s : State) : State := s.emergencyBegun.pwrEvent .PWR_STATUS_EMERG_HIT

theorem emergencyMarked_shows (s : State) :
    s.emergencyMarked.flag .PWR_STATUS_EMERG = true ∧ s.emergencyMarked.flag .PWR_STATUS_EMERG_HIT = true ∧
      s.emergencyMarked.trim = s.trimRisen ∧
      s.emergencyMarked.get .PWR_AVS_EMERGS_COUNT = min (2 ^ 32 - 1) (s.get .PWR_AVS_EMERGS_COUNT + 1) := by
  refine ⟨?_, ?_, ?_, ?_⟩
  · exact (congrArg (· != 0) ((get_pwrEvent _ (f := .PWR_STATUS_EMERG) (by decide) 0).trans (get_emergencyCount _ (by decide) 0))).trans
      (flag_put_one s.trimUp _ (by decide) 0)
  · exact (flag_pulse _ _ _ 0).trans (flag_put_one _ _ (by decide) 0)
  · refine (congrArg signed8 ?_).trans (trim_trimUp s)
    exact (get_pwrEvent _ (by decide) 0).trans ((get_emergencyCount _ (by decide) 0).trans (get_put_reg _ (by decide) 0 0 1))
  · refine (get_pwrEvent _ (by decide) 0).trans ((get_add _ .PWR_AVS_EMERGS_COUNT (by decide) 0 1).trans ?_)
    refine congrArg (fun n => min (2 ^ 32 - 1) (n + 1)) ((get_put_reg s.trimUp (f := .PWR_STATUS_EMERG)
      (g := .PWR_AVS_EMERGS_COUNT) (by decide) 0 0 1).trans ?_)
    exact trimUp_keeps (besideTrim_get (by decide) 0) s

/-- The emergency's record, and its period marked as the one it began in. -/
def State.emergencyLogged (s : State) (l : List Word) : State := { s.record 0x1D 0 l with avsNew := true }

theorem get_emergencyLogged (s : State) (l : List Word) {f : Fld} (h : f.reg ≠ .LOG_DROPPED ∧ f.reg ≠ .LOG_STATUS) (i : Nat) :
    (s.emergencyLogged l).get f i = s.get f i :=
  (get_of_regs (u := s.emergencyLogged l) (s := s.record 0x1D 0 l) rfl f i).trans (congrArg f.of (rd_record s 0x1D 0 l false h.1 h.2 i))

theorem avsHit_emergencyLogged (s : State) (l : List Word) : (s.emergencyLogged l).avsHit = s.avsHit :=
  record_keeps State.avsHit (fun _ => rfl) (fun _ _ => rfl) (fun _ _ _ _ _ => rfl) s _ _ _ _

theorem avsHit_emergencyMarked (s : State) : s.emergencyMarked.avsHit = s.avsHit :=
  (pulse_keeps (g := State.avsHit) (fun _ => rfl) _ _).trans
    ((add_keeps State.avsHit (fun _ => rfl) (fun _ _ _ => rfl) (fun _ _ _ _ => rfl) _ 0 1).trans
      (trimUp_keeps (g := State.avsHit) ⟨fun _ => rfl, fun _ _ _ _ => rfl⟩ s))

/-- The words of the emergency's record. -/
def State.emergencyWords (s : State) (m : Nat) : List Word := [word ((m % 256) <<< 8 ||| s.get .PWR_AVS_STATUS_REQ)]

theorem critSample_begins (h : s.flag .PWR_STATUS_EMERG = false) (m : Nat) :
    s.critSample m = (s.sampleTaken m).emergencyMarked.emergencyLogged ((s.sampleTaken m).emergencyMarked.emergencyWords m) :=
  if_neg (by rw [h]; exact Bool.noConfusion)

theorem critSample_again (h : s.flag .PWR_STATUS_EMERG = true) (m : Nat) :
    s.critSample m = if s.avsHit then s.sampleTaken m else (s.sampleTaken m).trimUp := if_pos h

/-- What a sample below CRIT shows where it begins an emergency. -/
theorem critSample_begins_shows (h : s.flag .PWR_STATUS_EMERG = false) (m : Nat) :
    (s.critSample m).flag .PWR_STATUS_EMERG = true ∧ (s.critSample m).avsHit = true ∧ (s.critSample m).trim = s.trimRisen ∧
      (s.critSample m).get .PWR_AVS_EMERGS_COUNT = min (2 ^ 32 - 1) (s.get .PWR_AVS_EMERGS_COUNT + 1) ∧
      (s.critSample m).flag .PWR_STATUS_EMERG_HIT = true := by
  obtain ⟨hflag, hhit, htrim, hcount⟩ := emergencyMarked_shows (s.sampleTaken m)
  have hget {f : Fld} (h : f.reg ≠ .LOG_DROPPED ∧ f.reg ≠ .LOG_STATUS) := get_emergencyLogged (s.sampleTaken m).emergencyMarked
    ((s.sampleTaken m).emergencyMarked.emergencyWords m) h 0
  rw [critSample_begins h]
  refine ⟨?_, ?_, ?_, (hget (by decide)).trans hcount, ?_⟩
  · exact (congrArg (· != 0) (hget (f := .PWR_STATUS_EMERG) (by decide))).trans hflag
  · exact (avsHit_emergencyLogged _ _).trans (avsHit_emergencyMarked (s.sampleTaken m))
  · exact (congrArg signed8 (hget (f := .PWR_AVS_STATUS_REQ) (by decide))).trans htrim
  · exact (congrArg (· != 0) (hget (f := .PWR_STATUS_EMERG_HIT) (by decide))).trans hhit

/-- What a sample below CRIT shows in an emergency: one step for the first of its period. -/
theorem critSample_again_shows (h : s.flag .PWR_STATUS_EMERG = true) (m : Nat) :
    (s.critSample m).flag .PWR_STATUS_EMERG = true ∧ (s.critSample m).avsHit = true ∧
      (s.critSample m).trim = (if s.avsHit = true then s.trim else s.trimRisen) ∧
      (s.critSample m).get .PWR_AVS_EMERGS_COUNT = s.get .PWR_AVS_EMERGS_COUNT := by
  rw [critSample_again h]
  split
  · exact ⟨h, rfl, rfl, rfl⟩
  · have hkeep {f : Fld} (h : f.apart .PWR_AVS_STATUS_REQ ∧ f.apart .PWR_STATUS_REQ_CHG) :
      (s.sampleTaken m).trimUp.get f = s.get f := trimUp_keeps (besideTrim_get h 0) (s.sampleTaken m)
    exact ⟨(congrArg (· != 0) (hkeep (f := .PWR_STATUS_EMERG) (by decide))).trans h,
      trimUp_keeps (g := State.avsHit) ⟨fun _ => rfl, fun _ _ _ _ => rfl⟩ (s.sampleTaken m), trim_trimUp (s.sampleTaken m),
      hkeep (by decide)⟩

theorem exec_avsPeriod (hup : s.up 16 = true) (m : Nat) : exec (.avsPeriod m) s = s.become (s.avsPeriod m) :=
  run_up (fun s => s.avsPeriod m) hup

theorem exec_avsEmergency (hup : s.up 16 = true) (m : Nat) : exec (.avsEmergency m) s = s.become (s.avsSample m) :=
  run_up (fun s => s.avsSample m) hup

/-- Settles O52: a period's end, and a sample by the threshold and by the emergency. -/
theorem voltageLoopMovesOneStepWithinItsLimits : Obligations.VoltageLoopMovesOneStepWithinItsLimits := by
  intro m s hup least lo hi risen fallen emerg
  refine ⟨?_, fun h => ?_, fun h => ?_⟩
  · obtain ⟨hmargin, htrim, hemerg⟩ := periodShown_shows s m
    exact ⟨_, (exec_avsPeriod hup m).trans (congrArg s.become (avsPeriod_eq s m)), hmargin, rfl, rfl, htrim,
      fun hlo hhi => htrim ▸ trimNext_within least hlo hhi, hemerg⟩
  · exact (exec_avsEmergency hup m).trans (congrArg s.become (avsSample_above h))
  · refine ⟨_, (exec_avsEmergency hup m).trans (congrArg s.become (avsSample_below h)), ?_⟩
    cases hem : s.flag .PWR_STATUS_EMERG
    · obtain ⟨hflag, hhit, htrim, hcount, hevent⟩ := critSample_begins_shows hem m
      have hnot : ¬emerg = true := fun hc => Bool.noConfusion (hem.symm.trans hc)
      exact ⟨hflag, hhit, htrim.trans (if_neg fun hc => hnot hc.1).symm, hcount.trans (if_neg hnot).symm, fun _ => hevent⟩
    · obtain ⟨hflag, hhit, htrim, hcount⟩ := critSample_again_shows hem m
      exact ⟨hflag, hhit, htrim.trans (if_congr (and_iff_right (a := emerg = true) hem).symm rfl rfl), hcount.trans (if_pos hem).symm,
        fun hc => Bool.noConfusion (hem.symm.trans hc)⟩

end Sys2Proof.Machine
end

section
/-! Key slots, and what the close of a session leaves (R402, R403, R419). -/
namespace Sys2Proof.Machine

variable {s : State} {β : Type} {g : State → β} {k : Nat}

/-! What the close of a session moves. -/

/-- The registers that a session's close moves: its own, the two paths that it may have to end, and the log's. -/
def closeRegs : List Reg := [.SES_SESS, .SES_STATUS, .STI_STATUS, .KEEP_STATUS, .LOG_DROPPED, .LOG_STATUS]

/-- `g` does not look at what the close of a session moves. -/
structure BesideClose (g : State → β) : Prop where
  bel : ∀ s, g s.besideBel = g s
  queue : ∀ s l, g { s with logQ := l } = g s
  sti : ∀ s x, g { s with sti := x } = g s
  keep : ∀ s x, g { s with keep := x } = g s
  ses : ∀ s l, g { s with ses := l } = g s
  wr : ∀ s r i w, r ∈ closeRegs → g (State.wr s r i w) = g s

theorem besideClose_rd {r : Reg} (h : r ∉ closeRegs) (i : Nat) : BesideClose fun s => s.rd r i :=
  ⟨fun _ => rfl, fun _ _ => rfl, fun _ _ => rfl, fun _ _ => rfl, fun _ _ => rfl, fun s _ _ w hr => rd_wr_other s w fun hc => h (hc.1 ▸ hr)⟩

theorem besideClose_keys : BesideClose State.keys :=
  ⟨fun _ => rfl, fun _ _ => rfl, fun _ _ => rfl, fun _ _ => rfl, fun _ _ => rfl, fun _ _ _ _ _ => rfl⟩

namespace BesideClose

theorem put (h : BesideClose g) {f : Fld} (hf : f.reg ∈ closeRegs) (s : State) (i v : Nat) : g (s.put f i v) = g s := h.wr s _ i _ hf

theorem pulse (h : BesideClose g) (s : State) (k : Nat) : g (s.pulse k) = g s := pulse_keeps h.bel s k

theorem record (h : BesideClose g) (s : State) (kind flags : Nat) (body : List Word) (z : Bool) : g (s.record kind flags body z) = g s :=
  record_keeps g h.bel h.queue (fun s r i w hr => h.wr s r i w (by rcases hr with rfl | rfl <;> decide)) s kind flags body z

theorem sesEvent (h : BesideClose g) {f : Fld} (hf : f.reg ∈ closeRegs) (s : State) : g (s.sesEvent f) = g s :=
  (h.pulse _ _).trans (h.put hf s 0 1)

theorem stiStop (h : BesideClose g) (s : State) (who : Option Nat) : g (s.stiStop who) = g s :=
  ite_keeps g (h.put (f := .STI_STATUS_SEQ_ERR) (by decide) s 0 1)
    (ite_keeps g rfl ((h.sti _ _).trans (h.put (f := .STI_STATUS_STATE) (by decide) s 0 _)))

theorem keepFail (h : BesideClose g) (s : State) (code : Nat) : g (s.keepFail code) = g s :=
  (h.record _ _ _ _ _).trans ((h.pulse _ _).trans ((h.put (f := .KEEP_STATUS_FAIL) (by decide) _ 0 1).trans
    ((h.keep _ _).trans ((h.put (f := .KEEP_STATUS_ERR) (by decide) _ 0 _).trans (h.put (f := .KEEP_STATUS_STATE) (by decide) s 0 _)))))

theorem sesEnd (h : BesideClose g) (s : State) (i cause : Nat) : g (s.sesEnd i cause) = g s := by
  refine (h.sesEvent (f := .SES_STATUS_CLOSED) (by decide) _).trans ((h.ses _ _).trans
    ((h.put (f := .SES_SESS_STATE) (by decide) _ i _).trans ((h.record _ _ _ _ _).trans ?_)))
  exact (when_keeps g (f := fun s => s.keepFail 0x0D) (fun u => h.keepFail u 0x0D) _ _).trans
    (when_keeps g (f := fun s => s.stiStop (some i)) (fun u => h.stiStop u (some i)) s _)

theorem sesClose (h : BesideClose g) (s : State) (i cause : Nat) : g (s.sesClose i cause) = g s :=
  ite_keeps g rfl (ite_keeps g (h.ses s _) (h.sesEnd s i cause))

theorem closeSlot (h : BesideClose g) (s : State) (slot : Nat) : g (s.closeSlot slot) = g s :=
  each_keeps g _ _ (fun u i => ite_keeps g (h.sesClose u i 4) rfl) s

end BesideClose

/-! Key control (R402). -/

theorem of_toNat (f : Fld) (w : Word) : f.of w = w.toNat / 2 ^ f.lo % 2 ^ f.width := by
  simp [Fld.of, Nat.shiftRight_eq_div_pow]

theorem keyWord_toNat {op key : Nat} (hop : op < 8) (hk : k < 8) (hkey : key < 256) :
    (keyWord op k key).toNat = op * 2 ^ 29 + key * 2 ^ 8 + k := by
  have hlow : (key % 256) <<< 8 ||| k % 8 = key * 2 ^ 8 + k := by
    rw [Nat.mod_eq_of_lt hkey, Nat.mod_eq_of_lt hk, ← Nat.shiftLeft_add_eq_or_of_lt (show k < 2 ^ 8 by omega), Nat.shiftLeft_eq]
  have hword : op <<< 29 ||| (key % 256) <<< 8 ||| k % 8 = op * 2 ^ 29 + (key * 2 ^ 8 + k) := by
    rw [Nat.or_assoc, hlow, ← Nat.shiftLeft_add_eq_or_of_lt (show key * 2 ^ 8 + k < 2 ^ 29 by omega), Nat.shiftLeft_eq]
  have hmod : (keyWord op k key).toNat = (op <<< 29 ||| (key % 256) <<< 8 ||| k % 8) % 2 ^ 32 := BitVec.toNat_ofNat _ _
  rw [hmod, hword]
  omega

/-- The operation, the key and the slot of a control write. -/
theorem keyWord_fields {op key : Nat} (hop : op < 8) (hk : k < 8) (hkey : key < 256) :
    (wbit (keyWord op k key) 31 = decide (op / 4 % 2 = 1) ∧ wbit (keyWord op k key) 30 = decide (op / 2 % 2 = 1) ∧
      wbit (keyWord op k key) 29 = decide (op % 2 = 1)) ∧
    Fld.SES_KEY_CTRL_KEY.of (keyWord op k key) = key ∧ Fld.SES_KEY_CTRL_SLOT.of (keyWord op k key) = k := by
  have h := keyWord_toNat hop hk hkey
  have hbit (i : Nat) : wbit (keyWord op k key) i = decide ((op * 2 ^ 29 + key * 2 ^ 8 + k) / 2 ^ i % 2 = 1) := by
    rw [wbit, h, Nat.testBit_eq_decide_div_mod_eq]
  refine ⟨⟨?_, ?_, ?_⟩, ?_, ?_⟩
  · rw [hbit]; exact decide_eq_decide.2 (by omega)
  · rw [hbit]; exact decide_eq_decide.2 (by omega)
  · rw [hbit]; exact decide_eq_decide.2 (by omega)
  · have hof : Fld.SES_KEY_CTRL_KEY.of (keyWord op k key) = (keyWord op k key).toNat / 2 ^ 8 % 2 ^ 8 := of_toNat _ _
    omega
  · have hof : Fld.SES_KEY_CTRL_SLOT.of (keyWord op k key) = (keyWord op k key).toNat / 2 ^ 0 % 2 ^ 3 := of_toNat _ _
    omega

/-- The slot of a control write that is not refused is stored with it. -/
def State.slotStored (s : State) (k : Nat) (c : Prop) [Decidable c] : State := if c then s else s.put .SES_KEY_CTRL_SLOT 0 k

theorem keyCtrl_write {key : Nat} (hk : k < 8) (hkey : key < 256) : s.keyCtrl (keyWord 4 k key) =
    (s.slotStored k (key ≠ 0x3C ∨ s.keyLocked k = true)).keyWrite k key := by
  obtain ⟨⟨h31, h30, h29⟩, hk', hs'⟩ := keyWord_fields (op := 4) (by decide) hk hkey
  rw [State.keyCtrl, h31, h30, h29, hk', hs']
  simp [State.slotStored]

theorem keyCtrl_erase {key : Nat} (hk : k < 8) (hkey : key < 256) : s.keyCtrl (keyWord 2 k key) =
    (s.slotStored k (key ≠ 0x3C ∨ s.keyLocked k = true)).keyErase k key := by
  obtain ⟨⟨h31, h30, h29⟩, hk', hs'⟩ := keyWord_fields (op := 2) (by decide) hk hkey
  rw [State.keyCtrl, h31, h30, h29, hk', hs']
  simp [State.slotStored]

theorem keyCtrl_lock {key : Nat} (hk : k < 8) (hkey : key < 256) : s.keyCtrl (keyWord 1 k key) =
    (s.slotStored k (key ≠ 0x3C)).keyLock k key := by
  obtain ⟨⟨h31, h30, h29⟩, hk', hs'⟩ := keyWord_fields (op := 1) (by decide) hk hkey
  rw [State.keyCtrl, h31, h30, h29, hk', hs']
  simp [State.slotStored]

/-! The three operations, refused and taken (R402, R403). -/

/-- The eight words of the key data, as bytes. -/
def State.keyData (s : State) : List Byte := (List.range 8).flatMap fun j => leBytes 4 (s.rd .SES_KEY_DATA j).toNat

/-- The eight words of the key data at 0. -/
def State.dataCleared (s : State) : State := s.each (List.range 8) fun s j => s.wr .SES_KEY_DATA j 0

/-- Slot `k` holds `b`, and WRITTEN is `w`. -/
def State.slotSet (s : State) (k w : Nat) (b : List Byte) : State :=
  { s.put .SES_KEY_STATUS_WRITTEN 0 w with keys := tput (List.replicate 32 0) s.keys k b }

theorem keyWrite_refused {key : Nat} (h : key ≠ 0x3C ∨ s.keyLocked k = true) : s.keyWrite k key = s.keyRefuse := if_pos h

theorem keyErase_refused {key : Nat} (h : key ≠ 0x3C ∨ s.keyLocked k = true) : s.keyErase k key = s.keyRefuse := if_pos h

theorem keyWrite_taken {key : Nat} (h : ¬(key ≠ 0x3C ∨ s.keyLocked k = true)) : s.keyWrite k key =
    ((s.slotSet k (orBit (s.get .SES_KEY_STATUS_WRITTEN) k) s.keyData).dataCleared).closeSlot k := if_neg h

theorem keyErase_taken {key : Nat} (h : ¬(key ≠ 0x3C ∨ s.keyLocked k = true)) : s.keyErase k key =
    (s.slotSet k (clrBit (s.get .SES_KEY_STATUS_WRITTEN) k) (List.replicate 32 0)).closeSlot k := if_neg h

/-- What a refused control write shows. -/
theorem keyRefuse_shows (s : State) : s.keyRefuse.keys = s.keys ∧ s.keyRefuse.rd .SES_KEY_STATUS = s.rd .SES_KEY_STATUS ∧
    (∀ j, s.keyRefuse.rd .SES_KEY_DATA j = s.rd .SES_KEY_DATA j) ∧ s.keyRefuse.flag .SES_STATUS_KEY_REJ = true :=
  ⟨besideClose_keys.sesEvent (by decide) s, (besideClose_rd (by decide) 0).sesEvent (by decide) s,
    fun j => (besideClose_rd (by decide) j).sesEvent (by decide) s, (flag_pulse _ _ _ 0).trans (flag_put_one s _ (by decide) 0)⟩

theorem key_of_keys {u : State} (h : u.keys = s.keys) (j : Nat) : u.key j = s.key j := congrArg (tget _ · j) h

/-- A slot set stands in its place, in the keys and in WRITTEN. -/
theorem slotSet_shows (s : State) (k : Nat) {w : Nat} (b : List Byte) (hw : w < 256) :
    (s.slotSet k w b).key k = b ∧ (∀ j, j ≠ k → (s.slotSet k w b).key j = s.key j) ∧
      (s.slotSet k w b).get .SES_KEY_STATUS_WRITTEN = w ∧
      (s.slotSet k w b).get .SES_KEY_STATUS_LOCKED = s.get .SES_KEY_STATUS_LOCKED :=
  ⟨tget_tput_same _ _ _ _, fun j hj => tget_tput_other _ _ _ _ _ hj,
    (get_put_same s _ (by decide) 0 w).trans (Nat.mod_eq_of_lt hw), get_put_bits s (by decide) 0 0 w⟩

theorem rd_dataCleared (s : State) (r : Reg) (j : Nat) :
    s.dataCleared.rd r j = if r = .SES_KEY_DATA ∧ j ∈ List.range 8 then 0 else s.rd r j := by
  refine (rd_each_own (r := .SES_KEY_DATA) (f := fun u j => u.wr .SES_KEY_DATA j 0) (fun u c => onlyReg_wr u _ c _)
    (fun u v c _ => (rd_wr_same _ _ c _).trans (rd_wr_same _ _ c _).symm) (List.range 8) List.nodup_range s r j).trans ?_
  rw [rd_wr_same]

theorem keys_dataCleared (s : State) : s.dataCleared.keys = s.keys :=
  each_keeps State.keys (List.range 8) (fun s j => s.wr .SES_KEY_DATA j 0) (fun _ _ => rfl) s

theorem orBit_lt {n : Nat} (hn : n < 256) (hk : k < 8) : orBit n k < 256 :=
  Nat.or_lt_two_pow (n := 8) hn (by rw [Nat.one_shiftLeft]; exact Nat.pow_lt_pow_right (by decide) hk)

theorem clrBit_lt {n : Nat} (hn : n < 256) (hk : k < 8) : clrBit n k < 256 := by
  unfold clrBit
  split
  · exact Nat.xor_lt_two_pow (n := 8) hn (by rw [Nat.one_shiftLeft]; exact Nat.pow_lt_pow_right (by decide) hk)
  · exact hn

theorem testBit_orBit_same (n k : Nat) : (orBit n k).testBit k = true := by simp [testBit_orBit]

theorem testBit_clrBit_same (n k : Nat) : (clrBit n k).testBit k = false := by simp [testBit_clrBit]

/-- What WRITE leaves in a slot that is not locked. -/
theorem keyWrite_shows {key : Nat} (h : ¬(key ≠ 0x3C ∨ s.keyLocked k = true)) (hk : k < 8) :
    (s.keyWrite k key).key k = s.keyData ∧ (∀ j, j ≠ k → (s.keyWrite k key).key j = s.key j) ∧
      (s.keyWrite k key).get .SES_KEY_STATUS_WRITTEN = orBit (s.get .SES_KEY_STATUS_WRITTEN) k ∧
      (∀ j, j < 8 → (s.keyWrite k key).rd .SES_KEY_DATA j = 0) ∧
      (s.keyWrite k key).get .SES_KEY_STATUS_LOCKED = s.get .SES_KEY_STATUS_LOCKED := by
  have hw : orBit (s.get .SES_KEY_STATUS_WRITTEN) k < 256 := orBit_lt (of_lt .SES_KEY_STATUS_WRITTEN _) hk
  rw [keyWrite_taken h]
  generalize orBit (s.get .SES_KEY_STATUS_WRITTEN) k = w at hw
  obtain ⟨hkey, hothers, hwritten, hlocked⟩ := slotSet_shows s k s.keyData hw
  have hkeys (j : Nat) := key_of_keys ((besideClose_keys.closeSlot _ k).trans (keys_dataCleared (s.slotSet k w s.keyData))) j
  have hstatus := ((besideClose_rd (r := .SES_KEY_STATUS) (by decide) 0).closeSlot (s.slotSet k w s.keyData).dataCleared k).trans
    ((rd_dataCleared _ _ 0).trans (if_neg fun hc => by cases hc.1))
  refine ⟨(hkeys k).trans hkey, fun j hj => (hkeys j).trans (hothers j hj), (congrArg Fld.SES_KEY_STATUS_WRITTEN.of hstatus).trans hwritten,
    fun j hj => ?_, (congrArg Fld.SES_KEY_STATUS_LOCKED.of hstatus).trans hlocked⟩
  exact ((besideClose_rd (r := .SES_KEY_DATA) (by decide) j).closeSlot (s.slotSet k w s.keyData).dataCleared k).trans
    ((rd_dataCleared _ _ j).trans (if_pos ⟨rfl, List.mem_range.2 hj⟩))

/-- What ERASE leaves of a slot that is not locked. -/
theorem keyErase_shows {key : Nat} (h : ¬(key ≠ 0x3C ∨ s.keyLocked k = true)) (hk : k < 8) :
    (s.keyErase k key).key k = List.replicate 32 0 ∧ (∀ j, j ≠ k → (s.keyErase k key).key j = s.key j) ∧
      (s.keyErase k key).get .SES_KEY_STATUS_WRITTEN = clrBit (s.get .SES_KEY_STATUS_WRITTEN) k ∧
      (s.keyErase k key).get .SES_KEY_STATUS_LOCKED = s.get .SES_KEY_STATUS_LOCKED := by
  have hw : clrBit (s.get .SES_KEY_STATUS_WRITTEN) k < 256 := clrBit_lt (of_lt .SES_KEY_STATUS_WRITTEN _) hk
  rw [keyErase_taken h]
  generalize clrBit (s.get .SES_KEY_STATUS_WRITTEN) k = w at hw
  obtain ⟨hkey, hothers, hwritten, hlocked⟩ := slotSet_shows s k (List.replicate 32 0) hw
  have hkeys (j : Nat) := key_of_keys (besideClose_keys.closeSlot (s.slotSet k w (List.replicate 32 0)) k) j
  have hstatus := (besideClose_rd (r := .SES_KEY_STATUS) (by decide) 0).closeSlot (s.slotSet k w (List.replicate 32 0)) k
  exact ⟨(hkeys k).trans hkey, fun j hj => (hkeys j).trans (hothers j hj), (congrArg Fld.SES_KEY_STATUS_WRITTEN.of hstatus).trans hwritten,
    (congrArg Fld.SES_KEY_STATUS_LOCKED.of hstatus).trans hlocked⟩

theorem keyLock_taken (s : State) (k : Nat) :
    s.keyLock k 0x3C = s.put .SES_KEY_STATUS_LOCKED 0 (orBit (s.get .SES_KEY_STATUS_LOCKED) k) := if_neg fun h => h rfl

/-- What LOCK leaves. -/
theorem keyLock_shows (s : State) (hk : k < 8) :
    (s.keyLock k 0x3C).keyLocked k = true ∧ (∀ j, j ≠ k → (s.keyLock k 0x3C).keyLocked j = s.keyLocked j) ∧
      OnlyReg .SES_KEY_STATUS 0 s (s.keyLock k 0x3C) := by
  have hget : (s.keyLock k 0x3C).get .SES_KEY_STATUS_LOCKED = orBit (s.get .SES_KEY_STATUS_LOCKED) k := by
    rw [keyLock_taken]
    exact (get_put_same s _ (by decide) 0 _).trans (Nat.mod_eq_of_lt (orBit_lt (of_lt .SES_KEY_STATUS_LOCKED _) hk))
  refine ⟨?_, fun j hj => ?_, ?_⟩
  · rw [State.keyLocked, hget, testBit_orBit_same]
  · rw [State.keyLocked, hget, testBit_orBit, decide_eq_false hj, Bool.or_false, State.keyLocked]
  · rw [keyLock_taken]
    exact (OnlyReg.refl _ _ s).put .SES_KEY_STATUS_LOCKED rfl _

/-- The slot stored beside, everything that a key operation looks at is as before. -/
theorem slotStored_shows (s : State) (k : Nat) :
    let t := s.put .SES_KEY_CTRL_SLOT 0 k
    t.key = s.key ∧ t.keyData = s.keyData ∧ t.keyLocked = s.keyLocked ∧
      t.get .SES_KEY_STATUS_WRITTEN = s.get .SES_KEY_STATUS_WRITTEN ∧ t.get .SES_KEY_STATUS_LOCKED = s.get .SES_KEY_STATUS_LOCKED := by
  have hlocked : (s.put .SES_KEY_CTRL_SLOT 0 k).get .SES_KEY_STATUS_LOCKED = s.get .SES_KEY_STATUS_LOCKED := get_put_reg s (by decide) 0 0 k
  refine ⟨rfl, ?_, funext fun j => congrArg (·.testBit j) hlocked, get_put_reg s (by decide) 0 0 k, hlocked⟩
  simp only [State.keyData, rd_put_reg s (f := .SES_KEY_CTRL_SLOT) (r := .SES_KEY_DATA) (by decide)]

theorem exec_keyWrite {key : Nat} (hk : k < 8) (hs : s.soft = true) (hup : s.up 18 = true) :
    exec (.keyWrite k key) s = s.become (s.keyCtrl (keyWord 4 k key)) := runSoftOn_up (fun s => s.keyCtrl (keyWord 4 k key)) hk hs hup

theorem exec_keyErase {key : Nat} (hk : k < 8) (hs : s.soft = true) (hup : s.up 18 = true) :
    exec (.keyErase k key) s = s.become (s.keyCtrl (keyWord 2 k key)) := runSoftOn_up (fun s => s.keyCtrl (keyWord 2 k key)) hk hs hup

theorem exec_keyLock {key : Nat} (hk : k < 8) (hs : s.soft = true) (hup : s.up 18 = true) :
    exec (.keyLock k key) s = s.become (s.keyCtrl (keyWord 1 k key)) := runSoftOn_up (fun s => s.keyCtrl (keyWord 1 k key)) hk hs hup

/-- Settles O54: a control write by the key and the lock. -/
theorem keySlotsAreWrittenErasedAndLocked : Obligations.KeySlotsAreWrittenErasedAndLocked := by
  intro k key s hk hkey hup hsoft data zero locked others refused
  have hrefused {c : Instr} (h : exec c s = s.become s.keyRefuse) : refused c := ⟨_, h, keyRefuse_shows s⟩
  have hwrite (h : key ≠ 0x3C ∨ s.keyLocked k = true) : refused (.keyWrite k key) := hrefused
    ((exec_keyWrite hk hsoft hup).trans (by rw [keyCtrl_write hk hkey, State.slotStored, if_pos h, keyWrite_refused h]))
  have herase (h : key ≠ 0x3C ∨ s.keyLocked k = true) : refused (.keyErase k key) := hrefused
    ((exec_keyErase hk hsoft hup).trans (by rw [keyCtrl_erase hk hkey, State.slotStored, if_pos h, keyErase_refused h]))
  refine ⟨fun h => ⟨hwrite (.inl h), herase (.inl h), hrefused ?_⟩, fun h => ⟨hwrite (.inr h), herase (.inr h)⟩, fun h hl => ⟨?_, ?_⟩,
    fun h => ?_⟩
  · rw [exec_keyLock hk hsoft hup, keyCtrl_lock hk hkey, State.slotStored, if_pos h, State.keyLock, if_pos h]
  · have hnot : ¬(key ≠ 0x3C ∨ s.keyLocked k = true) := fun hc => hc.elim (fun hc => hc h) hl
    obtain ⟨hkeys, hdata, hlocked, hwritten, hlock⟩ := slotStored_shows s k
    obtain ⟨hkey', hothers, hset, hzero, hstill⟩ := keyWrite_shows (s := s.put .SES_KEY_CTRL_SLOT 0 k) (key := key) (by rwa [hlocked]) hk
    refine ⟨_, (exec_keyWrite hk hsoft hup).trans (congrArg s.become
      ((keyCtrl_write hk hkey).trans (congrArg (State.keyWrite · k key) (if_neg hnot)))), hkey'.trans hdata, ?_, hzero,
      ⟨fun j hj => (hothers j hj).trans (congrFun hkeys j), fun j hj => ?_⟩, hstill.trans hlock⟩
    · exact (congrArg (·.testBit k) hset).trans (testBit_orBit_same _ k)
    · refine (congrArg (·.testBit j) (hset.trans (congrArg (orBit · k) hwritten))).trans ?_
      rw [testBit_orBit, decide_eq_false hj, Bool.or_false]
  · have hnot : ¬(key ≠ 0x3C ∨ s.keyLocked k = true) := fun hc => hc.elim (fun hc => hc h) hl
    obtain ⟨hkeys, -, hlocked, hwritten, hlock⟩ := slotStored_shows s k
    obtain ⟨hkey', hothers, hset, hstill⟩ := keyErase_shows (s := s.put .SES_KEY_CTRL_SLOT 0 k) (key := key) (by rwa [hlocked]) hk
    refine ⟨_, (exec_keyErase hk hsoft hup).trans (congrArg s.become
      ((keyCtrl_erase hk hkey).trans (congrArg (State.keyErase · k key) (if_neg hnot)))), hkey', ?_,
      ⟨fun j hj => (hothers j hj).trans (congrFun hkeys j), fun j hj => ?_⟩, hstill.trans hlock⟩
    · exact (congrArg (·.testBit k) hset).trans (testBit_clrBit_same _ k)
    · refine (congrArg (·.testBit j) (hset.trans (congrArg (clrBit · k) hwritten))).trans ?_
      rw [testBit_clrBit, decide_eq_false hj, Bool.not_false, Bool.and_true]
  · subst h
    obtain ⟨-, -, hlocked, -, -⟩ := slotStored_shows s k
    obtain ⟨hset, hothers, honly⟩ := keyLock_shows (s.put .SES_KEY_CTRL_SLOT 0 k) hk
    refine ⟨_, (exec_keyLock hk hsoft hup).trans (congrArg s.become
      ((keyCtrl_lock hk hkey).trans (congrArg (State.keyLock · k 0x3C) (if_neg fun h => h rfl)))), hset, ?_,
      fun j hj => (hothers j hj).trans (congrFun hlocked j), ?_, fun r i hr hr' => ?_⟩
    · rw [keyLock_taken]; rfl
    · exact outside_rest (by rw [keyLock_taken]; rfl)
    · exact (honly.rd_ne hr i).trans (rd_put_reg s hr' 0 i k)

end Sys2Proof.Machine
end

section
/-! Keep images: production from GO to DONE, and its two ends (R406 to R408). -/
namespace Sys2Proof.Machine

variable {s : State} {β : Type} {g : State → β}

/-! A production or load that fails (R408, R411). -/

theorem get_keepRecord (s : State) (event seq : Nat) {f : Fld} (h : f.reg ≠ .LOG_DROPPED ∧ f.reg ≠ .LOG_STATUS) (i : Nat) :
    (s.keepRecord event seq).get f i = s.get f i := congrArg f.of (rd_record s _ _ _ _ h.1 h.2 i)

theorem get_keepEvent (s : State) {f p : Fld} (h : f.apart p) (i : Nat) : (s.keepEvent p).get f i = s.get f i :=
  (get_pulse _ _ _ _).trans (get_put_apart s h 0 1 i)

theorem flag_keepEvent (s : State) {f : Fld} (h : f.lo ≤ f.hi ∧ f.hi ≤ 31) : (s.keepEvent f).flag f = true :=
  (flag_pulse _ _ _ 0).trans (flag_put_one s f h 0)

/-- An event and its record, as the end of a production or a load leaves them. -/
def State.keepMarked (s : State) (f : Fld) (event seq : Nat) : State := (s.keepEvent f).keepRecord event seq

theorem keepMarked_keeps (h : BesideClose g) (s : State) {f : Fld} (hf : f.reg ∈ closeRegs) (event seq : Nat) :
    g (s.keepMarked f event seq) = g s := (h.record _ _ _ _ _).trans ((h.pulse _ _).trans (h.put hf s 0 1))

theorem keep_keepMarked (s : State) (f : Fld) (event seq : Nat) : (s.keepMarked f event seq).keep = s.keep :=
  (record_keeps State.keep (fun _ => rfl) (fun _ _ => rfl) (fun _ _ _ _ _ => rfl) _ _ _ _ _).trans
    (pulse_keeps (g := State.keep) (fun _ => rfl) (s.put f 0 1) 1464)

theorem get_keepMarked (s : State) {f p : Fld} (h : f.apart p ∧ f.reg ≠ .LOG_DROPPED ∧ f.reg ≠ .LOG_STATUS) (event seq i : Nat) :
    (s.keepMarked p event seq).get f i = s.get f i := (get_keepRecord _ event seq h.2 i).trans (get_keepEvent s h.1 i)

theorem flag_keepMarked (s : State) {f : Fld} (h : (f.lo ≤ f.hi ∧ f.hi ≤ 31) ∧ f.reg ≠ .LOG_DROPPED ∧ f.reg ≠ .LOG_STATUS) (event seq : Nat) :
    (s.keepMarked f event seq).flag f = true := (congrArg (· != 0) (get_keepRecord _ event seq h.2 0)).trans (flag_keepEvent s h.1)

/-- The block at state `st` with code `code`, with its data `x`. -/
def State.keepAt (s : State) (st code : Nat) (x : Keep) : State :=
  { (s.put .KEEP_STATUS_STATE 0 st).put .KEEP_STATUS_ERR 0 code with keep := x }

theorem keepAt_shows (s : State) {st : Nat} (code : Nat) (x : Keep) (hst : st < 8) :
    (s.keepAt st code x).keepState = st ∧ (s.keepAt st code x).get .KEEP_STATUS_ERR = code % 256 :=
  ⟨(get_put_bits (s.put .KEEP_STATUS_STATE 0 st) (by decide) 0 0 code).trans ((get_put_same s _ (by decide) 0 st).trans (Nat.mod_eq_of_lt hst)),
    get_put_same (s.put .KEEP_STATUS_STATE 0 st) _ (by decide) 0 code⟩

theorem onlyReg_keepAt (s : State) (st code : Nat) (x : Keep) {r : Reg} (h : r ≠ .KEEP_STATUS) (i : Nat) :
    (s.keepAt st code x).rd r i = s.rd r i :=
  (rd_put_reg (s.put .KEEP_STATUS_STATE 0 st) h 0 i code).trans (rd_put_reg s h 0 i st)

theorem keepFail_eq (s : State) (code : Nat) : s.keepFail code = (s.keepAt keepIdle code {}).keepMarked .KEEP_STATUS_FAIL 3 s.keepSeq := rfl

/-- What a failure leaves. -/
theorem keepFail_shows (s : State) (code : Nat) :
    (s.keepFail code).keepState = keepIdle ∧ (s.keepFail code).get .KEEP_STATUS_ERR = code % 256 ∧ (s.keepFail code).flag .KEEP_STATUS_FAIL = true ∧
      (s.keepFail code).keep = {} := by
  obtain ⟨hst, herr⟩ := keepAt_shows s (st := keepIdle) code {} (by decide)
  rw [keepFail_eq]
  exact ⟨(get_keepMarked _ (by decide) 3 _ 0).trans hst, (get_keepMarked _ (by decide) 3 _ 0).trans herr,
    flag_keepMarked _ (by decide) 3 _, keep_keepMarked _ _ 3 _⟩

theorem seq_keepFail (s : State) (code : Nat) : (s.keepFail code).get .KEEP_SEQ_SEQ = s.get .KEEP_SEQ_SEQ :=
  congrArg Fld.KEEP_SEQ_SEQ.of ((besideClose_rd (by decide) 0).keepFail s code)

theorem get_stagingFault (s : State) (f : Fld) : s.stagingFault.get f = s.get f := by
  unfold State.stagingFault
  split <;> rfl

/-! Production (R406 to R408). -/

theorem stagingWrite_keeps (hl : ∀ s l, g { s with injected := l } = g s) (hput : ∀ s, g (State.put s .FLT_INJ_DATA_ARM 0 0) = g s) (s : State)
    (n : Nat) : g (s.stagingWrite n) = g s := memWrite_keeps g hl hput s 9 _

/-- The data of an image in production. -/
def State.keepMade (s : State) : Keep := { image := s.keepImage.1, prefixEnd := s.keepImage.2, pin := some s.versionA, session := none }

theorem keepStart_eq (s : State) :
    s.keepStart none = (s.keepAt keepProducing 0 s.keepMade).stagingWrite (s.keepImage.1.length / 4) := rfl

theorem keepStart_shows (s : State) :
    (s.keepStart none).keepState = keepProducing ∧ (s.keepStart none).get .KEEP_STATUS_ERR = 0 ∧ (s.keepStart none).keep = s.keepMade := by
  have hkeep {f : Fld} (h : f.reg ≠ .FLT_INJ_DATA) :
      ((s.keepAt keepProducing 0 s.keepMade).stagingWrite (s.keepImage.1.length / 4)).get f = (s.keepAt keepProducing 0 s.keepMade).get f :=
    stagingWrite_keeps (g := fun s => s.get f) (fun _ _ => rfl) (fun s => get_put_reg s h 0 0 0) _ _
  obtain ⟨hst, herr⟩ := keepAt_shows s (st := keepProducing) 0 s.keepMade (by decide)
  rw [keepStart_eq]
  exact ⟨(hkeep (by decide)).trans hst, (hkeep (by decide)).trans herr,
    stagingWrite_keeps (g := State.keep) (fun _ _ => rfl) (fun _ => rfl) _ _⟩

/-- The image's length and the next sequence number, with the block idle. -/
def State.keepTaken (s : State) : State :=
  { ((s.put .KEEP_STATUS_STATE 0 keepIdle).put .KEEP_LEN_LEN 0 s.keep.image.length).put .KEEP_SEQ_SEQ 0 (s.get .KEEP_SEQ_SEQ + 1) with keep := {} }

theorem keepTaken_shows (s : State) : s.keepTaken.keepState = keepIdle ∧ s.keepTaken.get .KEEP_LEN_LEN = s.keep.image.length % 2 ^ 32 ∧
    s.keepTaken.get .KEEP_SEQ_SEQ = (s.get .KEEP_SEQ_SEQ + 1) % 2 ^ 32 :=
  ⟨(get_put_reg (s.put .KEEP_STATUS_STATE 0 keepIdle |>.put .KEEP_LEN_LEN 0 s.keep.image.length) (by decide) 0 0 _).trans
      ((get_put_reg (s.put .KEEP_STATUS_STATE 0 keepIdle) (by decide) 0 0 _).trans (get_put_same s _ (by decide) 0 _)),
    (get_put_reg (s.put .KEEP_STATUS_STATE 0 keepIdle |>.put .KEEP_LEN_LEN 0 s.keep.image.length) (by decide) 0 0 _).trans
      (get_put_same (s.put .KEEP_STATUS_STATE 0 keepIdle) _ (by decide) 0 _),
    get_put_same (s.put .KEEP_STATUS_STATE 0 keepIdle |>.put .KEEP_LEN_LEN 0 s.keep.image.length) _ (by decide) 0 _⟩

/-- One production is counted. -/
def State.keepCounted (s : State) : State := s.inc .KEEP_PRODUCED_COUNT

theorem keepCounted_keeps (hbel : ∀ s, g s.besideBel = g s) (hwr : ∀ s w, g (State.wr s .KEEP_PRODUCED 0 w) = g s)
    (hsat : ∀ s v, g (State.put s .KEEP_STATUS_SAT 0 v) = g s) (s : State) : g s.keepCounted = g s := by
  have hcount (t : State) : g (t.wr .KEEP_PRODUCED 0 (satAdd .KEEP_PRODUCED_COUNT (t.rd .KEEP_PRODUCED 0) 1).1) = g t := hwr t _
  exact ite_keeps g ((pulse_keeps hbel _ _).trans ((hsat _ _).trans (hcount s))) (hcount s)

theorem get_keepCounted (s : State) {f : Fld} (h : f.reg ≠ .KEEP_PRODUCED ∧ f.apart .KEEP_STATUS_SAT) : s.keepCounted.get f = s.get f :=
  keepCounted_keeps (g := fun s => s.get f) (fun _ => rfl) (fun s w => congrArg f.of (rd_wr_other s w fun hc => h.1 hc.1))
    (fun s v => get_put_apart s h.2 0 v 0) s

/-- The end of a production that its image's end allows. -/
def State.keepDone (s : State) : State := s.keepTaken.keepCounted.keepMarked .KEEP_STATUS_DONE 1 (s.get .KEEP_SEQ_SEQ)

theorem keepDone_shows (s : State) : s.keepDone.keepState = keepIdle ∧ s.keepDone.get .KEEP_LEN_LEN = s.keep.image.length % 2 ^ 32 ∧
    s.keepDone.get .KEEP_SEQ_SEQ = (s.get .KEEP_SEQ_SEQ + 1) % 2 ^ 32 ∧ s.keepDone.flag .KEEP_STATUS_DONE = true ∧ s.keepDone.keep = {} := by
  obtain ⟨hst, hlen, hseq⟩ := keepTaken_shows s
  have hget {f : Fld} (h : (f.apart .KEEP_STATUS_DONE ∧ f.reg ≠ .LOG_DROPPED ∧ f.reg ≠ .LOG_STATUS) ∧ f.reg ≠ .KEEP_PRODUCED ∧ f.apart .KEEP_STATUS_SAT) :
      s.keepDone.get f = s.keepTaken.get f :=
    (get_keepMarked s.keepTaken.keepCounted h.1 1 _ 0).trans (get_keepCounted s.keepTaken h.2)
  exact ⟨(hget (by decide)).trans hst, (hget (by decide)).trans hlen, (hget (by decide)).trans hseq,
    flag_keepMarked s.keepTaken.keepCounted (by decide) 1 _, (keep_keepMarked _ _ 1 _).trans
      (keepCounted_keeps (g := State.keep) (fun _ => rfl) (fun _ _ => rfl) (fun _ _ => rfl) s.keepTaken)⟩

/-- An image is in production, for the host or for a session. -/
@[reducible] def State.keepMaking (s : State) : Prop := s.keepState = keepProducing ∨ s.keepState = keepFetching

theorem keepEnd_waits (h : ¬s.keepMaking ∨ s.keep.pos ≠ s.keep.image.length) : s.keepEnd = s :=
  if_pos (by simpa [State.keepMaking, not_or] using h)

theorem keepEnd_cond (h : s.keepMaking) (hpos : s.keep.pos = s.keep.image.length) :
    ¬(!(s.keepState == keepProducing || s.keepState == keepFetching) || s.keep.pos != s.keep.image.length) = true := by
  simpa [hpos, State.keepMaking, or_iff_not_imp_left] using h

theorem keepEnd_bad (h : s.keepMaking) (hpos : s.keep.pos = s.keep.image.length) (hbad : s.stagingBad = true) :
    s.keepEnd = s.stagingFault.keepFail 0x0C := (if_neg (keepEnd_cond h hpos)).trans (if_pos hbad)

theorem keepEnd_good (h : s.keepMaking) (hpos : s.keep.pos = s.keep.image.length) (hbad : s.stagingBad = false) :
    s.keepEnd = s.keepDone := (if_neg (keepEnd_cond h hpos)).trans (if_neg (ne_true_of_eq_false hbad))

theorem keepPeriod_off (h : s.get .KEEP_CFG_PERIOD = 0) : s.keepPeriod = s := if_pos h

theorem keepPeriod_starts (h : s.get .KEEP_CFG_PERIOD ≠ 0) (hi : s.keepState = keepIdle) : s.keepPeriod = s.keepStart none := by
  rw [State.keepPeriod, if_neg h, if_pos hi]

theorem keepPeriod_skips (h : s.get .KEEP_CFG_PERIOD ≠ 0) (hi : s.keepState ≠ keepIdle) : s.keepPeriod = s.inc .KEEP_SKIPPED_COUNT := by
  rw [State.keepPeriod, if_neg h, if_neg hi]

/-! A credit used moves nothing that the block shows. -/

theorem get_spent (s t : State) (e : Nat) (f : Fld) : (s.outside (t.spend e)).get f = t.get f := rfl
theorem flag_spent (s t : State) (e : Nat) (f : Fld) : (s.outside (t.spend e)).flag f = t.flag f := rfl
theorem keepState_spent (s t : State) (e : Nat) : (s.outside (t.spend e)).keepState = t.keepState := rfl
theorem keep_spent (s t : State) (e : Nat) : (s.outside (t.spend e)).keep = t.keep := rfl

theorem exec_keepGo (hs : s.soft = true) (hup : s.up 17 = true) : exec .keepGo s = s.become s.keepGo := runSoft_up _ hs hup

theorem exec_keepAbort (hs : s.soft = true) (hup : s.up 17 = true) : exec .keepAbort s = s.become s.keepStop := runSoft_up _ hs hup

theorem exec_keepPeriod (hup : s.up 17 = true) : exec .keepPeriod s = s.become s.keepPeriod := run_up _ hup

theorem exec_keepProductionEnd (hup : s.up 17 = true) : exec .keepProductionEnd s = s.become (s.engine 3 State.keepEnd) :=
  run_up (fun s => s.engine 3 State.keepEnd) hup

theorem exec_keepOutTimeout (hup : s.up 17 = true) : exec .keepOutTimeout s = s.become (if s.keepMaking then s.keepFail 0x0E else s) :=
  run_up (fun s => if s.keepMaking then s.keepFail 0x0E else s) hup

/-- Settles O55: GO, ABORT and the period by the block's state, and the two ends of a production. -/
theorem keepProductionRunsFromGoToDone : Obligations.KeepProductionRunsFromGoToDone := by
  intro s hup st k making starts fails
  have hstarts {c : Instr} (h : exec c s = s.become (s.keepStart none)) : starts c := by
    obtain ⟨hst, herr, hkeep⟩ := keepStart_shows s
    exact ⟨_, h, hst, herr, congrArg Keep.image hkeep, congrArg Keep.prefixEnd hkeep, congrArg Keep.pin hkeep, congrArg Keep.session hkeep⟩
  have hfails {c : Instr} {code : Nat} (hcode : code < 256) {t : State} (h : exec c s = s.become (t.keepFail code))
      (hseq : t.get .KEEP_SEQ_SEQ = s.get .KEEP_SEQ_SEQ) : fails c code := by
    obtain ⟨hst, herr, hfail, hkeep⟩ := keepFail_shows t code
    exact ⟨_, h, hst, herr.trans (Nat.mod_eq_of_lt hcode), hfail, hkeep, (seq_keepFail t code).trans hseq⟩
  have hengine (h : s.mayRun 3 = true) : exec .keepProductionEnd s = s.become (s.keepEnd.spend 3) :=
    (exec_keepProductionEnd hup).trans (congrArg s.become (engine_runs h _))
  refine ⟨fun hs => ⟨fun h => ?_, fun h => ?_, fun h => ?_, fun h => ?_⟩, fun h => ?_, fun h hi => ?_, fun h hi => ?_, fun h => ?_,
    fun h hw => ?_, fun h hm hp hb => ?_, fun h hm hp hb => ?_, fun h => ?_, fun h => ?_⟩
  · exact hstarts ((exec_keepGo hs hup).trans (congrArg s.become (if_pos h)))
  · exact (exec_keepGo hs hup).trans (congrArg s.become (if_neg h))
  · exact (exec_keepAbort hs hup).trans (congrArg s.become (if_pos h))
  · exact hfails (by decide) ((exec_keepAbort hs hup).trans (congrArg s.become (if_neg h))) rfl
  · exact (exec_keepPeriod hup).trans (congrArg s.become (keepPeriod_off h))
  · exact hstarts ((exec_keepPeriod hup).trans (congrArg s.become (keepPeriod_starts h hi)))
  · exact (exec_keepPeriod hup).trans (congrArg s.become (keepPeriod_skips h hi))
  · exact (exec_keepProductionEnd hup).trans (congrArg s.become (engine_waits h _))
  · exact (hengine h).trans (congrArg (fun u : State => s.become (u.spend 3)) (keepEnd_waits hw))
  · obtain ⟨hst, herr, hfail, hkeep⟩ := keepFail_shows s.stagingFault 0x0C
    exact ⟨_, (hengine h).trans (congrArg (fun u : State => s.become (u.spend 3)) (keepEnd_bad hm hp hb)), (keepState_spent s _ 3).trans hst,
      (get_spent s _ 3 _).trans herr, (flag_spent s _ 3 _).trans hfail, (keep_spent s _ 3).trans hkeep,
      (get_spent s _ 3 _).trans ((seq_keepFail s.stagingFault 0x0C).trans (get_stagingFault s _))⟩
  · obtain ⟨hst, hlen, hseq, hdone, hkeep⟩ := keepDone_shows s
    exact ⟨_, (hengine h).trans (congrArg (fun u : State => s.become (u.spend 3)) (keepEnd_good hm hp hb)),
      (keepState_spent s _ 3).trans hst, (get_spent s _ 3 _).trans hlen, (get_spent s _ 3 _).trans hseq, (flag_spent s _ 3 _).trans hdone,
      (keep_spent s _ 3).trans hkeep⟩
  · exact hfails (by decide) ((exec_keepOutTimeout hup).trans (congrArg s.become (if_pos h))) rfl
  · exact (exec_keepOutTimeout hup).trans (congrArg s.become (if_neg h))

end Sys2Proof.Machine
end

section
/-! Keep images loaded: the header's check, and the image applied whole or undone (R409 to R411). -/
namespace Sys2Proof.Machine

variable {s : State}

theorem besideClose_flow : BesideClose State.flow :=
  ⟨fun _ => rfl, fun _ _ => rfl, fun _ _ => rfl, fun _ _ => rfl, fun _ _ => rfl, fun _ _ _ _ _ => rfl⟩

theorem besideClose_pfx : BesideClose State.pfx :=
  ⟨fun _ => rfl, fun _ _ => rfl, fun _ _ => rfl, fun _ _ => rfl, fun _ _ => rfl, fun _ _ _ _ _ => rfl⟩

theorem besideClose_ctx : BesideClose State.ctx :=
  ⟨fun _ => rfl, fun _ _ => rfl, fun _ _ => rfl, fun _ _ => rfl, fun _ _ => rfl, fun _ _ _ _ _ => rfl⟩

theorem besideClose_nodeCnt : BesideClose State.nodeCnt :=
  ⟨fun _ => rfl, fun _ _ => rfl, fun _ _ => rfl, fun _ _ => rfl, fun _ _ => rfl, fun _ _ _ _ _ => rfl⟩

/-! LOAD (R409). -/

/-- The data that a load begins with: the key slots as they stand. -/
def State.loadBegun (s : State) : Keep := { keys := s.keys, written := s.get .SES_KEY_STATUS_WRITTEN }

theorem keepLoad_allowed (h : s.loadAllowed = true) : s.keepLoad = s.keepAt keepLoading 0 s.loadBegun := if_pos h

theorem keepLoad_refused (h : s.loadAllowed = false) :
    s.keepLoad = (s.put .KEEP_STATUS_ERR 0 0x0B).keepMarked .KEEP_STATUS_FAIL 3 (s.get .KEEP_SEQ_SEQ) := if_neg (ne_true_of_eq_false h)

/-! The header (R410). -/

/-- The header's 64 bytes are there, and wait for their check. -/
@[reducible] def State.headerWaits (s : State) : Prop := s.keepState = keepLoading ∧ s.keep.checked = false ∧ 64 ≤ s.keep.loaded.length

/-- The code of the header's first failing check. -/
def State.headerCode (s : State) : Nat := s.keepHeaderFail s.keep.written s.keep.loaded

/-- The header taken as checked. -/
def State.headerChecked (s : State) : State := { s with keep := { s.keep with checked := true } }

theorem headerWaits_iff : ¬s.headerWaits ↔ s.keepState ≠ keepLoading ∨ s.keep.checked = true ∨ s.keep.loaded.length < 64 := by
  simp [State.headerWaits, imp_iff_not_or]

theorem keepHeader_waits (h : ¬s.headerWaits) : s.keepHeader = s := if_pos (headerWaits_iff.1 h)

theorem keepHeader_checks (h : s.headerWaits) : s.keepHeader = if s.headerCode ≠ 0 then s.keepFail s.headerCode
    else s.headerChecked.stagingWrite (leAt s.keep.loaded 8 4 / 4) := if_neg fun hc => headerWaits_iff.2 hc h

theorem headerCode_lt (s : State) : s.headerCode < 256 := by
  unfold State.headerCode State.keepHeaderFail
  dsimp only
  repeat' split
  all_goals omega

/-! The image (R410, R411). -/

/-- The length that the image's header names. -/
def State.loadLen (s : State) : Nat := leAt s.keep.loaded 8 4

/-- The image has arrived whole, with its header checked. -/
@[reducible] def State.loadArrived (s : State) : Prop :=
  s.keepState = keepLoading ∧ s.keep.checked = true ∧ s.loadLen ≤ s.keep.loaded.length

/-- The image that has arrived. -/
def State.loadBytes (s : State) : List Byte := s.keep.loaded.take s.loadLen

/-- What the image's load gives. -/
def State.loadResult (s : State) : LoadStep := s.loadImage (s.keep.key (beAt s.loadBytes 6 1)) s.loadBytes

/-- The end of a load that gave `v`. -/
def State.loadDone (s v : State) : State :=
  ({ (v.put .KEEP_STATUS_STATE 0 keepIdle).put .KEEP_LEN_LEN 0 s.loadLen with keep := {} } : State).keepMarked .KEEP_STATUS_DONE 2
    (leAt s.loadBytes 20 4)

theorem loadArrived_iff : ¬s.loadArrived ↔ s.keepState ≠ keepLoading ∨ (!s.keep.checked) = true ∨ s.keep.loaded.length < s.loadLen := by
  simp [State.loadArrived, imp_iff_not_or]

theorem keepApply_waits (h : ¬s.loadArrived) : s.keepApply = s := if_pos (loadArrived_iff.1 h)

theorem keepApply_bad (h : s.loadArrived) (hbad : s.stagingBad = true) : s.keepApply = s.stagingFault.keepFail 0x0C :=
  (if_neg fun hc => loadArrived_iff.2 hc h).trans (if_pos hbad)

theorem keepApply_error (h : s.loadArrived) (hbad : s.stagingBad = false) {e : Nat × State} (he : s.loadResult = .error e) :
    s.keepApply = (s.loadUndo e.2).keepFail e.1 := by
  have hresult : s.loadImage (s.keep.key (beAt (s.keep.loaded.take (leAt s.keep.loaded 8 4)) 6 1)) (s.keep.loaded.take (leAt s.keep.loaded 8 4)) =
      .error e := he
  refine (if_neg fun hc => loadArrived_iff.2 hc h).trans ((if_neg (ne_true_of_eq_false hbad)).trans ?_)
  dsimp only
  rw [hresult]

theorem keepApply_ok (h : s.loadArrived) (hbad : s.stagingBad = false) {v : State} (hv : s.loadResult = .ok v) :
    s.keepApply = s.loadDone v := by
  have hresult : s.loadImage (s.keep.key (beAt (s.keep.loaded.take (leAt s.keep.loaded 8 4)) 6 1)) (s.keep.loaded.take (leAt s.keep.loaded 8 4)) =
      .ok v := hv
  refine (if_neg fun hc => loadArrived_iff.2 hc h).trans ((if_neg (ne_true_of_eq_false hbad)).trans ?_)
  dsimp only
  rw [hresult]
  rfl

/-- What the end of a load leaves of the state that it gave. -/
theorem loadDone_shows (s v : State) :
    (s.loadDone v).keepState = keepIdle ∧ (s.loadDone v).keep = {} ∧ (s.loadDone v).get .KEEP_LEN_LEN = s.loadLen % 2 ^ 32 ∧
      (s.loadDone v).flag .KEEP_STATUS_DONE = true ∧ (s.loadDone v).versionA = v.versionA ∧ (s.loadDone v).flow = v.flow ∧
      (s.loadDone v).pfx = v.pfx ∧ (s.loadDone v).ctx = v.ctx := by
  have hget {f : Fld} (h : f.apart .KEEP_STATUS_DONE ∧ f.reg ≠ .LOG_DROPPED ∧ f.reg ≠ .LOG_STATUS) :
      (s.loadDone v).get f = ((v.put .KEEP_STATUS_STATE 0 keepIdle).put .KEEP_LEN_LEN 0 s.loadLen).get f :=
    get_keepMarked { (v.put .KEEP_STATUS_STATE 0 keepIdle).put .KEEP_LEN_LEN 0 s.loadLen with keep := {} } h 2 _ 0
  have hkeep {γ : Type} {g : State → γ} (h : BesideClose g) (hwr : ∀ u w, g (State.wr u .KEEP_LEN 0 w) = g u) : g (s.loadDone v) = g v :=
    (keepMarked_keeps h _ (by decide) 2 _).trans ((h.keep _ _).trans ((hwr _ _).trans (h.put (f := .KEEP_STATUS_STATE) (by decide) v 0 _)))
  have hcls : BesideClose State.versionA :=
    ⟨fun _ => rfl, fun _ _ => rfl, fun _ _ => rfl, fun _ _ => rfl, fun _ _ => rfl,
      fun u r i w h => congrArg Fld.CLS_VERSION_ACTIVE.of ((besideClose_rd (r := .CLS_VERSION) (by decide) 0).wr u r i w h)⟩
  refine ⟨?_, keep_keepMarked _ _ 2 _, ?_, flag_keepMarked _ (by decide) 2 _, hkeep hcls fun u w => ?_,
    hkeep besideClose_flow fun _ _ => rfl, hkeep besideClose_pfx fun _ _ => rfl, hkeep besideClose_ctx fun _ _ => rfl⟩
  · exact (hget (f := .KEEP_STATUS_STATE) (by decide)).trans ((get_put_reg (v.put .KEEP_STATUS_STATE 0 keepIdle) (by decide) 0 0 _).trans
      (get_put_same v _ (by decide) 0 _))
  · exact (hget (by decide)).trans (get_put_same (v.put .KEEP_STATUS_STATE 0 keepIdle) _ (by decide) 0 _)
  · exact congrArg Fld.CLS_VERSION_ACTIVE.of (rd_wr_other u w fun hc => by cases hc.1)

theorem headerTaken_shows (s : State) (n : Nat) :
    (s.headerChecked.stagingWrite n).keepState = s.keepState ∧ (s.headerChecked.stagingWrite n).keep = { s.keep with checked := true } :=
  ⟨stagingWrite_keeps (g := State.keepState) (fun _ _ => rfl) (fun u => get_put_reg u (by decide) 0 0 0) s.headerChecked n,
    stagingWrite_keeps (g := State.keep) (fun _ _ => rfl) (fun _ => rfl) s.headerChecked n⟩

theorem loadRefused_shows (s : State) :
    let u := (s.put .KEEP_STATUS_ERR 0 0x0B).keepMarked .KEEP_STATUS_FAIL 3 (s.get .KEEP_SEQ_SEQ)
    u.keepState = s.keepState ∧ u.get .KEEP_STATUS_ERR = 0x0B ∧ u.flag .KEEP_STATUS_FAIL = true ∧ u.keep = s.keep :=
  ⟨(get_keepMarked (s.put .KEEP_STATUS_ERR 0 0x0B) (by decide) 3 _ 0).trans (get_put_bits s (by decide) 0 0 _),
    (get_keepMarked (s.put .KEEP_STATUS_ERR 0 0x0B) (by decide) 3 _ 0).trans (get_put_same s _ (by decide) 0 _),
    flag_keepMarked _ (by decide) 3 _, keep_keepMarked _ _ 3 _⟩

theorem exec_keepLoad (hs : s.soft = true) (hup : s.up 17 = true) : exec .keepLoad s = s.become s.keepLoad := runSoft_up _ hs hup

theorem exec_keepHeaderCheck (hup : s.up 17 = true) : exec .keepHeaderCheck s = s.become s.keepHeader := run_up _ hup

theorem exec_keepLoadApply (hup : s.up 17 = true) : exec .keepLoadApply s = s.become s.keepApply := run_up _ hup

/-- Settles O56: LOAD by whether it is allowed, the header by its first failing check, the image by what its load gives. -/
theorem keepLoadAppliesWholeOrFails : Obligations.KeepLoadAppliesWholeOrFails := by
  intro s hup k len code image result checks arrived
  refine ⟨fun hs => ⟨fun h => ?_, fun h => ?_⟩, fun h => ?_, fun h hc => ?_, fun h hc => ?_, fun h => ?_, fun h hb => ?_, fun h hb => ?_⟩
  · obtain ⟨hst, herr⟩ := keepAt_shows s (st := keepLoading) 0 s.loadBegun (by decide)
    exact ⟨_, (exec_keepLoad hs hup).trans (congrArg s.become (keepLoad_allowed h)), hst, herr, rfl, rfl,
      fun r i hr => onlyReg_keepAt s keepLoading 0 s.loadBegun hr i⟩
  · obtain ⟨hst, herr, hfail, hkeep⟩ := loadRefused_shows s
    exact ⟨_, (exec_keepLoad hs hup).trans (congrArg s.become (keepLoad_refused h)), hst, herr, hfail, hkeep⟩
  · exact (exec_keepHeaderCheck hup).trans (congrArg s.become (keepHeader_waits h))
  · obtain ⟨hst, herr, hfail, hkeep⟩ := keepFail_shows s s.headerCode
    exact ⟨_, (exec_keepHeaderCheck hup).trans (congrArg s.become ((keepHeader_checks h).trans (if_pos hc))), hst,
      herr.trans (Nat.mod_eq_of_lt (headerCode_lt s)), hfail, hkeep⟩
  · obtain ⟨hst, hkeep⟩ := headerTaken_shows s (leAt s.keep.loaded 8 4 / 4)
    exact ⟨_, (exec_keepHeaderCheck hup).trans (congrArg s.become ((keepHeader_checks h).trans (if_neg (not_not.2 hc)))), hst.trans h.1, hkeep⟩
  · exact (exec_keepLoadApply hup).trans (congrArg s.become (keepApply_waits h))
  · have hexec := exec_keepLoadApply hup
    cases hr : s.loadResult with
    | error e =>
      obtain ⟨hst, -, hfail, hkeep⟩ := keepFail_shows (s.loadUndo e.2) e.1
      have happly := hexec.trans (congrArg s.become (keepApply_error h hb hr))
      refine ⟨_, happly, hst, hkeep, fun e' he => ?_, fun v hv => absurd (hr.symm.trans hv) (by simp)⟩
      obtain rfl := Except.error.inj (hr.symm.trans he)
      exact ⟨rfl, hfail, besideClose_ctx.keepFail (s.loadUndo e.2) e.1, besideClose_nodeCnt.keepFail (s.loadUndo e.2) e.1⟩
    | ok v =>
      obtain ⟨hst, hkeep, hlen, hdone, hver, hflow, hpfx, hctx⟩ := loadDone_shows s v
      have happly := hexec.trans (congrArg s.become (keepApply_ok h hb hr))
      refine ⟨_, happly, hst, hkeep, fun e he => absurd (hr.symm.trans he) (by simp), fun v' hv => ?_⟩
      obtain rfl := Except.ok.inj (hr.symm.trans hv)
      exact ⟨hlen, hdone, hver, hflow, hpfx, hctx⟩
  · obtain ⟨hst, herr, -, -⟩ := keepFail_shows s.stagingFault 0x0C
    exact ⟨_, (exec_keepLoadApply hup).trans (congrArg s.become (keepApply_bad h hb)), hst, herr⟩

end Sys2Proof.Machine
end

section
/-! Mirror mode: its start and stop, and what a mirror frame does (R412 to R414). -/
namespace Sys2Proof.Machine

variable {s : State} {β : Type} {g : State → β} {t : Nat} {d : List Byte}

/-! What a frame that Ocora sends leaves. -/

/-- `g` does not look at what the sending of a frame moves: the MACs, the transmissions, MAC_STATUS, and the free values used. -/
structure BesideSend (g : State → β) : Prop where
  mac : ∀ s l, g { s with mac := l } = g s
  tx : ∀ s l, g { s with tx := l } = g s
  fresh : ∀ s n, g { s with fresh := n } = g s
  wr : ∀ s i w, g (State.wr s .MAC_STATUS i w) = g s

theorem besideSend_rd {r : Reg} (h : r ≠ .MAC_STATUS) (i : Nat) : BesideSend fun s => s.rd r i :=
  ⟨fun _ _ => rfl, fun _ _ => rfl, fun _ _ => rfl, fun s _ w => rd_wr_other s w fun hc => h hc.1⟩

theorem besideSend_get {f : Fld} (h : f.reg ≠ .MAC_STATUS) (i : Nat) : BesideSend fun s => s.get f i :=
  ⟨fun _ _ => rfl, fun _ _ => rfl, fun _ _ => rfl, fun s k w => congrArg f.of ((besideSend_rd h i).wr s k w)⟩

theorem besideSend_flag {f : Fld} (h : f.reg ≠ .MAC_STATUS) (i : Nat) : BesideSend fun s => s.flag f i :=
  ⟨fun _ _ => rfl, fun _ _ => rfl, fun _ _ => rfl, fun s k w => congrArg (· != 0) ((besideSend_get h i).wr s k w)⟩

namespace BesideSend

theorem lpiWake (h : BesideSend g) (s : State) (m : Nat) : g (s.lpiWake m) = g s :=
  ite_keeps g ((h.mac _ _).trans (h.wr s m _)) rfl

theorem begin (h : BesideSend g) (s : State) (m : Nat) (x : Tx) : g (s.begin m x) = g s :=
  (h.tx _ _).trans (ite_keeps g (h.mac s _) (h.mac s _))

theorem ownTx (h : BesideSend g) (s : State) (m : Nat) : g (s.ownTx m) = g s := by
  unfold State.ownTx
  dsimp only
  split
  · rfl
  · exact ite_keeps g rfl (ite_keeps g (h.lpiWake s m) (ite_keeps g rfl ((h.begin _ m _).trans (h.mac s _))))

theorem sendFrame (h : BesideSend g) (s : State) (m : Nat) (d : List Byte) : g (s.sendFrame m d) = g s :=
  ite_keeps g rfl ((h.ownTx _ m).trans (h.mac s _))

theorem mirSend (h : BesideSend g) (s : State) (msg cycle : Nat) (body : List Byte) : g (s.mirSend msg cycle body) = g s := by
  unfold State.mirSend
  split
  · rfl
  · exact (h.sendFrame _ _ _).trans (h.fresh s _)

end BesideSend

/-! Start and stop (R414). -/

/-- STATE with UNACKED 0 and the mirror's data empty. -/
def State.mirBlank (s : State) : State := { s.put .KEEP_MIR_STATUS_UNACKED 0 0 with mirror := {} }

theorem mirState_mirEnter (s : State) {st : Nat} (h : st < 8) : (s.mirEnter st).mirState = st := by
  unfold State.mirEnter
  split
  · assumption
  · exact (get_keepEvent _ (f := .KEEP_MIR_STATUS_STATE) (by decide) 0).trans ((get_put_same s _ (by decide) 0 st).trans (Nat.mod_eq_of_lt h))

theorem get_mirEnter (s : State) (st : Nat) {f : Fld} (h : f.apart .KEEP_MIR_STATUS_STATE ∧ f.apart .KEEP_STATUS_MIR_EVT) :
    (s.mirEnter st).get f = s.get f :=
  ite_keeps (fun s => s.get f) rfl ((get_keepEvent _ h.2 0).trans (get_put_apart s h.1 0 st 0))

theorem mirror_mirEnter (s : State) (st : Nat) : (s.mirEnter st).mirror = s.mirror :=
  ite_keeps State.mirror rfl (pulse_keeps (g := State.mirror) (fun _ => rfl) _ _)

/-- The fields of KEEP_MIR_CFG that a write takes. -/
def State.mirTaken (s : State) (w : Word) : State :=
  ((((s.putFlag .KEEP_MIR_CFG_EN 0 (wbit w 31)).putFlag .KEEP_MIR_CFG_ROLE 0 (wbit w 30)).putFlag .KEEP_MIR_CFG_KIND 0 (wbit w 29)).when
    (Fld.KEEP_MIR_CFG_MISS_LIMIT.of w != 0) fun s => s.put .KEEP_MIR_CFG_MISS_LIMIT 0 (Fld.KEEP_MIR_CFG_MISS_LIMIT.of w)).when
    (Fld.KEEP_MIR_CFG_CYCLE.of w != 0) fun s => s.put .KEEP_MIR_CFG_CYCLE 0 (Fld.KEEP_MIR_CFG_CYCLE.of w)

theorem flag_mirTaken (s : State) (w : Word) : (s.mirTaken w).flag .KEEP_MIR_CFG_EN = wbit w 31 ∧ (s.mirTaken w).flag .KEEP_MIR_CFG_KIND = wbit w 29 := by
  have htail (f : Fld) (h : f.apart .KEEP_MIR_CFG_MISS_LIMIT ∧ f.apart .KEEP_MIR_CFG_CYCLE) (u : State) :
      ((u.when (Fld.KEEP_MIR_CFG_MISS_LIMIT.of w != 0) fun s => s.put .KEEP_MIR_CFG_MISS_LIMIT 0 (Fld.KEEP_MIR_CFG_MISS_LIMIT.of w)).when
        (Fld.KEEP_MIR_CFG_CYCLE.of w != 0) fun s => s.put .KEEP_MIR_CFG_CYCLE 0 (Fld.KEEP_MIR_CFG_CYCLE.of w)).flag f = u.flag f :=
    (when_keeps (fun u => u.flag f) (f := fun s => s.put .KEEP_MIR_CFG_CYCLE 0 (Fld.KEEP_MIR_CFG_CYCLE.of w))
      (fun u => congrArg (· != 0) (get_put_apart u h.2 0 _ 0)) _ _).trans
      (when_keeps (fun u => u.flag f) (f := fun s => s.put .KEEP_MIR_CFG_MISS_LIMIT 0 (Fld.KEEP_MIR_CFG_MISS_LIMIT.of w))
        (fun u => congrArg (· != 0) (get_put_apart u h.1 0 _ 0)) _ _)
  constructor
  · exact (htail _ (by decide) _).trans ((flag_put_bits _ (by decide) 0 0 _).trans ((flag_put_bits _ (by decide) 0 0 _).trans
      (flag_putFlag s _ (by decide) 0 _)))
  · exact (htail _ (by decide) _).trans (flag_putFlag _ _ (by decide) 0 _)

theorem present_mirTaken (s : State) (w : Word) (p : Nat) : (s.mirTaken w).present' p = s.present' p :=
  (when_keeps (fun u => u.present' p) (f := fun s => s.put .KEEP_MIR_CFG_CYCLE 0 (Fld.KEEP_MIR_CFG_CYCLE.of w)) (fun _ => rfl) _ _).trans
    (when_keeps (fun u => u.present' p) (f := fun s => s.put .KEEP_MIR_CFG_MISS_LIMIT 0 (Fld.KEEP_MIR_CFG_MISS_LIMIT.of w)) (fun _ => rfl) _ _)

theorem mirCfg_starts (hen : s.flag .KEEP_MIR_CFG_EN = false) {w : Word} (hw : wbit w 31 = true) : s.mirCfg w = (s.mirTaken w).mirStart := by
  simp only [State.mirCfg, State.mirTaken, hen, hw]

theorem mirCfg_stops (hen : s.flag .KEEP_MIR_CFG_EN = true) {w : Word} (hw : wbit w 31 = false) : s.mirCfg w = (s.mirTaken w).mirStop := by
  simp only [State.mirCfg, State.mirTaken, hen, hw]

/-- Whether a partner of this kind serves the field ports present: an Irgan serves those up to F255. -/
@[reducible] def State.mirUnserved (s : State) : Prop :=
  (s.flag .KEEP_MIR_CFG_KIND && (List.range 1024).any fun n => decide (255 < n) && s.present' n) = true

/-- What the start of mirror mode leaves. -/
theorem mirStart_shows (s : State) : s.mirStart.flag .KEEP_MIR_CFG_EN = s.flag .KEEP_MIR_CFG_EN ∧
    s.mirStart.mirState = (if s.mirUnserved then mirRefused else mirResync) ∧ s.mirStart.get .KEEP_MIR_STATUS_UNACKED = 0 := by
  have hblank {f : Fld} (h : f.apart .KEEP_MIR_STATUS_UNACKED) : s.mirBlank.get f = s.get f := get_put_apart s h 0 0 0
  have hzero : s.mirBlank.get .KEEP_MIR_STATUS_UNACKED = 0 := get_put_same s _ (by decide) 0 0
  by_cases h : s.mirUnserved
  · have hstart : s.mirStart = s.mirBlank.mirEnter mirRefused := if_pos h
    rw [hstart, if_pos h]
    exact ⟨congrArg (· != 0) ((get_mirEnter _ _ (f := .KEEP_MIR_CFG_EN) (by decide)).trans (hblank (by decide))),
      mirState_mirEnter _ (by decide), (get_mirEnter _ _ (by decide)).trans hzero⟩
  · have hstart : s.mirStart = (s.mirBlank.mirEnter mirResync).mirHello := if_neg h
    have hsend {f : Fld} (h : f.reg ≠ .MAC_STATUS) : s.mirStart.get f = (s.mirBlank.mirEnter mirResync).get f :=
      (congrArg (fun u : State => u.get f) hstart).trans ((besideSend_get h 0).mirSend _ _ _ _)
    rw [if_neg h]
    exact ⟨congrArg (· != 0) ((hsend (f := .KEEP_MIR_CFG_EN) (by decide)).trans ((get_mirEnter _ _ (by decide)).trans (hblank (by decide)))),
      (hsend (f := .KEEP_MIR_STATUS_STATE) (by decide)).trans (mirState_mirEnter _ (by decide)),
      (hsend (by decide)).trans ((get_mirEnter _ _ (by decide)).trans hzero)⟩

theorem mirStop_shows (s : State) : s.mirStop.flag .KEEP_MIR_CFG_EN = s.flag .KEEP_MIR_CFG_EN ∧ s.mirStop.mirState = mirOff ∧
    s.mirStop.mirror = {} :=
  ⟨congrArg (· != 0) ((get_mirEnter s.mirBlank _ (f := .KEEP_MIR_CFG_EN) (by decide)).trans (get_put_apart s (by decide) 0 0 0)),
    mirState_mirEnter s.mirBlank (by decide), mirror_mirEnter s.mirBlank _⟩

/-! A mirror frame (R412 to R414). -/

/-- The frame `d` arrives on trunk `t`: the mirror link is enabled and up, and the frame's type is the one of sessions and mirror frames. -/
@[reducible] def State.mirArrives (s : State) (t : Nat) (d : List Byte) : Prop :=
  s.role (1024 + t) = 2 ∧ s.enabled (1024 + t) = true ∧ s.link (1024 + t) = true ∧ beAt d 12 2 = s.get .SES_CFG_ETYPE

/-- A frame that arrives is counted, and acts by its message. -/
def State.mirReceived (s : State) (t : Nat) (d : List Byte) : State := if s.mirArrives t d then (s.mgmtCounted t d).mirFrame d else s

theorem mirRx_listed {l : List Nat} (h : l.contains (beAt d 16 1) = true) : s.mirRx t l d = s.mirReceived t d :=
  if_congr (by simp only [h, Bool.and_true, Bool.and_eq_true, beq_iff_eq, and_assoc, State.mirArrives]) rfl rfl

/-- The command of a mirror frame, by its message. -/
def mirCommand (t : Nat) (d : List Byte) : Instr :=
  if beAt d 16 1 = 4 then .mirrorCycleEnd t d else if beAt d 16 1 = 5 then .mirrorAck t d else if beAt d 16 1 = 6 then .mirrorResync t d
  else if beAt d 16 1 = 7 then .mirrorHello t d else .mirrorDeltaReceive t d

theorem exec_mirCommand (ht : t < 16) (hup : s.up 17 = true) (hlo : 1 ≤ beAt d 16 1) (hhi : beAt d 16 1 ≤ 7) :
    exec (mirCommand t d) s = s.become (s.mirReceived t d) := by
  have hrun {c : Instr} (l : List Nat) (hl : l.contains (beAt d 16 1) = true)
      (hc : exec c s = runOn 16 t 17 (fun s => s.mirRx t l d) s) : exec c s = s.become (s.mirReceived t d) :=
    hc.trans ((runOn_up (fun s => s.mirRx t l d) ht hup).trans (congrArg s.become (mirRx_listed hl)))
  unfold mirCommand
  split
  · rename_i h; exact hrun [4] (by rw [h]; rfl) rfl
  · split
    · rename_i h; exact hrun [5] (by rw [h]; rfl) rfl
    · split
      · rename_i h; exact hrun [6] (by rw [h]; rfl) rfl
      · split
        · rename_i h; exact hrun [7] (by rw [h]; rfl) rfl
        · refine hrun [1, 2, 3] ?_ rfl
          have : beAt d 16 1 = 1 ∨ beAt d 16 1 = 2 ∨ beAt d 16 1 = 3 := by omega
          simpa using this

theorem mirFrame_off (h : s.flag .KEEP_MIR_CFG_EN = false ∨ mirOk d = false) : s.mirFrame d = s := if_pos (by simpa using h)

section
variable (hen : s.flag .KEEP_MIR_CFG_EN = true) (hok : mirOk d = true)
include hen hok

theorem mirFrame_cond : ¬(!s.flag .KEEP_MIR_CFG_EN || !mirOk d) = true := by simp [hen, hok]

theorem mirFrame_delta (hlo : 1 ≤ beAt d 16 1) (hhi : beAt d 16 1 ≤ 3) : s.mirFrame d = s.mirHold d := by
  have h : beAt d 16 1 = 1 ∨ beAt d 16 1 = 2 ∨ beAt d 16 1 = 3 := by omega
  refine (if_neg (mirFrame_cond hen hok)).trans ?_
  rcases h with h | h | h <;> rw [h] <;> rfl

theorem mirFrame_end (h : beAt d 16 1 = 4) : s.mirFrame d = s.mirSetEnd d := (if_neg (mirFrame_cond hen hok)).trans (by rw [h]; rfl)

theorem mirFrame_ack (h : beAt d 16 1 = 5) : s.mirFrame d = s.mirAcked d := (if_neg (mirFrame_cond hen hok)).trans (by rw [h]; rfl)

theorem mirFrame_resync (h : beAt d 16 1 = 6) : s.mirFrame d = s.mirPiece d := (if_neg (mirFrame_cond hen hok)).trans (by rw [h]; rfl)

theorem mirFrame_hello (h : beAt d 16 1 = 7) : s.mirFrame d = s.mirHeard := (if_neg (mirFrame_cond hen hok)).trans (by rw [h]; rfl)

end

/-! A set at the standby (R412). -/

/-- The standby takes sets, and this one. -/
@[reducible] def State.mirSets (s : State) (d : List Byte) : Prop :=
  s.standby = true ∧ s.mirState = mirRunning ∧ s.mirror.since < mirCycleOf d

theorem mirTakes_iff : s.mirTakes (mirCycleOf d) = true ↔ s.mirSets d := by
  simp [State.mirTakes, State.mirSets, and_assoc]

/-- The frames held of the set of `d`. -/
def State.mirHeld (s : State) (d : List Byte) : List (Nat × List Byte) := if s.mirror.heldCycle = mirCycleOf d then s.mirror.held else []

/-- The frames of a set held, and no others. -/
def State.withHeld (s : State) (l : List (Nat × List Byte)) : State := { s with mirror := { s.mirror with held := l } }

/-- All of the set is there, and right. -/
@[reducible] def State.mirRight (s : State) (d : List Byte) : Prop :=
  beAt (mirBody d) 0 4 = (s.mirHeld d).length ∧ beAt (mirBody d) 4 4 = crc32c ((s.mirHeld d).flatMap (·.2))

/-- The set that gave `v` acknowledged. -/
def State.mirApplied (v : State) (d : List Byte) : State :=
  { (v.withHeld []).put .KEEP_MIR_CYCLE_MIR_CYCLE 0 (mirCycleOf d) with mirror := { (v.withHeld []).mirror with heard := true } }

theorem mirHold_takes (h : s.mirSets d) : s.mirHold d =
    { s with mirror := { s.mirror with held := s.mirHeld d ++ [(beAt d 16 1, mirBody d)], heldCycle := mirCycleOf d } } :=
  if_neg (by rw [mirTakes_iff.2 h]; exact Bool.noConfusion)

theorem mirHold_leaves (h : ¬s.mirSets d) : s.mirHold d = s :=
  if_pos (by rw [Bool.not_eq_true', ← Bool.not_eq_true, mirTakes_iff]; exact h)

theorem mirSetEnd_leaves (h : ¬s.mirSets d) : s.mirSetEnd d = s :=
  if_pos (by rw [Bool.not_eq_true', ← Bool.not_eq_true, mirTakes_iff]; exact h)

theorem mirSetEnd_cond (h : s.mirSets d) : ¬(!s.mirTakes (mirCycleOf d)) = true := by rw [mirTakes_iff.2 h]; exact Bool.noConfusion

theorem mirRight_iff : ¬s.mirRight d ↔
    beAt (mirBody d) 0 4 ≠ (s.mirHeld d).length ∨ beAt (mirBody d) 4 4 ≠ crc32c ((s.mirHeld d).flatMap (·.2)) := not_and_or

theorem mirSetEnd_drops (h : s.mirSets d) (hright : ¬s.mirRight d) : s.mirSetEnd d = s.withHeld [] :=
  (if_neg (mirSetEnd_cond h)).trans (if_pos (mirRight_iff.1 hright))

theorem mirSetEnd_fails (h : s.mirSets d) (hright : s.mirRight d) {e : Nat × State} (he : (s.withHeld (s.mirHeld d)).mirApply = .error e) :
    s.mirSetEnd d = (s.loadUndo e.2).withHeld [] := by
  refine (if_neg (mirSetEnd_cond h)).trans ((if_neg fun hc => mirRight_iff.2 hc hright).trans ?_)
  have hresult : ({ s with mirror := { s.mirror with held := if s.mirror.heldCycle = mirCycleOf d then s.mirror.held else [] } } : State).mirApply =
      .error e := he
  rw [hresult]
  rfl

theorem mirSetEnd_applies (h : s.mirSets d) (hright : s.mirRight d) {v : State} (hv : (s.withHeld (s.mirHeld d)).mirApply = .ok v) :
    s.mirSetEnd d = (v.mirApplied d).mirSend 0x05 (mirCycleOf d) (beBytes 4 (mirCycleOf d)) := by
  refine (if_neg (mirSetEnd_cond h)).trans ((if_neg fun hc => mirRight_iff.2 hc hright).trans ?_)
  have hresult : ({ s with mirror := { s.mirror with held := if s.mirror.heldCycle = mirCycleOf d then s.mirror.held else [] } } : State).mirApply =
      .ok v := hv
  rw [hresult]
  rfl

theorem besideSend_mirror : BesideSend State.mirror := ⟨fun _ _ => rfl, fun _ _ => rfl, fun _ _ => rfl, fun _ _ _ => rfl⟩
theorem besideSend_flow : BesideSend State.flow := ⟨fun _ _ => rfl, fun _ _ => rfl, fun _ _ => rfl, fun _ _ _ => rfl⟩
theorem besideSend_ctx : BesideSend State.ctx := ⟨fun _ _ => rfl, fun _ _ => rfl, fun _ _ => rfl, fun _ _ _ => rfl⟩

/-- What the acknowledgement of a set applied leaves. -/
theorem mirAppliedSent_shows (v : State) (d : List Byte) :
    let u := (v.mirApplied d).mirSend 0x05 (mirCycleOf d) (beBytes 4 (mirCycleOf d))
    u.get .KEEP_MIR_CYCLE_MIR_CYCLE = mirCycleOf d % 2 ^ 32 ∧ u.mirror.held = [] ∧ u.mirror.heard = true ∧ u.flow = v.flow ∧ u.ctx = v.ctx :=
  ⟨((besideSend_get (by decide) 0).mirSend (v.mirApplied d) _ _ _).trans (get_put_same (v.withHeld []) _ (by decide) 0 _),
    congrArg Mirror.held (besideSend_mirror.mirSend (v.mirApplied d) _ _ _), congrArg Mirror.heard (besideSend_mirror.mirSend (v.mirApplied d) _ _ _),
    besideSend_flow.mirSend (v.mirApplied d) _ _ _, besideSend_ctx.mirSend (v.mirApplied d) _ _ _⟩

/-! An acknowledgement at the active partner (R412, R414). -/

/-- The sets after the one that is acknowledged. -/
def State.mirAfter (s : State) (d : List Byte) : Nat := s.get .KEEP_MIR_CYCLE_MIR_CYCLE - beAt (mirBody d) 0 4

theorem mirAcked_takes (hactive : s.standby = false) (hrun : s.mirState = mirRunning) (hlt : s.mirAfter d < s.get .KEEP_MIR_STATUS_UNACKED)
    (hle : beAt (mirBody d) 0 4 ≤ s.get .KEEP_MIR_CYCLE_MIR_CYCLE) :
    s.mirAcked d = { s.put .KEEP_MIR_STATUS_UNACKED 0 (s.mirAfter d) with mirror := { s.mirror with heard := true } } := by
  have hlt' : ¬s.get .KEEP_MIR_STATUS_UNACKED ≤ s.get .KEEP_MIR_CYCLE_MIR_CYCLE - beAt (mirBody d) 0 4 := Nat.not_le.2 hlt
  exact if_neg (by simp [hactive, hrun, hlt', Nat.not_lt.2 hle])

/-! The frame counted leaves what mirror mode looks at. -/

theorem mirror_mgmtCounted (s : State) (t : Nat) (d : List Byte) : (s.mgmtCounted t d).mirror = s.mirror :=
  beside_mgmtCounted State.mirror (fun _ _ _ _ => rfl) s t d

theorem flag_mgmtCounted (s : State) (t : Nat) (d : List Byte) {f : Fld}
    (hf : f.reg ∉ [Reg.MAC_RX_FRAMES_LO, .MAC_RX_FRAMES_HI, .MAC_RX_OCTETS_LO, .MAC_RX_OCTETS_HI]) (i : Nat) :
    (s.mgmtCounted t d).flag f i = s.flag f i := congrArg (· != 0) (get_mgmtCounted s t d hf i)

theorem standby_mgmtCounted (s : State) (t : Nat) (d : List Byte) : (s.mgmtCounted t d).standby = s.standby :=
  flag_mgmtCounted s t d (by decide) 0

theorem mirState_mgmtCounted (s : State) (t : Nat) (d : List Byte) : (s.mgmtCounted t d).mirState = s.mirState :=
  get_mgmtCounted s t d (by decide) 0

theorem mirSets_mgmtCounted (s : State) (t : Nat) (d : List Byte) : (s.mgmtCounted t d).mirSets d ↔ s.mirSets d := by
  simp only [State.mirSets, standby_mgmtCounted, mirState_mgmtCounted, mirror_mgmtCounted]

theorem exec_mirCycle (hup : s.up 17 = true) : exec .mirrorCycle s = s.become s.mirCycle := run_up _ hup

theorem exec_mirrorEnable (hs : s.soft = true) (hup : s.up 17 = true) (w : Word) :
    exec (.mirrorEnable w) s = s.become (s.mirCfg (w ||| 0x80000000#32)) := runSoft_up (fun s => s.mirCfg (w ||| 0x80000000#32)) hs hup

theorem exec_mirrorDisable (hs : s.soft = true) (hup : s.up 17 = true) :
    exec .mirrorDisable s = s.become (s.mirCfg (s.rd .KEEP_MIR_CFG &&& 0x7FFFFFFF#32)) :=
  runSoft_up (fun s => s.mirCfg (s.rd .KEEP_MIR_CFG &&& 0x7FFFFFFF#32)) hs hup

theorem wbit_enabled (w : Word) : wbit (w ||| 0x80000000#32) 31 = true ∧ wbit (w ||| 0x80000000#32) 29 = wbit w 29 := by
  have h31 : (0x80000000#32).toNat.testBit 31 = true := by decide
  have h29 : (0x80000000#32).toNat.testBit 29 = false := by decide
  constructor
  · rw [wbit, BitVec.toNat_or, Nat.testBit_or, h31, Bool.or_true]
  · rw [wbit, BitVec.toNat_or, Nat.testBit_or, h29, Bool.or_false, wbit]

theorem wbit_disabled (w : Word) : wbit (w &&& 0x7FFFFFFF#32) 31 = false := by
  have h31 : (0x7FFFFFFF#32).toNat.testBit 31 = false := by decide
  rw [wbit, BitVec.toNat_and, Nat.testBit_and, h31, Bool.and_false]

/-! The data of a state with the mirror of another. -/

theorem withHeld_of_mirror {u : State} {x : Mirror} (h : u.mirror = x) (l : List (Nat × List Byte)) :
    u.withHeld l = { u with mirror := { x with held := l } } := by rw [State.withHeld, h]

theorem mirHeld_of_mirror {u : State} (h : u.mirror = s.mirror) (d : List Byte) : u.mirHeld d = s.mirHeld d := by
  rw [State.mirHeld, h, State.mirHeld]

theorem mirHold_of_mirror {u : State} {x : Mirror} (h : u.mirror = x) (hset : u.mirSets d) {l : List (Nat × List Byte)} (hl : u.mirHeld d = l) :
    u.mirHold d = { u with mirror := { x with held := l ++ [(beAt d 16 1, mirBody d)], heldCycle := mirCycleOf d } } := by
  rw [mirHold_takes hset, hl, h]

theorem mirRight_of_mirror {u : State} (h : u.mirror = s.mirror) (d : List Byte) : u.mirRight d ↔ s.mirRight d := by
  rw [State.mirRight, mirHeld_of_mirror h]

/-- What an acknowledgement taken shows. -/
theorem mirAcked_shows (hactive : s.standby = false) (hrun : s.mirState = mirRunning) (hlt : s.mirAfter d < s.get .KEEP_MIR_STATUS_UNACKED)
    (hle : beAt (mirBody d) 0 4 ≤ s.get .KEEP_MIR_CYCLE_MIR_CYCLE) :
    (s.mirAcked d).get .KEEP_MIR_STATUS_UNACKED = s.mirAfter d ∧ (s.mirAcked d).mirror.heard = true := by
  have hfit : s.mirAfter d < 16 := Nat.lt_trans hlt (of_lt .KEEP_MIR_STATUS_UNACKED _)
  rw [mirAcked_takes hactive hrun hlt hle]
  exact ⟨(get_put_same s _ (by decide) 0 _).trans (Nat.mod_eq_of_lt hfit), rfl⟩

/-- Settles O57: EN's edges and the cycle, then a frame by whether it arrives, by its message, and by the set that it ends. -/
theorem mirrorSetsApplyWholeOrAreDropped : Obligations.MirrorSetsApplyWholeOrAreDropped := by
  intro t f w s ht hup m msg a arrives good held right sets s0 unacked c
  have ha : a = s.mgmtCounted t f := rfl
  have hmirror : a.mirror = s.mirror := mirror_mgmtCounted s t f
  have hset (h : sets) : a.mirSets f := (mirSets_mgmtCounted s t f).2 h
  have hsets (h : a.mirSets f) : sets := (mirSets_mgmtCounted s t f).1 h
  have hflag : a.flag .KEEP_MIR_CFG_EN = s.flag .KEEP_MIR_CFG_EN := flag_mgmtCounted s t f (by decide) 0
  have hframe (hlo : 1 ≤ msg) (hhi : msg ≤ 7) (h : arrives) : exec c s = s.become (a.mirFrame f) :=
    (exec_mirCommand ht hup hlo hhi).trans (congrArg s.become (if_pos h))
  have hget {f : Fld} (hf : f.reg ∉ [Reg.MAC_RX_FRAMES_LO, .MAC_RX_FRAMES_HI, .MAC_RX_OCTETS_LO, .MAC_RX_OCTETS_HI]) : a.get f = s.get f :=
    get_mgmtCounted s t _ hf 0
  clear_value a
  have hheld : a.mirHeld f = held := mirHeld_of_mirror hmirror f
  have hstate : a.mirState = s.mirState := hget (by decide)
  have hstandby : a.standby = s.standby := congrArg (· != 0) (hget (f := .KEEP_MIR_CFG_ROLE) (by decide))
  have hen (h : good) : a.flag .KEEP_MIR_CFG_EN = true := hflag.trans h.2.1
  have hend (h : good) (hm : msg = 4) : exec c s = s.become (a.mirSetEnd f) :=
    (hframe (by omega) (by omega) h.1).trans (congrArg s.become (mirFrame_end (hen h) h.2.2 hm))
  have hright : a.mirRight f ↔ right := mirRight_of_mirror hmirror f
  have hs0 : a.withHeld (a.mirHeld f) = s0 := (congrArg a.withHeld hheld).trans (withHeld_of_mirror hmirror held)
  refine ⟨fun hs h => ?_, fun hs h => ?_, fun h => ?_, fun h => ?_, fun hlo hhi h => ?_, fun hlo hhi h hoff => ?_, fun h hlo hhi => ?_,
    fun h hm hset' => ?_, fun h hm hset' hr => ?_, fun v h hm hset' hr hv => ?_, fun e h hm hset' hr he => ?_,
    fun h hm hst hrun hlt hle => ?_, fun h hm => ?_, fun h hm => ?_⟩
  · obtain ⟨hbit, hkind⟩ := wbit_enabled w
    obtain ⟨hEn, hState, hUn⟩ := mirStart_shows (s.mirTaken (w ||| 0x80000000#32))
    obtain ⟨hen', hkind'⟩ := flag_mirTaken s (w ||| 0x80000000#32)
    refine ⟨_, (exec_mirrorEnable hs hup w).trans (congrArg s.become (mirCfg_starts h hbit)), hEn.trans (hen'.trans hbit),
      hState.trans (if_congr ?_ rfl rfl), hUn⟩
    rw [State.mirUnserved, hkind', hkind, Bool.and_eq_true]
    simp only [present_mirTaken]
  · obtain ⟨hEn, hState, hMirror⟩ := mirStop_shows (s.mirTaken (s.rd .KEEP_MIR_CFG &&& 0x7FFFFFFF#32))
    obtain ⟨hen', -⟩ := flag_mirTaken s (s.rd .KEEP_MIR_CFG &&& 0x7FFFFFFF#32)
    have hbit := wbit_disabled (s.rd .KEEP_MIR_CFG)
    exact ⟨_, (exec_mirrorDisable hs hup).trans (congrArg s.become (mirCfg_stops h hbit)), hEn.trans (hen'.trans hbit), hState, hMirror⟩
  · exact (exec_mirCycle hup).trans (congrArg s.become (if_pos h))
  · exact exec_mirCycle hup
  · exact (exec_mirCommand ht hup hlo hhi).trans (congrArg s.become (if_neg h))
  · exact (hframe hlo hhi h).trans (congrArg s.become (mirFrame_off (hoff.imp_left hflag.trans)))
  · refine (hframe hlo (by omega) h.1).trans (congrArg s.become ((mirFrame_delta (hen h) h.2.2 hlo hhi).trans ?_))
    by_cases hset' : sets
    · exact (mirHold_of_mirror hmirror (hset hset') hheld).trans (if_pos hset').symm
    · exact (mirHold_leaves fun hc => hset' (hsets hc)).trans (if_neg hset').symm
  · exact (hend h hm).trans (congrArg s.become (mirSetEnd_leaves fun hc => hset' (hsets hc)))
  · refine (hend h hm).trans (congrArg s.become ((mirSetEnd_drops (hset hset') fun hc => hr (hright.1 hc)).trans ?_))
    exact withHeld_of_mirror hmirror []
  · rw [← hs0] at hv
    exact ⟨_, (hend h hm).trans (congrArg s.become (mirSetEnd_applies (hset hset') (hright.2 hr) hv)), mirAppliedSent_shows v f⟩
  · rw [← hs0] at he
    exact (hend h hm).trans (congrArg s.become (mirSetEnd_fails (hset hset') (hright.2 hr) he))
  · have hunacked : a.mirAfter f = unacked := congrArg (· - _) (hget (f := .KEEP_MIR_CYCLE_MIR_CYCLE) (by decide))
    obtain ⟨hshown, hheard⟩ := mirAcked_shows (s := a) (d := f) (hstandby.trans hst) (hstate.trans hrun)
      (by rw [hunacked, hget (by decide)]; exact hlt) (by rw [hget (by decide)]; exact hle)
    exact ⟨_, (hframe (by omega) (by omega) h.1).trans (congrArg s.become (mirFrame_ack (hen h) h.2.2 hm)),
      (outside_get s _ _ 0).trans (hshown.trans hunacked), (congrArg Mirror.heard (outside_mirror s _)).trans hheard⟩
  · exact (hframe (by omega) (by omega) h.1).trans (congrArg s.become (mirFrame_resync (hen h) h.2.2 hm))
  · refine (hframe (by omega) (by omega) h.1).trans (congrArg s.become ((mirFrame_hello (hen h) h.2.2 hm).trans ?_))
    rw [State.mirHeard, hstate, hstandby]

end Sys2Proof.Machine
end

section
/-! What a session's response and its records leave of the rest of the state (R244, R415, R426). -/
namespace Sys2Proof.Machine

variable {s : State} {β : Type} {g : State → β}

/-- The registers that a frame offered to a queue moves, beside the flag of the session counters' saturation. -/
def offerRegs : List Reg := [.MAC_STATUS, .SCH_DEFICIT, .SCH_TAG_REJ, .DOME_CLASS_DROP, .DOME_DROP_G, .DOME_DROP_Y, .DOME_DROP_R,
  .DOME_USED_PEAK, .FLT_INJ_DATA, .SES_RSP_DROP]

/-- `g` does not look at what a response moves on its way into its queue. -/
structure BesideOffer (g : State → β) : Prop where
  bel : ∀ s, g s.besideBel = g s
  fresh : ∀ s n, g { s with fresh := n } = g s
  frames : ∀ s l, g { s with frames := l } = g s
  queues : ∀ s l u, g { s with queues := l, qUsed := u } = g s
  last : ∀ s l, g { s with fLast := l } = g s
  injected : ∀ s l, g { s with injected := l } = g s
  mac : ∀ s l, g { s with mac := l } = g s
  sat : ∀ s v, g (State.put s .SES_STATUS_SAT 0 v) = g s
  wr : ∀ s r i w, r ∈ offerRegs → g (State.wr s r i w) = g s

/-- A field that no response moves. -/
@[reducible] def Fld.unoffered (f : Fld) : Prop := f.reg ∉ offerRegs ∧ f.apart .SES_STATUS_SAT

theorem besideOffer_get {f : Fld} (h : f.unoffered) (i : Nat) : BesideOffer fun s => s.get f i :=
  ⟨fun _ => rfl, fun _ _ => rfl, fun _ _ => rfl, fun _ _ _ => rfl, fun _ _ => rfl, fun _ _ => rfl, fun _ _ => rfl,
    fun s v => get_put_apart s h.2 0 v i, fun s _ _ w hr => congrArg f.of (rd_wr_other s w fun hc => h.1 (hc.1 ▸ hr))⟩

namespace BesideOffer

theorem put (h : BesideOffer g) {f : Fld} (hf : f.reg ∈ offerRegs) (s : State) (i v : Nat) : g (s.put f i v) = g s := h.wr s _ i _ hf

theorem inc (h : BesideOffer g) {f : Fld} (hf : f.reg ∈ offerRegs ∧ ∀ k, satFlag (satSource f.reg) = some k → k = .SES_STATUS_SAT)
    (s : State) (i : Nat) : g (s.inc f i) = g s :=
  add_keeps g h.bel (fun s i w => h.wr s _ i w hf.1) (fun k hk s v => by rw [hf.2 k hk]; exact h.sat s v) s i 1

theorem count (h : BesideOffer g) {f : Fld} (hf : f.reg ∈ offerRegs) (hs : satFlag (satSource f.reg) = none) (s : State) (i : Nat) :
    g (s.inc f i) = g s := h.inc ⟨hf, fun k hk => by rw [hs] at hk; cases hk⟩ s i

theorem rejected (h : BesideOffer g) (s : State) : g (s.inc .SES_RSP_DROP_COUNT) = g s :=
  h.inc (f := .SES_RSP_DROP_COUNT) ⟨by decide, fun k hk => (Option.some.inj (show some Fld.SES_STATUS_SAT = some k from hk)).symm⟩ s 0

theorem memWrite (h : BesideOffer g) (s : State) (m a : Nat) : g (s.memWrite m a) = g s :=
  memWrite_keeps g h.injected (fun s => h.put (f := .FLT_INJ_DATA_ARM) (by decide) s 0 0) s m a

theorem flowControl (h : BesideOffer g) (s : State) (p : Nat) : g (s.flowControl p) = g s := by
  have hdue (u : State) (f : Fld) (hf : f.reg ∈ offerRegs) (v : Nat) (l : List (Nat × Mac)) : g { u.put f p v with mac := l } = g u :=
    (h.mac _ l).trans (h.put hf u p v)
  have hpause : g (s.fcPause p) = g s :=
    ite_keeps g (hdue s .MAC_STATUS_XOFF (by decide) _ _) (ite_keeps g (hdue s .MAC_STATUS_XOFF (by decide) _ _) rfl)
  have hpfc (u : State) : g (u.fcPfc p) = g u := ite_keeps g rfl (hdue u .MAC_STATUS_XOFF_CLASSES (by decide) _ _)
  exact ite_keeps g ((hpfc _).trans hpause) rfl

theorem freeFrame (h : BesideOffer g) (s : State) (k : Nat) : g (s.freeFrame k) = g s := by
  unfold State.freeFrame
  split
  · rfl
  · dsimp only
    split
    · exact (h.flowControl _ _).trans (h.frames s _)
    · exact h.frames s _

theorem countDrop (h : BesideOffer g) (s : State) (col p : Nat) : g (s.countDrop col p) = g s := by
  unfold State.countDrop
  split
  · exact h.count (f := .DOME_DROP_G_COUNT) (by decide) rfl s p
  · exact h.count (f := .DOME_DROP_Y_COUNT) (by decide) rfl s p
  · exact h.count (f := .DOME_DROP_R_COUNT) (by decide) rfl s p

theorem setQueue (h : BesideOffer g) (s : State) (q : Nat) (l : List Copy) : g (s.setQueue q l) = g s :=
  (ite_keeps g rfl ((h.put (f := .SCH_DEFICIT_FRESH) (by decide) _ _ 1).trans (h.put (f := .SCH_DEFICIT_DEFICIT) (by decide) _ _ 0))).trans
    (h.queues s _ _)

theorem addRef (h : BesideOffer g) (s : State) (k : Nat) (f : DFrame) : g (s.addRef k f) = g s := (h.memWrite _ 2 k).trans (h.frames s _)

theorem offer (h : BesideOffer g) (s : State) (k : Nat) (f : DFrame) (q col edit handle cls : Nat) :
    g (s.offer k f q col edit handle cls).2 = g s := by
  by_cases hover : s.threshold (s.queueClass q) col < s.queueCells q + f.cells
  · rw [offer_over hover]
    exact (h.countDrop _ _ _).trans (h.count (f := .DOME_CLASS_DROP_COUNT) (by decide) rfl s _)
  · cases htag : s.offerTag f q edit with
    | none =>
      rw [offer_untagged hover htag]
      exact h.count (f := .SCH_TAG_REJ_COUNT) (by decide) rfl s _
    | some n =>
      obtain ⟨c, l, -, heq⟩ := offer_tagged (h := k) (handle := handle) (cls := cls) hover htag
      rw [heq]
      exact (h.last _ l).trans ((h.addRef _ k f).trans (h.setQueue s q _))

theorem sesSend (h : BesideOffer g) (s : State) (m : Nat) (d : List Byte) : g (s.sesSend m d) = g s := by
  have hplaced (u : State) (k : Nat) (f : DFrame) : g (((u.used.headWrite k).setFrame k f).notePeak) = g u :=
    (ite_keeps g (h.put (f := .DOME_USED_PEAK_PEAK) (by decide) _ 0 _) rfl).trans
      ((h.frames _ _).trans ((h.memWrite _ 2 k).trans ((h.memWrite _ 1 k).trans (h.fresh u _))))
  refine ite_keeps g (h.rejected s) (ite_keeps g ?_ ?_)
  · exact (h.offer _ _ _ _ _ _ _ _).trans (hplaced s _ _)
  · exact (h.rejected _).trans ((h.freeFrame _ _).trans ((h.offer _ _ _ _ _ _ _ _).trans (hplaced s _ _)))

theorem sesRespond (h : BesideOffer g) (hses : ∀ s l, g { s with ses := l } = g s) (s : State) (i msg status : Nat) (body : List Byte) :
    g (s.sesRespond i msg status body) = g s := (h.sesSend _ _ _).trans (hses s _)

end BesideOffer

theorem besideOffer_ses : BesideOffer State.ses :=
  ⟨fun _ => rfl, fun _ _ => rfl, fun _ _ => rfl, fun _ _ _ => rfl, fun _ _ => rfl, fun _ _ => rfl, fun _ _ => rfl, fun _ _ => rfl, fun _ _ _ _ _ => rfl⟩

theorem besideOffer_sesFails : BesideOffer State.sesFails :=
  ⟨fun _ => rfl, fun _ _ => rfl, fun _ _ => rfl, fun _ _ _ => rfl, fun _ _ => rfl, fun _ _ => rfl, fun _ _ => rfl, fun _ _ => rfl, fun _ _ _ _ _ => rfl⟩

theorem besideOffer_sesQ : BesideOffer State.sesQ :=
  ⟨fun _ => rfl, fun _ _ => rfl, fun _ _ => rfl, fun _ _ _ => rfl, fun _ _ => rfl, fun _ _ => rfl, fun _ _ => rfl, fun _ _ => rfl, fun _ _ _ _ _ => rfl⟩

end Sys2Proof.Machine
end

section
/-! Management sessions: opening by proof, the lock-out, and the idle session's close (R415 to R419). -/
namespace Sys2Proof.Machine

variable {s : State} {t i k : Nat} {d : List Byte}

/-! Numbers in bytes. -/

theorem beNat_lt (l : List Byte) : beNat l < 256 ^ l.length := by
  induction l using List.reverseRecOn with
  | nil => decide
  | append_singleton l b ih =>
    have hb : b.toNat < 256 := b.isLt
    have hstep : beNat (l ++ [b]) = beNat l * 256 + b.toNat := by rw [beNat, List.foldl_append]; rfl
    rw [hstep, List.length_append, List.length_singleton, pow_succ]
    omega

theorem beAt_lt (l : List Byte) (off n : Nat) : beAt l off n < 256 ^ n :=
  (beNat_lt _).trans_le (Nat.pow_le_pow_right (by decide) (by simp [slice]))

/-! A frame at the endpoint (R415, R418). -/

/-- A session frame of message `n` arrives on trunk `t`. -/
@[reducible] def State.sesArrives (s : State) (t n : Nat) (d : List Byte) : Prop :=
  s.enabled (1024 + t) = true ∧ s.link (1024 + t) = true ∧ s.isSession (1024 + t) d = true ∧ sesMsg d = n

theorem sesRx_arrives {n : Nat} (h : s.sesArrives t n d) : s.sesRx t [n] d = (s.mgmtCounted t d).sesFrame t d := by
  obtain ⟨hen, hlink, hses, hmsg⟩ := h
  exact if_pos (by simp [hen, hlink, hses, hmsg])

theorem exec_sesRx {c : Instr} {n : Nat} (ht : t < 16) (hup : s.up 18 = true) (h : s.sesArrives t n d)
    (hc : exec c s = runOn 16 t 18 (fun s => s.sesRx t [n] d) s) : exec c s = s.become ((s.mgmtCounted t d).sesFrame t d) :=
  hc.trans ((runOn_up (fun s => s.sesRx t [n] d) ht hup).trans (congrArg s.become (sesRx_arrives h)))

theorem sesFrame_ragged (h : sesWhole d = false) : s.sesFrame t d = s.sesReject := if_pos (by rw [h]; rfl)

theorem sesFrame_cond (h : sesWhole d = true) : ¬(!sesWhole d) = true := by rw [h]; exact Bool.noConfusion

theorem sesFrame_open (h : sesWhole d = true) (hmsg : sesMsg d = 1) : s.sesFrame t d = s.sesOpen t d :=
  (if_neg (sesFrame_cond h)).trans (by rw [hmsg]; rfl)

theorem sesFrame_proof (h : sesWhole d = true) (hmsg : sesMsg d = 3) : s.sesFrame t d = s.sesProof t d :=
  (if_neg (sesFrame_cond h)).trans (by rw [hmsg]; rfl)

/-! The counted frame leaves the sessions. -/

theorem get_counted_ses (s : State) (t : Nat) (d : List Byte) {f : Fld}
    (h : f.reg ∈ [Reg.SES_SESS, .SES_SESS_SA_LO, .SES_SESS_SA_HI, .SES_STATUS, .SES_KEY_STATUS, .SES_AUTH_FAIL, .SES_TIMERS, .SES_SA_LO, .SES_SA_HI])
    (i : Nat) : (s.mgmtCounted t d).get f i = s.get f i :=
  get_mgmtCounted s t d (by
    intro hc
    simp only [List.mem_cons, List.not_mem_nil, or_false] at h hc
    rcases hc with hc | hc | hc | hc <;> rw [hc] at h <;> revert h <;> decide) i

theorem sesState_mgmtCounted (s : State) (t : Nat) (d : List Byte) (k : Nat) : (s.mgmtCounted t d).sesState k = s.sesState k :=
  get_counted_ses s t d (by decide) k

theorem sesClient_mgmtCounted (s : State) (t : Nat) (d : List Byte) (k : Nat) : (s.mgmtCounted t d).sesClient k = s.sesClient k := by
  rw [State.sesClient, get_counted_ses s t d (by decide), get_counted_ses s t d (by decide), State.sesClient]

theorem sesOf_mgmtCounted (s : State) (t : Nat) (d : List Byte) (k : Nat) : (s.mgmtCounted t d).sesOf k = s.sesOf k :=
  beside_mgmtCounted (fun s => s.sesOf k) (fun _ _ _ _ => rfl) s t d

theorem sesFails_mgmtCounted (s : State) (t : Nat) (d : List Byte) : (s.mgmtCounted t d).sesFails = s.sesFails :=
  beside_mgmtCounted State.sesFails (fun _ _ _ _ => rfl) s t d

theorem sesFind_mgmtCounted (s : State) (t : Nat) (d : List Byte) (n st : Nat) (e : List Byte) :
    (s.mgmtCounted t d).sesFind n st e = s.sesFind n st e := by
  have hsid (i : Nat) := get_counted_ses s t d (f := .SES_SESS_SID) (by decide) i
  have htrunk (i : Nat) := get_counted_ses s t d (f := .SES_SESS_TRUNK) (by decide) i
  simp only [State.sesFind, sesState_mgmtCounted, sesClient_mgmtCounted, hsid, htrunk]

theorem sesNonces_mgmtCounted (s : State) (t : Nat) (d : List Byte) (k : Nat) : (s.mgmtCounted t d).sesNonces k = s.sesNonces k := by
  have hsid (i : Nat) := get_counted_ses s t d (f := .SES_SESS_SID) (by decide) i
  have hhi := get_counted_ses s t d (f := .SES_SA_HI_SA_HI) (by decide) 0
  have hlo := get_counted_ses s t d (f := .SES_SA_LO_SA_LO) (by decide) 0
  simp only [State.sesNonces, State.sesSa, sesOf_mgmtCounted, sesClient_mgmtCounted, hsid, hhi, hlo]

/-! OPEN (R416, R417). -/

/-- An OPEN that is whole and names a written slot that is not locked out. -/
@[reducible] def State.sesFits (s : State) (d : List Byte) : Prop :=
  sesLen d = 20 ∧ sesSid d = 0 ∧ sesSeq d = 0 ∧ beAt (sesBody d) 1 3 = 0 ∧ beAt (sesBody d) 0 1 ≤ 7 ∧
    (s.get .SES_KEY_STATUS_WRITTEN).testBit (beAt (sesBody d) 0 1) = true ∧
    (s.get .SES_STATUS_SLOT_OUT).testBit (beAt (sesBody d) 0 1) = false

/-- The lowest session that is free. -/
def State.sesLowest (s : State) : Option Nat := (List.range 4).find? fun k => s.sesState k == sesFree

/-- The registers of session `k` for a client at `a` behind trunk `t`, that names `slot` and is named `sid`. -/
def State.sessNamed (s : State) (k slot t sid a : Nat) : State :=
  (((((s.put .SES_SESS_STATE k sesChallenged).put .SES_SESS_SLOT k slot).put .SES_SESS_TRUNK k t).put .SES_SESS_SID k sid).put
    .SES_SESS_SA_LO_SA_LO k a).put .SES_SESS_SA_HI_SA_HI k (a >>> 32)

/-- Session `k` taken by the OPEN `d` of trunk `t`. -/
def State.sesChallenge (s : State) (k t : Nat) (d : List Byte) : State :=
  (s.used.used.sessNamed k (beAt (sesBody d) 0 1) t s.freshSid (sesFrom d)).setSes k
    { nonceC := slice (sesBody d) 4 16, nonceO := s.used.freeBytes 16 }

theorem sesFits_iff : ¬s.sesFits d ↔ sesLen d ≠ 20 ∨ sesSid d ≠ 0 ∨ sesSeq d ≠ 0 ∨ beAt (sesBody d) 1 3 ≠ 0 ∨ 7 < beAt (sesBody d) 0 1 ∨
    (!(s.get .SES_KEY_STATUS_WRITTEN).testBit (beAt (sesBody d) 0 1)) = true ∨
    (s.get .SES_STATUS_SLOT_OUT).testBit (beAt (sesBody d) 0 1) = true := by
  simp only [State.sesFits, not_and_or, Nat.not_le, Bool.not_eq_true', Bool.not_eq_true, Bool.not_eq_false, ne_eq]

theorem sesOpen_unfit (h : ¬s.sesFits d) : s.sesOpen t d = s.sesReject := if_pos (sesFits_iff.1 h)

theorem sesOpen_full (h : s.sesFits d) (hfree : s.sesLowest = none) : s.sesOpen t d = s.sesReject := by
  refine (if_neg fun hc => sesFits_iff.2 hc h).trans ?_
  rw [show (List.range 4).find? (fun k => s.sesState k == sesFree) = none from hfree]

theorem sesOpen_taken (h : s.sesFits d) (hfree : s.sesLowest = some k) : s.sesOpen t d =
    (s.sesChallenge k t d).sesSend (1024 + t) ((s.sesChallenge k t d).sesBytes (sesFrom d) 0x02 0 s.freshSid 0 (s.used.freeBytes 16)) := by
  refine (if_neg fun hc => sesFits_iff.2 hc h).trans ?_
  rw [show (List.range 4).find? (fun k => s.sesState k == sesFree) = some k from hfree]
  rfl

/-! Fields of the session's place. -/

theorem get_put_place (s : State) (f p : Fld) {j k : Nat} (h : j ≠ k) (v : Nat) : (s.put p k v).get f j = s.get f j :=
  get_put_other s p f k j v (.inl fun hc => h hc.2)

theorem sesOf_setSes (s : State) (k : Nat) (x : Session) : (s.setSes k x).sesOf k = x := tget_tput_same _ _ _ _

theorem sesOf_setSes_other (s : State) {j k : Nat} (h : j ≠ k) (x : Session) : (s.setSes k x).sesOf j = s.sesOf j :=
  tget_tput_other _ _ _ _ _ h

theorem sesOf_of_ses {u : State} (h : u.ses = s.ses) (k : Nat) : u.sesOf k = s.sesOf k := by
  rw [State.sesOf, h, State.sesOf]

theorem get_setSes (s : State) (k : Nat) (x : Session) (f : Fld) (j : Nat) : (s.setSes k x).get f j = s.get f j := rfl

theorem sessNamed_shows (s : State) (k slot t sid a : Nat) (hslot : slot < 8) (ht : t < 16) (ha : a < 2 ^ 48) :
    let u := s.sessNamed k slot t sid a
    u.sesState k = sesChallenged ∧ u.get .SES_SESS_SLOT k = slot ∧ u.get .SES_SESS_TRUNK k = t ∧ u.sesClient k = a := by
  refine ⟨?_, ?_, ?_, ?_⟩
  · simp (disch := decide) only [State.sesState, State.sessNamed, get_put_apart]
    exact get_put_same s _ (by decide) k _
  · simp (disch := decide) only [State.sessNamed, get_put_apart]
    exact (get_put_same _ _ (by decide) k _).trans (Nat.mod_eq_of_lt hslot)
  · simp (disch := decide) only [State.sessNamed, get_put_apart]
    exact (get_put_same _ _ (by decide) k _).trans (Nat.mod_eq_of_lt ht)
  · simp (disch := decide) only [State.sesClient, State.sessNamed, get_put_apart, get_put_same]
    simp only [Fld.width, Fld.SES_SESS_SA_HI_SA_HI, Fld.SES_SESS_SA_LO_SA_LO, Nat.shiftRight_eq_div_pow]
    omega

theorem sesState_sessNamed_other (s : State) {j k : Nat} (h : j ≠ k) (slot t sid a : Nat) :
    (s.sessNamed k slot t sid a).sesState j = s.sesState j := by
  simp only [State.sesState, State.sessNamed, get_put_place _ _ _ h]

theorem sesState_setSes (s : State) (k : Nat) (x : Session) (j : Nat) : (s.setSes k x).sesState j = s.sesState j := rfl

theorem sesClient_setSes (s : State) (k : Nat) (x : Session) (j : Nat) : (s.setSes k x).sesClient j = s.sesClient j := rfl

/-- What an OPEN leaves of its session. -/
theorem sesChallenge_shows (s : State) (k : Nat) (d : List Byte) (ht : t < 16) (hslot : beAt (sesBody d) 0 1 ≤ 7) :
    (s.sesChallenge k t d).sesState k = sesChallenged ∧ (s.sesChallenge k t d).get .SES_SESS_SLOT k = beAt (sesBody d) 0 1 ∧
      (s.sesChallenge k t d).get .SES_SESS_TRUNK k = t ∧ (s.sesChallenge k t d).sesClient k = sesFrom d := by
  rw [State.sesChallenge, sesState_setSes, get_setSes, get_setSes, sesClient_setSes]
  exact sessNamed_shows s.used.used k _ t s.freshSid (sesFrom d) (Nat.lt_succ_of_le hslot) ht (beAt_lt d 6 6)

theorem sesOf_sesChallenge (s : State) (k t : Nat) (d : List Byte) :
    (s.sesChallenge k t d).sesOf k = { nonceC := slice (sesBody d) 4 16, nonceO := s.used.freeBytes 16 } := sesOf_setSes _ k _

theorem sesOf_sessNamed (s : State) (k slot t sid a j : Nat) : (s.sessNamed k slot t sid a).sesOf j = s.sesOf j := rfl

/-- The other sessions are as they were. -/
theorem sesChallenge_others (s : State) (k t : Nat) (d : List Byte) {j : Nat} (h : j ≠ k) :
    (s.sesChallenge k t d).sesOf j = s.sesOf j ∧ (s.sesChallenge k t d).sesState j = s.sesState j := by
  rw [State.sesChallenge, sesState_setSes, sesState_sessNamed_other _ h, sesOf_setSes_other _ h, sesOf_sessNamed]
  exact ⟨rfl, rfl⟩

/-- A response leaves the sessions. -/
theorem sessions_sesSend (s : State) (m : Nat) (l : List Byte) (j : Nat) :
    (s.sesSend m l).sesOf j = s.sesOf j ∧ (s.sesSend m l).sesState j = s.sesState j ∧ (s.sesSend m l).sesClient j = s.sesClient j := by
  have hget {f : Fld} (h : f.unoffered) : (s.sesSend m l).get f j = s.get f j := (besideOffer_get h j).sesSend s m l
  refine ⟨sesOf_of_ses (besideOffer_ses.sesSend s m l) j, hget (f := .SES_SESS_STATE) (by decide), ?_⟩
  rw [State.sesClient, hget (by decide), hget (by decide), State.sesClient]

/-! PROOF (R416, R417). -/

theorem sesProof_refused (h : s.sesFind t sesChallenged d = none ∨ sesLen d ≠ 32 ∨ sesSeq d ≠ 0) : s.sesProof t d = s.sesReject := by
  unfold State.sesProof
  cases hf : s.sesFind t sesChallenged d with
  | none => rfl
  | some i =>
    have hbad : sesLen d ≠ 32 ∨ sesSeq d ≠ 0 := h.resolve_left (by rw [hf]; exact Option.some_ne_none i)
    dsimp only
    rw [if_pos hbad]

/-- The key of the session's slot. -/
def State.sesKey (s : State) (i : Nat) : List Byte := s.key (s.get .SES_SESS_SLOT i)

/-- The session that its PROOF opens, with its slot's failures cleared. -/
def State.sesProven (s : State) (i : Nat) : State :=
  (({ s with sesFails := tput 0 s.sesFails (s.get .SES_SESS_SLOT i) 0 } : State).put .SES_SESS_STATE i sesOpened).setSes i
    { sk := hmac (s.sesKey i) (0x13 :: s.sesNonces i) }

/-- The session open, recorded and shown. -/
def State.sesGreeted (s : State) (i : Nat) : State := ((s.sesProven i).sesRecord 1 0 i).sesEvent .SES_STATUS_OPENED

theorem sesProof_asked (h : s.sesFind t sesChallenged d = some i) (hlen : sesLen d = 32) (hseq : sesSeq d = 0) :
    s.sesProof t d = if sesBody d ≠ hmac (s.sesKey i) (0x11 :: s.sesNonces i) then s.sesWrong i
      else (s.sesGreeted i).sesSend (1024 + t) ((s.sesGreeted i).sesBytes ((s.sesGreeted i).sesClient i) 0x04 0
        ((s.sesGreeted i).get .SES_SESS_SID i) 0 (hmac (s.sesKey i) (0x12 :: s.sesNonces i))) := by
  unfold State.sesProof
  rw [h]
  exact if_neg (by simp [hlen, hseq])

theorem get_sesRecord (s : State) (event cause i : Nat) {f : Fld} (h : f.reg ≠ .LOG_DROPPED ∧ f.reg ≠ .LOG_STATUS) (k : Nat) :
    (s.sesRecord event cause i).get f k = s.get f k := congrArg f.of (rd_record s _ _ _ _ h.1 h.2 k)

theorem get_sesEvent (s : State) {f p : Fld} (h : f.apart p) (k : Nat) : (s.sesEvent p).get f k = s.get f k :=
  (get_pulse _ _ _ _).trans (get_put_apart s h 0 1 k)

theorem flag_sesEvent (s : State) (f : Fld) (h : f.lo ≤ f.hi ∧ f.hi ≤ 31) : (s.sesEvent f).flag f = true :=
  (flag_pulse _ _ _ 0).trans (flag_put_one s f h 0)

theorem ses_sesRecord (s : State) (event cause i : Nat) : (s.sesRecord event cause i).ses = s.ses :=
  record_keeps State.ses (fun _ => rfl) (fun _ _ => rfl) (fun _ _ _ _ _ => rfl) s _ _ _ _

theorem sesFails_sesRecord (s : State) (event cause i : Nat) : (s.sesRecord event cause i).sesFails = s.sesFails :=
  record_keeps State.sesFails (fun _ => rfl) (fun _ _ => rfl) (fun _ _ _ _ _ => rfl) s _ _ _ _

theorem ses_sesEvent (s : State) (f : Fld) : (s.sesEvent f).ses = s.ses := pulse_keeps (g := State.ses) (fun _ => rfl) (s.put f 0 1) 1465

theorem sesFails_sesEvent (s : State) (f : Fld) : (s.sesEvent f).sesFails = s.sesFails :=
  pulse_keeps (g := State.sesFails) (fun _ => rfl) (s.put f 0 1) 1465

/-- What a right PROOF leaves. -/
theorem sesGreeted_shows (s : State) (i m : Nat) (l : List Byte) :
    let u := (s.sesGreeted i).sesSend m l
    u.sesState i = sesOpened ∧ u.sesOf i = { sk := hmac (s.sesKey i) (0x13 :: s.sesNonces i) } ∧
      tget 0 u.sesFails (s.get .SES_SESS_SLOT i) = 0 ∧ u.flag .SES_STATUS_OPENED = true := by
  obtain ⟨hof, hst, -⟩ := sessions_sesSend (s.sesGreeted i) m l i
  refine ⟨hst.trans ?_, hof.trans ((sesOf_of_ses ((ses_sesEvent _ _).trans (ses_sesRecord (s.sesProven i) 1 0 i)) i).trans (sesOf_setSes _ i _)), ?_, ?_⟩
  · refine (get_sesEvent _ (f := .SES_SESS_STATE) (by decide) i).trans ((get_sesRecord _ 1 0 i (by decide) i).trans ?_)
    exact get_put_same ({ s with sesFails := tput 0 s.sesFails (s.get .SES_SESS_SLOT i) 0 } : State) _ (by decide) i _
  · refine (congrArg (fun l : List (Nat × Nat) => tget (0 : Nat) l (s.get .SES_SESS_SLOT i)) ((besideOffer_sesFails.sesSend _ m l).trans ((sesFails_sesEvent _ _).trans (sesFails_sesRecord (s.sesProven i) 1 0 i)))).trans ?_
    exact tget_tput_same (0 : Nat) s.sesFails _ 0
  · exact (congrArg (· != 0) ((besideOffer_get (f := .SES_STATUS_OPENED) (by decide) 0).sesSend _ m l)).trans (flag_sesEvent _ _ (by decide))

/-! A wrong PROOF (R417). -/

/-- The failures of the session's slot, with this one. -/
def State.sesFailsNow (s : State) (i : Nat) : Nat := tget 0 s.sesFails (s.get .SES_SESS_SLOT i) + 1

/-- The failure counted and recorded. -/
def State.failCounted (s : State) (i : Nat) : State := (s.inc .SES_AUTH_FAIL_COUNT).sesRecord 3 0 i

/-- The session freed, with its slot's failures `n`. -/
def State.sesFreed (s : State) (i slot n : Nat) : State :=
  ((({ s with sesFails := tput 0 s.sesFails slot n } : State).put .SES_SESS_STATE i sesFree).setSes i {}).sesEvent .SES_STATUS_AUTH_FAIL

/-- The slot locked out. -/
def State.slotOut (s : State) (i slot : Nat) : State :=
  ((s.put .SES_STATUS_SLOT_OUT 0 (orBit (s.get .SES_STATUS_SLOT_OUT) slot)).sesRecord 4 0 i).sesEvent .SES_STATUS_LOCKED_EVT

theorem sesWrong_eq (s : State) (i : Nat) : s.sesWrong i =
    if s.get .SES_TIMERS_FAIL_LIMIT ≤ s.sesFailsNow i
    then ((s.failCounted i).sesFreed i (s.get .SES_SESS_SLOT i) (s.sesFailsNow i)).slotOut i (s.get .SES_SESS_SLOT i)
    else (s.failCounted i).sesFreed i (s.get .SES_SESS_SLOT i) (s.sesFailsNow i) := rfl

theorem failCounted_shows (s : State) (i : Nat) :
    (s.failCounted i).get .SES_AUTH_FAIL_COUNT = min (2 ^ 32 - 1) (s.get .SES_AUTH_FAIL_COUNT + 1) ∧
      (s.failCounted i).get .SES_STATUS_SLOT_OUT = s.get .SES_STATUS_SLOT_OUT := by
  constructor
  · exact (get_sesRecord _ 3 0 i (by decide) 0).trans (get_add s .SES_AUTH_FAIL_COUNT (by decide) 0 1)
  · refine (get_sesRecord _ 3 0 i (by decide) 0).trans ?_
    refine add_keeps (fun s => s.get .SES_STATUS_SLOT_OUT) (fun _ => rfl) (fun u k w => ?_) ?_ s 0 1
    · exact congrArg Fld.SES_STATUS_SLOT_OUT.of (rd_wr_other u w fun hc => by cases hc.1)
    · rintro k ⟨rfl⟩ u v
      exact get_put_bits u (by decide) 0 0 v

theorem sesFreed_shows (s : State) (i slot n : Nat) :
    (s.sesFreed i slot n).sesState i = sesFree ∧ (s.sesFreed i slot n).sesOf i = {} ∧ tget 0 (s.sesFreed i slot n).sesFails slot = n ∧
      (s.sesFreed i slot n).get .SES_AUTH_FAIL_COUNT = s.get .SES_AUTH_FAIL_COUNT ∧
      (s.sesFreed i slot n).get .SES_STATUS_SLOT_OUT = s.get .SES_STATUS_SLOT_OUT := by
  refine ⟨?_, ?_, ?_, ?_, ?_⟩
  · exact (get_sesEvent _ (f := .SES_SESS_STATE) (by decide) i).trans
      (get_put_same ({ s with sesFails := tput 0 s.sesFails slot n } : State) _ (by decide) i _)
  · exact (sesOf_of_ses (ses_sesEvent _ _) i).trans (sesOf_setSes _ i {})
  · exact (congrArg (fun l : List (Nat × Nat) => tget (0 : Nat) l slot) (sesFails_sesEvent _ _)).trans (tget_tput_same (0 : Nat) s.sesFails slot n)
  · exact (get_sesEvent _ (by decide) 0).trans (get_put_reg ({ s with sesFails := tput 0 s.sesFails slot n } : State) (by decide) i 0 _)
  · exact (get_sesEvent _ (by decide) 0).trans (get_put_reg ({ s with sesFails := tput 0 s.sesFails slot n } : State) (by decide) i 0 _)

theorem slotOut_shows (s : State) (i : Nat) {slot : Nat} (hslot : slot < 8) :
    (s.slotOut i slot).sesState i = s.sesState i ∧ (s.slotOut i slot).sesOf i = s.sesOf i ∧ (s.slotOut i slot).sesFails = s.sesFails ∧
      (s.slotOut i slot).get .SES_AUTH_FAIL_COUNT = s.get .SES_AUTH_FAIL_COUNT ∧
      (s.slotOut i slot).get .SES_STATUS_SLOT_OUT = orBit (s.get .SES_STATUS_SLOT_OUT) slot := by
  refine ⟨?_, ?_, ?_, ?_, ?_⟩
  · exact (get_sesEvent _ (f := .SES_SESS_STATE) (by decide) i).trans ((get_sesRecord _ 4 0 i (by decide) i).trans (get_put_reg s (by decide) 0 i _))
  · exact sesOf_of_ses ((ses_sesEvent _ _).trans (ses_sesRecord (s.put .SES_STATUS_SLOT_OUT 0 _) 4 0 i)) i
  · exact (sesFails_sesEvent _ _).trans (sesFails_sesRecord (s.put .SES_STATUS_SLOT_OUT 0 _) 4 0 i)
  · exact (get_sesEvent _ (by decide) 0).trans ((get_sesRecord _ 4 0 i (by decide) 0).trans (get_put_reg s (by decide) 0 0 _))
  · exact (get_sesEvent _ (by decide) 0).trans ((get_sesRecord _ 4 0 i (by decide) 0).trans ((get_put_same s _ (by decide) 0 _).trans
      (Nat.mod_eq_of_lt (orBit_lt (of_lt .SES_STATUS_SLOT_OUT _) hslot))))

/-- What a wrong PROOF leaves. -/
theorem sesWrong_shows (s : State) (i : Nat) :
    (s.sesWrong i).sesState i = sesFree ∧ (s.sesWrong i).sesOf i = {} ∧
      tget 0 (s.sesWrong i).sesFails (s.get .SES_SESS_SLOT i) = s.sesFailsNow i ∧
      (s.sesWrong i).get .SES_AUTH_FAIL_COUNT = min (2 ^ 32 - 1) (s.get .SES_AUTH_FAIL_COUNT + 1) ∧
      ∀ k, ((s.sesWrong i).get .SES_STATUS_SLOT_OUT).testBit k = ((s.get .SES_STATUS_SLOT_OUT).testBit k ||
        decide (k = s.get .SES_SESS_SLOT i ∧ s.get .SES_TIMERS_FAIL_LIMIT ≤ s.sesFailsNow i)) := by
  obtain ⟨hcount, hout⟩ := failCounted_shows s i
  obtain ⟨hst, hof, hfails, hcount', hout'⟩ := sesFreed_shows (s.failCounted i) i (s.get .SES_SESS_SLOT i) (s.sesFailsNow i)
  rw [sesWrong_eq]
  split
  · rename_i hlimit
    obtain ⟨hst', hof', hfails', hcount'', hout''⟩ := slotOut_shows ((s.failCounted i).sesFreed i (s.get .SES_SESS_SLOT i) (s.sesFailsNow i)) i
      (slot := s.get .SES_SESS_SLOT i) (of_lt .SES_SESS_SLOT _)
    refine ⟨hst'.trans hst, hof'.trans hof, (congrArg (fun l : List (Nat × Nat) => tget (0 : Nat) l _) hfails').trans hfails,
      hcount''.trans (hcount'.trans hcount), fun k => ?_⟩
    rw [hout'', hout', hout, testBit_orBit]
    simp [hlimit]
  · rename_i hlimit
    refine ⟨hst, hof, hfails, hcount'.trans hcount, fun k => ?_⟩
    rw [hout', hout]
    simp [hlimit]

/-! An idle session (R419). -/

theorem sesClose_shut (h : s.sesState i ≠ sesOpened) (cause : Nat) : s.sesClose i cause = s := if_pos h

theorem sesClose_waits (hw : (s.sesOf i).waits.isSome = true) (h : s.sesState i = sesOpened) (cause : Nat) :
    s.sesClose i cause = s.setSes i { s.sesOf i with closing := (s.sesOf i).closing.or (some cause) } :=
  (if_neg (not_not.2 h)).trans (if_pos hw)

theorem sesClose_ends (hw : (s.sesOf i).waits = none) (h : s.sesState i = sesOpened) (cause : Nat) : s.sesClose i cause = s.sesEnd i cause :=
  (if_neg (not_not.2 h)).trans (if_neg (by rw [hw]; exact Bool.noConfusion))

/-- The session over, with the event that the end of one sets. -/
def State.sesOver (s : State) (i : Nat) : State := ((s.put .SES_SESS_STATE i sesFree).setSes i {}).sesEvent .SES_STATUS_CLOSED

theorem sesEnd_over (s : State) (i cause : Nat) : ∃ u, s.sesEnd i cause = State.sesOver u i := ⟨_, rfl⟩

theorem sesOver_shows (s : State) (i : Nat) :
    (s.sesOver i).sesState i = sesFree ∧ (s.sesOver i).sesOf i = {} ∧ (s.sesOver i).flag .SES_STATUS_CLOSED = true :=
  ⟨(get_sesEvent _ (f := .SES_SESS_STATE) (by decide) i).trans ((get_setSes _ i {} _ i).trans (get_put_same s _ (by decide) i _)),
    (sesOf_of_ses (ses_sesEvent _ _) i).trans (sesOf_setSes _ i {}), flag_sesEvent _ _ (by decide)⟩

theorem sesEnd_shows (s : State) (i cause : Nat) :
    (s.sesEnd i cause).sesState i = sesFree ∧ (s.sesEnd i cause).sesOf i = {} ∧ (s.sesEnd i cause).flag .SES_STATUS_CLOSED = true := by
  obtain ⟨u, hu⟩ := sesEnd_over s i cause
  rw [hu]
  exact sesOver_shows u i

theorem sesState_outside (s u : State) (j : Nat) : (s.outside u).sesState j = u.sesState j := rfl

theorem sesOf_outside (s u : State) (j : Nat) : (s.outside u).sesOf j = u.sesOf j := rfl

theorem sesClient_outside (s u : State) (j : Nat) : (s.outside u).sesClient j = u.sesClient j := rfl

theorem exec_sesChallengeTimeout (hi : i < 4) (hup : s.up 18 = true) : exec (.sesChallengeTimeout i) s =
    s.become (if s.sesState i = sesChallenged then (s.put .SES_SESS_STATE i sesFree).setSes i {} else s) :=
  runOn_up (fun s => if s.sesState i = sesChallenged then (s.put .SES_SESS_STATE i sesFree).setSes i {} else s) hi hup

theorem exec_sesLockoutExpire (hk : k < 8) (hup : s.up 18 = true) : exec (.sesLockoutExpire k) s =
    s.become (s.put .SES_STATUS_SLOT_OUT 0 (clrBit (s.get .SES_STATUS_SLOT_OUT) k)) :=
  runOn_up (fun s => s.put .SES_STATUS_SLOT_OUT 0 (clrBit (s.get .SES_STATUS_SLOT_OUT) k)) hk hup

theorem exec_sesIdleTimeout (hi : i < 4) (hup : s.up 18 = true) : exec (.sesIdleTimeout i) s = s.become (s.sesClose i 2) :=
  runOn_up (fun s => s.sesClose i 2) hi hup

theorem exec_sesOpen (ht : t < 16) (hup : s.up 18 = true) (h : s.sesArrives t 1 d) :
    exec (.sesOpen t d) s = s.become ((s.mgmtCounted t d).sesFrame t d) := exec_sesRx ht hup h rfl

theorem exec_sesProof (ht : t < 16) (hup : s.up 18 = true) (h : s.sesArrives t 3 d) :
    exec (.sesProof t d) s = s.become ((s.mgmtCounted t d).sesFrame t d) := exec_sesRx ht hup h rfl

theorem sesFits_mgmtCounted (s : State) (t : Nat) (d e : List Byte) : (s.mgmtCounted t d).sesFits e ↔ s.sesFits e := by
  have hwritten := get_counted_ses s t d (f := .SES_KEY_STATUS_WRITTEN) (by decide) 0
  have hout := get_counted_ses s t d (f := .SES_STATUS_SLOT_OUT) (by decide) 0
  simp only [State.sesFits, hwritten, hout]

theorem sesLowest_mgmtCounted (s : State) (t : Nat) (d : List Byte) : (s.mgmtCounted t d).sesLowest = s.sesLowest := by
  simp only [State.sesLowest, sesState_mgmtCounted]

/-- Settles O58: an OPEN and a PROOF by what they hold, then the three timers. -/
theorem sessionsOpenByProof : Obligations.SessionsOpenByProof := by
  intro t i f s ht hi hup m a arrives b slot fits free asked own fails proof
  have ha : a = s.mgmtCounted t f := rfl
  have hopen (h : arrives 1) : exec (.sesOpen t f) s = s.become (a.sesFrame t f) := exec_sesOpen ht hup h
  have hproof (h : arrives 3) : exec (.sesProof t f) s = s.become (a.sesFrame t f) := exec_sesProof ht hup h
  have hfits : a.sesFits f ↔ fits := sesFits_mgmtCounted s t f f
  have hlowest : a.sesLowest = free := sesLowest_mgmtCounted s t f
  have hasked : a.sesFind t sesChallenged f = asked := sesFind_mgmtCounted s t f t sesChallenged f
  have hof (j : Nat) : a.sesOf j = s.sesOf j := sesOf_mgmtCounted s t f j
  have hst (j : Nat) : a.sesState j = s.sesState j := sesState_mgmtCounted s t f j
  have hslot : a.get .SES_SESS_SLOT i = own := get_counted_ses s t f (by decide) i
  have hkey : a.sesKey i = s.key own := by rw [State.sesKey, hslot, ha, key_mgmtCounted]
  have hnonces : a.sesNonces i = s.sesNonces i := sesNonces_mgmtCounted s t f i
  have hfails : a.sesFailsNow i = fails := by rw [State.sesFailsNow, hslot, ha, sesFails_mgmtCounted]
  have hcount : a.get .SES_AUTH_FAIL_COUNT = s.get .SES_AUTH_FAIL_COUNT := get_counted_ses s t f (by decide) 0
  have hout : a.get .SES_STATUS_SLOT_OUT = s.get .SES_STATUS_SLOT_OUT := get_counted_ses s t f (by decide) 0
  have hlimit : a.get .SES_TIMERS_FAIL_LIMIT = s.get .SES_TIMERS_FAIL_LIMIT := get_counted_ses s t f (by decide) 0
  clear_value a
  refine ⟨fun harr hwhole hfit k hfree => ?_, fun harr hbad => ?_, fun harr hwhole hbad => ?_, fun harr hwhole hask hlen hseq => ?_, ?_,
    fun k hk => ?_, fun h => ?_, fun hw h => ?_, fun hw h => ?_⟩
  · have hexec := (hopen harr).trans (congrArg s.become ((sesFrame_open hwhole harr.2.2.2).trans
      (sesOpen_taken (hfits.2 hfit) (hlowest.trans hfree))))
    obtain ⟨hchal, hslot', htrunk, hclient⟩ := sesChallenge_shows a k f ht (hfits.2 hfit).2.2.2.2.1
    have hother {j : Nat} (hj : j ≠ k) := sesChallenge_others a k t f hj
    have hnonce := congrArg Session.nonceC (sesOf_sesChallenge a k t f)
    generalize a.sesChallenge k t f = c at hexec hchal hslot' htrunk hclient hother hnonce
    generalize c.sesBytes (sesFrom f) 0x02 0 a.freshSid 0 (a.used.freeBytes 16) = l at hexec
    have hsent (j : Nat) := sessions_sesSend c (1024 + t) l j
    have hget {p : Fld} (h : p.unoffered) := (besideOffer_get h k).sesSend c (1024 + t) l
    obtain ⟨hof', hst', hclient'⟩ := hsent k
    refine ⟨_, hexec, (sesState_outside s _ k).trans (hst'.trans hchal), (outside_get s _ _ k).trans ((hget (by decide)).trans hslot'),
      (outside_get s _ _ k).trans ((hget (by decide)).trans htrunk), (sesClient_outside s _ k).trans (hclient'.trans hclient),
      (congrArg Session.nonceC ((sesOf_outside s _ k).trans hof')).trans hnonce, fun j hj => ?_⟩
    obtain ⟨hofj, hstj, -⟩ := hsent j
    obtain ⟨hofc, hstc⟩ := hother hj
    exact ⟨(sesOf_outside s _ j).trans (hofj.trans (hofc.trans (hof j))), (sesState_outside s _ j).trans (hstj.trans (hstc.trans (hst j)))⟩
  · refine (hopen harr).trans (congrArg s.become ?_)
    cases hwhole : sesWhole f
    · exact sesFrame_ragged hwhole
    · refine (sesFrame_open hwhole harr.2.2.2).trans ?_
      by_cases hfit : fits
      · have hnone : free = none := (hbad.resolve_left (by rw [hwhole]; exact Bool.noConfusion)).resolve_left (not_not.2 hfit)
        exact sesOpen_full (hfits.2 hfit) (hlowest.trans hnone)
      · exact sesOpen_unfit (mt hfits.1 hfit)
  · refine (hproof harr).trans (congrArg s.become ((sesFrame_proof hwhole harr.2.2.2).trans (sesProof_refused ?_)))
    exact hbad.imp_left hasked.trans
  · have hexec := (hproof harr).trans (congrArg s.become ((sesFrame_proof hwhole harr.2.2.2).trans
      (sesProof_asked (hasked.trans hask) hlen hseq)))
    rw [hkey, hnonces] at hexec
    refine ⟨fun hright => ?_, fun hwrong => ?_⟩
    · rw [if_neg (not_not.2 hright)] at hexec
      generalize (a.sesGreeted i).sesBytes _ _ _ _ _ _ = l at hexec
      have hshows := sesGreeted_shows a i (1024 + t) l
      rw [hkey, hnonces, hslot] at hshows
      generalize (a.sesGreeted i).sesSend (1024 + t) l = v at hexec hshows
      obtain ⟨hopened, hsession, hcleared, hevent⟩ := hshows
      exact ⟨_, hexec, hopened, congrArg Session.sk hsession, congrArg Session.seq hsession, hcleared, hevent⟩
    · rw [if_pos hwrong] at hexec
      obtain ⟨hfree, hempty, hfailed, hcounted, hlocked⟩ := sesWrong_shows a i
      rw [hslot, hfails] at hfailed
      rw [hcount] at hcounted
      simp only [hslot, hfails, hout, hlimit] at hlocked
      refine ⟨_, hexec, (sesState_outside s _ i).trans hfree, (sesOf_outside s _ i).trans hempty, ?_, (outside_get s _ _ 0).trans hcounted,
        fun k _ => ?_⟩
      · rw [outside_sesFails]; exact hfailed
      · rw [outside_get]; exact hlocked k
  · refine (exec_sesChallengeTimeout hi hup).trans (congrArg Host.Outcome.next ?_)
    split <;> rfl
  · have hget : (s.put .SES_STATUS_SLOT_OUT 0 (clrBit (s.get .SES_STATUS_SLOT_OUT) k)).get .SES_STATUS_SLOT_OUT =
        clrBit (s.get .SES_STATUS_SLOT_OUT) k :=
      (get_put_same s _ (by decide) 0 _).trans (Nat.mod_eq_of_lt (clrBit_lt (of_lt .SES_STATUS_SLOT_OUT _) hk))
    refine ⟨_, exec_sesLockoutExpire hk hup, ?_, fun j => ?_⟩
    · rw [outside_get, hget]; rfl
    · rw [outside_get, hget, testBit_clrBit]
  · exact (exec_sesIdleTimeout hi hup).trans (congrArg s.become (sesClose_shut h 2))
  · exact (exec_sesIdleTimeout hi hup).trans (congrArg s.become (sesClose_waits hw h 2))
  · obtain ⟨hst, hof, hflag⟩ := sesEnd_shows s i 2
    exact ⟨_, (exec_sesIdleTimeout hi hup).trans (congrArg s.become (sesClose_ends hw h 2)), (sesState_outside s _ i).trans hst,
      (sesOf_outside s _ i).trans hof, (outside_flag s _ _ 0).trans hflag⟩

end Sys2Proof.Machine
end

section
/-! The commands of an open management session: acceptance, and the response that waits (R418 to R420). -/
namespace Sys2Proof.Machine

variable {s : State} {t i w : Nat} {d : List Byte} {f : State → Nat → State}

/-! Acceptance (R418). -/

/-- The session with the SEQ `q` accepted. -/
def State.sesTaken (s : State) (i q : Nat) : State := s.setSes i { s.sesOf i with seq := q, resp := [], waits := none }

theorem sesAccept_unknown (h : s.sesFind t sesOpened d = none) : s.sesAccept t d f = s.sesReject := by rw [State.sesAccept, h]

theorem sesAccept_untagged (h : s.sesFind t sesOpened d = some i) (htag : s.sesTagged i d = false) : s.sesAccept t d f = s.sesReject := by
  rw [State.sesAccept, h]
  exact if_pos (by rw [htag]; rfl)

/-- Session `i` is the one that the frame names, and its TAG is right. -/
@[reducible] def State.sesNames (s : State) (t i : Nat) (d : List Byte) : Prop :=
  s.sesFind t sesOpened d = some i ∧ s.sesTagged i d = true

theorem sesAccept_again (h : s.sesNames t i d) (hseq : sesSeq d = (s.sesOf i).seq) (hzero : (s.sesOf i).seq ≠ 0) :
    s.sesAccept t d f = if (s.sesOf i).resp = [] then s else s.sesSend (1024 + t) (s.sesOf i).resp := by
  rw [State.sesAccept, h.1]
  exact (if_neg (by rw [h.2]; exact Bool.noConfusion)).trans (if_pos ⟨hseq, hzero⟩)

theorem sesAccept_late (h : s.sesNames t i d) (hseq : sesSeq d < (s.sesOf i).seq ∨ (sesSeq d = 0 ∧ (s.sesOf i).seq = 0)) :
    s.sesAccept t d f = s.sesReject := by
  rw [State.sesAccept, h.1]
  exact (if_neg (by rw [h.2]; exact Bool.noConfusion)).trans ((if_neg (by omega)).trans (if_pos (by omega)))

theorem sesAccept_new (h : s.sesNames t i d) (hseq : (s.sesOf i).seq < sesSeq d) : s.sesAccept t d f =
    if 0xFFFFFFF0 ≤ sesSeq d then (f (s.sesTaken i (sesSeq d)) i).sesClose i 3 else f (s.sesTaken i (sesSeq d)) i := by
  rw [State.sesAccept, h.1]
  exact (if_neg (by rw [h.2]; exact Bool.noConfusion)).trans ((if_neg (by omega)).trans (if_neg (by omega)))

/-! The counted frame leaves what the acceptance looks at. -/

theorem sesBusy_mgmtCounted (s : State) (t : Nat) (d : List Byte) : (s.mgmtCounted t d).sesBusy = s.sesBusy := by
  simp only [State.sesBusy, sesOf_mgmtCounted]

theorem sesTagged_mgmtCounted (s : State) (t : Nat) (d e : List Byte) (i : Nat) : (s.mgmtCounted t d).sesTagged i e = s.sesTagged i e := by
  simp only [State.sesTagged, sesOf_mgmtCounted]

theorem sesQ_mgmtCounted (s : State) (t : Nat) (d : List Byte) : (s.mgmtCounted t d).sesQ = s.sesQ :=
  beside_mgmtCounted State.sesQ (fun _ _ _ _ => rfl) s t d

/-! A command's frame (R418). -/

theorem sesFrame_command (h : sesWhole d = true) (hopen : sesMsg d ≠ 1) (hproof : sesMsg d ≠ 3) : s.sesFrame t d =
    if s.sesBusy then { s with sesQ := s.sesQ ++ [(t, d)] } else s.sesAccept t d fun s i => s.sesExecute d i := by
  refine (if_neg (sesFrame_cond h)).trans ?_
  split
  · exact absurd ‹_› hopen
  · exact absurd ‹_› hproof
  · rfl

/-- The commands of an open session, with their messages. -/
def sesCommands (t : Nat) (d : List Byte) : List (Instr × Nat) :=
  [(.sesClose t d, 0x7E), (.sesRead t d, 0x10), (.sesWrite t d, 0x11), (.sesTae t d, 0x20), (.sesCommit t d, 0x21),
    (.sesAbort t d, 0x22), (.sesKeepFetch t d, 0x30), (.sesStiStart t d, 0x40), (.sesStiData t d, 0x41), (.sesStiValidate t d, 0x42),
    (.sesStiCommit t d, 0x43), (.sesStiAbort t d, 0x44)]

theorem sesInjects_field (h : s.flag .FLT_STATUS_FACTORY = false) : s.sesInjects t d = false := by rw [State.sesInjects, h]; rfl

/-- Each command is the reception of its message. -/
theorem exec_sesCommands {c : Instr} {n : Nat} (hfield : s.flag .FLT_STATUS_FACTORY = false) (h : (c, n) ∈ sesCommands t d) :
    exec c s = runOn 16 t 18 (fun s => s.sesRx t [n] d) s := by
  simp only [sesCommands, List.mem_cons, List.not_mem_nil, or_false, Prod.mk.injEq] at h
  rcases h with ⟨rfl, rfl⟩ | ⟨rfl, rfl⟩ | ⟨rfl, rfl⟩ | ⟨rfl, rfl⟩ | ⟨rfl, rfl⟩ | ⟨rfl, rfl⟩ | ⟨rfl, rfl⟩ | ⟨rfl, rfl⟩ | ⟨rfl, rfl⟩ |
    ⟨rfl, rfl⟩ | ⟨rfl, rfl⟩ | ⟨rfl, rfl⟩
  case inr.inr.inl => exact if_neg (by rw [sesInjects_field hfield, Bool.and_false]; exact Bool.noConfusion)
  all_goals rfl

theorem sesCommands_message {c : Instr} {n : Nat} (h : (c, n) ∈ sesCommands t d) : n ≠ 1 ∧ n ≠ 3 := by
  have hn : n ∈ [0x7E, 0x10, 0x11, 0x20, 0x21, 0x22, 0x30, 0x40, 0x41, 0x42, 0x43, 0x44] :=
    List.mem_map_of_mem (f := Prod.snd) h
  constructor <;> rintro rfl <;> revert hn <;> decide

/-! The response that waits (R419, R420). -/

theorem sesDeferred_none (h : (s.sesOf i).waits = none) : s.sesDeferred i = s := by rw [State.sesDeferred, h]

theorem sesDeferred_early (h : (s.sesOf i).waits = some w) (hready : s.sesReady w = false) : s.sesDeferred i = s := by
  rw [State.sesDeferred, h]
  exact if_pos (by rw [hready]; rfl)

theorem sesDeferred_open (h : (s.sesOf i).waits = some w) (hready : s.sesReady w = true) (hc : (s.sesOf i).closing = none) :
    s.sesDeferred i = (s.sesResult i w).sesDrain (s.sesResult i w).sesQ := by
  rw [State.sesDeferred, h]
  exact (if_neg (by rw [hready]; exact Bool.noConfusion)).trans (by rw [hc])

theorem sesDeferred_closing {cause : Nat} (h : (s.sesOf i).waits = some w) (hready : s.sesReady w = true)
    (hc : (s.sesOf i).closing = some cause) :
    s.sesDeferred i = ((s.sesResult i w).sesEnd i cause).sesDrain ((s.sesResult i w).sesEnd i cause).sesQ := by
  rw [State.sesDeferred, h]
  exact (if_neg (by rw [hready]; exact Bool.noConfusion)).trans (by rw [hc])

theorem sesQ_sesResult (s : State) (i w : Nat) : (s.sesResult i w).sesQ = s.sesQ := by
  have hrespond (msg status : Nat) (body : List Byte) : (s.sesRespond i msg status body).sesQ = s.sesQ :=
    besideOffer_sesQ.sesRespond (fun _ _ => rfl) s i msg status body
  unfold State.sesResult
  split
  · exact hrespond _ _ _
  · exact hrespond _ _ _
  · exact hrespond _ _ _

theorem besideClose_sesQ : BesideClose State.sesQ :=
  ⟨fun _ => rfl, fun _ _ => rfl, fun _ _ => rfl, fun _ _ => rfl, fun _ _ => rfl, fun _ _ _ _ _ => rfl⟩

theorem sesDrain_empty (h : s.sesQ = []) : s.sesDrain s.sesQ = { s with sesQ := [] } := by rw [h]; rfl

theorem exec_sesDeferredResponse (hi : i < 4) (hup : s.up 18 = true) (hfield : s.flag .FLT_STATUS_FACTORY = false) :
    exec (.sesDeferredResponse i) s = s.become (s.sesDeferred i) := by
  have hnone : s.sesQ.any (fun x => s.sesInjects x.1 x.2) = false := by simp [sesInjects_field hfield]
  refine (if_neg ?_).trans (runOn_up (fun s => s.sesDeferred i) hi hup)
  rw [hnone, Bool.and_false]
  exact Bool.noConfusion

/-- Settles O59: a command while another is in execution, each case of the acceptance, and the response that waits. -/
theorem sessionCommandsAreAcceptedOnceInOrder : Obligations.SessionCommandsAreAcceptedOnceInOrder := by
  intro t i f c k s ht hi hup hfield hmem m a arrives x mine
  have ha : a = s.mgmtCounted t f := rfl
  have hcmd : exec c s = runOn 16 t 18 (fun s => s.sesRx t [k] f) s := exec_sesCommands hfield hmem
  obtain ⟨hk1, hk3⟩ := sesCommands_message (t := t) (d := f) hmem
  have hbusy : a.sesBusy = s.sesBusy := sesBusy_mgmtCounted s t f
  have hq : a.sesQ = s.sesQ := sesQ_mgmtCounted s t f
  have hx : a.sesOf i = x := sesOf_mgmtCounted s t f i
  have hfind : a.sesFind t sesOpened f = s.sesFind t sesOpened f := sesFind_mgmtCounted s t f t sesOpened f
  have htagged : a.sesTagged i f = s.sesTagged i f := sesTagged_mgmtCounted s t f f i
  have hframe (h : arrives) : exec c s = s.become (if a.sesBusy then { a with sesQ := a.sesQ ++ [(t, f)] }
      else a.sesAccept t f fun s i => s.sesExecute f i) := by
    obtain ⟨hen, hlink, hses, hmsg, hwhole⟩ := h
    exact (exec_sesRx ht hup ⟨hen, hlink, hses, hmsg⟩ hcmd).trans
      (congrArg s.become (sesFrame_command hwhole (hmsg ▸ hk1) (hmsg ▸ hk3)))
  clear_value a
  have hnames (h : mine) : a.sesNames t i f := ⟨hfind.trans h.1, htagged.trans h.2⟩
  have hresp := exec_sesDeferredResponse hi hup hfield
  refine ⟨fun harr hb => ?_, fun harr hb => ?_, fun hw => ?_, fun w hw hready => ?_, fun w hw hready hc hempty => ?_,
    fun w cause hw hready hc hempty => ?_⟩
  · refine (hframe harr).trans (congrArg s.become ?_)
    rw [if_pos (hbusy.trans hb), hq]
  · have hacc : exec c s = s.become (a.sesAccept t f fun s i => s.sesExecute f i) :=
      (hframe harr).trans (congrArg s.become (if_neg (by rw [hbusy, hb]; exact Bool.noConfusion)))
    have htaken : a.sesTaken i (sesSeq f) = a.setSes i { x with seq := sesSeq f, resp := [], waits := none } := by
      rw [State.sesTaken, hx]
    refine ⟨fun h => ?_, fun h htag => ?_, fun h hseq hzero => ?_, fun h hseq => ?_, fun h hlt hlow => ?_, fun h hlt hhigh => ?_⟩
    · exact hacc.trans (congrArg s.become (sesAccept_unknown (hfind.trans h)))
    · exact hacc.trans (congrArg s.become (sesAccept_untagged (hfind.trans h) (htagged.trans htag)))
    · refine hacc.trans (congrArg s.become ((sesAccept_again (hnames h) (hx ▸ hseq) (hx ▸ hzero)).trans ?_))
      rw [hx]
    · exact hacc.trans (congrArg s.become (sesAccept_late (hnames h) (hx ▸ hseq)))
    · refine hacc.trans (congrArg s.become ((sesAccept_new (hnames h) (hx ▸ hlt)).trans ?_))
      rw [if_neg (Nat.not_le.2 hlow), htaken]
    · refine hacc.trans (congrArg s.become ((sesAccept_new (hnames h) (hx ▸ hlt)).trans ?_))
      rw [if_pos hhigh, htaken]
  · exact hresp.trans (congrArg s.become (sesDeferred_none hw))
  · exact hresp.trans (congrArg s.become (sesDeferred_early hw hready))
  · exact hresp.trans (congrArg s.become ((sesDeferred_open hw hready hc).trans
      (sesDrain_empty ((sesQ_sesResult s i w).trans hempty))))
  · exact hresp.trans (congrArg s.become ((sesDeferred_closing hw hready hc).trans
      (sesDrain_empty ((besideClose_sesQ.sesEnd _ i cause).trans ((sesQ_sesResult s i w).trans hempty)))))

end Sys2Proof.Machine
end

section
/-! The table access engines: a command from its GO write to its outcome (R430 to R432). -/
namespace Sys2Proof.Machine

variable {s : State} {t : Tae} {c : Instr} {k op a : Nat} {e : Ecc} {w : Word} {g : Engine}

/-! The GO write (R431, R432). -/

/-- An engine's registers are apart from one another and from the staging's state, and CMD is a core register of the engine's block. -/
theorem taeRegs_apart (g : Engine) : let x := taeRegs (engineNum g)
    (isAon x.cmd = false ∧ taeEngine x.cmd = some (engineNum g) ∧ regBlock x.cmd 0 = taeBlock (engineNum g)) ∧
      (x.cmd ≠ x.status ∧ x.cmd ≠ x.addr ∧ x.cmd ≠ x.data ∧ x.status ≠ x.data) ∧ x.cmd ≠ .CLS_COMMIT_STATUS ∧ x.cmd ≠ .STI_STATUS := by
  cases g <;> decide

/-- The command that a GO write starts. -/
def State.taeLatch (s : State) (k : Nat) (w : Word) : Tae :=
  { target := wbits w 27 24, op := wbits w 19 16, view := wbits w 13 12, addr := (s.rd (taeRegs k).addr 0).toNat, data := s.taeData k
    done := if (taeOps k).contains (wbits w 19 16) then none else some (6, none, []), session := none, opened := !s.stageLocked }

theorem taeGo_shows (s : State) (k : Nat) (w : Word) : tget none (s.taeGo k w none).tae k = some (s.taeLatch k w) ∧
    wbit ((s.taeGo k w none).rd (taeRegs k).status 0) 31 = true := by
  refine ⟨tget_tput_same none s.tae k (some (s.taeLatch k w)), ?_⟩
  have hrd : (s.taeGo k w none).rd (taeRegs k).status 0 = s.rd (taeRegs k).status 0 ||| 0x80000000#32 := rd_wr_same s _ 0 _
  rw [hrd]
  exact (wbit_enabled _).1

/-- The write of CMD itself moves nothing that the command takes. -/
theorem taeLatch_store (s : State) (g : Engine) (w : Word) :
    (s.store (taeRegs (engineNum g)).cmd 0 w).taeLatch (engineNum g) w = s.taeLatch (engineNum g) w := by
  obtain ⟨-, ⟨-, haddr, hdata, -⟩, hstaging, hpath⟩ := taeRegs_apart g
  have hrd {r : Reg} (h : (taeRegs (engineNum g)).cmd ≠ r) (i : Nat) : (s.store (taeRegs (engineNum g)).cmd 0 w).rd r i = s.rd r i :=
    rd_wr_other s _ fun hc => h hc.1.symm
  simp only [State.taeLatch, State.taeData, State.stageLocked, State.committed, State.flag, State.get, Fld.CLS_COMMIT_STATUS_STATE,
    Fld.CLS_COMMIT_STATUS_STAGE_FAIL, Fld.STI_STATUS_COMMITTED, hrd haddr, hrd hdata, hrd hstaging, hrd hpath]

theorem taeWrite_busy (h : tget none s.tae k = some t) (r : Reg) (i : Nat) (w : Word) (session : Option Nat) :
    s.taeWrite k r i w session = s := if_pos (by rw [State.taeBusy, h]; rfl)

theorem taeWrite_go (h : tget none s.tae k = none) (hown : s.taeOwned k = false) (hgo : wbit w 31 = true) :
    s.taeWrite k (taeRegs k).cmd 0 w none = (s.store (taeRegs k).cmd 0 w).taeGo k w none :=
  (if_neg (by simp [State.taeBusy, h, hown])).trans (if_pos ⟨rfl, hgo⟩)

/-- A write of CMD on the register slave port reaches its engine. -/
theorem exec_taeCmd (hup : s.up (taeBlock (engineNum g)) = true) (ha : regOf a = some ((taeRegs (engineNum g)).cmd, 0)) (hs : s.soft = true)
    (w : Word) : exec (.registerWrite a w 15) s =
      s.become ((s.taeWrite (engineNum g) (taeRegs (engineNum g)).cmd 0 w none).slaveOk 0) := by
  obtain ⟨⟨haon, hengine, hblock⟩, -, -⟩ := taeRegs_apart g
  have hcore : s.coreOn = true ∧ s.coreClk = true := by
    simp only [State.up, State.coreUp, Bool.and_eq_true] at hup
    exact hup.1
  have hporst : s.porstLow = false := by
    have h := hcore.1
    simp only [State.coreOn, Bool.and_eq_true, Bool.not_eq_true'] at h
    exact h.1
  have hstore : s.slaveStore (taeRegs (engineNum g)).cmd 0 w = s.taeWrite (engineNum g) (taeRegs (engineNum g)).cmd 0 w none := by
    simp only [State.slaveStore, State.regWrite, State.writeEffect, hporst, hs, hblock, hup, hengine, Bool.or_true, Bool.true_or,
      Bool.false_eq_true, if_false, if_true]
  have hruns : s.slaveRuns (isAon (taeRegs (engineNum g)).cmd) = true := by rw [haon]; exact slaveRuns_core hcore.2
  rw [exec_registerWrite (.inl (factoryInject_other ha (ne_injCtrl_of_core haon))), slaveWrite_register hruns ha,
    if_neg (by simp [hcore.1]), hstore]

/-! The end of a command (R431). -/

/-- The position that a status shows: a free value where no rule says which (log 1). -/
def State.taePos (s : State) (k : Nat) (pos : Option Nat) : Nat :=
  if k = 0 then pos.getD s.free % 2 ^ 20 else if k = 1 then pos.getD s.free % 2 ^ 18 else 0

/-- The outcome shown, with the engine free. -/
def State.taeShown (s : State) (k res : Nat) (pos : Option Nat) : State :=
  ((({ s with tae := tput none s.tae k none } : State).wr (taeRegs k).status 0 (word (res <<< 20 ||| s.taePos k pos))).used)

/-- The words that the operation returns, written over the data words. -/
def State.taeReturned (s : State) (k : Nat) (data : List Word) : State :=
  s.each (List.range (min (taeRegs k).words data.length)) fun s j => s.wr (taeRegs k).data j (nth data j 0)

theorem taeEnd_done {res : Nat} {pos : Option Nat} {data : List Word} (h : tget none s.tae k = some t) (hd : t.done = some (res, pos, data)) :
    s.taeEnd k = (s.taeShown k res pos).taeReturned k data := by
  rw [State.taeEnd, h]
  dsimp only
  rw [hd]
  rfl

theorem taeEnd_waits (h : ∀ t, tget none s.tae k = some t → t.done = none) : s.taeEnd k = s := by
  rw [State.taeEnd]
  cases ht : tget none s.tae k with
  | none => rfl
  | some t => dsimp only; rw [h t ht]

theorem taePos_lt (s : State) (k : Nat) (pos : Option Nat) : s.taePos k pos < 2 ^ 20 := by
  have h20 := Nat.mod_lt (pos.getD s.free) (show 0 < 2 ^ 20 by decide)
  have h18 := Nat.mod_lt (pos.getD s.free) (show 0 < 2 ^ 18 by decide)
  unfold State.taePos
  split_ifs <;> omega

theorem taePos_some (s : State) {p : Nat} (hk : k < 2) (hp : p < 2 ^ 18) : s.taePos k (some p) = p := by
  obtain rfl | rfl : k = 0 ∨ k = 1 := by omega
  · exact Nat.mod_eq_of_lt (hp.trans (by decide))
  · exact Nat.mod_eq_of_lt hp

/-- The status word of an outcome and a position. -/
theorem taeStatus_fields {res p : Nat} (hres : res < 16) (hp : p < 2 ^ 20) :
    wbit (word (res <<< 20 ||| p)) 31 = false ∧ wbits (word (res <<< 20 ||| p)) 23 20 = res ∧
      (p < 2 ^ 18 → wbits (word (res <<< 20 ||| p)) 17 0 = p) := by
  have hnum : (word (res <<< 20 ||| p)).toNat = res * 2 ^ 20 + p := by
    rw [← Nat.shiftLeft_add_eq_or_of_lt hp, Nat.shiftLeft_eq, word, BitVec.toNat_ofNat]
    omega
  refine ⟨?_, ?_, fun hp' => ?_⟩
  · rw [wbit, hnum]
    exact Nat.testBit_lt_two_pow (by omega)
  · rw [wbits, bits, hnum, Nat.shiftRight_eq_div_pow]
    omega
  · rw [wbits, bits, hnum, Nat.shiftRight_eq_div_pow]
    omega

theorem rd_taeShown (s : State) (k res : Nat) (pos : Option Nat) :
    (s.taeShown k res pos).rd (taeRegs k).status 0 = word (res <<< 20 ||| s.taePos k pos) := rd_wr_same _ _ 0 _

theorem rd_taeShown_other (s : State) (k res : Nat) (pos : Option Nat) {r : Reg} (h : r ≠ (taeRegs k).status) (i : Nat) :
    (s.taeShown k res pos).rd r i = s.rd r i := rd_wr_other ({ s with tae := tput none s.tae k none } : State) _ fun hc => h hc.1

theorem rd_taeReturned (s : State) (k : Nat) (data : List Word) (r : Reg) (i : Nat) : (s.taeReturned k data).rd r i =
    if r = (taeRegs k).data ∧ i ∈ List.range (min (taeRegs k).words data.length) then nth data i 0 else s.rd r i := by
  refine (rd_each_own (r := (taeRegs k).data) (f := fun s j => s.wr (taeRegs k).data j (nth data j 0)) (fun u c => onlyReg_wr u _ c _)
    (fun u v c _ => (rd_wr_same _ _ c _).trans (rd_wr_same _ _ c _).symm) _ List.nodup_range s r i).trans ?_
  rw [rd_wr_same]

theorem rest_taeReturned (s : State) (k : Nat) (data : List Word) : s.taeReturned k data = { s with regs := (s.taeReturned k data).regs } :=
  rest_each_own (r := (taeRegs k).data) (fun u c => onlyReg_wr u _ c _) _ s

/-- Only the registers, the engine's command and the choice of free values move. -/
theorem outside_taeEnded (s : State) (k res : Nat) (pos : Option Nat) (data : List Word) :
    let u := s.outside ((s.taeShown k res pos).taeReturned k data)
    u = { s with regs := u.regs, tae := u.tae, fresh := u.fresh } ∧ tget none u.tae k = none := by
  have h := rest_taeReturned (s.taeShown k res pos) k data
  generalize (s.taeShown k res pos).taeReturned k data = v at h
  intro u
  have hu : u = s.outside v := rfl
  clear_value u
  rw [h] at hu
  subst hu
  exact ⟨rfl, tget_tput_same none s.tae k none⟩

theorem exec_taeCommandDone (hup : s.up (taeBlock (engineNum g)) = true) :
    exec (.taeCommandDone g) s = s.become (s.taeEnd (engineNum g)) := run_up (fun s => s.taeEnd (engineNum g)) hup

/-! The rows that execute a command (R390, R432). -/

/-- The staged commands, with their engine and operation. -/
def stagingRows (e : Ecc) : List (Instr × Nat × Nat) := [(.clsStageAdd e, 0, 1), (.clsStageDel e, 0, 2), (.clsStageWrite e, 0, 3)]

/-- The other table commands, with their engine and operation. -/
def directRows (e : Ecc) : List (Instr × Nat × Nat) :=
  [(.clsRead e, 0, 4), (.clsSearch e, 0, 5), (.nregInsert e, 1, 1), (.nregDelete e, 1, 2), (.nregWriteCfg e, 1, 3), (.nregRead e, 1, 4),
    (.nregSearch e, 1, 5), (.nregClear e, 1, 6), (.polRead e, 2, 4), (.polReset e, 2, 7), (.tpgReadEntry e, 3, 4),
    (.tpgWriteEntry e, 3, 3), (.spiReadEntry e, 4, 4), (.spiWriteEntry e, 4, 3)]

/-- A target that no engine has. -/
@[reducible] def Tae.nowhere (t : Tae) : Prop := t.target = 0 ∨ 5 < t.target

theorem key_nowhere (h : t.nowhere) : (t.target == 1 || t.target == 2) = false := by
  rw [Bool.or_eq_false_iff, beq_eq_false_iff_ne, beq_eq_false_iff_ne]
  omega

/-- A staged command is work of the commit engine; no staged command has a target that no engine has. -/
theorem exec_stagingRow (h : (c, k, op) ∈ stagingRows e) (s : State) : k = 0 ∧ op < 4 ∧
    ∃ p f, exec c s = run 5 (fun s => s.engine 0 fun s => s.taeRun 0 op (staged e p f)) s ∧ ∀ t : Tae, t.nowhere → p t = false := by
  simp only [stagingRows, List.mem_cons, List.not_mem_nil, or_false, Prod.mk.injEq] at h
  obtain ⟨rfl, rfl, rfl⟩ | ⟨rfl, rfl, rfl⟩ | ⟨rfl, rfl, rfl⟩ := h
  · exact ⟨rfl, by decide, _, _, rfl, fun _ => key_nowhere⟩
  · exact ⟨rfl, by decide, _, _, rfl, fun _ => key_nowhere⟩
  · refine ⟨rfl, by decide, _, _, rfl, fun t ht => ?_⟩
    have hrange : (decide (3 ≤ t.target) && decide (t.target ≤ 5)) = false := by
      rw [Bool.and_eq_false_iff, decide_eq_false_iff_not, decide_eq_false_iff_not]
      omega
    rw [hrange, Bool.false_and]

theorem clsRead_nowhere (h : t.nowhere) : (1 ≤ t.target && t.target ≤ 5) = false := by
  rw [Bool.and_eq_false_iff, decide_eq_false_iff_not, decide_eq_false_iff_not]
  omega

theorem onTarget_nowhere {n : Nat} {f : Tae → State → TaeOut × State} (hn : n ≠ 0 ∧ n ≤ 5) (h : t.nowhere) :
    onTarget n f t s = refusedCmd 6 s := if_neg (by omega)

theorem polCmd_nowhere {f : PolKind → State → TaeOut × State} (h : t.nowhere) : s.polCmd t e f = refusedCmd 6 s := by
  have htarget : polTarget t.target t.addr = none := by
    unfold polTarget
    split
    · omega
    · omega
    · rfl
  rw [State.polCmd, htarget]

theorem nregRead_nowhere (h : t.nowhere) : s.nregRead t.target t.addr e = refusedCmd 6 s :=
  if_pos (by rw [key_nowhere h]; exact Bool.or_true _)

/-- The other commands act at once; one of the first three engines with a target that no engine has is refused. -/
theorem exec_directRow (h : (c, k, op) ∈ directRows e) (s : State) :
    ∃ f, exec c s = run (taeBlock k) (fun s => s.taeRun k op f) s ∧ (k < 3 → ∀ t : Tae, t.nowhere → f t s = refusedCmd 6 s) := by
  simp only [directRows, List.mem_cons, List.not_mem_nil, or_false, Prod.mk.injEq] at h
  obtain ⟨rfl, rfl, rfl⟩ | ⟨rfl, rfl, rfl⟩ | ⟨rfl, rfl, rfl⟩ | ⟨rfl, rfl, rfl⟩ | ⟨rfl, rfl, rfl⟩ | ⟨rfl, rfl, rfl⟩ | ⟨rfl, rfl, rfl⟩ |
    ⟨rfl, rfl, rfl⟩ | ⟨rfl, rfl, rfl⟩ | ⟨rfl, rfl, rfl⟩ | ⟨rfl, rfl, rfl⟩ | ⟨rfl, rfl, rfl⟩ | ⟨rfl, rfl, rfl⟩ | ⟨rfl, rfl, rfl⟩ := h
  · refine ⟨_, rfl, fun _ t ht => ?_⟩
    split
    · rfl
    · exact if_pos (by rw [clsRead_nowhere ht]; rfl)
  · refine ⟨_, rfl, fun _ t ht => ?_⟩
    split
    · rfl
    · exact if_pos (by rw [key_nowhere ht]; rfl)
  · exact ⟨_, rfl, fun _ _ => onTarget_nowhere (by decide)⟩
  · exact ⟨_, rfl, fun _ _ => onTarget_nowhere (by decide)⟩
  · exact ⟨_, rfl, fun _ _ => onTarget_nowhere (by decide)⟩
  · exact ⟨_, rfl, fun _ _ => nregRead_nowhere⟩
  · exact ⟨_, rfl, fun _ _ => onTarget_nowhere (by decide)⟩
  · exact ⟨_, rfl, fun _ _ => onTarget_nowhere (by decide)⟩
  · exact ⟨_, rfl, fun _ _ => polCmd_nowhere⟩
  · exact ⟨_, rfl, fun _ _ => polCmd_nowhere⟩
  · exact ⟨_, rfl, fun hk => absurd hk (by decide)⟩
  · exact ⟨_, rfl, fun hk => absurd hk (by decide)⟩
  · exact ⟨_, rfl, fun hk => absurd hk (by decide)⟩
  · exact ⟨_, rfl, fun hk => absurd hk (by decide)⟩

theorem directRows_unstaged (h : (c, k, op) ∈ directRows e) : ¬(k = 0 ∧ op < 4) := by
  have hall : ∀ p ∈ [(0, 4), (0, 5), (1, 1), (1, 2), (1, 3), (1, 4), (1, 5), (1, 6), (2, 4), (2, 7), (3, 4), (3, 3), (4, 4), (4, 3)],
      ¬(p.1 = 0 ∧ p.2 < 4) := by decide
  exact hall (k, op) (List.mem_map_of_mem (f := Prod.snd) h)

theorem taeRun_other {f : Tae → State → TaeOut × State} (h : ∀ t, s.taeOf k = some t → t.op ≠ op) : s.taeRun k op f = s := by
  unfold State.taeRun
  cases ht : s.taeOf k with
  | none => rfl
  | some t => exact if_neg (h t ht)

theorem tae_taeDone (s : State) (k : Nat) (t : Tae) (o : TaeOut) : tget none (s.taeDone k t o).tae k = some { t with done := some o } :=
  tget_tput_same none s.tae k (some { t with done := some o })

theorem tae_outside (s u : State) : (s.outside u).tae = u.tae := rfl

theorem tae_spend (s : State) (e : Nat) : (s.spend e).tae = s.tae := rfl

theorem outside_spend (s : State) (e : Nat) : s.outside (s.spend e) = s.spend e := rfl

/-- What a row of the table commands does with what waits in its engine. -/
def State.rowActs (s : State) (c : Instr) (k op : Nat) (stages : Prop) [Decidable stages] : Prop :=
  (stages → s.mayRun 0 = false → exec c s = .next s) ∧
  (stages → s.mayRun 0 = true → (∀ t, s.taeOf k = some t → t.op ≠ op) → exec c s = .next (s.spend 0)) ∧
  (¬stages → (∀ t, s.taeOf k = some t → t.op ≠ op) → exec c s = .next s) ∧
  ∀ t, ¬stages ∨ s.mayRun 0 = true → s.taeOf k = some t → t.op = op →
    (∃ o u, exec c s = .next u ∧ tget none u.tae k = some { t with done := some o }) ∧
    (t.target = 0 ∨ 5 < t.target → k < 3 → exec c s = .next (s.outside
      (if stages then ((s.inc .CLS_STAGE_REJ_COUNT).taeDone k t (6, none, [])).spend 0 else s.taeDone k t (6, none, []))))

theorem stagingRow_acts (h : (c, k, op) ∈ stagingRows e) (hup : s.up (taeBlock k) = true) : s.rowActs c k op (k = 0 ∧ op < 4) := by
  obtain ⟨rfl, hop, p, f, hexec, hp⟩ := exec_stagingRow h s
  have hrow : exec c s = s.become (s.engine 0 fun s => s.taeRun 0 op (staged e p f)) :=
    hexec.trans (run_up (fun s => s.engine 0 fun s => s.taeRun 0 op (staged e p f)) hup)
  refine ⟨fun _ hrun => ?_, fun _ hrun hother => ?_, fun hc => absurd ⟨rfl, hop⟩ hc, fun t hrun ht htop => ?_⟩
  · rw [hrow, engine_waits hrun]; rfl
  · rw [hrow, engine_runs hrun, taeRun_other hother]
    exact congrArg Host.Outcome.next (outside_spend s 0)
  · have hruns := hrow.trans (congrArg s.become ((engine_runs (hrun.resolve_left (not_not.2 ⟨rfl, hop⟩)) _).trans
      (congrArg (·.spend 0) (taeRun_waiting ht htop (staged e p f)))))
    refine ⟨⟨(staged e p f t s).1, _, hruns, ?_⟩, fun htarget _ => ?_⟩
    · rw [tae_outside, tae_spend]
      exact tae_taeDone (staged e p f t s).2 0 t _
    · have hrefused : staged e p f t s = s.stageRefuse 6 := if_pos (by rw [hp t htarget]; rfl)
      rw [hrefused] at hruns
      rw [hruns, if_pos ⟨rfl, hop⟩]
      rfl

theorem directRow_acts (h : (c, k, op) ∈ directRows e) (hup : s.up (taeBlock k) = true) : s.rowActs c k op (k = 0 ∧ op < 4) := by
  obtain ⟨f, hexec, hf⟩ := exec_directRow h s
  have hstages := directRows_unstaged h
  have hrow : exec c s = s.become (s.taeRun k op f) := hexec.trans (run_up (fun s => s.taeRun k op f) hup)
  refine ⟨fun hc => absurd hc hstages, fun hc => absurd hc hstages, fun _ hother => ?_, fun t _ ht htop => ?_⟩
  · rw [hrow, taeRun_other hother]; rfl
  · have hruns := hrow.trans (congrArg s.become (taeRun_waiting ht htop f))
    refine ⟨⟨(f t s).1, _, hruns, ?_⟩, fun htarget hk => ?_⟩
    · rw [tae_outside]
      exact tae_taeDone (f t s).2 k t _
    · rw [hf hk t htarget] at hruns
      rw [hruns, if_neg hstages]
      rfl

/-- Settles O33: the GO write while the engine is busy and while it is free, the end of a command, and the rows. -/
theorem tableCommandsEndWithTheirOutcome : Obligations.TableCommandsEndWithTheirOutcome := by
  intro g c k op a w ecc s hup hupk j x
  obtain ⟨-, ⟨hstatus, -, -, hdata⟩, -⟩ := taeRegs_apart g
  refine ⟨fun ha hgo hs hown => ?_, fun t res pos data ht hdone hres hlen => ?_, fun hnone => ?_, fun hmem => ?_⟩
  · have hexec := exec_taeCmd hup ha hs w
    refine ⟨fun t ht => ?_, fun hfree => ?_⟩
    · rw [hexec, taeWrite_busy ht]; rfl
    · rw [taeWrite_go hfree hown hgo] at hexec
      obtain ⟨hlatch, hbusy⟩ := taeGo_shows (s.store x.cmd 0 w) j w
      refine ⟨_, hexec, hbusy, rfl, ?_⟩
      exact hlatch.trans (congrArg some (taeLatch_store s g w))
  · have hexec := (exec_taeCommandDone hup).trans (congrArg s.become (taeEnd_done ht hdone))
    obtain ⟨hrest, hempty⟩ := outside_taeEnded s j res pos data
    have hrd (r : Reg) (i : Nat) : (s.outside ((s.taeShown j res pos).taeReturned j data)).rd r i =
        if r = x.data ∧ i ∈ List.range (min x.words data.length) then nth data i 0 else (s.taeShown j res pos).rd r i :=
      (outside_rd s _ r i).trans (rd_taeReturned _ j data r i)
    have hshown : (s.outside ((s.taeShown j res pos).taeReturned j data)).rd x.status 0 = word (res <<< 20 ||| s.taePos j pos) :=
      (hrd _ 0).trans ((if_neg fun hc => hdata hc.1).trans (rd_taeShown s j res pos))
    obtain ⟨hidle, hresult, hpos⟩ := taeStatus_fields hres (taePos_lt s j pos)
    refine ⟨_, hexec, hempty, by rw [hshown, hidle], by rw [hshown, hresult], fun p hp hlt hj => ?_, fun i hi => ?_, hrest,
      fun r i hr hd => ?_⟩
    · subst hp
      rw [taePos_some s hj hlt] at hshown hpos
      rw [hshown, hpos hlt]
    · rw [hrd, rd_taeShown_other s j res pos hdata.symm, Nat.min_eq_right hlen]
      exact if_congr ((and_iff_right rfl).trans List.mem_range) rfl rfl
    · rw [hrd, if_neg fun hc => hd hc.1, rd_taeShown_other s j res pos hr]
  · exact (exec_taeCommandDone hup).trans (congrArg s.become (taeEnd_waits hnone))
  · have hrows : (c, k, op) ∈ stagingRows ecc ++ directRows ecc := hmem
    exact (List.mem_append.1 hrows).elim (stagingRow_acts · hupk) (directRow_acts · hupk)

end Sys2Proof.Machine
end
